-- ==== Sys2Proof/Word.lean ====
section
/-! DEFINITION. The smallest types of the model: bytes of the host link, 16-bit words of the field
lines (R22), tables of numbered slots, and the rounding words of the manual's introduction. -/

namespace Sys2Proof

/-- A byte of a host frame (R191). -/
abbrev Byte := BitVec 8

/-- A 16-bit word of a field line frame (R22). -/
abbrev Word16 := BitVec 16

/-- A set of zones, bit 0 for Z1 up to bit 11 for Z12 (R5, R193). -/
abbrev ZoneSet := BitVec 12

/-- A set of weekdays, bit 0 for Monday up to bit 6 for Sunday (R5, R193). -/
abbrev WeekdaySet := BitVec 7

/-- A table of numbered slots: the slots in use with their numbers, numbers strictly rising.
A number that is not listed is a free slot. -/
abbrev Table (α : Type) := List (Nat × α)

/-- "ceil" of the manual's introduction (section 7, Rounding). -/
def ceilDiv (a b : Nat) : Nat := (a + (b - 1)) / b

end Sys2Proof
end

