-- ==== Sys2Proof/Syntax.lean ====
section
/-! DEFINITION. The commands of the block: one constructor per row of spec/opcode_table.json, in the
table's order. A request row carries the body bytes of the host's frame (R193); an event row carries
what names the event: a line, a node, a terminal, a door, a zone, a load, a reply's bytes. -/

namespace Sys2Proof

/-- Field lines A and B (02, "the line"). -/
inductive LineId where
  | a | b
  deriving DecidableEq, Repr

/-- The line of a point: A, B or T, the terminal block (R52, R73). -/
inductive Bus where
  | a | b | t
  deriving DecidableEq, Repr

/-- A point: line, node address, point number (R84, R193). -/
structure PointRef where
  bus : Bus
  addr : Nat
  point : Nat
  deriving DecidableEq, Repr

/-- How a cold start begins (R184, 10.2): main power returns, with the clock held by its backup or
not (R2), or the restart input has requested it (R63). -/
inductive StartCause where
  | powerOn (backupHeld : Bool)
  | restartInput
  deriving DecidableEq, Repr

/-- A byte on the host link, with a framing error or without (R191). -/
structure LinkByte where
  byte : Byte
  framingError : Bool
  deriving DecidableEq, Repr

/-- A request whose code the catalogue does not hold (R192): its code and its body. -/
structure UnknownFrame where
  code : Byte
  body : List Byte
  deriving DecidableEq, Repr

/-- A SET PARAMETERS request of the HOST_LINK group, or one whose group code lies outside 0..7, which R195 refuses, each
with what follows the group code; or one whose body is empty and so without a group code (log 8). -/
inductive HostLinkBody where
  | group (body : List Byte)
  | noSuchGroup (code : Byte) (body : List Byte)
  | noGroup
  deriving DecidableEq, Repr

/-- The commands. `body` is a request's body as R193 lays it out; in the SET PARAMETERS rows it is
what follows the group code, which the row itself names. -/
inductive Instr where
  /-- COLD_START (R184). -/
  | coldStart (cause : StartCause)
  /-- WARM_RESTART (R185). -/
  | warmRestart
  /-- CLOCK_TICK (R1). -/
  | clockTick
  /-- HOST_FRAME_DISCARDED (R191): the bytes that end a frame in its discard reach the receiver, which judges them;
  bytes that do not end it are held with it (log 17). -/
  | hostFrameDiscarded (bytes : List LinkByte)
  /-- HOST_BYTE_TIMEOUT (R191). -/
  | hostByteTimeout
  /-- UNKNOWN_REQUEST (R192): a valid request whose code the catalogue does not hold. -/
  | unknownRequest (request : UnknownFrame)
  /-- IDENTIFY (R196). -/
  | identify (body : List Byte)
  /-- ENTER_HOLD (R186). -/
  | enterHold (body : List Byte)
  /-- ENTER_RUN (R186). -/
  | enterRun (body : List Byte)
  /-- RESTART (R185). -/
  | restart (body : List Byte)
  /-- STORE_SETTINGS (R197). -/
  | storeSettings (body : List Byte)
  /-- STORE_WRITE_BEGIN (R197). -/
  | storeWriteBegin
  /-- STORE_WRITE_END (R197): the copy read back agrees, or not. -/
  | storeWriteEnd (agrees : Bool)
  /-- SET_CLOCK (R3). -/
  | setClock (body : List Byte)
  /-- READ_CLOCK (R4). -/
  | readClock (body : List Byte)
  /-- WRITE_SHIFT (R7). -/
  | writeShift (body : List Byte)
  /-- READ_SHIFT (R8). -/
  | readShift (body : List Byte)
  /-- DELETE_SHIFT (R8). -/
  | deleteShift (body : List Byte)
  /-- WRITE_EXCEPTION (R9). -/
  | writeException (body : List Byte)
  /-- DELETE_EXCEPTION (R10). -/
  | deleteException (body : List Byte)
  /-- READ_PLAN_STATE (R19). -/
  | readPlanState (body : List Byte)
  /-- DEFINE_ZONE (R99, R100). -/
  | defineZone (body : List Byte)
  /-- DEFINE_DOOR (R85). -/
  | defineDoor (body : List Byte)
  /-- DEFINE_LOAD (R118, R119). -/
  | defineLoad (body : List Byte)
  /-- DEFINE_NODE (R38). -/
  | defineNode (body : List Byte)
  /-- DEFINE_SCAN_ENTRY (R32). -/
  | defineScanEntry (body : List Byte)
  /-- SET_TERMINAL_FUNCTION (R53). -/
  | setTerminalFunction (body : List Byte)
  /-- SET_LINE_PARAMETERS (R21). -/
  | setLineParameters (body : List Byte)
  /-- SET_FILTER_TESTS (R80). -/
  | setFilterTests (body : List Byte)
  /-- SET_PARAMETERS_DOOR (R86), group 0. -/
  | setParametersDoor (body : List Byte)
  /-- SET_PARAMETERS_OCCUPANCY (R101), group 1. -/
  | setParametersOccupancy (body : List Byte)
  /-- SET_PARAMETERS_LIGHTING (R146), group 2. -/
  | setParametersLighting (body : List Byte)
  /-- SET_PARAMETERS_DAYLIGHT (R145), group 3. -/
  | setParametersDaylight (body : List Byte)
  /-- SET_PARAMETERS_CLIMATE (R162), group 4. -/
  | setParametersClimate (body : List Byte)
  /-- SET_PARAMETERS_BUDGET (R142), group 5. -/
  | setParametersBudget (body : List Byte)
  /-- SET_PARAMETERS_SETTLEMENT (R142), group 6. -/
  | setParametersSettlement (body : List Byte)
  /-- SET_PARAMETERS_HOST_LINK (R195), group 7, and the codes outside 0..7. -/
  | setParametersHostLink (body : HostLinkBody)
  /-- READ_PARAMETERS (R195). -/
  | readParameters (body : List Byte)
  /-- LIGHT_OVERRIDE (R150). -/
  | lightOverride (body : List Byte)
  /-- SETPOINT_OVERRIDE (R164). -/
  | setpointOverride (body : List Byte)
  /-- CURTAIL (R125). -/
  | curtail (body : List Byte)
  /-- PIN_PRESENCE (R107). -/
  | pinPresence (body : List Byte)
  /-- UNPIN_PRESENCE (R107). -/
  | unpinPresence (body : List Byte)
  /-- FLUSH_PRESENCE (R108). -/
  | flushPresence (body : List Byte)
  /-- SET_NODE_SERVICE (R43). -/
  | setNodeService (body : List Byte)
  /-- LINE_RESTART (R49). -/
  | lineRestart (body : List Byte)
  /-- WRITE_POINT (R74). -/
  | writePoint (body : List Byte)
  /-- FETCH_POINT (R75). -/
  | fetchPoint (body : List Byte)
  /-- READ_ZONE (R114). -/
  | readZone (body : List Byte)
  /-- READ_DOOR (R96). -/
  | readDoor (body : List Byte)
  /-- READ_LOAD (R141). -/
  | readLoad (body : List Byte)
  /-- READ_SETTLEMENT (R139). -/
  | readSettlement (body : List Byte)
  /-- READ_WINDOWS (R131). -/
  | readWindows (body : List Byte)
  /-- READ_NODE (R45). -/
  | readNode (body : List Byte)
  /-- READ_LINE (R50). -/
  | readLine (body : List Byte)
  /-- READ_POINT (R73). -/
  | readPoint (body : List Byte)
  /-- READ_PRESENCE (R114). -/
  | readPresence (body : List Byte)
  /-- READ_EVENTS (R82). -/
  | readEvents (body : List Byte)
  /-- COLLECT_NOTICES (R200). -/
  | collectNotices (body : List Byte)
  /-- SUPERVISION_TIMER_EXPIRES (R198). -/
  | supervisionTimerExpires
  /-- RELEASE_TIMER_EXPIRES (R190). -/
  | releaseTimerExpires
  /-- REPLY_TIMEOUT (R25). -/
  | replyTimeout (line : LineId)
  /-- REPLY_SILENCE (R25): the line falls silent after a reply of these bytes, one of them with a
  framing error or not. -/
  | replySilence (line : LineId) (bytes : List Byte) (framingError : Bool)
  /-- REPLY_CUTOFF (R25). -/
  | replyCutoff (line : LineId)
  /-- IDLE_NOISE (R28). -/
  | idleNoise (line : LineId)
  /-- LINE_REST_END (R48). -/
  | lineRestEnd (line : LineId)
  /-- LISTEN_WINDOW_END (R48). -/
  | listenWindowEnd (line : LineId)
  /-- PROBE_TIMER_EXPIRES (R41, R42). -/
  | probeTimerExpires (line : LineId) (addr : Nat)
  /-- SCAN_PERIOD_EXPIRES (R33): of the entry for this node and first point. -/
  | scanPeriodExpires (line : LineId) (addr first : Nat)
  /-- STALENESS_TIMER_EXPIRES (R69). -/
  | stalenessTimerExpires (point : PointRef)
  /-- TERMINAL_INPUT_CHANGE (R55): the raw contact of the terminal is now closed, or open. -/
  | terminalInputChange (terminal : Nat) (closed : Bool)
  /-- DEBOUNCE_TIMER_EXPIRES (R55). -/
  | debounceTimerExpires (terminal : Nat)
  /-- RESTART_TIMER_EXPIRES (R63). -/
  | restartTimerExpires (terminal : Nat)
  /-- TERMINAL_REPEAT_DELIVERY (R55, R60). -/
  | terminalRepeatDelivery (terminal : Nat)
  /-- ANALOG_CONVERSION (R57), of the voltage at the terminal in millivolts. -/
  | analogConversion (terminal : Nat) (millivolts : Int)
  /-- METER_PULSE (R59). -/
  | meterPulse (terminal : Nat)
  /-- METER_ZERO_TIMER_EXPIRES (R60). -/
  | meterZeroTimerExpires (terminal : Nat)
  /-- HELD_OPEN_TIMER_EXPIRES (R90). -/
  | heldOpenTimerExpires (door : Nat)
  /-- CHATTER_TIMER_EXPIRES (R87, R91). -/
  | chatterTimerExpires (door : Nat)
  /-- CURTAIN_RUN_ON_EXPIRES (R94). -/
  | curtainRunOnExpires (door : Nat)
  /-- PRESENCE_LIFE_EXPIRES (R105), of the entry with this number. -/
  | presenceLifeExpires (entry : Nat)
  /-- DORMANCY_TIMER_EXPIRES (R110). -/
  | dormancyTimerExpires (zone : Nat)
  /-- NODE_HOLD_TIMER_EXPIRES (R122). -/
  | nodeHoldTimerExpires (load : Nat)
  /-- HOST_CURTAIL_EXPIRES (R126). -/
  | hostCurtailExpires
  /-- SETTLEMENT (R132). -/
  | settlement
  /-- COMMAND_REFRESH_EXPIRES (R140). -/
  | commandRefreshExpires (load : Nat)
  /-- LIGHTING_STEP (R147). -/
  | lightingStep
  /-- LIGHT_OVERRIDE_EXPIRES (R151). -/
  | lightOverrideExpires (zone : Nat)
  /-- HEATING_EVALUATION (R166). -/
  | heatingEvaluation
  /-- VENTILATION_EVALUATION (R172). -/
  | ventilationEvaluation
  /-- CURTAIN_STEP (R171). -/
  | curtainStep
  /-- SETPOINT_OVERRIDE_EXPIRES (R165). -/
  | setpointOverrideExpires (zone : Nat)
  /-- MAIN_POWER_LOSS (R197). -/
  | mainPowerLoss
  /-- START_BYTE (R191): the byte 0xA5 reaches the receiver. -/
  | startByte
  /-- REPLY_SENT (R192). -/
  | replySent
  /-- FIRST_REPLY_CHARACTER (R25). -/
  | firstReplyCharacter (line : LineId)
  deriving DecidableEq, Repr

end Sys2Proof
end

