-- ==== Sys2Proof/Decode.lean ====
section
/-! DEFINITION. The opcode table gives no command any bits (every row's list of fields is empty), so no word
spells a command. -/

namespace Sys2Proof

/-- The command that a word spells by the table's bits: none does. -/
def decodeTableWord (_nbits _w : Nat) : Option Instr := none

end Sys2Proof
end

