-- ==== Sys2Proof/Config.lean ====
section
/-! DEFINITION. What is fixed for the machine: the fixed figures of the rules, and the free value,
an opaque constant for what the manual leaves open. Nothing can evaluate an opaque constant. -/

namespace Sys2Proof

namespace Config

/-- FREE VALUE (log 10): the bytes of a notice value that no rule states; the arguments are the kind's
code (R202) and 0 for the first value, 1 for the second. -/
opaque unstatedNoticeValue : Nat → Nat → Nat

/-- Grain of the running time: the idle step passes one millisecond (log 1). -/
def idleMs : Nat := 1

/-- R191: the longest body of a host frame. -/
def hostBodyLimit : Nat := 1024

/-- R191: a frame breaks off when more than this lies between two of its bytes. -/
def byteGapMs : Nat := 20

/-- R55: the debounce time in ms. -/
def debounceMs : Nat := 50

/-- R55, R57, R60: the repeat and conversion period in ms. -/
def repeatMs : Nat := 100

/-- R59: pulses closer than this to the last accepted one are ignored. -/
def pulseLockoutMs : Nat := 20

/-- R63: the restart timer. -/
def restartMs : Nat := 2000

/-- R48: the rest of a DOWN line. -/
def lineRestMs : Nat := 10000

/-- R48: a listen window. -/
def listenWindowMs : Nat := 50

/-- R48: quiet windows that recover a line. -/
def quietWindows : Nat := 32

/-- R41: an UNPROBED node is probed again this long after a probe. -/
def probeAgainMs : Nat := 1000

/-- R42: the probe period of a SILENT node. -/
def silentProbeMs : Nat := 5000

/-- R77: the length of a storm window. -/
def stormWindowMs : Nat := 10000

/-- R87: the length of a chatter window. -/
def chatterWindowMs : Nat := 60000

/-- R95, R112: the life of an entry from a lost node. -/
def fastAgeMs : Nat := 2000

/-- R102: the slots of the presence table. -/
def presenceSlots : Nat := 96

/-- R140: the command refresh. -/
def refreshMs : Nat := 30000

/-- R147: the lighting step. -/
def lightingStepMs : Nat := 250

/-- R161: the heating timer. -/
def heatingMs : Nat := 10000

/-- R161: the ventilation timer. -/
def ventilationMs : Nat := 5000

/-- R161: the curtain timer. -/
def curtainMs : Nat := 1000

/-- R174: the dwell of a falling stage. -/
def dwellMs : Nat := 60000

/-- R175: the purge clear time. -/
def purgeClearMs : Nat := 120000

/-- R121, R162: the frost floor, 5.0 °C. -/
def frostFloor : Int := 50

/-- R189, R190: the release hold. -/
def releaseMs : Nat := 30000

/-- R199: the length of the notice queue. -/
def noticeQueueLength : Nat := 40

/-- R125: one quantum of a curtail hold. -/
def curtailQuantumMs : Nat := 15000

/-- R197: a store write takes no less than this. -/
def storeWriteMs : Nat := 500

end Config

end Sys2Proof
end

