-- ==== Sys2Proof/Machine/State.lean ====
section
/-! DEFINITION. The state of the KDH-48 as plain data: the running configuration (R197), the state of
each block (chapters 1 to 11), the queue of waiting commands, and the part right after reset. -/

namespace Sys2Proof.Machine

/-! ## Configuration -/

/-- Zone kinds (R98). -/
inductive ZoneKind where
  | dock | staging | office | canopy
  deriving DecidableEq, Repr

/-- The four lighting levels of a zone kind (R5). -/
structure Levels where
  occupied : Nat
  vacant : Nat
  dormant : Nat
  closed : Nat
  deriving DecidableEq, Repr

/-- One value for each zone kind (R5). -/
structure PerKind (α : Type) where
  dock : α
  staging : α
  office : α
  canopy : α
  deriving DecidableEq, Repr

/-- A shift record (R5). S0 holds an empty weekday set and zeros for the fields it does not have. -/
structure ShiftRecord where
  weekdays : WeekdaySet
  startMinute : Nat
  label : Nat
  openZones : ZoneSet
  levels : PerKind Levels
  setpoint : PerKind Int
  setback : PerKind Int
  drop : PerKind Nat
  cap : Nat
  base : Nat
  windowLimit : Nat
  lead : Nat
  changeover : Nat
  deriving DecidableEq, Repr

/-- The replacement of an exception (R9). -/
inductive Replacement where
  | closedDay
  | record (index : Nat)
  deriving DecidableEq, Repr

/-- An exception (R9): a day and month of every year. -/
structure PlanException where
  day : Nat
  month : Nat
  replacement : Replacement
  deriving DecidableEq, Repr

/-- Bit rates of a field line (R21). -/
inductive BitRate where
  | b19200 | b38400 | b57600
  deriving DecidableEq, Repr

/-- The definition of a node (R38); no expected kind is ANY. -/
structure NodeDef where
  kind : Option Nat
  count : Nat
  deriving DecidableEq, Repr

/-- Period classes of a scan entry (R32). -/
inductive PeriodClass where
  | fast | normal | slow
  deriving DecidableEq, Repr

/-- A scan entry (R32). -/
structure ScanDef where
  node : Nat
  first : Nat
  count : Nat
  period : PeriodClass
  deriving DecidableEq, Repr

/-- The configuration of a field line (R21, R32, R38). -/
structure LineCfg where
  bitRate : BitRate
  timeout : Nat
  nodes : Table NodeDef
  scan : List ScanDef
  deriving DecidableEq, Repr

/-- Uses of an analog input (R53). -/
inductive AnalogUse where
  | temperature | co | no2 | lux
  deriving DecidableEq, Repr

/-- Terminal functions with their parameters (R53), in the rule's order. -/
inductive TermFunction where
  | unused
  | digitalIn
  | doorContact
  | presenceIn
  | meterPulse (weight : Nat)
  | emergencyIn
  | curtailIn (cap : Nat)
  | restartIn
  | analogIn (use : AnalogUse) (offset span : Int)
  | relayOut
  | dimOut
  | strainOut
  deriving DecidableEq, Repr

/-- The settings of the event filter (R80). -/
structure FilterCfg where
  f2 : Bool
  f3 : Bool
  f4 : Bool
  f5 : Bool
  f6 : Bool
  stormLimit : Nat
  staleLimit : Nat
  deriving DecidableEq, Repr

/-- The definition of a door (R84). -/
structure DoorDef where
  binding : PointRef
  zone : Nat
  neighbours : List Nat
  curtain : Option Nat
  boost : Nat
  deriving DecidableEq, Repr

/-- The door parameters (R86), times in seconds. -/
structure DoorParams where
  heldOpen : Nat
  chatterLimit : Nat
  runOn : Nat
  presence : Nat
  deriving DecidableEq, Repr

/-- Gases (R98). -/
inductive Gas where
  | co | no2
  deriving DecidableEq, Repr

/-- A gas point with its gas (R98). -/
structure GasPoint where
  point : PointRef
  gas : Gas
  deriving DecidableEq, Repr

/-- The definition of a zone (R98) with its aging and dormancy times in seconds (R101). -/
structure ZoneDef where
  kind : ZoneKind
  temperature : Option PointRef
  gas : List GasPoint
  presence : List PointRef
  aging : Nat
  dormancy : Nat
  deriving DecidableEq, Repr

/-- Load kinds (R116). -/
inductive LoadKind where
  | light | heater | curtain | exhaustFan | supplyFan
  deriving DecidableEq, Repr

/-- Drives (R116). -/
inductive Drive where
  | step | modulating
  deriving DecidableEq, Repr

/-- The definition of a load (R116). -/
structure LoadDef where
  kind : LoadKind
  zone : Nat
  binding : PointRef
  rating : Nat
  drive : Drive
  cls : Nat
  exempt : Bool
  hold : Nat
  fallback : Nat
  deriving DecidableEq, Repr

/-- The daylight assignment of a lighting group (R144, R145). -/
structure Daylight where
  point : Option PointRef
  target : Nat
  deriving DecidableEq, Repr

/-- The lighting parameters (R146). -/
structure LightingParams where
  closedPresence : Nat
  minDim : Nat
  ramp : Nat
  fade : Nat
  deriving DecidableEq, Repr

/-- Emergency ventilation (R162). -/
inductive EmergencyVent where
  | stop | extract
  deriving DecidableEq, Repr

/-- The climate parameters (R162). -/
structure ClimateParams where
  band : Nat
  holdTime : Nat
  coRef : Nat
  no2Ref : Nat
  makeUp : Nat
  vent : EmergencyVent
  deriving DecidableEq, Repr

/-- The budget group of parameters (R142). -/
structure BudgetParams where
  restore : Nat
  strainBegin : Nat
  strainEnd : Nat
  nodeHold : Nat
  windowLength : Nat
  deriving DecidableEq, Repr

/-- The running configuration: all that the settings store keeps (R197). -/
structure RunningConfig where
  shift0 : ShiftRecord
  shifts : Table ShiftRecord
  exceptions : Table PlanException
  lineA : LineCfg
  lineB : LineCfg
  functions : Table TermFunction
  filter : FilterCfg
  doors : Table DoorDef
  doorParams : DoorParams
  zones : Table ZoneDef
  pins : List Nat
  loads : Table LoadDef
  daylight : Table Daylight
  lighting : LightingParams
  climate : ClimateParams
  budget : BudgetParams
  settlementPeriod : Nat
  supervision : Nat
  watermark : Nat
  deriving DecidableEq, Repr

/-! ## Clock and plan -/

/-- A calendar date (R1). -/
structure Date where
  day : Nat
  month : Nat
  year : Nat
  deriving DecidableEq, Repr

/-- A reading of the calendar clock (R1); weekday 0 is Monday, 6 Sunday. -/
structure Reading where
  date : Date
  weekday : Nat
  hour : Nat
  minute : Nat
  second : Nat
  deriving DecidableEq, Repr

/-- The calendar clock (R1). `phase` counts the milliseconds since the last second (log 3). -/
structure Clock where
  isSet : Bool
  reading : Reading
  phase : Nat
  deriving DecidableEq, Repr

/-- A date and a minute of the day: an activation point (R15) or a next start (R13). -/
structure Moment where
  date : Date
  minute : Nat
  deriving DecidableEq, Repr

/-- The reason a record is active (R12), in the table's order. -/
inductive ActiveReason where
  | clockUnset | closedDay | exception | timetable | noRecords
  deriving DecidableEq, Repr

/-- The next record and its start (R13). -/
structure NextRecord where
  index : Nat
  start : Moment
  deriving DecidableEq, Repr

/-- The published plan state (R19). The contents of the records it names are read from the
configuration, which every accepted edit publishes with its evaluation (R7). -/
structure PlanState where
  active : Nat
  reason : ActiveReason
  activation : Option Moment
  next : Option NextRecord
  precondition : Bool
  changeover : Bool
  previous : Option Nat
  openZones : ZoneSet
  deriving DecidableEq, Repr

/-! ## Field lines -/

/-- Node states (R38), in the rule's order. -/
inductive NodeState where
  | unprobed | online | degraded | silent | service
  deriving DecidableEq, Repr

/-- Contact states (R44). -/
inductive Contact where
  | inContact | inService | unconfirmed | unreachable
  deriving DecidableEq, Repr

/-- Outcomes of a transaction (R26), in the table's order. -/
inductive TxnOutcome where
  | noReply | broken | badCheck | malformed | good
  deriving DecidableEq, Repr

/-- What the last good PROBE reply carried (R38). -/
structure ProbeInfo where
  kind : Nat
  count : Nat
  deriving DecidableEq, Repr

/-- The state of a node record (R38); its definition stands in the configuration. `probeDue` is
when a probe falls due (R41, R42). -/
structure NodeRec where
  state : NodeState
  score : Nat
  goodProbes : Nat
  waiting : Nat
  probe : Option ProbeInfo
  lastGood : Option Nat
  entered : Option Nat
  lastOutcome : Option TxnOutcome
  probeDue : Option Nat
  deriving DecidableEq, Repr

/-- The timing of a scan entry (R33): its last issue, and the time from which it is due. -/
structure ScanTime where
  lastIssue : Option Nat
  due : Nat
  deriving DecidableEq, Repr

/-- A node address and a point of one line. -/
structure NodePoint where
  node : Nat
  point : Nat
  deriving DecidableEq, Repr

/-- Origins of a write (R35). -/
inductive Origin where
  | internal | host
  deriving DecidableEq, Repr

/-- An entry of the field write queue (R35). -/
structure QueueEntry where
  node : Nat
  point : Nat
  value : Nat
  origin : Origin
  tries : Nat
  deriving DecidableEq, Repr

/-- What a transaction does (R22): the function with the words of its request, and for a write the
queue entry it carries (R25). -/
inductive TxnWork where
  | readPoints (first count : Nat) (oneOff : Bool)
  | writePoint (entry : QueueEntry)
  | fetchEvents
  | probe
  deriving DecidableEq, Repr

/-- A transaction in flight waits for the first character until its timeout, or collects (R25). -/
inductive TxnPhase where
  | waiting (expiry : Nat)
  | collecting
  deriving DecidableEq, Repr

/-- A transaction in flight (R25); `voided` when its node was redefined or removed (R38). -/
structure Txn where
  node : Nat
  work : TxnWork
  phase : TxnPhase
  voided : Bool
  deriving DecidableEq, Repr

/-- A DOWN line rests, then listens in windows (R48). -/
inductive DownPhase where
  | resting (ends : Nat)
  | listening (windowEnds : Nat) (quiet : Nat) (heard : Bool)
  deriving DecidableEq, Repr

/-- Line states (R46). -/
inductive LineState where
  | ok
  | warn
  | down (phase : DownPhase)
  deriving DecidableEq, Repr

/-- A field line controller. -/
structure Line where
  state : LineState
  errors : Nat
  noiseCounted : Bool
  nodes : Table NodeRec
  scan : Table ScanTime
  fetch : List Nat
  oneOffs : List NodePoint
  queue : List QueueEntry
  inFlight : Option Txn
  deriving DecidableEq, Repr

/-! ## Terminals, points, events -/

/-- What the wiring holds at a terminal: the contact, and the voltage in millivolts. -/
structure InputPin where
  closed : Bool
  millivolts : Int
  deriving DecidableEq, Repr

/-- The state of a terminal (R55, R57, R59, R60, R63, R64). A debounced level is `some true` when
closed. -/
structure TermRec where
  debounced : Option Bool
  debounceAt : Option Nat
  repeatAt : Option Nat
  convertAt : Option Nat
  lastPulse : Option Nat
  lastInterval : Option Nat
  power : Nat
  zeroAt : Option Nat
  armed : Bool
  restartAt : Option Nat
  relayClosed : Bool
  dimMillivolts : Nat
  deriving DecidableEq, Repr

/-- Last write status (R67), in the rule's order. -/
inductive WriteStatus where
  | none | queued | ok | failed
  deriving DecidableEq, Repr

/-- The status of a point record (R67), in the rule's order. -/
inductive PointStatus where
  | neverRead | pending | fresh | stale | service
  deriving DecidableEq, Repr

/-- A point record (R67). Kind and scan period are worked out from the configuration (R68, R33). -/
structure PointRec where
  value : Option Int
  status : PointStatus
  time : Option Nat
  readback : Option Nat
  lastWrite : WriteStatus
  tries : Nat
  oneOffWaiting : Bool
  deriving DecidableEq, Repr

/-- Event kinds (R23), in the rule's order. -/
inductive EventKind where
  | doorOpened | doorClosed | presence
  deriving DecidableEq, Repr

/-- Outcomes of the event filter (R76), in the rule's order. -/
inductive FilterOutcome where
  | accepted | acceptedAlert | acceptedService
  | rejectedIntegrity | rejectedUnbound | rejectedStorm | rejectedStale
  deriving DecidableEq, Repr

/-- The tests whose conditions hold (R78). -/
structure MatchSet where
  f1 : Bool
  f2 : Bool
  f3 : Bool
  f4 : Bool
  f5 : Bool
  f6 : Bool
  deriving DecidableEq, Repr

/-- An event record (R76). -/
structure EventRec where
  seq : Nat
  arrival : Nat
  point : PointRef
  kind : EventKind
  age : Nat
  value : Nat
  storm : Nat
  matches_ : MatchSet
  outcome : FilterOutcome
  deriving DecidableEq, Repr

/-- A window of a start time and a count (R77, R87). -/
structure CountWindow where
  start : Nat
  count : Nat
  deriving DecidableEq, Repr

/-! ## Doors, zones, presence -/

/-- Door states (R84), in the rule's order. -/
inductive DoorState where
  | closed | open_ | heldOpen | chattering | unknown
  deriving DecidableEq, Repr

/-- The state of a door (R84). A reported level is `some true` when open. -/
structure DoorRec where
  state : DoorState
  level : Option Bool
  openSince : Option Nat
  heldFlag : Bool
  window : Option CountWindow
  request : Nat
  runOn : Option Nat
  entered : Nat
  deriving DecidableEq, Repr

/-- Occupancy states (R98), in the rule's order. -/
inductive Occupancy where
  | closed | vacant | occupied | dormant
  deriving DecidableEq, Repr

/-- The state of a zone (R98). -/
structure ZoneRec where
  state : Occupancy
  intruded : Bool
  vacantSince : Option Nat
  dormancyAt : Option Nat
  deriving DecidableEq, Repr

/-- Sources of a presence entry (R102): the source decides the kind. -/
inductive PresenceSource where
  | sensor (point : PointRef)
  | door (number : Nat)
  | host
  deriving DecidableEq, Repr

/-- The life of a presence entry (R102): an expiry time, a held life in seconds, or a pin. -/
inductive PresenceLife where
  | running (expiry : Nat)
  | held (seconds : Nat)
  | pinned
  deriving DecidableEq, Repr

/-- A presence entry (R102); its number is its slot. -/
structure PresenceEntry where
  zone : Nat
  source : PresenceSource
  life : PresenceLife
  deriving DecidableEq, Repr

/-! ## Loads and budget -/

/-- Dynamic exemption reasons (R116), in the rule's order. -/
inductive ExemptReason where
  | none | frost | purge | emergency
  deriving DecidableEq, Repr

/-- Deciding sources of a lighting group (R144), in the rule's order. -/
inductive LightSource where
  | scene | override_ | closedPresence | changeover | hold | emergency
  deriving DecidableEq, Repr

/-- The lighting unit's own record of a group (R144); the goal stands in the load record. -/
structure LightRec where
  source : LightSource
  target : Nat
  trimmed : Nat
  deriving DecidableEq, Repr

/-- The state of a load (R116). `holdRunning`: the node hold timer runs (R122). `goal`: R144, R161. -/
structure LoadRec where
  posted : Nat
  reason : ExemptReason
  exempt : Bool
  effClass : Nat
  grant : Nat
  grantFraction : Nat
  previousGrant : Nat
  applied : Nat
  controlled : Bool
  unreachableSince : Option Nat
  assumed : Option Nat
  holdRunning : Bool
  lastCommand : Option Nat
  refreshAt : Nat
  goal : Nat
  light : Option LightRec
  deriving DecidableEq, Repr

/-- The host curtail order (R125). -/
structure CurtailOrder where
  cap : Nat
  expiry : Nat
  deriving DecidableEq, Repr

/-- The open demand window (R128); start and end are calendar seconds since 2000-01-01 00:00:00. -/
structure DemandWindow where
  start : Nat
  ends : Nat
  used : Nat
  isPartial : Bool
  limitedReported : Bool
  deriving DecidableEq, Repr

/-- A closed window in the history (R131). -/
structure ClosedWindow where
  start : Nat
  length : Nat
  used : Nat
  limit : Nat
  isPartial : Bool
  deriving DecidableEq, Repr

/-- Class states of a settlement (R135), in the order of R202. -/
inductive ClassState where
  | full | proRata | zero
  deriving DecidableEq, Repr

/-- Sources of the effective cap (R124), in the order of R202. -/
inductive CapSource where
  | shift | curtailHost | curtailTerminal | window
  deriving DecidableEq, Repr

/-- The figures of one class in the settlement record (R139). -/
structure ClassFigures where
  demand : Nat
  shares : Nat
  grants : Nat
  state : ClassState
  deriving DecidableEq, Repr

/-- The settlement record (R139). `isEmpty` before the first settlement after a start; `clock` none when
the clock is UNSET. -/
structure SettlementRec where
  isEmpty : Bool
  time : Nat
  clock : Option Reading
  shiftCap : Nat
  hostCap : Option Nat
  hostHold : Nat
  termCap : Option Nat
  windowCap : Option Nat
  cap : Nat
  source : CapSource
  base : Nat
  uncontrolled : Nat
  available : Nat
  exemptDemand : Nat
  remaining : Nat
  class0 : ClassFigures
  class1 : ClassFigures
  class2 : ClassFigures
  class3 : ClassFigures
  poolDrawn : Nat
  overrun : Bool
  strain : Bool
  count : Nat
  deriving DecidableEq, Repr

/-! ## Overrides and climate -/

/-- A light override (R150); no expiry is UNTIL_SHIFT_CHANGE. -/
structure LightOverride where
  level : Nat
  expiry : Option Nat
  deriving DecidableEq, Repr

/-- A setpoint override (R164); no expiry is UNTIL_SHIFT_CHANGE. -/
structure SetpointOverride where
  level : Int
  expiry : Option Nat
  deriving DecidableEq, Repr

/-- Setpoint sources (R161), in the rule's order. -/
inductive SetpointSource where
  | override_ | precondition | occupied | vacant | dormant | closed | hold | emergency
  deriving DecidableEq, Repr

/-- A heating demand with its parts (R161, R166). -/
structure HeatDemand where
  q : Nat
  base : Nat
  boost : Nat
  offset : Nat
  deriving DecidableEq, Repr

/-- The climate record of a zone (R161). -/
structure ClimateRec where
  tset : Option Int
  source : SetpointSource
  demand : Option HeatDemand
  held : Option Nat
  staleSince : Option Nat
  override : Option SetpointOverride
  gasIndex : Nat
  gasFresh : Nat
  stage : Nat
  stageAt : Nat
  dwell : Option Nat
  purgeClear : Option Nat
  gasStale : Bool
  deriving DecidableEq, Repr

/-! ## Mode controller and host link -/

/-- Operating modes (R183), in the rule's order. -/
inductive Mode where
  | start | hold | run | standalone | emergency
  deriving DecidableEq, Repr

/-- Causes of a mode change (R183), in the rule's order. -/
inductive ModeCause where
  | coldStored | coldDefaults | warm | enterHold | enterRun | supervision | hostRequest
  | emergencyEntry | emergencyRelease
  deriving DecidableEq, Repr

/-- Last start (R183): a cold start with STORED (true) or DEFAULTS (false), or the host's restart. -/
inductive LastStart where
  | powerOn (stored : Bool)
  | restartInput (stored : Bool)
  | hostRestart
  deriving DecidableEq, Repr

/-- Notice kinds, in the order of their codes 1..29 (R202). -/
inductive NoticeKind where
  | shiftChanged | preconditionBegin | clockUnset | modeChanged | emergencyBegin | emergencyEnd
  | supplyOverrun | strainBegin | strainEnd | curtailBegin | curtailEnd | windowLimited
  | gasPurgeBegin | gasPurgeEnd | sensorStale | frostProtection | nodeDegraded | nodeSilent
  | nodeOnline | lineWarn | lineDown | lineOk | doorHeldOpen | doorChatter | doorUnknown
  | closedZonePresence | presenceTableFull | storeDone | storeFailed
  deriving DecidableEq, Repr

/-- Subjects of a notice (R202). -/
inductive Subject where
  | none
  | zone (n : Nat)
  | door (n : Nat)
  | load (n : Nat)
  | node (line : LineId) (addr : Nat)
  | line (l : LineId)
  | terminal (n : Nat)
  | record (n : Nat)
  | mode (m : Mode)
  | order (terminal : Bool)
  deriving DecidableEq, Repr

/-- A notice (R199). A value that no rule states is none (log 10). -/
structure Notice where
  kind : NoticeKind
  time : Nat
  subject : Subject
  first : Option Int
  second : Option Int
  deriving DecidableEq, Repr

/-- Reply statuses (R192), in the order of their codes. -/
inductive Status where
  | ok | accepted | unknownRequest | badLength | outOfRange | wrongMode | busy | notFound
  | conflict | owned | badConfig
  deriving DecidableEq, Repr

/-- A reply (R192, R201): the request's code, the status, the body. -/
structure Reply where
  code : Nat
  status : Status
  body : List Byte
  deriving DecidableEq, Repr

/-- A frame that the receiver is collecting (R191): whether its start byte came while the link was answering (R192), its
bytes after the start byte, whether the last of them came with a framing error, and when the last byte came. -/
structure HostFrame where
  early : Bool
  bytes : List Byte
  broken : Bool
  last : Nat
  deriving DecidableEq, Repr

/-- The receiver (R191): hunting, or collecting a frame. -/
inductive Receiver where
  | hunting
  | collecting (frame : HostFrame)
  deriving DecidableEq, Repr

/-- Store states (R197), in the rule's order. -/
inductive StoreState where
  | empty | valid | invalid | writing
  deriving DecidableEq, Repr

/-- The settings store (R197): its state, its copy, when the write in progress began, and the
changed flag (R196). -/
structure Store where
  state : StoreState
  copy : RunningConfig
  writingSince : Option Nat
  changed : Bool
  deriving DecidableEq, Repr

/-! ## Why a step stops -/

/-- Reasons to stop with a fault. The spec names no event that stops the part with a fault, so there
is none: no meaning raises one. SAFE. -/
inductive Fault where
  deriving DecidableEq, Repr

/-- Reasons to refuse a command. -/
inductive Refusal where
  /-- Raised by an arm of `exec` that has no meaning yet, by the command's name. SAFE: the model stops
  where the part goes on. No arm raises it in this model. -/
  | notModelled (mnemonic : String)
  deriving DecidableEq, Repr

/-! ## The whole state -/

/-- The KDH-48. The chapters name every field; INVENTORY.md lists each with its rule. -/
structure State where
  /-- The waiting commands, the front one first. -/
  pending : List Instr
  /-- Main power is on. -/
  powered : Bool
  /-- Running time in ms since the last start (R67). -/
  now : Nat
  config : RunningConfig
  clock : Clock
  plan : PlanState
  lineA : Line
  lineB : Line
  inputs : Table InputPin
  terminals : Table TermRec
  points : Table PointRec
  windows : Table CountWindow
  recent : List EventRec
  nextSeq : Nat
  doors : Table DoorRec
  zones : Table ZoneRec
  presence : Table PresenceEntry
  fullReported : Bool
  /-- R104, R106: the doors whose DOOR entry was evicted and has not been made again since (log 22). -/
  evictedDoors : List Nat
  loads : Table LoadRec
  hostOrder : Option CurtailOrder
  termOrder : Option Nat
  window : Option DemandWindow
  history : List ClosedWindow
  strain : Bool
  overrun : Bool
  record : SettlementRec
  settleAt : Nat
  lightOverrides : Table LightOverride
  stepAt : Nat
  climate : Table ClimateRec
  heatAt : Nat
  ventAt : Nat
  curtainAt : Nat
  mode : Mode
  returnMode : Option Mode
  /-- The emergency signal as last handed over; true is active (R61, R183). -/
  signal : Bool
  releaseAt : Option Nat
  emergencyAt : Option Nat
  lastStart : LastStart
  restartRequested : Bool
  receiver : Receiver
  answering : Bool
  reply : Option Reply
  frameErrors : Nat
  earlyFrames : Nat
  restartPending : Bool
  storePending : Bool
  supervisionAt : Option Nat
  notices : List Notice
  lost : Nat
  store : Store
  deriving DecidableEq, Repr

/-! ## Reset -/

/-- The factory contents of S0 (R20). -/
def factoryShift0 : ShiftRecord where
  weekdays := 0
  startMinute := 0
  label := 0
  openZones := 0xFFF
  levels := ⟨⟨800, 300, 100, 0⟩, ⟨800, 300, 100, 0⟩, ⟨500, 200, 0, 0⟩, ⟨600, 200, 100, 0⟩⟩
  setpoint := ⟨160, 160, 200, 50⟩
  setback := ⟨120, 120, 160, 50⟩
  drop := ⟨30, 30, 30, 0⟩
  cap := 65535
  base := 0
  windowLimit := 0
  lead := 0
  changeover := 0

/-- The factory configuration of a line (R21, R32, R38). -/
def factoryLine : LineCfg where
  bitRate := .b38400
  timeout := 20
  nodes := []
  scan := []

/-- The numbers 1..16 of the terminals. -/
def terminalNumbers : List Nat := [1, 2, 3, 4, 5, 6, 7, 8, 9, 10, 11, 12, 13, 14, 15, 16]

/-- The factory values that each chapter gives for its block (R184). -/
def factoryConfig : RunningConfig where
  shift0 := factoryShift0
  shifts := []
  exceptions := []
  lineA := factoryLine
  lineB := factoryLine
  functions := terminalNumbers.map fun t => (t, .unused)
  filter := ⟨true, true, true, true, true, 20, 5⟩
  doors := []
  doorParams := ⟨300, 12, 20, 120⟩
  zones := []
  pins := []
  loads := []
  daylight := []
  lighting := ⟨300, 100, 100, 50⟩
  climate := ⟨30, 300, 50, 300, 800, .extract⟩
  budget := ⟨200, 100, 85, 60, 900⟩
  settlementPeriod := 2
  supervision := 60
  watermark := 1

/-- The reading of an UNSET clock (R1): Saturday 2000-01-01 00:00:00. -/
def unsetReading : Reading := ⟨⟨1, 1, 2000⟩, 5, 0, 0, 0⟩

/-- A field line after a start, before its nodes and scan entries (R51). -/
def idleLine : Line where
  state := .ok
  errors := 0
  noiseCounted := false
  nodes := []
  scan := []
  fetch := []
  oneOffs := []
  queue := []
  inFlight := none

/-- A terminal with no function state (R54, R66). -/
def idleTerminal : TermRec where
  debounced := none
  debounceAt := none
  repeatAt := none
  convertAt := none
  lastPulse := none
  lastInterval := none
  power := 0
  zeroAt := none
  armed := false
  restartAt := none
  relayClosed := false
  dimMillivolts := 0

/-- A point record created afresh (R67). -/
def freshPoint : PointRec where
  value := none
  status := .neverRead
  time := none
  readback := none
  lastWrite := .none
  tries := 0
  oneOffWaiting := false

/-- The place of T.0's P0 in the point table (`pointKey` of the operations). -/
def terminalPointBase : Nat := 1024

/-- A class that has settled nothing (R139). -/
def emptyClass : ClassFigures := ⟨0, 0, 0, .full⟩

/-- The settlement record before the first settlement (R139). -/
def emptySettlement : SettlementRec where
  isEmpty := true
  time := 0
  clock := none
  shiftCap := 0
  hostCap := none
  hostHold := 0
  termCap := none
  windowCap := none
  cap := 0
  source := .shift
  base := 0
  uncontrolled := 0
  available := 0
  exemptDemand := 0
  remaining := 0
  class0 := emptyClass
  class1 := emptyClass
  class2 := emptyClass
  class3 := emptyClass
  poolDrawn := 0
  overrun := false
  strain := false
  count := 0

/-- The part right after reset (log 4): a power-on cold start that found the store EMPTY and the clock
backup lost (R2, R184), with no command waiting. -/
def State.reset : State where
  pending := []
  powered := true
  now := 0
  config := factoryConfig
  clock := ⟨false, unsetReading, 0⟩
  plan := ⟨0, .clockUnset, none, none, false, false, none, 0xFFF⟩
  lineA := idleLine
  lineB := idleLine
  inputs := terminalNumbers.map fun t => (t, ⟨false, 0⟩)
  terminals := terminalNumbers.map fun t => (t, idleTerminal)
  points := terminalNumbers.map fun t => (terminalPointBase + (t - 1), freshPoint)
  windows := []
  recent := []
  nextSeq := 0
  doors := []
  zones := []
  presence := []
  fullReported := false
  evictedDoors := []
  loads := []
  hostOrder := none
  termOrder := none
  window := none
  history := []
  strain := false
  overrun := false
  record := emptySettlement
  settleAt := 2000
  lightOverrides := []
  stepAt := Config.lightingStepMs
  climate := []
  heatAt := Config.heatingMs
  ventAt := Config.ventilationMs
  curtainAt := Config.curtainMs
  mode := .hold
  returnMode := none
  signal := false
  releaseAt := none
  emergencyAt := none
  lastStart := .powerOn false
  restartRequested := false
  receiver := .hunting
  answering := false
  reply := none
  frameErrors := 0
  earlyFrames := 0
  restartPending := false
  storePending := false
  supervisionAt := none
  notices := [⟨.modeChanged, 0, .mode .hold, some 0, some 1⟩, ⟨.clockUnset, 0, .none, none, none⟩]
  lost := 0
  store := ⟨.empty, factoryConfig, none, true⟩

end Sys2Proof.Machine
end

