-- ==== Sys2Proof/Machine/Tables.lean ====
section
/-! DEFINITION. Operations on tables of numbered slots: read, write, free, change, and the lowest free
number, each keeping the numbers strictly rising. -/

namespace Sys2Proof.Machine

/-- The record in slot `k`. -/
def slotGet {α : Type} : Table α → Nat → Option α
  | [], _ => none
  | (k', v) :: rest, k => if k = k' then some v else slotGet rest k

/-- Slot `k` holds a record. -/
def slotUsed {α : Type} (table : Table α) (k : Nat) : Bool := (slotGet table k).isSome

/-- Put `v` into slot `k`. -/
def slotSet {α : Type} : Table α → Nat → α → Table α
  | [], k, v => [(k, v)]
  | (k', v') :: rest, k, v =>
    if k < k' then (k, v) :: (k', v') :: rest
    else if k = k' then (k, v) :: rest
    else (k', v') :: slotSet rest k v

/-- Free slot `k`. -/
def slotFree {α : Type} : Table α → Nat → Table α
  | [], _ => []
  | (k', v') :: rest, k => if k = k' then rest else (k', v') :: slotFree rest k

/-- Change the record in slot `k`, if there is one. -/
def slotChange {α : Type} (f : α → α) : Table α → Nat → Table α
  | [], _ => []
  | (k', v') :: rest, k => if k = k' then (k', f v') :: rest else (k', v') :: slotChange f rest k

/-- Change every record, each with its number. -/
def slotMap {α β : Type} (f : Nat → α → β) (table : Table α) : Table β :=
  table.map fun e => (e.1, f e.1 e.2)

/-- The numbers in use, rising. -/
def slotNumbers {α : Type} (table : Table α) : List Nat := table.map Prod.fst

/-- The numbers of the records that satisfy `p`, rising. -/
def slotsWhere {α : Type} (p : α → Bool) (table : Table α) : List Nat :=
  slotNumbers (table.filter fun e => p e.2)

/-- The lowest number at or after `k` that is free, walking the rising numbers of the table. -/
def lowestFreeFrom {α : Type} : Table α → Nat → Nat
  | [], k => k
  | (k', _) :: rest, k =>
    if k < k' then k else if k = k' then lowestFreeFrom rest (k + 1) else lowestFreeFrom rest k

/-- The lowest-numbered free slot of 1, 2, ... (R9, R102). -/
def lowestFree {α : Type} (table : Table α) : Nat := lowestFreeFrom table 1

/-- The table's numbers rise strictly. -/
def slotWf {α : Type} : Table α → Bool
  | [] => true
  | (k, _) :: rest => rest.all (fun e => decide (k < e.1)) && slotWf rest

end Sys2Proof.Machine
end

