-- ==== Sys2Proof/Machine/Calendar.lean ====
section
/-! DEFINITION. The Gregorian calendar of R1 and the weekly positions of R6. Days are counted from
2000-01-01, day 0, a Saturday. Moments of the plan are counted in minutes from a week earlier, so that
the previous week's starts have a number too. -/

namespace Sys2Proof.Machine

/-- R1: in 2000..2099 every year divisible by 4 is a leap year. -/
def isLeap (year : Nat) : Bool := year % 4 == 0

/-- R1: the length of a month. -/
def monthLength (year month : Nat) : Nat :=
  match month with
  | 2 => if isLeap year then 29 else 28
  | 4 => 30
  | 6 => 30
  | 9 => 30
  | 11 => 30
  | _ => 31

/-- The months before `month`, in order. -/
def monthsBefore (month : Nat) : List Nat := (List.range (month - 1)).map (· + 1)

/-- Days from 2000-01-01 to the date. -/
def dayNumber (d : Date) : Nat :=
  (d.year - 2000) * 365 + (d.year - 2000 + 3) / 4
    + ((monthsBefore d.month).map (monthLength d.year)).sum + (d.day - 1)

/-- The weekday of a day number, 0 for Monday: day 0 is a Saturday. -/
def weekdayOfDay (n : Nat) : Nat := (n + 5) % 7

/-- The weekday of a date (R3: the part works it out). -/
def weekdayOf (d : Date) : Nat := weekdayOfDay (dayNumber d)

/-- Walk from the first of a month by a number of days, over the months left in the year. -/
def dateInYear (year : Nat) : List Nat → Nat → Date
  | [], n => ⟨n + 1, 12, year⟩
  | m :: rest, n =>
    if n < monthLength year m then ⟨n + 1, m, year⟩ else dateInYear year rest (n - monthLength year m)

/-- The date of a day number. -/
def dateOfDay (n : Nat) : Date :=
  let cycle := n / 1461
  let r := n % 1461
  if r < 366 then dateInYear (2000 + 4 * cycle) (monthsBefore 13) r
  else dateInYear (2001 + 4 * cycle + (r - 366) / 365) (monthsBefore 13) ((r - 366) % 365)

/-- R3: the date lies in 2000..2099 and in its month. -/
def dateValid (d : Date) : Bool :=
  2000 ≤ d.year && d.year ≤ 2099 && 1 ≤ d.month && d.month ≤ 12 && 1 ≤ d.day
    && d.day ≤ monthLength d.year d.month

/-- R9: the day lies in the longest length of its month. -/
def exceptionDateValid (day month : Nat) : Bool :=
  1 ≤ month && month ≤ 12 && 1 ≤ day && day ≤ monthLength 2000 month

/-- Minute of the day. -/
def minuteOfDay (r : Reading) : Nat := r.hour * 60 + r.minute

/-- Second of the day. -/
def secondOfDay (r : Reading) : Nat := minuteOfDay r * 60 + r.second

/-- Calendar seconds since 2000-01-01 00:00:00 (the demand windows' scale, R128). -/
def secondNumber (r : Reading) : Nat := dayNumber r.date * 86400 + secondOfDay r

/-- The day after a date. -/
def nextDate (d : Date) : Date :=
  if d.day < monthLength d.year d.month then { d with day := d.day + 1 }
  else if d.month < 12 then ⟨1, d.month + 1, d.year⟩
  else ⟨1, 1, d.year + 1⟩

/-- R1: the reading one second later, none when a SET clock passes 2099-12-31 23:59:59. -/
def nextReading (r : Reading) : Option Reading :=
  if r.second < 59 then some { r with second := r.second + 1 }
  else if r.minute < 59 then some { r with minute := r.minute + 1, second := 0 }
  else if r.hour < 23 then some { r with hour := r.hour + 1, minute := 0, second := 0 }
  else if r.date = ⟨31, 12, 2099⟩ then none
  else some ⟨nextDate r.date, (r.weekday + 1) % 7, 0, 0, 0⟩

/-- The reading of a date and time (R3). -/
def readingOf (d : Date) (hour minute second : Nat) : Reading := ⟨d, weekdayOf d, hour, minute, second⟩

/-- The weekly position of a reading (R6): weekday times 1440 plus minute of day. -/
def weeklyPosition (r : Reading) : Nat := r.weekday * 1440 + minuteOfDay r

/-- Plan minutes: minutes since 1999-12-25 00:00, a week before day 0. -/
def planMinute (r : Reading) : Nat := (dayNumber r.date + 7) * 1440 + minuteOfDay r

/-- The date of a plan minute. -/
def dateOfPlanMinute (n : Nat) : Date :=
  if n / 1440 < 7 then ⟨25 + n / 1440, 12, 1999⟩ else dateOfDay (n / 1440 - 7)

/-- The moment of a plan minute. -/
def momentOf (n : Nat) : Moment := ⟨dateOfPlanMinute n, n % 1440⟩

end Sys2Proof.Machine
end

