-- ==== Sys2Proof/Machine/Ops.lean ====
section
/-! DEFINITION. Operations that several blocks share: notices, the timers' hold on the running time, the
blocks' ways to a line, a terminal, a record, the bindings of a point, and contact states. -/

namespace Sys2Proof.Machine

/-- What a command answers. -/
abbrev Result := Host.Outcome State Fault Refusal

/-- An effect of the part under main power; a part without it takes none (log 6). -/
def whenPowered (f : State → State) (s : State) : Result := .next (if s.powered then f s else s)

/-! ## Notices (R199) -/

/-- R199: the four priority kinds. -/
def isPriority : NoticeKind → Bool
  | .emergencyBegin => true
  | .supplyOverrun => true
  | .gasPurgeBegin => true
  | .lineDown => true
  | _ => false

/-- R199: the lost count after one more drop or removal. -/
def countLost (lost : Nat) : Nat := min (lost + 1) 255

/-- R199: a notice joins the queue, displaces the oldest non-priority notice, or is dropped. -/
def pushNotice (n : Notice) (queue : List Notice) (lost : Nat) : List Notice × Nat :=
  if queue.length < Config.noticeQueueLength then (queue ++ [n], lost)
  else if !isPriority n.kind then (queue, countLost lost)
  else if queue.all (fun m => isPriority m.kind) then (queue, countLost lost)
  else (queue.eraseP (fun m => !isPriority m.kind) ++ [n], countLost lost)

/-- Raise a notice now (R199). -/
def raise (kind : NoticeKind) (subject : Subject) (first second : Option Int) (s : State) : State :=
  let pushed := pushNotice ⟨kind, s.now, subject, first, second⟩ s.notices s.lost
  { s with notices := pushed.1, lost := pushed.2 }

/-- R199: a value that is a quantity saturates at 65535. -/
def quantity (n : Nat) : Option Int := some (min n 65535 : Nat)

/-- R202: a node carried as a value. -/
def nodeValue (bus : Bus) (addr : Nat) : Option Int := some (bus.ctorIdx * 256 + addr : Nat)

/-! ## Time -/

/-- The expiry of a timer takes its effect once the running time has reached it; the command of a timer
that has been restarted or stopped meanwhile has none (log 2). -/
def whenDue (t : Nat) (f : State → State) (s : State) : State := if t ≤ s.now then f s else s

/-- Seconds left to a time, rounded up (log 9). -/
def secondsLeft (s : State) (t : Nat) : Nat := ceilDiv (t - s.now) 1000

/-! ## Ways into the state -/

/-- The controller of a line. -/
def getLine (s : State) : LineId → Line
  | .a => s.lineA
  | .b => s.lineB

/-- Replace the controller of a line. -/
def setLine (s : State) (l : LineId) (line : Line) : State :=
  match l with
  | .a => { s with lineA := line }
  | .b => { s with lineB := line }

/-- Change the controller of a line. -/
def changeLine (l : LineId) (f : Line → Line) (s : State) : State := setLine s l (f (getLine s l))

/-- The configuration of a line. -/
def lineCfg (c : RunningConfig) : LineId → LineCfg
  | .a => c.lineA
  | .b => c.lineB

/-- Replace the configuration of a line. -/
def setLineCfg (c : RunningConfig) (l : LineId) (line : LineCfg) : RunningConfig :=
  match l with
  | .a => { c with lineA := line }
  | .b => { c with lineB := line }

/-- The bus that a line is. -/
def busOf : LineId → Bus
  | .a => .a
  | .b => .b

/-- The line of a bus, none for the terminal block. -/
def lineOf : Bus → Option LineId
  | .a => some .a
  | .b => some .b
  | .t => none

/-- Number of a node over all buses (storm windows, R77). -/
def nodeKey (bus : Bus) (addr : Nat) : Nat := bus.ctorIdx * 32 + addr

/-- Number of a point in the point table (R67): points of a node lie side by side. -/
def pointKey (p : PointRef) : Nat := nodeKey p.bus p.addr * 16 + p.point

/-- The point of a terminal (R52). -/
def terminalPoint (t : Nat) : PointRef := ⟨.t, 0, t - 1⟩

/-- The record of a point. -/
def getPoint (s : State) (p : PointRef) : Option PointRec := slotGet s.points (pointKey p)

/-- Change the record of a point. -/
def changePoint (p : PointRef) (f : PointRec → PointRec) (s : State) : State :=
  { s with points := slotChange f s.points (pointKey p) }

/-- The function of a terminal (R53). -/
def functionOf (c : RunningConfig) (t : Nat) : TermFunction := (slotGet c.functions t).getD .unused

/-- The state of a terminal. -/
def getTerminal (s : State) (t : Nat) : TermRec := (slotGet s.terminals t).getD idleTerminal

/-- Change the state of a terminal. -/
def changeTerminal (t : Nat) (f : TermRec → TermRec) (s : State) : State :=
  { s with terminals := slotChange f s.terminals t }

/-- Change the state of a door. -/
def changeDoor (d : Nat) (f : DoorRec → DoorRec) (s : State) : State :=
  { s with doors := slotChange f s.doors d }

/-- Change the state of a zone. -/
def changeZone (z : Nat) (f : ZoneRec → ZoneRec) (s : State) : State :=
  { s with zones := slotChange f s.zones z }

/-- Change the state of a load. -/
def changeLoad (l : Nat) (f : LoadRec → LoadRec) (s : State) : State :=
  { s with loads := slotChange f s.loads l }

/-- Change the climate record of a zone. -/
def changeClimate (z : Nat) (f : ClimateRec → ClimateRec) (s : State) : State :=
  { s with climate := slotChange f s.climate z }

/-- Take the commands of a list in turn. -/
def forEach {α : Type} (items : List α) (f : α → State → State) (s : State) : State :=
  items.foldl (fun t x => f x t) s

/-! ## Sets of zones -/

/-- The zone is in the set (R193: bit 0 for Z1). -/
def inZones (set : ZoneSet) (z : Nat) : Bool := decide (1 ≤ z) && set.getLsbD (z - 1)

/-- The value of a zone kind. -/
def forKind {α : Type} (v : PerKind α) : ZoneKind → α
  | .dock => v.dock
  | .staging => v.staging
  | .office => v.office
  | .canopy => v.canopy

/-- The contents of shift record `n` (R5): S0 is always defined. -/
def shiftRecord (c : RunningConfig) (n : Nat) : Option ShiftRecord :=
  if n = 0 then some c.shift0 else slotGet c.shifts n

/-- The contents of the active record (R19). -/
def activeRecord (s : State) : ShiftRecord := (shiftRecord s.config s.plan.active).getD s.config.shift0

/-- The contents of the next record (R19). -/
def nextRecord (s : State) : Option ShiftRecord :=
  s.plan.next.bind fun n => shiftRecord s.config n.index

/-- R120, R163: the precondition flag is set and the next record opens the zone. -/
def preconditioned (s : State) (z : Nat) : Bool :=
  s.plan.precondition && (nextRecord s).any fun r => inZones r.openZones z

/-! ## Bindings of a point -/

/-- The doors bound to a point, by number. -/
def doorsAt (c : RunningConfig) (p : PointRef) : List Nat :=
  slotsWhere (fun d => decide (d.binding = p)) c.doors

/-- The loads bound to a point, by number. -/
def loadsAt (c : RunningConfig) (p : PointRef) : List Nat :=
  slotsWhere (fun l => decide (l.binding = p)) c.loads

/-- The zones whose presence source the point is, by number. -/
def presenceZonesAt (c : RunningConfig) (p : PointRef) : List Nat :=
  slotsWhere (fun z => z.presence.contains p) c.zones

/-- The point is some zone's temperature point. -/
def isTemperaturePoint (c : RunningConfig) (p : PointRef) : Bool :=
  c.zones.any fun e => e.2.temperature == some p

/-- The point is some zone's gas point. -/
def isGasPoint (c : RunningConfig) (p : PointRef) : Bool :=
  c.zones.any fun e => e.2.gas.any fun g => g.point == p

/-- The point is some lighting group's daylight point. -/
def isDaylightPoint (c : RunningConfig) (p : PointRef) : Bool :=
  c.daylight.any fun e => e.2.point == some p

/-- A door, load, zone sensor, presence source or daylight point is bound to the point (R53, R74). -/
def isBound (c : RunningConfig) (p : PointRef) : Bool :=
  !(doorsAt c p).isEmpty || !(loadsAt c p).isEmpty || !(presenceZonesAt c p).isEmpty
    || isTemperaturePoint c p || isGasPoint c p || isDaylightPoint c p

/-- R68: the point is an OUTPUT point. -/
def isOutput (c : RunningConfig) (p : PointRef) : Bool :=
  !(loadsAt c p).isEmpty ||
    (p.bus == .t && match functionOf c (p.point + 1) with
      | .relayOut => true
      | .dimOut => true
      | .strainOut => true
      | _ => false)

/-- The definition of a field node. -/
def nodeDef (c : RunningConfig) (bus : Bus) (addr : Nat) : Option NodeDef :=
  (lineOf bus).bind fun l => slotGet (lineCfg c l).nodes addr

/-- The configured point count of a node: 16 for T.0, none for a node that is not defined. -/
def pointCount (c : RunningConfig) (bus : Bus) (addr : Nat) : Option Nat :=
  match bus with
  | .t => if addr = 0 then some 16 else none
  | _ => (nodeDef c bus addr).map NodeDef.count

/-- The point is a point of a defined node. -/
def pointDefined (c : RunningConfig) (p : PointRef) : Bool :=
  (pointCount c p.bus p.addr).any fun n => decide (p.point < n)

/-- R73, R85, R99, R118: the line is A, B or T, the address lies in the range of its line and the point
in 0..15. -/
def pointInRange (p : PointRef) : Bool :=
  (match p.bus with
    | .t => p.addr == 0
    | _ => 1 ≤ p.addr && p.addr ≤ 31) && p.point ≤ 15

/-- The period of a class in ms (R32). -/
def periodMs : PeriodClass → Nat
  | .fast => 500
  | .normal => 2000
  | .slow => 10000

/-- R33: a point's scan period, the shortest among the scan entries that cover it. -/
def scanPeriod (c : RunningConfig) (p : PointRef) : Option Nat :=
  match lineOf p.bus with
  | none => none
  | some l =>
    (((lineCfg c l).scan.filter fun e =>
      e.node == p.addr && decide (e.first ≤ p.point) && decide (p.point < e.first + e.count)).map
        fun e => periodMs e.period).min?

/-- R69: the age limit of a scan period. -/
def ageLimit (period : Nat) : Nat := max (3 * period) 2000

/-- The temperature that a point's value gives, in tenths of a degree: a word of a field node is read
as a signed 16-bit number (log 11, DEDUCED). -/
def temperatureOf (p : PointRef) (v : Int) : Int :=
  if p.bus == .t then v else if v < 32768 then v else v - 65536

/-! ## Contact states (R44) -/

/-- R44: the contact state that a node state and a line state give. -/
def contactFrom (node : NodeState) (line : LineState) : Contact :=
  match node, line with
  | .service, _ => .inService
  | _, .down _ => .unreachable
  | .online, _ => .inContact
  | .degraded, _ => .inContact
  | .unprobed, _ => .unconfirmed
  | .silent, _ => .unreachable

/-- The contact state of a node of a line: UNREACHABLE when it is not defined (R38, R119). -/
def lineContact (line : Line) (addr : Nat) : Contact :=
  match slotGet line.nodes addr with
  | none => .unreachable
  | some n => contactFrom n.state line.state

/-- The contact state of a node; T.0 is always IN_CONTACT (R52). -/
def contactOf (s : State) (bus : Bus) (addr : Nat) : Contact :=
  match bus with
  | .t => .inContact
  | .a => lineContact s.lineA addr
  | .b => lineContact s.lineB addr

/-- The line is in LINE_DOWN. -/
def isDown (line : Line) : Bool :=
  match line.state with
  | .down _ => true
  | _ => false

/-- ONLINE, DEGRADED or SERVICE: the node is worked on the line (R29). -/
def isWorked : NodeState → Bool
  | .online => true
  | .degraded => true
  | .service => true
  | _ => false

/-- The node of a line is defined and ONLINE, DEGRADED or SERVICE. -/
def nodeWorked (line : Line) (addr : Nat) : Bool :=
  (slotGet line.nodes addr).any fun n => isWorked n.state

end Sys2Proof.Machine
end

