-- ==== Sys2Proof/Machine/Frames.lean ====
section
/-! DEFINITION. Field line frames (R22, R23, R24, R203): the words of a request, the check word, and the
judgement of a reply (R26). -/

namespace Sys2Proof.Machine

/-- R203: the function codes. -/
def functionCode : TxnWork → Nat
  | .probe => 1
  | .readPoints _ _ _ => 2
  | .writePoint _ => 3
  | .fetchEvents => 4

/-- R22: the maximum count of a FETCH EVENTS request. -/
def fetchMaximum : Nat := 4

/-- R22, R203: the words of a request frame but for its check word. -/
def requestWords (node : Nat) (work : TxnWork) : List Word16 :=
  BitVec.ofNat 16 (node * 256 + functionCode work) ::
    match work with
    | .probe => []
    | .readPoints first count _ => [BitVec.ofNat 16 first, BitVec.ofNat 16 count]
    | .writePoint e => [BitVec.ofNat 16 e.point, BitVec.ofNat 16 e.value]
    | .fetchEvents => [BitVec.ofNat 16 fetchMaximum]

/-- R24: addition of 16-bit words with end-around carry. -/
def addEndAround (a b : Word16) : Word16 :=
  let n := a.toNat + b.toNat
  if 0xFFFF < n then BitVec.ofNat 16 (n - 0x10000 + 1) else BitVec.ofNat 16 n

/-- R24: the sum of the words of a frame. -/
def wordSum (words : List Word16) : Word16 := words.foldl addEndAround 0

/-- R24: the check word of the words before it. -/
def checkWord (words : List Word16) : Word16 := ~~~ (wordSum words)

/-- R24: the receiver's test, check word included. -/
def checkPasses (words : List Word16) : Bool := wordSum words == 0xFFFF

/-- R22: the request frame with its check word. -/
def requestFrame (node : Nat) (work : TxnWork) : List Word16 :=
  requestWords node work ++ [checkWord (requestWords node work)]

/-- Bits per second (R21). -/
def bitsPerSecond : BitRate → Nat
  | .b19200 => 19200
  | .b38400 => 38400
  | .b57600 => 57600

/-- The time in ms, rounded up, that a frame takes: ten bits a character (R21, log 16). -/
def sendMs (rate : BitRate) (words : Nat) : Nat := ceilDiv (words * 2 * 10 * 1000) (bitsPerSecond rate)

/-- R22: the words of a byte string, most significant byte first; none for an odd number of bytes. -/
def wordsOf : List Byte → Option (List Word16)
  | [] => some []
  | [_] => none
  | hi :: lo :: rest => (wordsOf rest).map fun ws => (hi ++ lo) :: ws

/-- R25: a reply that reaches this many bytes is cut off. -/
def cutoffBytes : Nat := 41

/-- An event of a FETCH EVENTS reply (R23). -/
structure FieldEvent where
  point : Nat
  kind : EventKind
  age : Nat
  value : Nat
  deriving DecidableEq, Repr

/-- What a good reply carries beside its status word (R27). -/
inductive ReplyContent where
  | values (vs : List Nat)
  | written
  | events (es : List FieldEvent)
  | probed (info : ProbeInfo)
  deriving DecidableEq, Repr

/-- A good reply: its node's waiting-event count (R23, R203) and its content. -/
structure GoodReply where
  waiting : Nat
  content : ReplyContent
  deriving DecidableEq, Repr

/-- R203: the kind of an event's code. -/
def eventKindOf (code : Nat) : Option EventKind :=
  match code with
  | 1 => some .doorOpened
  | 2 => some .doorClosed
  | 3 => some .presence
  | _ => none

/-- R23, R26: the events of a FETCH EVENTS reply, none when one has a point above 15 or another kind. -/
def eventsOf : List Nat → Option (List FieldEvent)
  | [] => some []
  | point :: kind :: age :: value :: rest =>
    if 15 < point then none
    else match eventKindOf kind, eventsOf rest with
      | some k, some es => some (⟨point, k, age, value⟩ :: es)
      | _, _ => none
  | _ => none

/-- R41: the tests of a PROBE reply, and the ranges of R22 (log 27). -/
def probeFits (d : NodeDef) (kind count : Nat) : Bool :=
  decide (kind ≤ 254) && decide (1 ≤ count) && decide (count ≤ 16) && decide (d.count ≤ count) &&
    match d.kind with
    | none => true
    | some k => k == kind

/-- R22, R26: the content of the words after the status word and before the check word, none when they
do not suit the function and what was asked. -/
def contentOf (d : NodeDef) (work : TxnWork) (words : List Nat) : Option ReplyContent :=
  match work, words with
  | .readPoints _ count _, vs => if vs.length = count then some (.values vs) else none
  | .writePoint e, [p, v] => if p = e.point ∧ v = e.value then some .written else none
  | .fetchEvents, n :: rest =>
    if n ≤ fetchMaximum ∧ rest.length = 4 * n then (eventsOf rest).map .events else none
  | .probe, [kind, count] => if probeFits d kind count then some (.probed ⟨kind, count⟩) else none
  | _, _ => none

/-- R26: a reply whose check passes is good, or none when it is malformed. -/
def goodReply (d : NodeDef) (node : Nat) (work : TxnWork) (words : List Word16) : Option GoodReply :=
  match words with
  | head :: status :: rest =>
    if head = BitVec.ofNat 16 (node * 256 + functionCode work) && !rest.isEmpty then
      (contentOf d work (rest.dropLast.map BitVec.toNat)).map fun c => ⟨status.toNat % 256, c⟩
    else none
  | _ => none

/-- R26: the outcome of a reply, with its content when it is good. -/
def judgeReply (d : NodeDef) (node : Nat) (work : TxnWork) (bytes : List Byte) (framingError : Bool) :
    TxnOutcome × Option GoodReply :=
  if framingError || decide (cutoffBytes ≤ bytes.length) then (.broken, none)
  else match wordsOf bytes with
    | none => (.broken, none)
    | some words =>
      if !checkPasses words then (.badCheck, none)
      else match goodReply d node work words with
        | none => (.malformed, none)
        | some g => (.good, some g)

end Sys2Proof.Machine
end

