-- ==== Sys2Proof/Machine/Occupancy.lean ====
section
/-! DEFINITION. The occupancy unit (chapter 6): presence entries, occupancy states, fast aging. -/

namespace Sys2Proof.Machine

/-- The entry names the zone: it is one of the zone's live entries (R102). -/
def entryIn (z : Nat) (e : PresenceEntry) : Bool := e.zone == z

/-- The entry is SENSOR or DOOR (R102). -/
def isDynamic (e : PresenceEntry) : Bool :=
  match e.life with
  | .pinned => false
  | _ => true

/-- The zone holds a live entry. -/
def hasEntry (s : State) (z : Nat) : Bool := s.presence.any fun e => entryIn z e.2

/-- The zone holds a SENSOR or DOOR entry. -/
def hasDynamic (s : State) (z : Nat) : Bool :=
  s.presence.any fun e => entryIn z e.2 && isDynamic e.2

/-- R109: the judgement of a zone's state, with vacant since and dormancy expiry. -/
def judgedZone (isOpen occupied : Bool) (now dormancyMs : Nat) (r : ZoneRec) : ZoneRec :=
  if !isOpen then { r with state := .closed, vacantSince := none, dormancyAt := none }
  else if occupied then { r with state := .occupied, vacantSince := none, dormancyAt := none }
  else match r.state with
    | .vacant => r
    | .dormant => r
    | _ => { r with state := .vacant, vacantSince := some now, dormancyAt := some (now + dormancyMs) }

/-- R111: the intruded flag after a judgement: cleared when the zone leaves CLOSED, and when the zone
holds no dynamic entry. -/
def judgedFlag (dynamic : Bool) (before after : ZoneRec) : ZoneRec :=
  { after with intruded := before.intruded && dynamic && !(before.state == .closed && after.state != .closed) }

/-- The dormancy time of a zone in ms (R98). -/
def dormancyMs (s : State) (z : Nat) : Nat := ((slotGet s.config.zones z).map ZoneDef.dormancy).getD 0 * 1000

/-- Judge a zone afresh under R109 and R111. -/
def judgeZone (z : Nat) (s : State) : State :=
  changeZone z (fun r =>
    judgedFlag (hasDynamic s z) r
      (judgedZone (inZones s.plan.openZones z) (hasEntry s z) s.now (dormancyMs s z) r)) s

/-- R106: the full reported flag is cleared whenever the table holds fewer than 96 entries. -/
def clearFullReported (s : State) : State :=
  { s with fullReported := s.fullReported && decide (Config.presenceSlots ≤ s.presence.length) }

/-- Remove an entry and judge its zone (R105). -/
def removeEntry (slot : Nat) (s : State) : State :=
  match slotGet s.presence slot with
  | none => s
  | some e => judgeZone e.zone (clearFullReported { s with presence := slotFree s.presence slot })

/-- R102: an entry's remaining life in ms; a pin has none and is not chosen. -/
def remainingLife (now : Nat) (e : PresenceEntry) : Nat :=
  match e.life with
  | .running t => t - now
  | .held t => t * 1000
  | .pinned => 0

/-- R106: the dynamic entry with the least remaining life, the lowest number among equals. -/
def evictionChoice (now : Nat) : Table PresenceEntry → Option (Nat × PresenceEntry)
  | [] => none
  | e :: rest =>
    if isDynamic e.2 then
      match evictionChoice now rest with
      | none => some e
      | some b => if remainingLife now e.2 ≤ remainingLife now b.2 then some e else some b
    else evictionChoice now rest

/-- R104: the doors whose entry was evicted, after the eviction of an entry of this source. -/
def withEvicted (source : PresenceSource) (doors : List Nat) : List Nat :=
  match source with
  | .door d => if doors.contains d then doors else doors ++ [d]
  | _ => doors

/-- R104: the doors whose entry was evicted, once an entry of this source has been made. -/
def withoutEvicted (source : PresenceSource) (doors : List Nat) : List Nat :=
  match source with
  | .door d => doors.filter fun x => x != d
  | _ => doors

/-- R106: make room for a new entry of zone `z` when the table is full. -/
def makeRoom (z : Nat) (s : State) : State :=
  if s.presence.length < Config.presenceSlots then s
  else match evictionChoice s.now s.presence with
    | none => s
    | some (slot, e) =>
      let t := judgeZone e.zone { s with
        presence := slotFree s.presence slot
        evictedDoors := withEvicted e.source s.evictedDoors }
      if s.fullReported then t
      else { raise .presenceTableFull (.zone z) (some e.zone) (quantity Config.presenceSlots) t with
        fullReported := true }

/-- Create an entry in the lowest free slot, evicting one if need be, and judge its zone (R102, R106,
R109). -/
def createEntry (e : PresenceEntry) (s : State) : State :=
  let t := makeRoom e.zone s
  judgeZone e.zone { t with
    presence := slotSet t.presence (lowestFree t.presence) e
    evictedDoors := withoutEvicted e.source t.evictedDoors }

/-- The slot of the entry for a zone and source, if there is one (R102: at most one). -/
def entrySlot (s : State) (z : Nat) (source : PresenceSource) : Option Nat :=
  (s.presence.find? fun e => e.2.zone == z && e.2.source == source).map Prod.fst

/-- Give the entry for a zone and source a life, creating it when it is absent (R103, R104). -/
def refreshEntry (z : Nat) (source : PresenceSource) (life : PresenceLife) (s : State) : State :=
  match entrySlot s z source with
  | some slot => { s with presence := slotChange (fun e => { e with life := life }) s.presence slot }
  | none => createEntry ⟨z, source, life⟩ s

/-- R103: an accepted PRESENCE event for a zone, marked or not as presence in a closed zone. -/
def presenceEvent (z : Nat) (source : PointRef) (marked : Bool) (s : State) : State :=
  match slotGet s.config.zones z with
  | none => s
  | some zone =>
    let t := refreshEntry z (.sensor source) (.running (s.now + zone.aging * 1000)) s
    if marked then
      changeZone z (fun r => if r.state == .closed then { r with intruded := true } else r) t
    else t

/-- R104: a hold of a door's entry at the door presence time. -/
def holdEntry (z door seconds : Nat) (s : State) : State :=
  if slotUsed s.config.zones z then refreshEntry z (.door door) (.held seconds) s else s

/-- R104: a release of a door's entry with a life in ms. -/
def releaseEntry (z door lifeMs : Nat) (s : State) : State :=
  match entrySlot s z (.door door) with
  | some slot =>
    { s with presence := slotChange (fun e => { e with life := .running (s.now + lifeMs) }) s.presence slot }
  | none => s

/-- Remove the entry for a zone and source, if there is one. -/
def dropEntry (z : Nat) (source : PresenceSource) (s : State) : State :=
  match entrySlot s z source with
  | some slot => removeEntry slot s
  | none => s

/-- The entry's source lies on the node (R112). -/
def sourceOn (c : RunningConfig) (bus : Bus) (addr : Nat) (e : PresenceEntry) : Bool :=
  match e.source with
  | .sensor p => p.bus == bus && p.addr == addr
  | .door d => (slotGet c.doors d).any fun r => r.binding.bus == bus && r.binding.addr == addr
  | .host => false

/-- R112: fast aging of an entry. -/
def fastAged (now : Nat) (e : PresenceEntry) : PresenceEntry :=
  if isDynamic e then { e with life := .running (now + min (remainingLife now e) Config.fastAgeMs) } else e

/-- R112: the occupancy unit takes a report of a new contact state. -/
def presenceContact (bus : Bus) (addr : Nat) (new : Contact) (s : State) : State :=
  if new = .inContact then s
  else { s with presence := slotMap (fun _ e =>
    if sourceOn s.config bus addr e then fastAged s.now e else e) s.presence }

/-- Judge every defined zone: a publication of the open-zone set (R109). -/
def judgeAllZones (s : State) : State := forEach (slotNumbers s.zones) judgeZone s

/-- R108: remove every SENSOR and DOOR entry that `p` picks, and judge each zone that loses one. -/
def flushEntries (p : PresenceEntry → Bool) (s : State) : State :=
  forEach (slotsWhere (fun e => isDynamic e && p e) s.presence) removeEntry s

end Sys2Proof.Machine
end

