-- ==== Sys2Proof/Machine/Doors.lean ====
section
/-! DEFINITION. The door monitor (chapter 5): door states, open transitions and the chatter window,
curtain requests, presence holds and releases, heater boost, and the timers of a door. -/

namespace Sys2Proof.Machine

/-- R84: the open states. -/
def isOpenState : DoorState → Bool
  | .open_ => true
  | .heldOpen => true
  | .chattering => true
  | _ => false

/-- OPEN or HELD_OPEN: the states in which a door holds its presence entry (R95). -/
def holdsEntry : DoorState → Bool
  | .open_ => true
  | .heldOpen => true
  | _ => false

/-- R94: start a run-on of this many ms; a run-on of 0 makes the request fall to 0. -/
def startRunOn (runOnMs now : Nat) (r : DoorRec) : DoorRec :=
  if runOnMs = 0 then { r with request := 0, runOn := none } else { r with runOn := some (now + runOnMs) }

/-- R94: the curtain request and run-on of a door with a curtain as its state changes. -/
def curtainAfter (runOnMs now : Nat) (old new : DoorState) (r : DoorRec) : DoorRec :=
  if isOpenState new then { r with request := 1000, runOn := none }
  else if new = .closed && isOpenState old then startRunOn runOnMs now r
  else if new = .unknown && r.request == 1000 && r.runOn.isNone then startRunOn runOnMs now r
  else r

/-- R95: what a door hands the occupancy unit as its state changes. -/
def handPresence (d zone : Nat) (old new : DoorState) (s : State) : State :=
  let presence := s.config.doorParams.presence
  if holdsEntry new then holdEntry zone d presence s
  else if holdsEntry old then
    if new = .closed then releaseEntry zone d (presence * 1000) s
    else if new = .unknown then releaseEntry zone d Config.fastAgeMs s
    else s
  else s

/-- A change of a door's state, with the other fields that `f` changes; the curtain (R94) and the
presence entry (R95) follow. -/
def enterDoorState (d : Nat) (new : DoorState) (f : DoorRec → DoorRec) (s : State) : State :=
  match slotGet s.doors d, slotGet s.config.doors d with
  | some r, some cfg =>
    let r1 := { f r with state := new, entered := s.now }
    let r2 := if cfg.curtain.isSome then curtainAfter (s.config.doorParams.runOn * 1000) s.now r.state new r1 else r1
    handPresence d cfg.zone r.state new { s with doors := slotChange (fun _ => r2) s.doors d }
  | _, _ => s

/-- R87: the chatter window after one more open transition. -/
def countTransition (now : Nat) : Option CountWindow → CountWindow
  | none => ⟨now, 1⟩
  | some w => ⟨w.start, min (w.count + 1) 65535⟩

/-- R87: an open transition of a door at a moment; `enters` is what the transition does to the state
when the count does not exceed the limit. -/
def openTransition (d : Nat) (r : DoorRec) (enters : State → State) (s : State) : State :=
  let w := countTransition s.now r.window
  let t := changeDoor d (fun x => { x with level := some true, window := some w }) s
  if s.config.doorParams.chatterLimit < w.count then
    if r.state = .chattering then t
    else raise .doorChatter (.door d) (quantity w.count) (quantity s.config.doorParams.chatterLimit)
      (enterDoorState d .chattering id t)
  else enters t

/-- R88: the door opens: OPEN with open since now. -/
def enterOpen (d : Nat) (s : State) : State :=
  enterDoorState d .open_ (fun r => { r with openSince := some s.now }) s

/-- R88: the door closes: reported level closed, open since none, held-open flag clear. -/
def enterClosed (d : Nat) (s : State) : State :=
  enterDoorState d .closed (fun r => { r with level := some false, openSince := none, heldFlag := false }) s

/-- R88: an accepted DOOR_OPENED, or a scanned value that acts as one (R89). -/
def doorOpened (d : Nat) (s : State) : State :=
  match slotGet s.doors d with
  | none => s
  | some r =>
    match r.state with
    | .closed => openTransition d r (enterOpen d) s
    | .open_ => changeDoor d (fun x => { x with level := some true }) s
    | .heldOpen => changeDoor d (fun x => { x with level := some true }) s
    | .chattering =>
      if r.level = some false then openTransition d r id s
      else changeDoor d (fun x => { x with level := some true }) s
    | .unknown => s

/-- R88: an accepted DOOR_CLOSED, or a scanned value that acts as one (R89). -/
def doorClosed (d : Nat) (s : State) : State :=
  match slotGet s.doors d with
  | none => s
  | some r =>
    match r.state with
    | .closed => changeDoor d (fun x => { x with level := some false }) s
    | .open_ => enterClosed d s
    | .heldOpen => enterClosed d s
    | .chattering => changeDoor d (fun x => { x with level := some false }) s
    | .unknown => s

/-- R95: the hold of a door that stands open is refreshed. -/
def refreshHold (d : Nat) (s : State) : State :=
  match slotGet s.config.doors d with
  | some cfg => holdEntry cfg.zone d s.config.doorParams.presence s
  | none => s

/-- R89, R95: a FRESH closing value of a door in OPEN or HELD_OPEN: the hold is refreshed, which brings an entry back
that was flushed, and the door closes with its release. After an eviction there is no hold, so that the closing leaves
no entry behind (R104, log 22). -/
def closingValue (d : Nat) (s : State) : State :=
  doorClosed d (if s.evictedDoors.contains d then s else refreshHold d s)

/-- R89: a FRESH value of a door's point. -/
def doorValue (d : Nat) (isOpen : Bool) (s : State) : State :=
  match slotGet s.doors d with
  | none => s
  | some r =>
    match r.state, isOpen with
    | .unknown, true =>
      enterDoorState d .open_
        (fun x => { x with level := some true, openSince := some s.now, heldFlag := false }) s
    | .unknown, false => enterDoorState d .closed (fun x => { x with level := some false }) s
    | .open_, true => refreshHold d s
    | .heldOpen, true => refreshHold d s
    | .open_, false => closingValue d s
    | .heldOpen, false => closingValue d s
    | .closed, false => s
    | _, true => doorOpened d s
    | _, false => doorClosed d s

/-- The causes of DOOR_UNKNOWN (R92), in the rule's order. -/
inductive UnknownCause where
  | stalePoint | unreachable | unconfirmed | inService
  deriving DecidableEq, Repr

/-- R92: a door enters UNKNOWN, unless it stands there. -/
def doorUnknown (d : Nat) (cause : UnknownCause) (s : State) : State :=
  match slotGet s.doors d with
  | none => s
  | some r =>
    if r.state = .unknown then s
    else raise .doorUnknown (.door d) (some r.state.ctorIdx) (some cause.ctorIdx)
      (enterDoorState d .unknown
        (fun x => { x with level := none, openSince := none, heldFlag := false, window := none }) s)

/-- R92: the door monitor takes a report of a new contact state of a node, by rising door number (log 21). -/
def doorContact (bus : Bus) (addr : Nat) (new : Contact) (s : State) : State :=
  let doors := slotsWhere (fun d => d.binding.bus == bus && d.binding.addr == addr) s.config.doors
  match new with
  | .inContact => s
  | .unreachable => forEach doors (fun d => doorUnknown d .unreachable) s
  | .unconfirmed => forEach doors (fun d => doorUnknown d .unconfirmed) s
  | .inService => forEach doors (fun d => doorUnknown d .inService) s

/-- R90: when the held-open timer of a door expires; none while the door is not OPEN. -/
def heldOpenAt (c : RunningConfig) (r : DoorRec) : Option Nat :=
  if r.state = .open_ then r.openSince.map (· + c.doorParams.heldOpen * 1000) else none

/-- R87: when the chatter timer of a door expires. -/
def chatterAt (r : DoorRec) : Option Nat := r.window.map (·.start + Config.chatterWindowMs)

/-- R90: the held-open timer expires for an OPEN door. The presence hold comes before DOOR_HELD_OPEN, and so does the
PRESENCE_TABLE_FULL that it may bring (log 21). -/
def becomeHeldOpen (d : Nat) (s : State) : State :=
  match slotGet s.config.doors d with
  | none => s
  | some cfg =>
    raise .doorHeldOpen (.door d) (some cfg.zone) (quantity s.config.doorParams.heldOpen)
      (enterDoorState d .heldOpen (fun r => { r with heldFlag := true }) s)

/-- R91: the judgement of a CHATTERING door's window that ended at `t`. -/
def judgeChatter (d : Nat) (w : CountWindow) (value : Option Int) (t : Nat) (s : State) : State :=
  match decide (2 < w.count), value with
  | true, _ => changeDoor d (fun x => { x with window := some ⟨t, 0⟩ }) s
  | false, some 0 =>
    enterDoorState d .closed
      (fun x => { x with level := some false, openSince := none, heldFlag := false, window := none }) s
  | false, some _ =>
    enterDoorState d .open_ (fun x => { x with level := some true, openSince := some t, window := none }) s
  | false, none => changeDoor d (fun x => { x with window := some ⟨t, 0⟩ }) s

/-- R87, R91: the counting window of a door has ended. -/
def endCounting (d : Nat) (cfg : DoorDef) (state : DoorState) (w : CountWindow) (s : State) : State :=
  if state = .chattering then
    judgeChatter d w ((getPoint s cfg.binding).bind PointRec.value) (w.start + Config.chatterWindowMs) s
  else changeDoor d (fun x => { x with window := none }) s

/-- R87, R91: the chatter timer of a door expires. -/
def chatterExpiry (d : Nat) (s : State) : State :=
  match slotGet s.doors d, slotGet s.config.doors d with
  | some r, some cfg =>
    match r.window with
    | none => s
    | some w => whenDue (w.start + Config.chatterWindowMs) (endCounting d cfg r.state w) s
  | _, _ => s

/-- R94: the run-on of a door's curtain expires. -/
def runOnExpiry (d : Nat) (s : State) : State :=
  match (slotGet s.doors d).bind DoorRec.runOn with
  | none => s
  | some t => whenDue t (changeDoor d fun r => { r with request := 0, runOn := none }) s

/-- R93: what a door in this state contributes to a zone. -/
def boostTo (z : Nat) (cfg : DoorDef) (r : DoorRec) : Nat :=
  if r.state ≠ .open_ then 0
  else if cfg.zone = z then cfg.boost
  else if cfg.neighbours.contains z then cfg.boost / 2
  else 0

/-- R93: the door boost of a zone. -/
def doorBoost (s : State) (z : Nat) : Nat :=
  (s.config.doors.map fun e => ((slotGet s.doors e.1).map (boostTo z e.2)).getD 0).sum

/-- R85, R97: a door after its definition or a start. These rules do not give its time of entry; it is the moment of the
definition, or 0 at a start (log 58). -/
def freshDoor (now : Nat) : DoorRec where
  state := .unknown
  level := none
  openSince := none
  heldFlag := false
  window := none
  request := 0
  runOn := none
  entered := now

/-- HELD_OPEN_TIMER_EXPIRES (R90). -/
def execHeldOpenTimerExpires (door : Nat) (s : State) : Result :=
  whenPowered (fun s =>
    match (slotGet s.doors door).bind (heldOpenAt s.config) with
    | none => s
    | some t => whenDue t (becomeHeldOpen door) s) s

/-- CHATTER_TIMER_EXPIRES (R87, R91). -/
def execChatterTimerExpires (door : Nat) (s : State) : Result := whenPowered (chatterExpiry door) s

/-- CURTAIN_RUN_ON_EXPIRES (R94). -/
def execCurtainRunOnExpires (door : Nat) (s : State) : Result := whenPowered (runOnExpiry door) s

end Sys2Proof.Machine
end

