-- ==== Sys2Proof/Machine/Points.lean ====
section
/-! DEFINITION. The point table (chapter 4): delivered values, write results, staleness, contact marks. -/

namespace Sys2Proof.Machine

/-- R72: hand each door of the point a value that has just been delivered with status FRESH. Several doors of one point
take it by rising door number, where R72 gives no order (log 21). -/
def handDoors (p : PointRef) (v : Int) (s : State) : State :=
  if (getPoint s p).any fun r => r.status == .fresh then
    forEach (doorsAt s.config p) (fun d => doorValue d (v != 0)) s
  else s

/-- R68, R70, R71: the status that a value takes from the node's contact state; the points of a node that is
neither IN_CONTACT nor IN_SERVICE are STALE until it is readmitted and scanned (log 12). -/
def deliveredStatus : Contact → PointStatus
  | .inContact => .fresh
  | .inService => .service
  | _ => .stale

/-- Put a value into a point record of a field node now, and hand it to the point's doors (R68, R71, R72). -/
def takeValue (p : PointRef) (v : Int) (s : State) : State :=
  let c := contactOf s p.bus p.addr
  handDoors p v
    (changePoint p (fun r => { r with value := some v, time := some s.now, status := deliveredStatus c }) s)

/-- R68: a value read from a field node. -/
def deliverRead (p : PointRef) (v : Int) (s : State) : State :=
  if (getPoint s p).isNone then s
  else if isOutput s.config p then changePoint p (fun r => { r with readback := some v.toNat }) s
  else takeValue p v s

/-- R68: a delivery of the terminal block. -/
def deliverTerminal (t : Nat) (v : Int) (s : State) : State :=
  handDoors (terminalPoint t) v
    (changePoint (terminalPoint t) (fun r => { r with
      value := some v, time := some s.now, status := .fresh }) s)

/-- R71: a write is queued for the point. -/
def writeQueued (p : PointRef) (s : State) : State := changePoint p (fun r => { r with lastWrite := .queued }) s

/-- R71: a write to a field point has succeeded. -/
def writeOk (p : PointRef) (v tries : Nat) (s : State) : State :=
  let t := changePoint p (fun r => { r with lastWrite := .ok, tries := tries }) s
  if isOutput s.config p && (getPoint s p).isSome then takeValue p v t else t

/-- R71: a write has ended FAILED. -/
def writeFailed (p : PointRef) (tries : Nat) (s : State) : State :=
  changePoint p (fun r => { r with lastWrite := .failed, tries := tries }) s

/-- R70: the status after a STALE mark. -/
def staleStatus : PointStatus → PointStatus
  | .fresh => .stale
  | .service => .stale
  | st => st

/-- R69, R70, R72: the point goes STALE if it holds a value, and its doors are told, by rising door number
(log 21). -/
def markStale (p : PointRef) (s : State) : State :=
  match getPoint s p with
  | none => s
  | some r =>
    let t := changePoint p (fun x => { x with status := staleStatus x.status }) s
    if r.status ≠ staleStatus r.status then forEach (doorsAt s.config p) (fun d => doorUnknown d .stalePoint) t
    else t

/-- The points of a node, as many as its definition gives. -/
def nodePoints (c : RunningConfig) (bus : Bus) (addr : Nat) : List PointRef :=
  (List.range ((pointCount c bus addr).getD 0)).map fun i => ⟨bus, addr, i⟩

/-- R70: a point that holds a value is marked SERVICE. -/
def serviceStatus : PointStatus → PointStatus
  | .fresh => .service
  | .stale => .service
  | st => st

/-- R70: a SERVICE point goes STALE on IN_CONTACT. -/
def inContactMark (p : PointRef) (s : State) : State :=
  if (getPoint s p).any fun r => r.status == .service then markStale p s else s

/-- R70: the mark of one point of a node whose contact state is newly `new`. -/
def contactMark (new : Contact) (down : Bool) (p : PointRef) (s : State) : State :=
  match new, down with
  | .inContact, _ => inContactMark p s
  | .inService, false => changePoint p (fun r => { r with status := serviceStatus r.status }) s
  | _, _ => markStale p s

/-- The line of a bus is DOWN. -/
def busDown (s : State) (bus : Bus) : Bool := (lineOf bus).any fun l => isDown (getLine s l)

/-- R70: the point table takes a report of a new contact state, by rising point number (log 21). -/
def pointContact (bus : Bus) (addr : Nat) (new : Contact) (s : State) : State :=
  forEach (nodePoints s.config bus addr) (contactMark new (busDown s bus)) s

/-- R69: when the staleness timer of a point expires: an INPUT point of a field node, FRESH, with a scan
period. -/
def staleAt (s : State) (p : PointRef) : Option Nat :=
  match getPoint s p, scanPeriod s.config p with
  | some r, some period =>
    if r.status = .fresh && !isOutput s.config p then r.time.map (· + ageLimit period) else none
  | _, _ => none

/-- R69: a point whose expiry lies in the past goes STALE at once. -/
def restale (p : PointRef) (s : State) : State :=
  match staleAt s p with
  | none => s
  | some t => if t < s.now then markStale p s else s

/-- R75: the one-off read of a point has ended; a PENDING point returns to NEVER_READ. A later read of the point that waits
in the list does not keep the record as it was (log 38). -/
def oneOffEnded (p : PointRef) (s : State) : State :=
  changePoint p (fun r => { r with
    oneOffWaiting := false, status := if r.status = .pending then .neverRead else r.status }) s

/-- R67: create the records of a node's points afresh. -/
def createPoints (bus : Bus) (addr count : Nat) (points : Table PointRec) : Table PointRec :=
  (List.range count).foldl (fun t i => slotSet t (pointKey ⟨bus, addr, i⟩) freshPoint) points

/-- R67: remove every record of a node. -/
def removePoints (bus : Bus) (addr : Nat) (points : Table PointRec) : Table PointRec :=
  points.filter fun e => e.1 / 16 != nodeKey bus addr

/-- STALENESS_TIMER_EXPIRES (R69). -/
def execStalenessTimerExpires (point : PointRef) (s : State) : Result :=
  whenPowered (fun s =>
    match staleAt s point with
    | none => s
    | some t => whenDue t (markStale point) s) s

end Sys2Proof.Machine
end

