-- ==== Sys2Proof/Machine/Arbiter.lean ====
section
/-! DEFINITION. The field write queue (R35, R37) and the line arbiter (R29, R30, R33, R34). -/

namespace Sys2Proof.Machine

/-! ## The field write queue -/

/-- R35: the entry is for this node and point. -/
def entryFor (node point : Nat) (e : QueueEntry) : Bool := e.node == node && e.point == point

/-- R35: a write joins the queue, or replaces the value of the queued entry for its point. -/
def joinQueue (node point value : Nat) (origin : Origin) (queue : List QueueEntry) : List QueueEntry :=
  if queue.any (entryFor node point) then
    queue.map fun e => if entryFor node point e then { e with value := value, tries := 0 } else e
  else queue ++ [⟨node, point, value, origin, 0⟩]

/-- The HOST entries of a queue (R35). -/
def hostEntries (queue : List QueueEntry) : Nat := queue.countP fun e => e.origin == .host

/-- R35, R74: a write that needs a new HOST entry finds eight in the queue. -/
def hostQueueFull (node point : Nat) (queue : List QueueEntry) : Bool :=
  !queue.any (entryFor node point) && decide (8 ≤ hostEntries queue)

/-- R35, R71: queue a write on a line. -/
def queueWrite (l : LineId) (node point value : Nat) (origin : Origin) (s : State) : State :=
  writeQueued ⟨busOf l, node, point⟩
    (changeLine l (fun line => { line with queue := joinQueue node point value origin line.queue }) s)

/-! ## The arbiter -/

/-- Number of a scan entry in its line's table of scan times. -/
def scanKey (node first : Nat) : Nat := node * 16 + first

/-- R33: the entry is due. -/
def scanDue (now : Nat) (line : Line) (e : ScanDef) : Bool :=
  (slotGet line.scan (scanKey e.node e.first)).any fun t => decide (t.due ≤ now)

/-- R29: the due probe that has been due longest, the lowest address among equals. -/
def dueProbe (now : Nat) : Table NodeRec → Option (Nat × Nat)
  | [] => none
  | (addr, n) :: rest =>
    match n.probeDue with
    | none => dueProbe now rest
    | some t =>
      if now < t then dueProbe now rest
      else match dueProbe now rest with
        | none => some (addr, t)
        | some (addr', t') => if t ≤ t' then some (addr, t) else some (addr', t')

/-- R29: the head of the fetch list, when its node is worked. -/
def fetchHead (line : Line) : Option Nat :=
  match line.fetch with
  | [] => none
  | addr :: _ => if nodeWorked line addr then some addr else none

/-- R29, R34: the first one-off read. -/
def oneOffHead (line : Line) : Option NodePoint :=
  match line.oneOffs with
  | [] => none
  | p :: _ => if nodeWorked line p.node then some p else none

/-- R29: the first work that can be issued: node and work. -/
def nextWork (now : Nat) (cfg : LineCfg) (line : Line) : Option (Nat × TxnWork) :=
  match line.queue.find? fun e => nodeWorked line e.node with
  | some e => some (e.node, .writePoint e)
  | none =>
    match fetchHead line with
    | some addr => some (addr, .fetchEvents)
    | none =>
      match dueProbe now line.nodes with
      | some (addr, _) => some (addr, .probe)
      | none =>
        match oneOffHead line with
        | some p => some (p.node, .readPoints p.point 1 true)
        | none =>
          match cfg.scan.find? fun e => scanDue now line e && nodeWorked line e.node with
          | some e => some (e.node, .readPoints e.first e.count false)
          | none => none

/-- R42: the next probe of a SILENT node falls due 5 s after this one fell due; an UNPROBED node's is
set when this one ends (R41). -/
def probeIssued (n : NodeRec) : NodeRec :=
  { n with probeDue := if n.state = .silent then n.probeDue.map (· + Config.silentProbeMs) else none }

/-- R32, R33: the period of the entry for this node and first point. -/
def entryPeriod (cfg : LineCfg) (node first : Nat) : Nat :=
  ((cfg.scan.find? fun e => e.node == node && e.first == first).map fun e => periodMs e.period).getD 0

/-- R33: an entry is issued at `now`: its next period runs from then. -/
def scanIssued (now period : Nat) (_ : ScanTime) : ScanTime := ⟨some now, now + period⟩

/-- What the grant takes out of the line's lists (R31, R33, R34, R36). -/
def takeWork (now : Nat) (cfg : LineCfg) (node : Nat) (work : TxnWork) (line : Line) : Line :=
  match work with
  | .writePoint e => { line with queue := line.queue.erase e }
  | .fetchEvents => { line with fetch := line.fetch.erase node }
  | .probe => { line with nodes := slotChange probeIssued line.nodes node }
  | .readPoints first _ true => { line with oneOffs := line.oneOffs.erase ⟨node, first⟩ }
  | .readPoints first _ false =>
    { line with scan := slotChange (scanIssued now (entryPeriod cfg node first)) line.scan (scanKey node first) }

/-- R25: the reply timeout runs from the end of the request's last character. -/
def replyExpiry (now : Nat) (cfg : LineCfg) (node : Nat) (work : TxnWork) : Nat :=
  now + sendMs cfg.bitRate (requestFrame node work).length + cfg.timeout

/-- R29: grant the line of a controller, if it is free and some work can be issued. -/
def grantLine (now : Nat) (cfg : LineCfg) (line : Line) : Line :=
  if isDown line || line.inFlight.isSome then line
  else match nextWork now cfg line with
    | none => line
    | some (node, work) =>
      { takeWork now cfg node work line with
        noiseCounted := false
        inFlight := some ⟨node, work, .waiting (replyExpiry now cfg node work), false⟩ }

/-- R29: work may have arrived, or a line become free: each arbiter grants what it can. It stands at the
end of each command that can bring work. -/
def grantLines (s : State) : State :=
  { s with
    lineA := grantLine s.now s.config.lineA s.lineA
    lineB := grantLine s.now s.config.lineB s.lineB }

/-- SCAN_PERIOD_EXPIRES (R33). -/
def execScanPeriodExpires (line : LineId) (addr first : Nat) (s : State) : Result :=
  whenPowered (fun s =>
    match slotGet (getLine s line).scan (scanKey addr first) with
    | none => s
    | some t => whenDue t.due grantLines s) s

/-- PROBE_TIMER_EXPIRES (R41, R42). -/
def execProbeTimerExpires (line : LineId) (addr : Nat) (s : State) : Result :=
  whenPowered (fun s =>
    match (slotGet (getLine s line).nodes addr).bind NodeRec.probeDue with
    | none => s
    | some t => whenDue t grantLines s) s

end Sys2Proof.Machine
end

