-- ==== Sys2Proof/Machine/Loads.lean ====
section
/-! DEFINITION. Loads (chapter 7): terminal drives (R64, R65), load commands (R140), the control state and
readmission (R119, R122, R123), goals (R154, R169), cuts at a publication (R156, R170), and the entry into
EMERGENCY (R158, R179, R180). -/

namespace Sys2Proof.Machine

/-! ## Terminal outputs -/

/-- R71: a drive or strain switch of a terminal has succeeded, and delivers its value. -/
def driven (t : Nat) (v : Nat) (s : State) : State :=
  deliverTerminal t v (changePoint (terminalPoint t) (fun r => { r with lastWrite := .ok, tries := 1 }) s)

/-- R64: drive a terminal with an applied fraction. -/
def driveTerminal (t v : Nat) (s : State) : State :=
  match functionOf s.config t with
  | .relayOut =>
    driven t (if v = 1000 then 1 else 0) (changeTerminal t (fun r => { r with relayClosed := decide (v = 1000) }) s)
  | .dimOut => driven t v (changeTerminal t (fun r => { r with dimMillivolts := 10 * v }) s)
  | _ => s

/-- R65: a STRAIN_OUT terminal takes the strain state. -/
def switchStrainOut (on : Bool) (t : Nat) (s : State) : State :=
  driven t (if on then 1 else 0) (changeTerminal t (fun r => { r with relayClosed := on }) s)

/-- The terminals of a function that satisfies `p`. -/
def terminalsOf (c : RunningConfig) (p : TermFunction → Bool) : List Nat := slotsWhere p c.functions

/-- The function is STRAIN_OUT. -/
def isStrainOut (f : TermFunction) : Bool :=
  match f with
  | .strainOut => true
  | _ => false

/-- R65: every STRAIN_OUT terminal switches. -/
def switchStrain (on : Bool) (s : State) : State :=
  forEach (terminalsOf s.config isStrainOut) (switchStrainOut on) s

/-! ## Load commands (R140) -/

/-- R140: the value written for an applied fraction. -/
def writtenValue (d : Drive) (applied : Nat) : Nat :=
  match d with
  | .modulating => applied
  | .step => if applied = 1000 then 1 else 0

/-- R140: issue a command for a load. -/
def issueCommand (k : Nat) (s : State) : State :=
  match slotGet s.config.loads k, slotGet s.loads k with
  | some d, some r =>
    let t := changeLoad k (fun x => { x with lastCommand := some r.applied, refreshAt := s.now + Config.refreshMs }) s
    match lineOf d.binding.bus with
    | none => driveTerminal (d.binding.point + 1) r.applied t
    | some l => queueWrite l d.binding.addr d.binding.point (writtenValue d.drive r.applied) .internal t
  | _, _ => s

/-- The distance of two fractions. -/
def distance (a b : Nat) : Nat := (a - b) + (b - a)

/-- R140: the applied fraction calls for a command. -/
def commandDue (now : Nat) (r : LoadRec) : Bool :=
  match r.lastCommand with
  | none => true
  | some last =>
    decide (10 ≤ distance r.applied last)
      || ((r.applied == 0 || r.applied == 1000) && r.applied != last)
      || decide (r.refreshAt ≤ now)

/-- R140: check a load for a command. -/
def checkCommand (k : Nat) (s : State) : State :=
  if (slotGet s.loads k).any (commandDue s.now) then issueCommand k s else s

/-! ## Goals, levels and emergency values -/

/-- R154, R169: the goal that a demand, a drive and the grant give. -/
def goalOf (drive : Drive) (limited : Bool) (demand fraction : Nat) : Nat :=
  match drive, limited with
  | .modulating, true => min demand fraction
  | .modulating, false => demand
  | .step, true => if 0 < demand ∧ fraction = 1000 then 1000 else 0
  | .step, false => if 0 < demand then 1000 else 0

/-- R117: the grant limits the applied fraction: CONTROLLED and not exempt. -/
def isLimited (r : LoadRec) : Bool := r.controlled && !r.exempt

/-- R158, R179: the fraction that EMERGENCY gives a load of a kind. -/
def emergencyFraction (vent : EmergencyVent) : LoadKind → Nat
  | .light => 1000
  | .heater => 0
  | .curtain => 0
  | .exhaustFan => if vent = .extract then 1000 else 0
  | .supplyFan => 0

/-- R121: EMERGENCY exempts loads of this kind. -/
def emergencyExempt (vent : EmergencyVent) : LoadKind → Bool
  | .light => true
  | .exhaustFan => vent == .extract
  | _ => false

/-- R158, R179: the record of a load under EMERGENCY at its hand-off. -/
def emergencyLoad (vent : EmergencyVent) (kind : LoadKind) (r : LoadRec) : LoadRec :=
  let f := emergencyFraction vent kind
  let x := { r with
    posted := f
    goal := f
    applied := f
    light := if kind = .light then some ⟨.emergency, 1000, 1000⟩ else r.light }
  if emergencyExempt vent kind then { x with reason := .emergency, exempt := true } else x

/-- R158, R179: set one load to its emergency value and check it for a command. -/
def enterEmergencyLoad (k : Nat) (s : State) : State :=
  match slotGet s.config.loads k with
  | none => s
  | some d => checkCommand k (changeLoad k (emergencyLoad s.config.climate.vent d.kind) s)

/-- R179: under STOP a zone's ventilation falls to stage 0, its dwell, purge clear and gas stale flag cleared. Stage
entered at becomes now for a zone whose stage was not 0, and stays for one that stood at 0 (log 55). GAS_PURGE_END gives
whole seconds, rounded down (log 41). -/
def stopVentilation (z : Nat) (s : State) : State :=
  match slotGet s.climate z with
  | none => s
  | some r =>
    let t := changeClimate z (fun x => { x with
      stage := 0
      stageAt := if x.stage = 0 then x.stageAt else s.now
      dwell := none, purgeClear := none, gasStale := false }) s
    if r.stage = 4 then
      raise .gasPurgeEnd (.zone z) (quantity r.gasIndex) (quantity ((s.now - r.stageAt) / 1000)) t
    else t

/-- R179: the stages at a hand-off of EMERGENCY with this setting; under STOP the zones by rising number, which orders
their GAS_PURGE_END (log 21). -/
def emergencyStages (s : State) : State :=
  match s.config.climate.vent with
  | .stop => forEach (slotNumbers s.climate) stopVentilation s
  | .extract => s

/-- R158, R179: the hand-off of an entry into EMERGENCY: the loads by rising number, which orders their commands
(log 54), and then the stages. -/
def handEmergency (s : State) : State :=
  emergencyStages (forEach (slotNumbers s.config.loads) enterEmergencyLoad s)

/-- The load is an exhaust or a supply fan. -/
def isFan : LoadKind → Bool
  | .exhaustFan => true
  | .supplyFan => true
  | _ => false

/-- R180: a change of the emergency ventilation setting in EMERGENCY sets the fans, by rising number (log 54), and the
stages. -/
def handVentilation (s : State) : State :=
  emergencyStages (forEach (slotsWhere (fun d => isFan d.kind) s.config.loads) enterEmergencyLoad s)

/-! ## Control state (R122, R123) -/

/-- R122: the load goes UNCONTROLLED at `now`; a node hold allowance of 0 gives the fallback at once. -/
def loseLoad (now nodeHold fallback assumed : Nat) (r : LoadRec) : LoadRec :=
  { r with
    controlled := false
    unreachableSince := some now
    assumed := some (if nodeHold = 0 then fallback else assumed)
    holdRunning := decide (nodeHold ≠ 0) }

/-- R123: the load goes CONTROLLED, its applied fraction and goal to `applied`. -/
def readmitLoad (applied : Nat) (r : LoadRec) : LoadRec :=
  { r with
    controlled := true
    unreachableSince := none
    assumed := none
    holdRunning := false
    grant := 0
    grantFraction := 0
    previousGrant := 0
    applied := applied
    goal := applied }

/-- R122: a contact state under which a load is CONTROLLED. -/
def isControlledIn : Contact → Bool
  | .inContact => true
  | .unconfirmed => true
  | _ => false

/-- R123: the fraction at readmission. -/
def readmittedFraction (s : State) (kind : LoadKind) : Nat :=
  if s.mode = .emergency then emergencyFraction s.config.climate.vent kind else 0

/-- R122, R123: one load takes a report of its node's new contact state. -/
def loadTakesContact (new : Contact) (k : Nat) (s : State) : State :=
  match slotGet s.config.loads k, slotGet s.loads k with
  | some d, some r =>
    if isControlledIn new = r.controlled then s
    else if r.controlled then
      changeLoad k (loseLoad s.now s.config.budget.nodeHold d.fallback r.applied) s
    else checkCommand k (changeLoad k (readmitLoad (readmittedFraction s d.kind)) s)
  | _, _ => s

/-- R122: the budget unit takes a report of a new contact state: the node's loads by rising number, which orders the
commands of those readmitted (log 54). -/
def loadContact (bus : Bus) (addr : Nat) (new : Contact) (s : State) : State :=
  forEach (slotsWhere (fun d => d.binding.bus == bus && d.binding.addr == addr) s.config.loads)
    (loadTakesContact new) s

/-- R122: when the node hold timer of a load expires. -/
def nodeHoldAt (c : RunningConfig) (r : LoadRec) : Option Nat :=
  if r.holdRunning then r.unreachableSince.map (· + c.budget.nodeHold * 1000) else none

/-- R122: the node hold timer expires: the assumed fraction becomes the fallback fraction. -/
def takeFallback (k : Nat) (s : State) : State :=
  match slotGet s.config.loads k with
  | none => s
  | some d => changeLoad k (fun r => { r with assumed := some d.fallback, holdRunning := false }) s

/-- R119: a load record after its definition or a start; its control state from the contact state of its
node. -/
def freshLoad (now : Nat) (contact : Contact) (nodeHold : Nat) (d : LoadDef) : LoadRec :=
  let r : LoadRec := {
    posted := 0
    reason := .none
    exempt := false
    effClass := d.cls
    grant := 0
    grantFraction := 0
    previousGrant := 0
    applied := 0
    controlled := true
    unreachableSince := none
    assumed := none
    holdRunning := false
    lastCommand := none
    refreshAt := now
    goal := 0
    light := if d.kind = .light then some ⟨.scene, 0, 0⟩ else none }
  if isControlledIn contact then r else loseLoad now nodeHold d.fallback 0 r

/-! ## Cuts at a publication (R156, R170) -/

/-- R156, R170: the fraction to which a publication cuts a load above its new grant fraction. -/
def cutFraction (minDim : Nat) (d : LoadDef) (fraction : Nat) : Nat :=
  match d.drive with
  | .step => if fraction = 1000 then 1000 else 0
  | .modulating => if d.kind = .light ∧ fraction < minDim then 0 else fraction

/-- R156, R170: one load takes the publication. -/
def cutLoad (k : Nat) (s : State) : State :=
  match slotGet s.config.loads k, slotGet s.loads k with
  | some d, some r =>
    if isLimited r && decide (r.grantFraction < r.applied) then
      let f := cutFraction s.config.lighting.minDim d r.grantFraction
      checkCommand k (changeLoad k (fun x => { x with applied := f, goal := f }) s)
    else s
  | _, _ => s

/-- NODE_HOLD_TIMER_EXPIRES (R122). -/
def execNodeHoldTimerExpires (load : Nat) (s : State) : Result :=
  whenPowered (fun s =>
    match (slotGet s.loads load).bind (nodeHoldAt s.config) with
    | none => s
    | some t => whenDue t (takeFallback load) s) s

/-- COMMAND_REFRESH_EXPIRES (R140). It judges the record's refresh expiry alone: one that waited behind a start finds a
group's new record due at once (R119), and issues its command before the first step (log 51). -/
def execCommandRefreshExpires (load : Nat) (s : State) : Result :=
  whenPowered (fun s =>
    match slotGet s.loads load with
    | none => s
    | some r => whenDue r.refreshAt (fun s => grantLines (issueCommand load s)) s) s

end Sys2Proof.Machine
end

