-- ==== Sys2Proof/Machine/Contact.lean ====
section
/-! DEFINITION. Reports of changed contact states (R44), and what a line does to its nodes as a whole:
LINE_DOWN (R46, R47), recovery (R48) and LINE RESTART (R49). -/

namespace Sys2Proof.Machine

/-! ## Reports -/

/-- R44: report a node's new contact state to the point table, the door monitor, the occupancy unit and the
budget unit, if it has changed. The event filter reads the state when it takes an event (R76). -/
def reportContact (bus : Bus) (addr : Nat) (old : Contact) (s : State) : State :=
  let new := contactOf s bus addr
  if new = old then s
  else loadContact bus addr new (presenceContact bus addr new (doorContact bus addr new (pointContact bus addr new s)))

/-- R44: report every node of a line whose contact state differs from what it was on `before`, by rising address
(logs 21 and 54). -/
def reportLine (l : LineId) (before : Line) (s : State) : State :=
  forEach (slotNumbers before.nodes) (fun addr => reportContact (busOf l) addr (lineContact before addr)) s

/-! ## Nodes -/

/-- R33: the scan entries of a node that `p` picks become due at once. -/
def dueAtOnce (now : Nat) (p : Nat → Bool) (scan : Table ScanTime) : Table ScanTime :=
  slotMap (fun key t => if p (key / 16) then { t with due := now } else t) scan

/-- A node enters a state (R38: its time of entry). -/
def enterNode (now : Nat) (state : NodeState) (n : NodeRec) : NodeRec := { n with state := state, entered := some now }

/-- R41: a node becomes UNPROBED with score 0 and no good probes; a probe is due at once. -/
def becomeUnprobed (now : Nat) (n : NodeRec) : NodeRec :=
  { enterNode now .unprobed n with score := 0, goodProbes := 0, probeDue := some now }

/-- R48, R49: a node of a line that recovers or restarts. -/
def renewNode (now : Nat) (n : NodeRec) : NodeRec :=
  if n.state = .service then { n with score := 0 } else becomeUnprobed now n

/-- R38: a node record created now, due for its first probe; the remaining fields are none, the time of entry among
them. -/
def freshNode (now : Nat) : NodeRec where
  state := .unprobed
  score := 0
  goodProbes := 0
  waiting := 0
  probe := none
  lastGood := none
  entered := none
  lastOutcome := none
  probeDue := some now

/-- R34: the one-off reads of a line that `p` picks leave the list unissued, and the point table is told. -/
def dropOneOffs (l : LineId) (p : NodePoint → Bool) (s : State) : State :=
  let gone := (getLine s l).oneOffs.filter p
  forEach gone (fun q => oneOffEnded ⟨busOf l, q.node, q.point⟩)
    (changeLine l (fun line => { line with oneOffs := line.oneOffs.filter fun q => !p q }) s)

/-- R31, R34: a node leaves ONLINE, DEGRADED and SERVICE: the fetch list and the one-off reads lose it. -/
def leaveLists (l : LineId) (addr : Nat) (s : State) : State :=
  dropOneOffs l (fun q => q.node == addr)
    (changeLine l (fun line => { line with fetch := line.fetch.filter fun a => a != addr }) s)

/-! ## The line as a whole -/

/-- R25, R36: what the point table is told of a transaction that is abandoned; a write counts the attempt
in flight (log 32). -/
def abandonedWork (l : LineId) (x : Txn) (s : State) : State :=
  if x.voided then s
  else match x.work with
    | .writePoint e => writeFailed ⟨busOf l, e.node, e.point⟩ (e.tries + 1) s
    | .readPoints first _ true => oneOffEnded ⟨busOf l, x.node, first⟩ s
    | _ => s

/-- R25: abandon the transaction in flight. -/
def abandon (l : LineId) (s : State) : State :=
  match (getLine s l).inFlight with
  | none => s
  | some x => abandonedWork l x (changeLine l (fun line => { line with inFlight := none, noiseCounted := false }) s)

/-- R31, R34: empty the fetch list and the one-off read list. -/
def emptyLists (l : LineId) (s : State) : State :=
  dropOneOffs l (fun _ => true) (changeLine l (fun line => { line with fetch := [] }) s)

/-- R70: mark every point of a line's nodes STALE. -/
def markLineStale (l : LineId) (s : State) : State :=
  forEach (slotNumbers (getLine s l).nodes)
    (fun addr => forEach (nodePoints s.config (busOf l) addr) markStale) s

/-- R47: the line enters LINE_DOWN, its count at 255. -/
def enterLineDown (l : LineId) (s : State) : State :=
  let before := getLine s l
  let t := raise .lineDown (.line l) (some 255) none
    (changeLine l (fun line => { line with
      errors := 255, state := .down (.resting (s.now + Config.lineRestMs)) }) s)
  reportLine l before (markLineStale l (emptyLists l (abandon l t)))

/-- R46: the count at which a line is in LINE_WARN. -/
def warnCount : Nat := 96

/-- R46: the line state follows the count. -/
def judgeLine (l : LineId) (s : State) : State :=
  let line := getLine s l
  match line.state with
  | .ok =>
    if warnCount ≤ line.errors then
      raise .lineWarn (.line l) (quantity line.errors) none (changeLine l (fun x => { x with state := .warn }) s)
    else s
  | .warn =>
    if line.errors < warnCount then
      raise .lineOk (.line l) (quantity line.errors) none (changeLine l (fun x => { x with state := .ok }) s)
    else s
  | .down _ => s

/-- R46: a line fault. -/
def lineFault (l : LineId) (s : State) : State :=
  if isDown (getLine s l) then s
  else if 255 < (getLine s l).errors + 8 then enterLineDown l s
  else judgeLine l (changeLine l (fun line => { line with errors := line.errors + 8 }) s)

/-- R46: a transaction that takes 1 from the count. -/
def lineCredit (l : LineId) (s : State) : State :=
  if isDown (getLine s l) then s
  else judgeLine l (changeLine l (fun line => { line with errors := line.errors - 1 }) s)

/-- R48: the line is recovered. -/
def recoverLine (l : LineId) (s : State) : State :=
  let before := getLine s l
  let isService := fun addr => (slotGet before.nodes addr).any fun n => n.state == .service
  let t := raise .lineOk (.line l) (some 0) none
    (changeLine l (fun line => { line with
      state := .ok
      errors := 0
      nodes := slotMap (fun _ n => renewNode s.now n) line.nodes
      scan := dueAtOnce s.now isService line.scan }) s)
  reportLine l before t

/-- R49: each queued write is recorded FAILED with its attempts so far. -/
def failQueue (l : LineId) (s : State) : State :=
  forEach (getLine s l).queue (fun e => writeFailed ⟨busOf l, e.node, e.point⟩ e.tries)
    (changeLine l (fun line => { line with queue := [] }) s)

/-- R49: a node of a restarted line, its waiting count 0 unless it is in SERVICE. -/
def restartNode (now : Nat) (n : NodeRec) : NodeRec :=
  if n.state = .service then renewNode now n else { renewNode now n with waiting := 0 }

/-- R49: restart a line. LINE_OK comes last, after the DOOR_UNKNOWN notices that its marks and reports bring: R199
leaves their order open, and the model takes R49's own sentences in their order (log 21). -/
def restartLine (l : LineId) (s : State) : State :=
  let before := getLine s l
  let t := changeLine l (fun line => { line with
    state := .ok, errors := 0,
    nodes := slotMap (fun _ n => restartNode s.now n) line.nodes }) (emptyLists l (failQueue l (abandon l s)))
  let u := reportLine l before (markLineStale l t)
  if before.state = .ok then u else raise .lineOk (.line l) (some 0) none u

/-! ## Commands -/

/-- R28: activity on a line while the controller listens. -/
def hearNoise (l : LineId) (s : State) : State :=
  let line := getLine s l
  match line.state with
  | .down (.listening ends quiet _) =>
    changeLine l (fun x => { x with state := .down (.listening ends quiet true) }) s
  | .down (.resting _) => s
  | _ =>
    if line.inFlight.isSome || line.noiseCounted then s
    else lineFault l (changeLine l (fun x => { x with noiseCounted := true }) s)

/-- R48: a listen window ends. -/
def endWindow (l : LineId) (ends quiet : Nat) (heard : Bool) (s : State) : State :=
  if heard then
    changeLine l (fun x => { x with state := .down (.listening (ends + Config.listenWindowMs) 0 false) }) s
  else if Config.quietWindows ≤ quiet + 1 then grantLines (recoverLine l s)
  else changeLine l (fun x => { x with
    state := .down (.listening (ends + Config.listenWindowMs) (quiet + 1) false) }) s

/-- IDLE_NOISE (R28, R48). -/
def execIdleNoise (line : LineId) (s : State) : Result := whenPowered (hearNoise line) s

/-- LINE_REST_END (R48). -/
def execLineRestEnd (line : LineId) (s : State) : Result :=
  whenPowered (fun s =>
    match (getLine s line).state with
    | .down (.resting ends) =>
      whenDue ends (changeLine line fun x =>
        { x with state := .down (.listening (ends + Config.listenWindowMs) 0 false) }) s
    | _ => s) s

/-- LISTEN_WINDOW_END (R48). -/
def execListenWindowEnd (line : LineId) (s : State) : Result :=
  whenPowered (fun s =>
    match (getLine s line).state with
    | .down (.listening ends quiet heard) => whenDue ends (endWindow line ends quiet heard) s
    | _ => s) s

end Sys2Proof.Machine
end

