-- ==== Sys2Proof/Machine/Filter.lean ====
section
/-! DEFINITION. The event filter (chapter 4): storm windows, the tests F1 to F6, the recent events list,
and what an accepted event does. -/

namespace Sys2Proof.Machine

/-- R77: a node's storm window after one more event. -/
def stormWindow (now : Nat) : Option CountWindow → CountWindow
  | none => ⟨now, 1⟩
  | some w =>
    if w.start + Config.stormWindowMs ≤ now then ⟨now, 1⟩ else ⟨w.start, min (w.count + 1) 65535⟩

/-- R78: the event suits a door point: DOOR_OPENED with 1, or DOOR_CLOSED with 0. -/
def suitsDoor (e : FieldEvent) : Bool :=
  match e.kind with
  | .doorOpened => e.value == 1
  | .doorClosed => e.value == 0
  | .presence => false

/-- R78, F1: the integrity test's condition. -/
def failsIntegrity (c : RunningConfig) (p : PointRef) (e : FieldEvent) : Bool :=
  !pointDefined c p
    || (!(doorsAt c p).isEmpty && !suitsDoor e)
    || (!(presenceZonesAt c p).isEmpty && e.kind != .presence)
    || !(loadsAt c p).isEmpty || isTemperaturePoint c p || isGasPoint c p || isDaylightPoint c p

/-- R78, F6: a zone of which the point is a presence source is CLOSED. -/
def inClosedZone (s : State) (p : PointRef) : Bool :=
  (presenceZonesAt s.config p).any fun z => (slotGet s.zones z).any fun r => r.state == .closed

/-- R78: the match set of an event with this storm count. -/
def matchSet (s : State) (p : PointRef) (e : FieldEvent) (storm : Nat) : MatchSet where
  f1 := failsIntegrity s.config p e
  f2 := contactOf s p.bus p.addr == .inService
  f3 := (doorsAt s.config p).isEmpty && (presenceZonesAt s.config p).isEmpty
  f4 := decide (s.config.filter.stormLimit < storm)
  f5 := decide (s.config.filter.staleLimit * 10 < e.age)
  f6 := e.kind == .presence && inClosedZone s p

/-- R78: the outcome: the first enabled test whose condition holds decides. -/
def decideOutcome (f : FilterCfg) (m : MatchSet) : FilterOutcome :=
  if m.f1 then .rejectedIntegrity
  else if f.f2 && m.f2 then .acceptedService
  else if f.f3 && m.f3 then .rejectedUnbound
  else if f.f4 && m.f4 then .rejectedStorm
  else if f.f5 && m.f5 then .rejectedStale
  else if f.f6 && m.f6 then .acceptedAlert
  else .accepted

/-- R81: how many records the recent events list holds. -/
def recentLength : Nat := 32

/-- R81: a record joins the recent events list. -/
def logEvent (r : EventRec) (recent : List EventRec) : List EventRec :=
  (recent ++ [r]).drop (recent.length + 1 - recentLength)

/-- R79: hand an accepted event on. -/
def handAccepted (p : PointRef) (kind : EventKind) (s : State) : State :=
  match kind with
  | .doorOpened => forEach (doorsAt s.config p) doorOpened s
  | .doorClosed => forEach (doorsAt s.config p) doorClosed s
  | .presence => forEach (presenceZonesAt s.config p) (fun z => presenceEvent z p false) s

/-- R79: hand a marked presence event to one zone, with a notice when it is CLOSED; it follows what the hand-off itself
raises (log 21). -/
def alertZone (p : PointRef) (z : Nat) (s : State) : State :=
  let t := presenceEvent z p true s
  if (slotGet s.zones z).any fun r => r.state == .closed then
    raise .closedZonePresence (.zone z) (nodeValue p.bus p.addr) (some p.point) t
  else t

/-- R79: act on an outcome. -/
def actOn (p : PointRef) (kind : EventKind) (outcome : FilterOutcome) (s : State) : State :=
  match outcome with
  | .accepted => handAccepted p kind s
  | .acceptedAlert => forEach (presenceZonesAt s.config p) (alertZone p) s
  | _ => s

/-- R76 to R81: the filter takes one event of a node. -/
def takeEvent (bus : Bus) (addr : Nat) (e : FieldEvent) (s : State) : State :=
  let p : PointRef := ⟨bus, addr, e.point⟩
  let w := stormWindow s.now (slotGet s.windows (nodeKey bus addr))
  let m := matchSet s p e w.count
  let outcome := decideOutcome s.config.filter m
  actOn p e.kind outcome
    { s with
      windows := slotSet s.windows (nodeKey bus addr) w
      recent := logEvent ⟨s.nextSeq, s.now, p, e.kind, e.age, e.value, w.count, m, outcome⟩ s.recent
      nextSeq := (s.nextSeq + 1) % 65536 }

end Sys2Proof.Machine
end

