-- ==== Sys2Proof/Machine/Lines.lean ====
section
/-! DEFINITION. Transactions of a field line (R25 to R43): how each ends, what its outcome does to the node,
the queue, the lists and the line, and what a good reply delivers. -/

namespace Sys2Proof.Machine

/-! ## Node state (R39 to R42) -/

/-- R39: the fault score after an outcome. -/
def scoreAfter (outcome : TxnOutcome) (score : Nat) : Nat :=
  match outcome with
  | .noReply => min (score + 4) 63
  | .badCheck => min (score + 3) 63
  | .malformed => min (score + 2) 63
  | .broken => min (score + 2) 63
  | .good => score - 1

/-- R38: the record of a transaction's outcome, and its score (R39). -/
def scoreNode (now : Nat) (outcome : TxnOutcome) (reply : Option GoodReply) (n : NodeRec) : NodeRec :=
  { n with
    score := scoreAfter outcome n.score
    lastOutcome := some outcome
    lastGood := if outcome = .good then some now else n.lastGood
    waiting := (reply.map GoodReply.waiting).getD n.waiting
    probe := match reply.map GoodReply.content with
      | some (.probed info) => some info
      | _ => n.probe }

/-- R41, R42: the node state and score after a probe, before R40 is judged. -/
def probeNode (now : Nat) (good : Bool) (n : NodeRec) : NodeRec :=
  match n.state, good with
  | .unprobed, true => { enterNode now .online n with score := 0, probeDue := none }
  | .unprobed, false =>
    { n with probeDue := if n.probeDue.isNone then some (now + Config.probeAgainMs) else n.probeDue }
  | .silent, true =>
    if 3 ≤ n.goodProbes + 1 then { enterNode now .online n with score := 8, goodProbes := 0, probeDue := none }
    else { n with goodProbes := n.goodProbes + 1 }
  | .silent, false => { n with goodProbes := 0 }
  | _, _ => n

/-- R40: the node enters SILENT; its first probe falls due 5 s later (R42). -/
def enterSilent (now : Nat) (n : NodeRec) : NodeRec :=
  { enterNode now .silent n with probeDue := some (now + Config.silentProbeMs) }

/-- R40: the state follows the score. -/
def judgeNode (now : Nat) (n : NodeRec) : NodeRec :=
  match n.state with
  | .online =>
    if 40 ≤ n.score then enterSilent now n
    else if 16 ≤ n.score then enterNode now .degraded n
    else n
  | .degraded =>
    if 40 ≤ n.score then enterSilent now n
    else if n.score ≤ 8 then enterNode now .online n
    else n
  | .unprobed => if 40 ≤ n.score then enterSilent now n else n
  | _ => n

/-- The transaction is a probe. -/
def isProbe : TxnWork → Bool
  | .probe => true
  | _ => false

/-- R39 to R42: a node record after a transaction addressed to it. -/
def nodeAfter (now : Nat) (work : TxnWork) (outcome : TxnOutcome) (reply : Option GoodReply) (n : NodeRec) :
    NodeRec :=
  let scored := scoreNode now outcome reply n
  judgeNode now (if isProbe work then probeNode now (outcome == .good) scored else scored)

/-- R40, R41, R42: the notice of a node's change of state. -/
def nodeNotice (l : LineId) (addr : Nat) (old new : NodeRec) (s : State) : State :=
  if old.state = new.state then s
  else match new.state with
    | .degraded => raise .nodeDegraded (.node l addr) (some new.score) (some old.state.ctorIdx) s
    | .silent => raise .nodeSilent (.node l addr) (some new.score) (some old.state.ctorIdx) s
    | .online => raise .nodeOnline (.node l addr) (some new.score) (some old.state.ctorIdx) s
    | _ => s

/-- R33, R40: what a node's change of state does to the line's lists and scan. -/
def nodeLists (l : LineId) (addr : Nat) (old new : NodeRec) (s : State) : State :=
  if old.state = new.state then s
  else match new.state with
    | .silent => leaveLists l addr s
    | .online => changeLine l (fun line => { line with scan := dueAtOnce s.now (· == addr) line.scan }) s
    | _ => s

/-- R39 to R44: apply an outcome to the node it addressed. -/
def applyToNode (l : LineId) (addr : Nat) (work : TxnWork) (outcome : TxnOutcome) (reply : Option GoodReply)
    (s : State) : State :=
  match slotGet (getLine s l).nodes addr with
  | none => s
  | some old =>
    let before := contactOf s (busOf l) addr
    let new := nodeAfter s.now work outcome reply old
    let t := changeLine l (fun line => { line with nodes := slotChange (fun _ => new) line.nodes addr }) s
    reportContact (busOf l) addr before (nodeLists l addr old new (nodeNotice l addr old new t))

/-! ## Fetch list and write results -/

/-- R31: the fetch list after a good reply from a worked node. -/
def fetchAfter (addr waiting : Nat) (line : Line) : Line :=
  if !nodeWorked line addr then line
  else if waiting = 0 then { line with fetch := line.fetch.filter fun a => a != addr }
  else if line.fetch.contains addr then line
  else { line with fetch := line.fetch ++ [addr] }

/-- R36: a failed write with tries 0 or 1 returns to the head of the queue, unless a newer entry for its
point stands there. -/
def returnEntry (e : QueueEntry) (queue : List QueueEntry) : List QueueEntry :=
  if queue.any (entryFor e.node e.point) then queue else { e with tries := e.tries + 1 } :: queue

/-- R36: the write after a first or second failure. It returns to the head of its queue; one that would wait there as
a ninth HOST entry after the grant that follows, where the queue may hold eight (R35), ends as FAILED with its attempts
so far instead (log 36). -/
def returnWrite (l : LineId) (e : QueueEntry) (s : State) : State :=
  let back := changeLine l (fun line => { line with queue := returnEntry e line.queue }) s
  if e.origin = .internal ∨ hostEntries (getLine (grantLines back) l).queue ≤ 8 then back
  else writeFailed ⟨busOf l, e.node, e.point⟩ (e.tries + 1) s

/-- R36: the result of a write that has succeeded, or has failed for the third time. -/
def writeResult (l : LineId) (e : QueueEntry) (outcome : TxnOutcome) (s : State) : State :=
  if outcome = .good then writeOk ⟨busOf l, e.node, e.point⟩ e.value (e.tries + 1) s
  else if e.tries < 2 then s
  else writeFailed ⟨busOf l, e.node, e.point⟩ 3 s

/-- R36: the write that comes back to its queue after this outcome. -/
def writeToReturn (work : TxnWork) (outcome : TxnOutcome) : Option QueueEntry :=
  match work with
  | .writePoint e => if outcome ≠ .good ∧ e.tries < 2 then some e else none
  | _ => none

/-! ## Content -/

/-- R27: the values of a READ POINTS reply, from the first point upward. -/
def deliverValues (bus : Bus) (addr : Nat) : Nat → List Nat → State → State
  | _, [], s => s
  | first, v :: rest, s => deliverValues bus addr (first + 1) rest (deliverRead ⟨bus, addr, first⟩ v s)

/-- R27: deliver the content of a good reply. -/
def deliverContent (l : LineId) (addr : Nat) (work : TxnWork) (content : ReplyContent) (s : State) : State :=
  match work, content with
  | .readPoints first _ _, .values vs => deliverValues (busOf l) addr first vs s
  | .fetchEvents, .events es => forEach es (takeEvent (busOf l) addr) s
  | _, _ => s

/-- R27, R36, R75: what the outcome delivers: a write's result, the content of a good reply, and the end of
a one-off read. -/
def deliver (l : LineId) (x : Txn) (outcome : TxnOutcome) (reply : Option GoodReply) (s : State) : State :=
  let t := match x.work with
    | .writePoint e => writeResult l e outcome s
    | _ => s
  let u := match reply with
    | some g => deliverContent l x.node x.work g.content
        (changeLine l (fetchAfter x.node g.waiting) t)
    | none => t
  match x.work with
  | .readPoints first _ true => oneOffEnded ⟨busOf l, x.node, first⟩ u
  | _ => u

/-- R46: what the outcome does to the line's error count. -/
def scoreLine (l : LineId) (outcome : TxnOutcome) (s : State) : State :=
  match outcome with
  | .broken => lineFault l s
  | .noReply => s
  | _ => lineCredit l s

/-- R29, R36: the line is free again; a write that failed comes back to its queue, and the arbiter grants. -/
def freeLine (l : LineId) (returning : Option QueueEntry) (s : State) : State :=
  match returning with
  | none => grantLines s
  | some e => grantLines (returnWrite l e s)

/-- R26, R27: a transaction ends with an outcome; a voided one ends without effect (R38). The arbiter then
grants the line (R29). The line's own notice comes after the node's and after those that the reply's content brings; R199
leaves the order between blocks open (log 21). -/
def endTransaction (l : LineId) (x : Txn) (outcome : TxnOutcome) (reply : Option GoodReply) (s : State) : State :=
  let t := changeLine l (fun line => { line with inFlight := none, noiseCounted := false }) s
  if x.voided then grantLines t
  else freeLine l (writeToReturn x.work outcome)
    (scoreLine l outcome (deliver l x outcome reply (applyToNode l x.node x.work outcome reply t)))

/-- The definition a reply is judged by (R41); a voided transaction has none and is judged by nothing. -/
def replyDef (s : State) (l : LineId) (addr : Nat) : NodeDef :=
  (slotGet (lineCfg s.config l).nodes addr).getD ⟨none, 1⟩

/-! ## Commands -/

/-- REPLY_TIMEOUT (R25). -/
def execReplyTimeout (line : LineId) (s : State) : Result :=
  whenPowered (fun s =>
    match (getLine s line).inFlight with
    | none => s
    | some x =>
      match x.phase with
      | .waiting expiry => whenDue expiry (endTransaction line x .noReply none) s
      | .collecting => s) s

/-- FIRST_REPLY_CHARACTER (R25); with nothing in flight it is idle noise (R28). -/
def execFirstReplyCharacter (line : LineId) (s : State) : Result :=
  whenPowered (fun s =>
    match (getLine s line).inFlight with
    | none => hearNoise line s
    | some x => changeLine line (fun y => { y with inFlight := some { x with phase := .collecting } }) s) s

/-- REPLY_SILENCE (R25, R26); with nothing in flight the reply is idle noise (R28). -/
def execReplySilence (line : LineId) (bytes : List Byte) (framingError : Bool) (s : State) : Result :=
  whenPowered (fun s =>
    match (getLine s line).inFlight with
    | none => hearNoise line s
    | some x =>
      let judged := judgeReply (replyDef s line x.node) x.node x.work bytes framingError
      endTransaction line x judged.1 judged.2 s) s

/-- REPLY_CUTOFF (R25, R26); with nothing in flight it is idle noise (R28). -/
def execReplyCutoff (line : LineId) (s : State) : Result :=
  whenPowered (fun s =>
    match (getLine s line).inFlight with
    | none => hearNoise line s
    | some x => endTransaction line x .broken none s) s

end Sys2Proof.Machine
end

