-- ==== Sys2Proof/Machine/Modes.lean ====
section
/-! DEFINITION. The mode controller (chapter 10): mode changes, EMERGENCY and its release, the supervision
timer's expiry (R198), and the curtail orders (R125 to R127). -/

namespace Sys2Proof.Machine

/-- R183: a change of mode and its MODE_CHANGED notice. -/
def changeMode (mode : Mode) (cause : ModeCause) (s : State) : State :=
  raise .modeChanged (.mode mode) (some s.mode.ctorIdx) (some cause.ctorIdx) { s with mode := mode }

/-- R198: the supervision timer after its restart; a time of 0 keeps it stopped. -/
def supervisionStart (s : State) : Option Nat :=
  if s.config.supervision = 0 then none else some (s.now + s.config.supervision * 1000)

/-- R189: the entry into EMERGENCY from another mode, by the terminal that made the signal active. -/
def enterEmergency (t : Nat) (s : State) : State :=
  let u := { s with returnMode := some s.mode, emergencyAt := some s.now }
  let v := raise .emergencyBegin (.terminal t) (some s.mode.ctorIdx) none { u with mode := .emergency }
  handEmergency (raise .modeChanged (.mode .emergency) (some s.mode.ctorIdx)
    (some ModeCause.emergencyEntry.ctorIdx) v)

/-- R189: the mode controller takes a signal that has become active. -/
def signalActive (t : Nat) (s : State) : State :=
  match s.mode with
  | .emergency => { s with releaseAt := none }
  | .start => s
  | _ => enterEmergency t s

/-- R190: the mode controller takes a signal that has become inactive. -/
def signalInactive (s : State) : State :=
  if s.mode = .emergency then { s with releaseAt := some (s.now + Config.releaseMs) } else s

/-- R190: the whole seconds since emergency entered at. -/
def emergencySeconds (s : State) : Nat := (s.now - s.emergencyAt.getD s.now) / 1000

/-- R190: the release timer expires: the part returns to the return mode. -/
def leaveEmergency (s : State) : State :=
  let mode := s.returnMode.getD .hold
  let t := raise .emergencyEnd .none (some mode.ctorIdx) (quantity (emergencySeconds s))
    { s with mode := mode, returnMode := none, releaseAt := none }
  raise .modeChanged (.mode mode) (some Mode.emergency.ctorIdx) (some ModeCause.emergencyRelease.ctorIdx)
    { t with emergencyAt := none }

/-- R186, R189, R198: the supervision timer expires. -/
def loseSupervision (s : State) : State :=
  if s.mode = .run then changeMode .standalone .supervision { s with supervisionAt := none }
  else if s.mode = .emergency ∧ s.returnMode = some .run then
    { s with returnMode := some .standalone, supervisionAt := none }
  else { s with supervisionAt := none }

/-! ## Curtail orders -/

/-- R126: the host order ends. -/
def endHostOrder (order : CurtailOrder) (s : State) : State :=
  raise .curtailEnd (.order false) (quantity order.cap) none { s with hostOrder := none }

/-- R127: the budget unit takes the terminal order as the terminal block hands it. -/
def takeTerminalOrder (order : Option Nat) (s : State) : State :=
  let t := { s with termOrder := order }
  match s.termOrder, order with
  | none, some cap => raise .curtailBegin (.order true) (quantity cap) none t
  | some _, none => raise .curtailEnd (.order true) none none t
  | _, _ => t

/-! ## Commands -/

/-- RELEASE_TIMER_EXPIRES (R190). -/
def execReleaseTimerExpires (s : State) : Result :=
  whenPowered (fun s =>
    match s.releaseAt with
    | none => s
    | some t => whenDue t leaveEmergency s) s

/-- SUPERVISION_TIMER_EXPIRES (R186, R198). -/
def execSupervisionTimerExpires (s : State) : Result :=
  whenPowered (fun s =>
    match s.supervisionAt with
    | none => s
    | some t => whenDue t loseSupervision s) s

/-- HOST_CURTAIL_EXPIRES (R126). -/
def execHostCurtailExpires (s : State) : Result :=
  whenPowered (fun s =>
    match s.hostOrder with
    | none => s
    | some order => whenDue order.expiry (endHostOrder order) s) s

end Sys2Proof.Machine
end

