-- ==== Sys2Proof/Machine/Terminals.lean ====
section
/-! DEFINITION. The terminal block (chapter 3): contacts and their debounce, analog conversions, meter
pulses, the emergency and curtail signals, the restart input, and the start of a function. -/

namespace Sys2Proof.Machine

/-! ## Functions -/

/-- R55: the function reads its terminal as a debounced contact. -/
def isContactInput (f : TermFunction) : Bool :=
  match f with
  | .digitalIn => true
  | .doorContact => true
  | .presenceIn => true
  | .emergencyIn => true
  | .curtailIn _ => true
  | .restartIn => true
  | _ => false

/-- R55: the value delivered for a debounced level. -/
def contactValue (f : TermFunction) (closed : Bool) : Int :=
  match f with
  | .doorContact => if closed then 0 else 1
  | .emergencyIn => if closed then 0 else 1
  | _ => if closed then 1 else 0

/-- What the wiring holds at a terminal. -/
def pinOf (s : State) (t : Nat) : InputPin := (slotGet s.inputs t).getD ⟨false, 0⟩

/-- The wiring at a terminal changes. -/
def setPin (t : Nat) (f : InputPin → InputPin) (s : State) : State :=
  { s with inputs := slotChange f s.inputs t }

/-! ## Emergency and curtail signals -/

/-- R61: the terminal is an active EMERGENCY_IN. -/
def emergencyActive (s : State) (t : Nat) : Bool :=
  match functionOf s.config t with
  | .emergencyIn => (getTerminal s t).debounced == some false
  | _ => false

/-- R61: the combined emergency signal. -/
def emergencySignal (s : State) : Bool := terminalNumbers.any (emergencyActive s)

/-- R61: hand a change of the emergency signal to the mode controller; `t` is the terminal that made it. -/
def handSignal (t : Nat) (s : State) : State :=
  let new := emergencySignal s
  if new = s.signal then s
  else if new then signalActive t { s with signal := true }
  else signalInactive { s with signal := false }

/-- R62: the cap of an active CURTAIL_IN terminal. -/
def curtailCap (s : State) (t : Nat) : Option Nat :=
  match functionOf s.config t with
  | .curtailIn cap => if (getTerminal s t).debounced = some true then some cap else none
  | _ => none

/-- R62: the terminal curtail order: the lowest cap among the active terminals. -/
def terminalOrder (s : State) : Option Nat := (terminalNumbers.filterMap (curtailCap s)).min?

/-- R62: hand the terminal order to the budget unit when it has changed. -/
def handOrder (s : State) : State :=
  if terminalOrder s = s.termOrder then s else takeTerminalOrder (terminalOrder s) s

/-! ## Levels -/

/-- R63: the restart input takes a level; a closing edge while armed starts the restart timer. -/
def restartLevel (now : Nat) (first closed : Bool) (r : TermRec) : TermRec :=
  if !closed then { r with armed := true, restartAt := none }
  else if !first && r.armed then { r with restartAt := some (now + Config.restartMs) }
  else r

/-- R55, R56, R61, R62, R63: the function's own rule for a first level or an edge. -/
def levelRule (t : Nat) (f : TermFunction) (first closed : Bool) (s : State) : State :=
  match f with
  | .doorContact =>
    if first then s
    else takeEvent .t 0 ⟨t - 1, if closed then .doorClosed else .doorOpened, 0, if closed then 0 else 1⟩ s
  | .presenceIn => if first || !closed then s else takeEvent .t 0 ⟨t - 1, .presence, 0, 1⟩ s
  | .emergencyIn => handSignal t s
  | .curtailIn _ => handOrder s
  | .restartIn => changeTerminal t (restartLevel s.now first closed) s
  | _ => s

/-- R55: the debounced level takes the raw level: it is delivered, then handed to the function's rule. -/
def takeLevel (t : Nat) (f : TermFunction) (first closed : Bool) (s : State) : State :=
  levelRule t f first closed
    (deliverTerminal t (contactValue f closed) (changeTerminal t (fun r => { r with debounced := some closed }) s))

/-- R55: what a terminal does as its debounce timer expires; a level that it takes can bring work to a line
(log 39). -/
def settleLevel (t : Nat) (s : State) : State :=
  let u := changeTerminal t (fun x => { x with debounceAt := none }) s
  let closed := (pinOf s t).closed
  match (getTerminal s t).debounced with
  | none => grantLines (takeLevel t (functionOf s.config t) true closed u)
  | some level => if level = closed then u else grantLines (takeLevel t (functionOf s.config t) false closed u)

/-- R55: the debounce timer of a terminal expires. -/
def debounceExpiry (t : Nat) (s : State) : State :=
  match (getTerminal s t).debounceAt with
  | none => s
  | some e => whenDue e (settleLevel t) s

/-! ## The meter -/

/-- R129: E_used saturates. -/
def energyMaximum : Nat := 4294967295

/-- R129: the energy of a pulse joins the open window. -/
def addEnergy (e : Nat) (s : State) : State :=
  { s with window := s.window.map fun w => { w with used := min (w.used + e) energyMaximum } }

/-- R60: the measured power of an interval. -/
def measuredPower (weight interval : Nat) : Nat := min (36000 * weight / interval) 65535

/-- R60: the length of the zero timer. -/
def zeroLength : Option Nat → Nat
  | none => 60000
  | some interval => min 60000 (10 * interval)

/-- R60: every change of the measured power is delivered. -/
def setPower (t power : Nat) (s : State) : State :=
  if (getTerminal s t).power = power then s
  else deliverTerminal t power (changeTerminal t (fun r => { r with power := power }) s)

/-- R59: an accepted pulse. -/
def acceptPulse (t weight : Nat) (s : State) : State :=
  let interval := (getTerminal s t).lastPulse.map fun last => s.now - last
  let u := addEnergy (36 * weight) s
  let v := match interval with
    | none => u
    | some i => setPower t (measuredPower weight i) (changeTerminal t (fun r => { r with lastInterval := some i }) u)
  changeTerminal t (fun r => { r with
    lastPulse := some s.now, zeroAt := some (s.now + zeroLength interval) }) v

/-- R59: a pulse, ignored less than 20 ms after the last accepted one. -/
def takePulse (t : Nat) (s : State) : State :=
  match functionOf s.config t with
  | .meterPulse weight =>
    if (getTerminal s t).lastPulse.any fun last => decide (s.now < last + Config.pulseLockoutMs) then s
    else acceptPulse t weight s
  | _ => s

/-! ## Analog inputs -/

/-- R57: the raw value of a voltage, one step for each 10 mV, limited to 0..1000. -/
def rawValue (millivolts : Int) : Nat := min (millivolts / 10).toNat 1000

/-- R57: the range of a use. -/
def useRange : AnalogUse → Int × Int
  | .temperature => (-400, 600)
  | .co => (0, 500)
  | .no2 => (0, 2000)
  | .lux => (0, 2000)

/-- R57: the scaled value, limited to the range of the use. -/
def scaledValue (use : AnalogUse) (offset span : Int) (raw : Nat) : Int :=
  max (useRange use).1 (min (useRange use).2 (offset + (raw * span) / 1000))

/-- R57: a conversion of the voltage at a terminal. -/
def convert (t : Nat) (s : State) : State :=
  match functionOf s.config t with
  | .analogIn use offset span => deliverTerminal t (scaledValue use offset span (rawValue (pinOf s t).millivolts)) s
  | _ => s

/-! ## The start of a function (R54, R66) -/

/-- R55, R57, R59, R63, R65: the state with which a function starts at `now`. -/
def functionStart (now : Nat) (f : TermFunction) : TermRec :=
  if isContactInput f then
    { idleTerminal with debounceAt := some (now + Config.debounceMs), repeatAt := some (now + Config.repeatMs) }
  else match f with
    | .analogIn _ _ _ => { idleTerminal with convertAt := some (now + Config.repeatMs) }
    | .meterPulse _ => { idleTerminal with repeatAt := some (now + Config.repeatMs) }
    | _ => idleTerminal

/-- R59, R65: what a function delivers as it starts: a meter its 0, a STRAIN_OUT terminal a set strain
state, which closes its contact (log 29). -/
def firstDelivery (t : Nat) (f : TermFunction) (s : State) : State :=
  match f with
  | .meterPulse _ => deliverTerminal t 0 s
  | .strainOut => if s.strain then switchStrainOut true t s else s
  | _ => s

/-- R54: a terminal's function starts. -/
def startFunction (t : Nat) (s : State) : State :=
  let f := functionOf s.config t
  firstDelivery t f { s with terminals := slotSet s.terminals t (functionStart s.now f) }

/-! ## Commands -/

/-- A contact at a terminal changes its raw level (R55, R59). -/
def rawChange (t : Nat) (closed : Bool) (s : State) : State :=
  if (pinOf s t).closed = closed then s
  else
    let u := setPin t (fun p => { p with closed := closed }) s
    if !s.powered then u
    else if isContactInput (functionOf s.config t) then
      changeTerminal t (fun r => { r with debounceAt := some (s.now + Config.debounceMs) }) u
    else if closed then takePulse t u
    else u

/-- TERMINAL_INPUT_CHANGE (R55). The wiring changes with or without main power (log 6). -/
def execTerminalInputChange (terminal : Nat) (closed : Bool) (s : State) : Result :=
  .next (rawChange terminal closed s)

/-- DEBOUNCE_TIMER_EXPIRES (R55, R56). -/
def execDebounceTimerExpires (terminal : Nat) (s : State) : Result :=
  whenPowered (debounceExpiry terminal) s

/-- RESTART_TIMER_EXPIRES (R63). -/
def execRestartTimerExpires (terminal : Nat) (s : State) : Result :=
  whenPowered (fun s =>
    match (getTerminal s terminal).restartAt with
    | none => s
    | some e => whenDue e (fun s =>
      { changeTerminal terminal (fun r => { r with restartAt := none }) s with restartRequested := true }) s) s

/-- R55, R60: the value that a terminal repeats, none when it has none to repeat. -/
def repeatedValue (s : State) (t : Nat) : Option Int :=
  match functionOf s.config t with
  | .meterPulse _ => some (getTerminal s t).power
  | f => (getTerminal s t).debounced.map (contactValue f)

/-- R55, R60: a terminal repeats its value, and again 100 ms after the time `e` at which this was due. -/
def repeatDelivery (t e : Nat) (s : State) : State :=
  let u := changeTerminal t (fun r => { r with repeatAt := some (e + Config.repeatMs) }) s
  match repeatedValue s t with
  | none => u
  | some v => deliverTerminal t v u

/-- TERMINAL_REPEAT_DELIVERY (R55, R60). -/
def execTerminalRepeatDelivery (terminal : Nat) (s : State) : Result :=
  whenPowered (fun s =>
    match (getTerminal s terminal).repeatAt with
    | none => s
    | some e => whenDue e (repeatDelivery terminal e) s) s

/-- R57: the 100 ms rhythm of conversions. -/
def conversion (t : Nat) (s : State) : State :=
  match (getTerminal s t).convertAt with
  | none => s
  | some e => whenDue e (fun s =>
    convert t (changeTerminal t (fun r => { r with convertAt := some (e + Config.repeatMs) }) s)) s

/-- ANALOG_CONVERSION (R57). -/
def execAnalogConversion (terminal : Nat) (millivolts : Int) (s : State) : Result :=
  let t := setPin terminal (fun p => { p with millivolts := millivolts }) s
  .next (if s.powered then conversion terminal t else t)

/-- R59: the terminal has function METER_PULSE. -/
def isMeter (s : State) (t : Nat) : Bool :=
  match functionOf s.config t with
  | .meterPulse _ => true
  | _ => false

/-- METER_PULSE (R59): a contact closing that a meter counts as a pulse; a terminal with another function
takes it as its contact closing (log 31). -/
def execMeterPulse (terminal : Nat) (s : State) : Result :=
  .next (if isMeter s terminal then
      let t := setPin terminal (fun p => { p with closed := true }) s
      if s.powered then takePulse terminal t else t
    else rawChange terminal true s)

/-- METER_ZERO_TIMER_EXPIRES (R60). -/
def execMeterZeroTimerExpires (terminal : Nat) (s : State) : Result :=
  whenPowered (fun s =>
    match (getTerminal s terminal).zeroAt with
    | none => s
    | some e => whenDue e (fun s =>
      setPower terminal 0 (changeTerminal terminal (fun r => { r with zeroAt := none }) s)) s) s

end Sys2Proof.Machine
end

