-- ==== Sys2Proof/Machine/Plan.lean ====
section
/-! DEFINITION. The plan unit's evaluation (R6, R11 to R20) and the calendar clock's ticks (R1). -/

namespace Sys2Proof.Machine

/-! ## Start instances and exceptions -/

/-- R6: the minutes of a week. -/
def weekMinutes : Nat := 10080

/-- A start instance (R6): its weekly position and its record. -/
structure StartInstance where
  position : Nat
  record : Nat
  deriving DecidableEq, Repr

/-- R6: the start instances of a record. -/
def instancesOf (index : Nat) (r : ShiftRecord) : List StartInstance :=
  ((List.range 7).filter fun d => r.weekdays.getLsbD d).map fun d => ⟨d * 1440 + r.startMinute, index⟩

/-- R6: the start instances of the timetable. -/
def startInstances (c : RunningConfig) : List StartInstance := c.shifts.flatMap fun e => instancesOf e.1 e.2

/-- R6: the minutes from a start instance to the weekly position `pos`, 0 when it lies there. -/
def minutesSince (pos : Nat) (i : StartInstance) : Nat := (pos + weekMinutes - i.position) % weekMinutes

/-- R13: the minutes from `pos` to the next time of a start instance, a whole week when it lies there. -/
def minutesUntil (pos : Nat) (i : StartInstance) : Nat := weekMinutes - minutesSince pos i

/-- R9: the replacement that an exception gives a date. -/
def exceptionOn (c : RunningConfig) (d : Date) : Option Replacement :=
  (c.exceptions.find? fun e => e.2.day == d.day && e.2.month == d.month).map fun e => e.2.replacement

/-- The member with the least measure, the first among equals. -/
def leastBy {α : Type} (f : α → Nat) : List α → Option α
  | [] => none
  | x :: rest =>
    match leastBy f rest with
    | none => some x
    | some y => if f x ≤ f y then some x else some y

/-! ## Active record (R12, R15) -/

/-- The active record with its reason, its activation point, and the minutes since that point. -/
structure ActiveChoice where
  index : Nat
  reason : ActiveReason
  activation : Option Moment
  since : Nat
  deriving DecidableEq, Repr

/-- R12, R15: the record that the timetable makes active: the one whose start instance began last. -/
def timetableChoice (c : RunningConfig) (r : Reading) : ActiveChoice :=
  match leastBy (minutesSince (weeklyPosition r)) (startInstances c) with
  | none => ⟨0, .noRecords, none, 0⟩
  | some i =>
    ⟨i.record, .timetable, some (momentOf (planMinute r - minutesSince (weeklyPosition r) i)),
      minutesSince (weeklyPosition r) i⟩

/-- R12, R15: the active record. -/
def activeChoice (c : RunningConfig) (clock : Clock) : ActiveChoice :=
  if !clock.isSet then ⟨0, .clockUnset, none, 0⟩
  else match exceptionOn c clock.reading.date with
    | some .closedDay => ⟨0, .closedDay, none, 0⟩
    | some (.record n) => ⟨n, .exception, some ⟨clock.reading.date, 0⟩, minuteOfDay clock.reading⟩
    | none => timetableChoice c clock.reading

/-! ## Next record (R13) -/

/-- A candidate for the next record (R13): minutes from now, and the record. -/
structure Candidate where
  minutes : Nat
  record : Nat
  deriving DecidableEq, Repr

/-- R13: a start instance on a date with no exception. -/
def instanceCandidate (c : RunningConfig) (r : Reading) (i : StartInstance) : Option Candidate :=
  let m := minutesUntil (weeklyPosition r) i
  if (exceptionOn c (dateOfPlanMinute (planMinute r + m))).isSome then none else some ⟨m, i.record⟩

/-- The record of a replacement (R13): S0 for CLOSED_DAY. -/
def replacementRecord : Replacement → Nat
  | .closedDay => 0
  | .record n => n

/-- R13: 00:00 of the date `k` days on, when it has an exception. -/
def dayCandidate (c : RunningConfig) (r : Reading) (k : Nat) : Option Candidate :=
  (exceptionOn c (dateOfDay (dayNumber r.date + k))).map fun x =>
    ⟨k * 1440 - minuteOfDay r, replacementRecord x⟩

/-- R13: the candidates of the coming week; those of January 2100, which the clock never reaches (R1), are
taken too (log 48). -/
def candidates (c : RunningConfig) (r : Reading) : List Candidate :=
  (startInstances c).filterMap (instanceCandidate c r) ++ [1, 2, 3, 4, 5, 6, 7].filterMap (dayCandidate c r)

/-- R13: the earliest candidate. -/
def nextCandidate (c : RunningConfig) (clock : Clock) : Option Candidate :=
  if clock.isSet then leastBy Candidate.minutes (candidates c clock.reading) else none

/-- R13: the next record and its start. -/
def nextOf (clock : Clock) (x : Candidate) : NextRecord :=
  ⟨x.record, momentOf (planMinute clock.reading + x.minutes)⟩

/-! ## Flags (R14, R15) -/

/-- R14: the precondition flag. -/
def preconditionFlag (c : RunningConfig) (next : Option Candidate) : Bool :=
  next.any fun x => x.record != 0 && (shiftRecord c x.record).any fun r => decide (x.minutes ≤ r.lead)

/-- R15: the changeover flag: less than the changeover length has passed since the activation point. -/
def changeoverFlag (c : RunningConfig) (active : ActiveChoice) : Bool :=
  active.activation.isSome && active.index != 0
    && (shiftRecord c active.index).any fun r => decide (active.since < r.changeover)

/-- The causes of an evaluation (R15, R17): a minute boundary, SET CLOCK or an edit, a start. -/
inductive EvaluationCause where
  | boundary | edit | start
  deriving DecidableEq, Repr

/-- R15, R20: the previous record after an evaluation. -/
def previousAfter (cause : EvaluationCause) (old new : Nat) (previous : Option Nat) : Option Nat :=
  match cause with
  | .start => none
  | .boundary => if old = new then previous else some old
  | .edit => if old = new then previous else none

/-- The open-zone set of a record. -/
def openZonesOf (c : RunningConfig) (n : Nat) : ZoneSet :=
  match shiftRecord c n with
  | some r => r.openZones
  | none => 0

/-- R16: the effective open-zone set. -/
def effectiveZones (c : RunningConfig) (active : Nat) (changeover : Bool) (previous : Option Nat) : ZoneSet :=
  match changeover, previous with
  | true, some p => openZonesOf c active ||| openZonesOf c p
  | _, _ => openZonesOf c active

/-- R11: the plan state that an evaluation works out. -/
def planAfter (cause : EvaluationCause) (s : State) : PlanState :=
  let active := activeChoice s.config s.clock
  let next := nextCandidate s.config s.clock
  let changeover := changeoverFlag s.config active
  let previous := previousAfter cause s.plan.active active.index s.plan.previous
  { active := active.index
    reason := active.reason
    activation := active.activation
    next := next.map (nextOf s.clock)
    precondition := preconditionFlag s.config next
    changeover := changeover
    previous := previous
    openZones := effectiveZones s.config active.index changeover previous }

/-- R17: the overrides held until shift change end. -/
def endShiftOverrides (s : State) : State :=
  { s with
    lightOverrides := s.lightOverrides.filter fun e => e.2.expiry.isSome
    climate := slotMap (fun _ r => { r with
      override := r.override.filter fun o => o.expiry.isSome }) s.climate }

/-- R14: PRECONDITION_BEGIN, when the flag is newly set. -/
def notePrecondition (cause : EvaluationCause) (old new : PlanState) (s : State) : State :=
  if new.precondition && (cause = .start || !old.precondition) then
    raise .preconditionBegin (.record ((new.next.map NextRecord.index).getD 0)) none none s
  else s

/-- R17: a change of active record. -/
def noteShiftChange (cause : EvaluationCause) (old new : PlanState) (s : State) : State :=
  if cause ≠ .start ∧ old.active ≠ new.active then
    raise .shiftChanged (.record new.active) (some old.active) (some new.reason.ctorIdx) (endShiftOverrides s)
  else s

/-- R11: an evaluation. The new plan state replaces the published one, and the occupancy unit judges every
zone (R109). -/
def evaluate (cause : EvaluationCause) (s : State) : State :=
  let new := planAfter cause s
  judgeAllZones
    { noteShiftChange cause s.plan new (notePrecondition cause s.plan new s) with plan := new }

/-! ## Demand windows (R128, R130) -/

/-- R128: the next window boundary after a calendar second. -/
def nextBoundary (length second : Nat) : Nat :=
  second / 86400 * 86400 + min (((second % 86400) / length + 1) * length) 86400

/-- R128, R130: a window opened at a calendar second. -/
def openedWindow (length second : Nat) (isPartial : Bool) : DemandWindow :=
  ⟨second, nextBoundary length second, 0, isPartial, false⟩

/-- R131: how many closed windows the history holds. -/
def historyLength : Nat := 8

/-- R131: a closed window joins the history. -/
def logWindow (w : ClosedWindow) (history : List ClosedWindow) : List ClosedWindow :=
  (history ++ [w]).drop (history.length + 1 - historyLength)

/-- R128, R130: close the open window at a calendar second, PARTIAL or as it was opened. -/
def closeWindow (second : Nat) (outOfTurn : Bool) (s : State) : State :=
  match s.window with
  | none => s
  | some w =>
    { s with
      window := none
      history := logWindow
        ⟨w.start, second - w.start, w.used, (activeRecord s).windowLimit, w.isPartial || outOfTurn⟩ s.history }

/-- Open a window at the clock's reading (R128, R130). -/
def openWindow (isPartial : Bool) (s : State) : State :=
  { s with window := some (openedWindow s.config.budget.windowLength (secondNumber s.clock.reading) isPartial) }

/-- R130: SET CLOCK, or an accepted change of the window length, realigns the window; `now` is the calendar
second at which the old one closes. -/
def realignWindow (now : Nat) (s : State) : State := openWindow true (closeWindow now true s)

/-- R128: the clock has reached the end of the open window. -/
def rollWindow (s : State) : State :=
  if s.window.any fun w => decide (w.ends ≤ secondNumber s.clock.reading) then
    openWindow false (closeWindow (secondNumber s.clock.reading) false s)
  else s

/-! ## Clock ticks (R1) -/

/-- R1: the clock reaches the end of its range. -/
def clockRangeEnd (s : State) : State :=
  let last := secondNumber s.clock.reading + 1
  let t := raise .clockUnset .none none none { s with clock := ⟨false, unsetReading, 0⟩ }
  closeWindow last true (evaluate .boundary t)

/-- R1, R128: a SET clock advances by a second. At a minute boundary the evaluation comes first, then the
end of the open window (log 14). -/
def tick (s : State) : State :=
  match nextReading s.clock.reading with
  | none => clockRangeEnd s
  | some r =>
    let t := { s with clock := { s.clock with reading := r, phase := 0 } }
    rollWindow (if r.second = 0 then evaluate .boundary t else t)

/-- R2: the clock alone, on its backup. -/
def backupTick (c : Clock) : Clock :=
  match nextReading c.reading with
  | none => ⟨false, unsetReading, 0⟩
  | some r => { c with reading := r, phase := 0 }

/-- CLOCK_TICK (R1). Without main power the clock counts on its backup (R2). -/
def execClockTick (s : State) : Result :=
  .next (if !s.clock.isSet then s
    else if s.powered then tick s
    else { s with clock := backupTick s.clock })

end Sys2Proof.Machine
end

