-- ==== Sys2Proof/Machine/Budget.lean ====
section
/-! DEFINITION. The settlement (chapter 7, R120 to R139). -/

namespace Sys2Proof.Machine

/-! ## Exemption and class (R120, R121) -/

/-- R120: the zone is CLOSED and is not being preconditioned. -/
def isDemoted (s : State) (z : Nat) : Bool :=
  ((slotGet s.zones z).any fun r => r.state == .closed) && !preconditioned s z

/-- R120: the effective class of a load. -/
def effectiveClass (s : State) (d : LoadDef) : Nat := if isDemoted s d.zone then 3 else d.cls

/-- The FRESH temperature of a zone, none when it has no temperature point or the point is not FRESH. -/
def freshTemperature (s : State) (z : Nat) : Option Int :=
  ((slotGet s.config.zones z).bind ZoneDef.temperature).bind fun p =>
    (getPoint s p).bind fun r => if r.status = .fresh then r.value.map (temperatureOf p) else none

/-- R121: the zone's temperature is FRESH and below the frost floor. -/
def isFrosty (s : State) (z : Nat) : Bool := (freshTemperature s z).any fun t => decide (t < Config.frostFloor)

/-- R121: the zone is at ventilation stage 4. -/
def inPurge (s : State) (z : Nat) : Bool := (slotGet s.climate z).any fun r => r.stage == 4

/-- R121: the dynamic exemption reason of a load. -/
def exemptReason (s : State) (d : LoadDef) : ExemptReason :=
  let emergency := s.mode == .emergency
  if emergency && emergencyExempt s.config.climate.vent d.kind then .emergency
  else if isFan d.kind && inPurge s d.zone && !(emergency && s.config.climate.vent == .stop) then .purge
  else if d.kind == .heater && isFrosty s d.zone then .frost
  else .none

/-! ## Caps (R124, R129) -/

/-- R129: some terminal has the function METER_PULSE. -/
def hasMeter (c : RunningConfig) : Bool :=
  c.functions.any fun e => match e.2 with
    | .meterPulse _ => true
    | _ => false

/-- R129: the seconds to the end of the open window, rounded up, never less than 1. -/
def secondsRemaining (s : State) (w : DemandWindow) : Nat :=
  max 1 (ceilDiv ((w.ends - secondNumber s.clock.reading) * 1000 - s.clock.phase) 1000)

/-- R129: the window cap that a limit, a window and the seconds remaining give. -/
def windowCapOf (limit : Nat) (w : DemandWindow) (remaining : Nat) : Nat :=
  min ((limit * (w.ends - w.start) - w.used) / remaining) 65535

/-- R129: the window cap, none while window control is not active. -/
def windowCap (s : State) : Option Nat :=
  let limit := (activeRecord s).windowLimit
  if limit != 0 && s.clock.isSet && hasMeter s.config then
    s.window.map fun w => windowCapOf limit w (secondsRemaining s w)
  else none

/-- The caps in force at a settlement (R124). -/
structure Caps where
  shift : Nat
  host : Option Nat
  terminal : Option Nat
  window : Option Nat
  deriving DecidableEq, Repr

/-- R124: the caps as they stand. -/
def capsOf (s : State) : Caps :=
  ⟨(activeRecord s).cap, s.hostOrder.map CurtailOrder.cap, s.termOrder, windowCap s⟩

/-- The lower of a cap and one that may be absent. -/
def capMin (a : Nat) (b : Option Nat) : Nat := min a (b.getD a)

/-- R124: the effective cap. -/
def effectiveCap (c : Caps) : Nat := capMin (capMin (capMin c.shift c.host) c.terminal) c.window

/-- R124: the source of the effective cap: the first of SHIFT, CURTAIL (the host's first), WINDOW that
gives it. -/
def capSource (c : Caps) : CapSource :=
  let low := effectiveCap c
  if c.shift = low then .shift
  else if c.host = some low then .curtailHost
  else if c.terminal = some low then .curtailTerminal
  else .window

/-! ## Demand (R133, R134) -/

/-- R133: the demand of a CONTROLLED load. -/
def demandOf (d : LoadDef) (posted : Nat) : Nat :=
  match d.drive with
  | .modulating => ceilDiv (d.rating * posted) 1000
  | .step => if 0 < posted then d.rating else 0

/-- A load as a settlement works on it. -/
structure LoadWork where
  number : Nat
  rating : Nat
  controlled : Bool
  reason : ExemptReason
  exempt : Bool
  cls : Nat
  demand : Nat
  uncontrolled : Nat
  previous : Nat
  share : Nat
  grant : Nat
  deriving DecidableEq, Repr

/-- R120, R121, R133: a load before the apportionment. -/
def workOf (s : State) (k : Nat) (d : LoadDef) (r : LoadRec) : LoadWork :=
  let reason := exemptReason s d
  { number := k
    rating := d.rating
    controlled := r.controlled
    reason := reason
    exempt := d.exempt || reason != .none
    cls := effectiveClass s d
    demand := if r.controlled then demandOf d r.posted else 0
    uncontrolled := if r.controlled then 0 else ceilDiv (d.rating * r.assumed.getD 0) 1000
    previous := r.previousGrant
    share := 0
    grant := 0 }

/-- The loads of a settlement, by number. -/
def settlementLoads (s : State) : List LoadWork :=
  s.config.loads.filterMap fun e => (slotGet s.loads e.1).map fun r => workOf s e.1 e.2 r

/-- Takes part in the apportionment: CONTROLLED and not exempt (R135). -/
def inClasses (w : LoadWork) : Bool := w.controlled && !w.exempt

/-- In the apportionment with effective class `k`. -/
def inClass (k : Nat) (w : LoadWork) : Bool := inClasses w && w.cls == k

/-- R134: the demand of the exempt CONTROLLED loads. -/
def exemptDemand (ws : List LoadWork) : Nat :=
  ((ws.filter fun w => w.controlled && w.exempt).map LoadWork.demand).sum

/-- R133: the uncontrolled power. -/
def uncontrolledPower (ws : List LoadWork) : Nat := (ws.map LoadWork.uncontrolled).sum

/-- R135: the demand of a class. -/
def classDemand (ws : List LoadWork) (k : Nat) : Nat := ((ws.filter (inClass k)).map LoadWork.demand).sum

/-! ## Apportionment (R135) -/

/-- Where the apportionment stands: what remains, and whether a class has ended PRO_RATA or ZERO. -/
structure Apportion where
  remaining : Nat
  short : Bool
  deriving DecidableEq, Repr

/-- R135: the share of a load in a PRO_RATA class. -/
def proRataShare (remaining demand : Nat) (w : LoadWork) : Nat := w.demand * remaining / demand

/-- R135: the state of a class. -/
def classState (a : Apportion) (demand : Nat) : ClassState :=
  if a.short then (if 0 < demand then .zero else .full)
  else if demand ≤ a.remaining then .full
  else .proRata

/-- R135: the share of a load of a class. -/
def shareOf (a : Apportion) (demand : Nat) (w : LoadWork) : Nat :=
  match classState a demand with
  | .full => w.demand
  | .proRata => proRataShare a.remaining demand w
  | .zero => 0

/-- R135: give the loads of class `k` their shares. -/
def shareClass (a : Apportion) (k : Nat) (ws : List LoadWork) : List LoadWork :=
  let demand := classDemand ws k
  ws.map fun w => if inClass k w then { w with share := shareOf a demand w } else w

/-- The sum of the shares of a class. -/
def classShares (ws : List LoadWork) (k : Nat) : Nat := ((ws.filter (inClass k)).map LoadWork.share).sum

/-- R135: what remains after a class. -/
def afterClass (a : Apportion) (k : Nat) (ws : List LoadWork) : Apportion :=
  let state := classState a (classDemand ws k)
  if a.short then a
  else ⟨a.remaining - classShares (shareClass a k ws) k, state != .full⟩

/-- The apportionment before each of the classes 0 to 3 (R135). -/
def classStart (remaining : Nat) (ws : List LoadWork) : Nat → Apportion
  | 0 => ⟨remaining, false⟩
  | k + 1 => afterClass (classStart remaining ws k) k ws

/-- R135: the shares of every class. -/
def shareAll (remaining : Nat) (ws : List LoadWork) : List LoadWork :=
  [0, 1, 2, 3].foldl (fun l k => shareClass (classStart remaining ws k) k l) ws

/-! ## Restoration (R136) -/

/-- R136: the load is rising. -/
def isRising (w : LoadWork) : Bool := inClasses w && decide (w.previous < w.share)

/-- R134, R136: the grant of every load that is not rising. -/
def settledGrant (w : LoadWork) : LoadWork :=
  { w with grant := if !w.controlled then 0 else if w.exempt then w.demand else min w.share w.previous }

/-- R136: the rising loads of a class take from the pool, by number. -/
def restoreClass (k : Nat) : Nat → List LoadWork → Nat × List LoadWork
  | pool, [] => (pool, [])
  | pool, w :: rest =>
    if isRising w && w.cls == k then
      let step := min (w.share - w.previous) pool
      let tail := restoreClass k (pool - step) rest
      (tail.1, { w with grant := w.previous + step } :: tail.2)
    else
      let tail := restoreClass k pool rest
      (tail.1, w :: tail.2)

/-- R136: the restoration, in order of class: what is left in the pool, and the loads. -/
def restore (pool : Nat) (ws : List LoadWork) : Nat × List LoadWork :=
  [0, 1, 2, 3].foldl (fun acc k => restoreClass k acc.1 acc.2) (pool, ws.map settledGrant)

/-! ## Publication (R137) -/

/-- R137: the grant fraction. -/
def grantFractionOf (w : LoadWork) : Nat := w.grant * 1000 / w.rating

/-- R137: a load record at the publication. -/
def publishLoad (w : LoadWork) (r : LoadRec) : LoadRec :=
  { r with
    reason := w.reason
    exempt := w.exempt
    effClass := w.cls
    grant := w.grant
    grantFraction := grantFractionOf w
    previousGrant := w.grant }

/-- R137: every load takes its grant. -/
def publishAll (ws : List LoadWork) (s : State) : State :=
  forEach ws (fun w => changeLoad w.number (publishLoad w)) s

/-! ## The record (R138, R139) -/

/-- R138: the strain state after a settlement. -/
def strainAfter (b : BudgetParams) (strain : Bool) (demand remaining : Nat) : Bool :=
  if strain then !decide (demand * 100 ≤ remaining * b.strainEnd)
  else decide (0 < demand) && decide (remaining * b.strainBegin ≤ demand * 100)

/-- R139: the figures of a class. -/
def figuresOf (remaining : Nat) (ws0 ws : List LoadWork) (k : Nat) : ClassFigures where
  demand := classDemand ws k
  shares := classShares ws k
  grants := ((ws.filter (inClass k)).map LoadWork.grant).sum
  state := classState (classStart remaining ws0 k) (classDemand ws0 k)

/-- What a settlement works out. -/
structure Settled where
  caps : Caps
  loads : List LoadWork
  base : Nat
  uncontrolled : Nat
  available : Nat
  exemptTotal : Nat
  remaining : Nat
  demand : Nat
  poolDrawn : Nat
  class0 : ClassFigures
  class1 : ClassFigures
  class2 : ClassFigures
  class3 : ClassFigures
  deriving DecidableEq, Repr

/-- R133 to R136: the working of a settlement. -/
def settle (s : State) : Settled :=
  let caps := capsOf s
  let ws := settlementLoads s
  let base := (activeRecord s).base
  let uncontrolled := uncontrolledPower ws
  let available := effectiveCap caps - base - uncontrolled
  let total := exemptDemand ws
  let remaining := available - total
  let pool := s.config.budget.restore
  let restored := restore pool (shareAll remaining ws)
  { caps := caps
    loads := restored.2
    base := base
    uncontrolled := uncontrolled
    available := available
    exemptTotal := total
    remaining := remaining
    demand := ((ws.filter inClasses).map LoadWork.demand).sum
    poolDrawn := pool - restored.1
    class0 := figuresOf remaining ws restored.2 0
    class1 := figuresOf remaining ws restored.2 1
    class2 := figuresOf remaining ws restored.2 2
    class3 := figuresOf remaining ws restored.2 3 }

/-- R126: the remaining hold of the host order in quanta, rounded up. -/
def holdQuanta (s : State) : Nat :=
  (s.hostOrder.map fun o => ceilDiv (o.expiry - s.now) Config.curtailQuantumMs).getD 0

/-- R139: the settlement record. -/
def recordOf (s : State) (x : Settled) (overrun strain : Bool) : SettlementRec where
  isEmpty := false
  time := s.now
  clock := if s.clock.isSet then some s.clock.reading else none
  shiftCap := x.caps.shift
  hostCap := x.caps.host
  hostHold := holdQuanta s
  termCap := x.caps.terminal
  windowCap := x.caps.window
  cap := effectiveCap x.caps
  source := capSource x.caps
  base := x.base
  uncontrolled := x.uncontrolled
  available := x.available
  exemptDemand := x.exemptTotal
  remaining := x.remaining
  class0 := x.class0
  class1 := x.class1
  class2 := x.class2
  class3 := x.class3
  poolDrawn := x.poolDrawn
  overrun := overrun
  strain := strain
  count := (s.record.count + 1) % 65536

/-! ## The settlement (R132) -/

/-- R121: FROST_PROTECTION for a heater whose reason becomes FROST. -/
def noteFrost (w : LoadWork) (s : State) : State :=
  match slotGet s.config.loads w.number, slotGet s.loads w.number with
  | some d, some r =>
    if w.reason = .frost ∧ r.reason ≠ .frost then
      raise .frostProtection (.load w.number) (some d.zone) (freshTemperature s d.zone) s
    else s
  | _, _ => s

/-- R129: WINDOW_LIMITED at the first settlement of a window whose source is WINDOW. -/
def noteWindow (x : Settled) (s : State) : State :=
  match s.window with
  | none => s
  | some w =>
    if capSource x.caps = .window ∧ w.limitedReported = false then
      raise .windowLimited .none (x.caps.window.map fun c => (c : Int)) (quantity (secondsRemaining s w))
        { s with window := some { w with limitedReported := true } }
    else s

/-- R134: SUPPLY_OVERRUN at the first settlement of an overrun episode. -/
def noteOverrun (x : Settled) (s : State) : State :=
  let isOver := decide (x.available < x.exemptTotal)
  let t := { s with overrun := isOver }
  if isOver && !s.overrun then
    raise .supplyOverrun .none (quantity x.exemptTotal) (quantity x.available) t
  else t

/-- R138: the strain state is judged, with its notice, and handed to the terminals when it changes. -/
def noteStrain (x : Settled) (s : State) : State :=
  let strain := strainAfter s.config.budget s.strain x.demand x.remaining
  if strain = s.strain then s
  else switchStrain strain
    (raise (if strain then .strainBegin else .strainEnd) .none (quantity x.demand) (quantity x.remaining)
      { s with strain := strain })

/-- R132 to R139: one settlement. Its notices come in the order of its stages, FROST_PROTECTION of several heaters by
rising load number (log 21); the loads that its publication cuts are checked for a command by rising number (log 54). -/
def performSettlement (s : State) : State :=
  let x := settle s
  let t := noteOverrun x (noteWindow x (forEach x.loads noteFrost s))
  let u := forEach (x.loads.map LoadWork.number) cutLoad (publishAll x.loads t)
  let v := noteStrain x u
  { v with record := recordOf s x v.overrun v.strain }

/-- SETTLEMENT (R132): one settlement, and the timer restarts with the period in force. -/
def execSettlement (s : State) : Result :=
  whenPowered (fun s =>
    whenDue s.settleAt (fun s =>
      grantLines { performSettlement s with settleAt := s.now + s.config.settlementPeriod * 1000 }) s) s

end Sys2Proof.Machine
end

