-- ==== Sys2Proof/Machine/Lighting.lean ====
section
/-! DEFINITION. The lighting unit (chapter 8): the lighting step and the light overrides. -/

namespace Sys2Proof.Machine

/-! ## Level sources (R148, R149) -/

/-- The kind and the occupancy state of a load's zone. -/
def zoneView (s : State) (z : Nat) : Option (ZoneDef × ZoneRec) :=
  match slotGet s.config.zones z, slotGet s.zones z with
  | some d, some r => some (d, r)
  | _, _ => none

/-- R148: the scene level of a kind and a state. -/
def sceneLevel (levels : Levels) (o : Occupancy) : Nat :=
  match o with
  | .occupied => levels.occupied
  | .vacant => levels.vacant
  | .dormant => levels.dormant
  | .closed => levels.closed

/-- A level source with its value (R149). -/
structure LevelSource where
  source : LightSource
  value : Nat
  deriving DecidableEq, Repr

/-- R149: the higher of two sources, the first of them when equal. -/
def higherSource (a b : LevelSource) : LevelSource := if b.value ≤ a.value then a else b

/-- R149: the light override's level, or the scene level. -/
def sceneSource (s : State) (z : Nat) (d : ZoneDef) (r : ZoneRec) : LevelSource :=
  match slotGet s.lightOverrides z with
  | some o => ⟨.override_, o.level⟩
  | none => ⟨.scene, sceneLevel (forKind (activeRecord s).levels d.kind) r.state⟩

/-- R149: the closed-presence level, when the zone is CLOSED and intruded. -/
def withClosedPresence (s : State) (r : ZoneRec) (a : LevelSource) : LevelSource :=
  if r.state = .closed ∧ r.intruded then higherSource a ⟨.closedPresence, s.config.lighting.closedPresence⟩ else a

/-- R149: the changeover level of a STAGING zone that is not CLOSED. -/
def withChangeover (s : State) (d : ZoneDef) (r : ZoneRec) (a : LevelSource) : LevelSource :=
  if d.kind = .staging ∧ s.plan.changeover ∧ r.state ≠ .closed then
    higherSource a ⟨.changeover, (activeRecord s).levels.staging.occupied⟩
  else a

/-- R149: the deciding source and the target of a group in RUN and STANDALONE. -/
def decideLevel (s : State) (z : Nat) (d : ZoneDef) (r : ZoneRec) : LevelSource :=
  withChangeover s d r (withClosedPresence s r (sceneSource s z d r))

/-! ## Daylight trim (R152) -/

/-- The daylight assignment of a group (R144): none and TL 500 until one is made. -/
def daylightOf (c : RunningConfig) (k : Nat) : Daylight := (slotGet c.daylight k).getD ⟨none, 500⟩

/-- R152: the illuminance of a group's daylight point, when it is FRESH. -/
def freshDaylight (s : State) (k : Nat) : Option Int :=
  (daylightOf s.config k).point.bind fun p =>
    (getPoint s p).bind fun r => if r.status = .fresh then r.value else none

/-- R152: the trimmed target for a reading, at most 1000 (R144): a reading below 0 would give more (log 45). -/
def trimmedBy (target tl minDim : Nat) (occupied : Bool) (lux : Int) : Nat :=
  let trimmed := min 1000 (target * (max 0 (tl - lux)).toNat / tl)
  if occupied && decide (0 < target) && decide (trimmed < minDim) then minDim else trimmed

/-- R152: the trimmed target of a group. -/
def trimmedTarget (s : State) (k target : Nat) (occupied : Bool) : Nat :=
  match freshDaylight s k with
  | none => target
  | some lux => trimmedBy target (daylightOf s.config k).target s.config.lighting.minDim occupied lux

/-! ## Goal and movement (R154, R155) -/

/-- R154: a modulating goal above 0 and below the minimum dim level becomes 0. -/
def dimGoal (drive : Drive) (minDim goal : Nat) : Nat :=
  match drive with
  | .modulating => if goal < minDim then 0 else goal
  | .step => goal

/-- R155: one movement of a modulating level toward its goal. -/
def moveLevel (ramp fade goal a : Nat) : Nat :=
  if a < goal then min goal (a + ceilDiv ramp 4)
  else if goal < a then max goal (a - ceilDiv fade 4)
  else a

/-- R155: a modulating level above 0 and below the minimum dim level. -/
def liftLevel (minDim goal a : Nat) : Nat :=
  if 0 < a ∧ a < minDim then (if 0 < goal then minDim else 0) else a

/-- R155: the applied fraction after one step. -/
def stepLevel (p : LightingParams) (drive : Drive) (goal a : Nat) : Nat :=
  match drive with
  | .step => goal
  | .modulating => liftLevel p.minDim goal (moveLevel p.ramp p.fade goal a)

/-! ## The step (R147) -/

/-- R147: write a group's step into its record, and check it for a command. At the first step after a start an UNCONTROLLED
group moves as R154 and R155 say, and the command is of the level it moves to, where R160 speaks of 0 (log 60). -/
def writeStep (k : Nat) (d : LoadDef) (source : LightSource) (target trimmed : Nat) (s : State) : State :=
  checkCommand k (changeLoad k (fun r =>
    let goal := dimGoal d.drive s.config.lighting.minDim (goalOf d.drive (isLimited r) trimmed r.grantFraction)
    { r with
      posted := trimmed
      goal := goal
      applied := stepLevel s.config.lighting d.drive goal r.applied
      light := some ⟨source, target, trimmed⟩ }) s)

/-- R147: one group's step in RUN and STANDALONE. -/
def planStep (k : Nat) (d : LoadDef) (s : State) : State :=
  match zoneView s d.zone with
  | none => s
  | some (z, r) =>
    let level := decideLevel s d.zone z r
    writeStep k d level.source level.value (trimmedTarget s k level.value (r.state == .occupied)) s

/-- R158: in EMERGENCY a group keeps its emergency values. -/
def emergencyStep (k : Nat) (d : LoadDef) (s : State) : State :=
  checkCommand k (changeLoad k (fun r =>
    let e := emergencyLoad s.config.climate.vent d.kind r
    { r with posted := e.posted, goal := e.goal, applied := e.applied, light := e.light }) s)

/-- R147, R157, R158: one group's step in the mode that stands. -/
def groupStep (k : Nat) (s : State) : State :=
  match slotGet s.config.loads k with
  | none => s
  | some d =>
    match s.mode with
    | .emergency => emergencyStep k d s
    | .hold => writeStep k d .hold d.hold d.hold s
    | _ => planStep k d s

/-- The load is a LIGHT. -/
def isLight (d : LoadDef) : Bool := d.kind == .light

/-- LIGHTING_STEP (R147): the groups by rising load number, which orders their commands (log 54). -/
def execLightingStep (s : State) : Result :=
  whenPowered (fun s =>
    whenDue s.stepAt (fun s =>
      grantLines (forEach (slotsWhere isLight s.config.loads) groupStep
        { s with stepAt := s.now + Config.lightingStepMs })) s) s

/-- LIGHT_OVERRIDE_EXPIRES (R151). -/
def execLightOverrideExpires (zone : Nat) (s : State) : Result :=
  whenPowered (fun s =>
    match (slotGet s.lightOverrides zone).bind LightOverride.expiry with
    | none => s
    | some t => whenDue t (fun s => { s with lightOverrides := slotFree s.lightOverrides zone }) s) s

end Sys2Proof.Machine
end

