-- ==== Sys2Proof/Machine/Climate.lean ====
section
/-! DEFINITION. The climate unit (chapter 9): setpoints, heater demand, curtains, gas index, ventilation
stages, fans. -/

namespace Sys2Proof.Machine

/-! ## Driving loads (R169) -/

/-- R169: post a demand, set the goal and the applied fraction, and check the load for a command. -/
def driveLoad (k : Nat) (demand : Nat) (s : State) : State :=
  match slotGet s.config.loads k with
  | none => s
  | some d =>
    checkCommand k (changeLoad k (fun r =>
      let goal := goalOf d.drive (isLimited r) demand r.grantFraction
      { r with posted := demand, goal := goal, applied := goal }) s)

/-- R179: in EMERGENCY a load posts its emergency value and is driven to it. -/
def driveEmergency (k : Nat) (d : LoadDef) (s : State) : State :=
  let f := emergencyFraction s.config.climate.vent d.kind
  checkCommand k (changeLoad k (fun r => { r with posted := f, goal := f, applied := f }) s)

/-- The loads of a zone that are of a kind that `p` picks, by number. -/
def zoneLoads (c : RunningConfig) (p : LoadKind → Bool) (z : Nat) : List Nat :=
  slotsWhere (fun d => d.zone == z && p d.kind) c.loads

/-! ## The setpoint (R163) -/

/-- A setpoint with its source (R163). -/
structure Setpoint where
  level : Int
  source : SetpointSource
  deriving DecidableEq, Repr

/-- R163: the setpoint of a record for a zone by its occupancy state. -/
def stateSetpoint (r : ShiftRecord) (kind : ZoneKind) (o : Occupancy) : Setpoint :=
  match o with
  | .closed => ⟨Config.frostFloor, .closed⟩
  | .occupied => ⟨forKind r.setpoint kind, .occupied⟩
  | .vacant => ⟨forKind r.setback kind, .vacant⟩
  | .dormant => ⟨max (-400) (forKind r.setback kind - forKind r.drop kind), .dormant⟩

/-- R163: the setpoint of a zone. -/
def setpointOf (s : State) (z : Nat) (d : ZoneDef) (zr : ZoneRec) (r : ClimateRec) : Setpoint :=
  match r.override with
  | some o => ⟨o.level, .override_⟩
  | none =>
    match preconditioned s z, nextRecord s with
    | true, some n => ⟨forKind n.setpoint d.kind, .precondition⟩
    | _, _ => stateSetpoint (activeRecord s) d.kind zr.state

/-! ## Heater demand (R166, R167, R168) -/

/-- R166: the offset of a ventilation stage. -/
def stageOffset : Nat → Nat
  | 0 => 0
  | 1 => 50
  | 2 => 100
  | 3 => 200
  | _ => 300

/-- R166: the base of a heating demand. -/
def heatBase (e : Int) (band : Nat) : Nat := if e ≤ 0 then 0 else min 1000 (e.toNat * 1000 / band)

/-- R166: a heating demand with its parts. -/
def heatDemand (tset t : Int) (band boost offset : Nat) : HeatDemand :=
  let e := tset - t
  let base := heatBase e band
  ⟨if -10 < e then min 1000 (base + boost + offset) else base, base, boost, offset⟩

/-- R166: an evaluation that finds the temperature FRESH. -/
def freshHeat (s : State) (z : Nat) (tset t : Int) (r : ClimateRec) : ClimateRec :=
  let h := heatDemand tset t s.config.climate.band (doorBoost s z) (stageOffset r.stage)
  { r with demand := some h, held := some h.q, staleSince := none }

/-- R167: the heating demand held since before the temperature went stale. Its parts are those of the evaluation that
worked it; where the demand had become none and serves again under a longer hold time, they are 0, 0, 0 (log 33). -/
def heldDemand (q : Nat) (r : ClimateRec) : HeatDemand :=
  match r.demand with
  | some h => if h.q = q then h else ⟨q, 0, 0, 0⟩
  | none => ⟨q, 0, 0, 0⟩

/-- R167: the demand of a temperature-stale zone: held until the hold time has run. -/
def staleHeat (now holdMs : Nat) (r : ClimateRec) : ClimateRec :=
  match r.held, r.staleSince with
  | some q, some since =>
    if now < since + holdMs then { r with demand := some (heldDemand q r) } else { r with demand := none }
  | _, _ => { r with demand := none }

/-- R167: the stale episode of a zone begins, with its notice. -/
def noteStale (z : Nat) (s : State) : State :=
  if (slotGet s.climate z).any fun r => r.staleSince.isNone then
    raise .sensorStale (.zone z) (some 0) (some 1) (changeClimate z (fun r => { r with staleSince := some s.now }) s)
  else s

/-- R168: what a heater posts for its zone's heating demand. -/
def heaterPost (d : LoadDef) (demand : Option HeatDemand) : Nat :=
  let value := (demand.map HeatDemand.q).getD d.fallback
  match d.drive with
  | .modulating => value
  | .step => if 500 ≤ value then 1000 else 0

/-- R168: a heater posts its zone's demand and is driven. -/
def driveHeater (z k : Nat) (s : State) : State :=
  match slotGet s.config.loads k with
  | none => s
  | some d => driveLoad k (heaterPost d ((slotGet s.climate z).bind ClimateRec.demand)) s

/-- R163, R166, R167: work the setpoint and demand of a zone in RUN and STANDALONE. -/
def workHeat (z : Nat) (d : ZoneDef) (s : State) : State :=
  match d.temperature, slotGet s.zones z, slotGet s.climate z with
  | some _, some zr, some r =>
    let sp := setpointOf s z d zr r
    let t := changeClimate z (fun x => { x with tset := some sp.level, source := sp.source }) s
    match freshTemperature s z with
    | some temp => changeClimate z (freshHeat t z sp.level temp) t
    | none => changeClimate z (staleHeat t.now (t.config.climate.holdTime * 1000)) (noteStale z t)
  | _, _, _ => changeClimate z (fun x => { x with demand := none }) s

/-- R167, R178, R179: in HOLD and EMERGENCY the source shows the mode, Tset stays, and a stale temperature
is noted. -/
def watchHeat (z : Nat) (d : ZoneDef) (source : SetpointSource) (s : State) : State :=
  let t := changeClimate z (fun x => { x with source := source }) s
  if d.temperature.isSome && (freshTemperature s z).isNone then noteStale z t else t

/-- The load is a heater. -/
def isHeater : LoadKind → Bool
  | .heater => true
  | _ => false

/-- R178, R179: a load posts its hold fraction, or its emergency value. -/
def postFixed (k : Nat) (s : State) : State :=
  match slotGet s.config.loads k with
  | none => s
  | some d => if s.mode = .emergency then driveEmergency k d s else driveLoad k d.hold s

/-- R166 to R169, R178, R179: the heating evaluation of one zone. Its heaters are driven, and so checked for a command,
by rising load number (log 54). -/
def heatZone (z : Nat) (s : State) : State :=
  match slotGet s.config.zones z with
  | none => s
  | some d =>
    let heaters := zoneLoads s.config isHeater z
    match s.mode with
    | .hold => forEach heaters postFixed (watchHeat z d .hold s)
    | .emergency => forEach heaters postFixed (watchHeat z d .emergency s)
    | _ => forEach heaters (driveHeater z) (workHeat z d s)

/-! ## Curtains (R171) -/

/-- The load is a curtain. -/
def isCurtain : LoadKind → Bool
  | .curtain => true
  | _ => false

/-- The doors that name a curtain; DEFINE DOOR lets no more than one name it (R85). -/
def curtainDoors (c : RunningConfig) (k : Nat) : List Nat := slotsWhere (fun d => d.curtain == some k) c.doors

/-- R171: the request that a curtain posts. -/
def curtainRequest (s : State) (k : Nat) : Nat :=
  match (curtainDoors s.config k).head? with
  | none => 0
  | some d => ((slotGet s.doors d).map DoorRec.request).getD 0

/-- R171, R178, R179: the curtain step of one curtain. -/
def stepCurtain (k : Nat) (s : State) : State :=
  match s.mode with
  | .hold => postFixed k s
  | .emergency => postFixed k s
  | _ => driveLoad k (curtainRequest s k) s

/-! ## Gas and ventilation (R172 to R177) -/

/-- R172: the reference of a gas. -/
def gasReference (c : ClimateParams) : Gas → Nat
  | .co => c.coRef
  | .no2 => c.no2Ref

/-- R172: the gas ratio of a point, when it is FRESH; a value below 0, which a TEMPERATURE terminal bound as a gas
point can deliver, has ratio 0 (log 59). -/
def gasRatio (s : State) (g : GasPoint) : Option Nat :=
  (getPoint s g.point).bind fun r =>
    if r.status = .fresh then r.value.map fun v => v.toNat * 1000 / gasReference s.config.climate g.gas else none

/-- R172: the gas index and the count of FRESH points. -/
def workGas (s : State) (d : ZoneDef) (r : ClimateRec) : ClimateRec :=
  let ratios := d.gas.filterMap (gasRatio s)
  { r with gasIndex := min (ratios.foldl max 0) 65535, gasFresh := ratios.length }

/-- R173: the stage that an index calls for. -/
def stageCalled (g : Nat) : Nat :=
  if 1000 ≤ g then 4 else if 750 ≤ g then 3 else if 500 ≤ g then 2 else if 300 ≤ g then 1 else 0

/-- R173: the falling threshold of stages 1 to 3. -/
def fallingThreshold : Nat → Nat
  | 1 => 200
  | 2 => 400
  | 3 => 650
  | _ => 0

/-- R173: the zone rises to the stage called for. -/
def riseTo (now : Nat) (r : ClimateRec) : ClimateRec :=
  { r with stage := stageCalled r.gasIndex, stageAt := now, dwell := none, purgeClear := none }

/-- R174, R176: a fall from stage 1, 2 or 3; `floor` holds a zone at stage 2. -/
def fallStage (now : Nat) (floor : Bool) (r : ClimateRec) : ClimateRec :=
  if r.stage = 0 then r
  else if fallingThreshold r.stage ≤ r.gasIndex then { r with dwell := none }
  else match r.dwell with
    | none => { r with dwell := some now }
    | some since =>
      if since + Config.dwellMs ≤ now && !(floor && decide (r.stage ≤ 2)) then
        { r with
          stage := r.stage - 1
          stageAt := now
          dwell := if r.gasIndex < fallingThreshold (r.stage - 1) then some now else none }
      else r

/-- R175: G at or above this keeps a purge from clearing. -/
def purgeThreshold : Nat := 900

/-- R175: the zone leaves purge at this evaluation. -/
def purgeEnds (now : Nat) (r : ClimateRec) : Bool :=
  decide (r.gasIndex < purgeThreshold) && r.purgeClear.any fun since => decide (since + Config.purgeClearMs ≤ now)

/-- R175: the purge of a zone at stage 4 is judged. -/
def purgeStage (now : Nat) (r : ClimateRec) : ClimateRec :=
  if purgeEnds now r then
    { r with
      stage := 3, stageAt := now, purgeClear := none
      dwell := if r.gasIndex < fallingThreshold 3 then some now else none }
  else if purgeThreshold ≤ r.gasIndex then { r with purgeClear := none }
  else if r.purgeClear.isNone then { r with purgeClear := some now }
  else r

/-- R173, R174, R175: the stage after the rise and the fall. -/
def judgeStage (now : Nat) (floor : Bool) (r : ClimateRec) : ClimateRec :=
  if r.stage < stageCalled r.gasIndex then riseTo now r
  else if r.stage = 4 then purgeStage now r
  else fallStage now floor r

/-- R175: the notices of entering and leaving purge. -/
def notePurge (z now : Nat) (old new : ClimateRec) (s : State) : State :=
  if old.stage ≠ 4 ∧ new.stage = 4 then
    raise .gasPurgeBegin (.zone z) (quantity new.gasIndex) (some old.stage) s
  else if old.stage = 4 ∧ new.stage ≠ 4 then
    raise .gasPurgeEnd (.zone z) (quantity new.gasIndex) (quantity ((now - old.stageAt) / 1000)) s
  else s

/-- R176: the stale floor. -/
def floorStage (now : Nat) (r : ClimateRec) : ClimateRec :=
  let x := { r with gasStale := true }
  if x.stage < 2 then { x with stage := 2, stageAt := now, dwell := none } else x

/-- R176: SENSOR_STALE when the gas stale flag is newly set; `count` gas points are not FRESH. -/
def noteGasStale (z count : Nat) (old : ClimateRec) (s : State) : State :=
  if old.gasStale then s else raise .sensorStale (.zone z) (some 1) (some count) s

/-- R172 to R176: the gas and the stage of one zone. -/
def ventilate (z : Nat) (d : ZoneDef) (s : State) : State :=
  match slotGet s.climate z with
  | none => s
  | some old =>
    let worked := workGas s d old
    let missing := d.gas.length - worked.gasFresh
    let judged := judgeStage s.now (decide (0 < missing)) worked
    let t := notePurge z s.now worked judged (changeClimate z (fun _ => judged) s)
    if 0 < missing then noteGasStale z missing old (changeClimate z (fun _ => floorStage s.now judged) t)
    else changeClimate z (fun _ => { judged with gasStale := false }) t

/-- R172: a zone with no gas points has G 0 and stage 0. -/
def noGas (z : Nat) (s : State) : State :=
  changeClimate z (fun r => { r with
    gasIndex := 0, gasFresh := 0
    stage := 0
    stageAt := if r.stage = 0 then r.stageAt else s.now
    dwell := none, purgeClear := none, gasStale := false }) s

/-- R177: the exhaust rate of a stage. -/
def exhaustRate (stage : Nat) (occupied : Bool) : Nat :=
  match stage with
  | 0 => if occupied then 150 else 100
  | 1 => 350
  | 2 => 600
  | 3 => 850
  | _ => 1000

/-- R177: the demand of a fan. -/
def fanDemand (makeUp rate : Nat) : LoadKind → Nat
  | .exhaustFan => rate
  | _ => rate * makeUp / 1000

/-- R177: a fan posts its demand and is driven. -/
def driveFan (z k : Nat) (s : State) : State :=
  match slotGet s.config.loads k, slotGet s.climate z, slotGet s.zones z with
  | some d, some r, some zr =>
    driveLoad k (fanDemand s.config.climate.makeUp (exhaustRate r.stage (zr.state == .occupied)) d.kind) s
  | _, _, _ => s

/-- R179: the mode is EMERGENCY with ventilation STOP: no gas and no stage is judged. -/
def isStopped (s : State) : Bool := s.mode == .emergency && s.config.climate.vent == .stop

/-- R172 to R179: the ventilation evaluation of one zone. Its fans are driven, and so checked for a command, by rising
load number (log 54). -/
def ventZone (z : Nat) (s : State) : State :=
  match slotGet s.config.zones z with
  | none => s
  | some d =>
    let t := if isStopped s then s else if d.gas.isEmpty then noGas z s else ventilate z d s
    let fans := zoneLoads s.config isFan z
    match s.mode with
    | .hold => forEach fans postFixed t
    | .emergency => forEach fans postFixed t
    | _ => forEach fans (driveFan z) t

/-! ## Start of a climate record (R182) -/

/-- R161, R182: a climate record at its definition or a start. -/
def freshClimate (now : Nat) (d : ZoneDef) : ClimateRec where
  tset := none
  source := .hold
  demand := none
  held := none
  staleSince := some now
  override := none
  gasIndex := 0
  gasFresh := 0
  stage := if d.gas.isEmpty then 0 else 2
  stageAt := now
  dwell := none
  purgeClear := none
  gasStale := !d.gas.isEmpty

/-! ## Commands -/

/-- HEATING_EVALUATION (R166): the zones by rising number, which orders their notices (log 21) and their heaters'
commands (log 54). -/
def execHeatingEvaluation (s : State) : Result :=
  whenPowered (fun s =>
    whenDue s.heatAt (fun s =>
      grantLines (forEach (slotNumbers s.config.zones) heatZone { s with heatAt := s.now + Config.heatingMs })) s) s

/-- VENTILATION_EVALUATION (R172): the zones by rising number, which orders their notices (log 21) and their fans'
commands (log 54). -/
def execVentilationEvaluation (s : State) : Result :=
  whenPowered (fun s =>
    whenDue s.ventAt (fun s =>
      grantLines (forEach (slotNumbers s.config.zones) ventZone
        { s with ventAt := s.now + Config.ventilationMs })) s) s

/-- CURTAIN_STEP (R171): the curtains by rising load number, which orders their commands (log 54). -/
def execCurtainStep (s : State) : Result :=
  whenPowered (fun s =>
    whenDue s.curtainAt (fun s =>
      grantLines (forEach (slotsWhere (fun d => isCurtain d.kind) s.config.loads) stepCurtain
        { s with curtainAt := s.now + Config.curtainMs })) s) s

/-- SETPOINT_OVERRIDE_EXPIRES (R165). -/
def execSetpointOverrideExpires (zone : Nat) (s : State) : Result :=
  whenPowered (fun s =>
    match ((slotGet s.climate zone).bind ClimateRec.override).bind SetpointOverride.expiry with
    | none => s
    | some t => whenDue t (changeClimate zone fun r => { r with override := none }) s) s

end Sys2Proof.Machine
end

