-- ==== Sys2Proof/Machine/Starts.lean ====
section
/-! DEFINITION. Starts of the part (R184, R185, and each chapter's start state), loss of main power, and the
settings store's write (R197). -/

namespace Sys2Proof.Machine

/-! ## Start states of the blocks -/

/-- R51: a field line at a start: its nodes UNPROBED from the start on (log 43), its scan entries due at once. -/
def startLine (c : LineCfg) : Line :=
  { idleLine with
    nodes := slotMap (fun _ _ => { freshNode 0 with entered := some 0 }) c.nodes
    scan := c.scan.foldl (fun t e => slotSet t (scanKey e.node e.first) ⟨none, 0⟩) [] }

/-- R83: the points of the defined nodes of a line. -/
def startLinePoints (bus : Bus) (c : LineCfg) (points : Table PointRec) : Table PointRec :=
  c.nodes.foldl (fun t e => createPoints bus e.1 e.2.count t) points

/-- R83: the point table at a start. -/
def startPoints (c : RunningConfig) : Table PointRec :=
  createPoints .t 0 16 (startLinePoints .b c.lineB (startLinePoints .a c.lineA []))

/-- R115: the PINNED entries at a start, in slots 1 upward, by zone. -/
def startPins (c : RunningConfig) : Table PresenceEntry :=
  ((slotNumbers c.zones).filter c.pins.contains).zipIdx.map fun e => (e.2 + 1, ⟨e.1, .host, .pinned⟩)

/-- R109, R115: a zone before the start evaluation judges it. -/
def startZone : ZoneRec := ⟨.closed, false, none, none⟩

/-- R119, R143: the contact state of a node right after a start. -/
def startContact (c : RunningConfig) (p : PointRef) : Contact :=
  match p.bus with
  | .t => .inContact
  | _ => if (nodeDef c p.bus p.addr).isSome then .unconfirmed else .unreachable

/-- Every block in the start state that its chapter gives, for a configuration, before the notices and the
plan unit's evaluation. What a start keeps stays as it is in `s`: the clock, the wiring, the store, the
queue of commands and the count of free values. -/
def startBlocks (c : RunningConfig) (s : State) : State :=
  { s with
    powered := true
    now := 0
    config := c
    plan := ⟨0, .noRecords, none, none, false, false, none, 0⟩
    lineA := startLine c.lineA
    lineB := startLine c.lineB
    terminals := terminalNumbers.map fun t => (t, idleTerminal)
    points := startPoints c
    windows := []
    recent := []
    nextSeq := 0
    doors := slotMap (fun _ _ => freshDoor 0) c.doors
    zones := slotMap (fun _ _ => startZone) c.zones
    presence := startPins c
    fullReported := false
    evictedDoors := []
    loads := slotMap (fun _ d => freshLoad 0 (startContact c d.binding) c.budget.nodeHold d) c.loads
    hostOrder := none
    termOrder := none
    window := none
    history := []
    strain := false
    overrun := false
    record := emptySettlement
    settleAt := c.settlementPeriod * 1000
    lightOverrides := []
    stepAt := Config.lightingStepMs
    climate := slotMap (fun _ z => freshClimate 0 z) c.zones
    heatAt := Config.heatingMs
    ventAt := Config.ventilationMs
    curtainAt := Config.curtainMs
    mode := .start
    returnMode := none
    signal := false
    releaseAt := none
    emergencyAt := none
    restartRequested := false
    receiver := .hunting
    answering := false
    reply := none
    frameErrors := 0
    earlyFrames := 0
    restartPending := false
    storePending := false
    supervisionAt := none
    notices := []
    lost := 0 }

/-! ## The end of START -/

/-- R66: every terminal's function starts. -/
def startFunctions (s : State) : State := forEach terminalNumbers startFunction s

/-- R130: a PARTIAL window opens at the start when the clock is SET. -/
def startWindow (s : State) : State := if s.clock.isSet then openWindow true s else s

/-- R2, R184: the notice of a cold start after power-on that left the clock UNSET. -/
def noteClock (report : Bool) (s : State) : State :=
  if report then raise .clockUnset .none none none s else s

/-- R184, R185: START ends in `mode`: MODE_CHANGED, then CLOCK_UNSET, the plan unit's evaluation, the
demand window, the terminal functions and the lines' first grants. -/
def endStart (mode : Mode) (cause : ModeCause) (reportClock : Bool) (s : State) : State :=
  grantLines (startFunctions (startWindow (evaluate .start (noteClock reportClock (changeMode mode cause s)))))

/-! ## Cold and warm starts -/

/-- R184: the store as a cold start judges it: a write that was cut short leaves it INVALID. -/
def judgedStore (st : StoreState) : StoreState :=
  match st with
  | .writing => .invalid
  | x => x

/-- R2: the clock after a cold start. -/
def startClock (cause : StartCause) (c : Clock) : Clock :=
  match cause with
  | .powerOn held => if held && c.isSet then c else ⟨false, unsetReading, 0⟩
  | .restartInput => c

/-- R2: CLOCK_UNSET is raised at a start from power-on that leaves the clock UNSET. -/
def reportsClock (cause : StartCause) (c : Clock) : Bool :=
  match cause with
  | .powerOn _ => !(startClock cause c).isSet
  | .restartInput => false

/-- R183: the last start of a cold start. -/
def coldLastStart (cause : StartCause) (stored : Bool) : LastStart :=
  match cause with
  | .powerOn _ => .powerOn stored
  | .restartInput => .restartInput stored

/-- R184: a cold start. The store's copy replaces the running configuration when the store is VALID, the
factory values otherwise. -/
def coldStart (cause : StartCause) (s : State) : State :=
  let judged := judgedStore s.store.state
  let stored := decide (judged = .valid)
  let t := startBlocks (if stored then s.store.copy else factoryConfig) s
  endStart (if stored then .standalone else .hold) (if stored then .coldStored else .coldDefaults)
    (reportsClock cause s.clock)
    { t with
      clock := startClock cause s.clock
      store := { s.store with state := judged, writingSince := none, changed := !stored }
      lastStart := coldLastStart cause stored }

/-- R185: a warm restart keeps the running configuration, the clock and the store, and ends in STANDALONE. -/
def warmRestart (s : State) : State :=
  endStart .standalone .warm false { startBlocks s.config s with lastStart := .hostRestart }

/-- R192, R197: a store write is in progress. The write begins as the reply to STORE SETTINGS ends, so one that
waits for STORE_WRITE_BEGIN counts (log 37). -/
def isStoring (s : State) : Bool := s.store.state == .writing || s.storePending

/-- R184: the cold start that the restart input requested waits until a store write has completed, one that has been
accepted and has not begun included (log 37). -/
def restartInputReady (s : State) : Bool := s.powered && s.restartRequested && !isStoring s

/-- R185, R197: the warm restart begins once the reply to RESTART has been sent, and never comes during a store write:
it waits for one that STORE SETTINGS has been answered ACCEPTED for since (log 56). -/
def warmRestartReady (s : State) : Bool := s.restartPending && !s.answering && !isStoring s

/-- COLD_START (R184). -/
def execColdStart (cause : StartCause) (s : State) : Result :=
  .next (match cause with
    | .powerOn _ => coldStart cause s
    | .restartInput => if restartInputReady s then coldStart cause s else s)

/-- WARM_RESTART (R185): once the reply to RESTART has been sent. A request placed before it is served (log 56). -/
def execWarmRestart (s : State) : Result :=
  whenPowered (fun s => if warmRestartReady s then warmRestart s else s) s

/-- MAIN_POWER_LOSS (R197, R184): a write in progress is cut and leaves the store INVALID. -/
def execMainPowerLoss (s : State) : Result :=
  .next { s with
    powered := false
    store := { s.store with state := judgedStore s.store.state, writingSince := none } }

/-! ## The store's write (R197) -/

/-- STORE_WRITE_BEGIN (R197): once the reply to STORE SETTINGS has been sent. -/
def execStoreWriteBegin (s : State) : Result :=
  whenPowered (fun s =>
    if s.storePending && !s.answering then
      { s with
        storePending := false
        store := { s.store with state := .writing, copy := s.config, writingSince := some s.now } }
    else s) s

/-- R197: the earliest time at which the write in progress ends. -/
def writeReady (s : State) : Nat := s.store.writingSince.getD s.now + Config.storeWriteMs

/-- R197: the write time in milliseconds. -/
def writeTime (s : State) : Nat := s.now - s.store.writingSince.getD s.now

/-- R197: a write has ended and its copy has been read back. -/
def endWrite (agrees : Bool) (s : State) : State :=
  if agrees then
    raise .storeDone .none (quantity (writeTime s)) none
      { s with store := { s.store with state := .valid, writingSince := none, changed := false } }
  else
    raise .storeFailed .none none none
      { s with store := { s.store with state := .invalid, writingSince := none } }

/-- STORE_WRITE_END (R197): a write ends 0.5 s after its beginning or later (log 23). -/
def execStoreWriteEnd (agrees : Bool) (s : State) : Result :=
  whenPowered (fun s =>
    if s.store.state = .writing then whenDue (writeReady s) (endWrite agrees) s else s) s

end Sys2Proof.Machine
end

