-- ==== Sys2Proof/Machine/Flags.lean ====
section
/-! DEFINITION. Flags and lines that the part works out from its state: the attention line, the notice
counts, the changed flag (R196, R199, R200). -/

namespace Sys2Proof.Machine

/-- R196: the priority notices in the queue. -/
def priorityCount (notices : List Notice) : Nat := notices.countP fun n => isPriority n.kind

/-- R200: the attention line is asserted. -/
def attentionLine (s : State) : Bool :=
  decide (s.config.watermark ≤ s.notices.length) || s.notices.any fun n => isPriority n.kind

/-- What a request is to the settings store (R192, R194, R196): it changes configuration and, answered OK,
sets the changed flag; it is RESTART or STORE SETTINGS, refused BUSY alike; or neither. -/
inductive RequestClass where
  | plain | configuring | restartOrStore
  deriving DecidableEq, Repr

/-- R192, check 4: the request is answered BUSY while a store write is in progress. -/
def waitsForStore : RequestClass → Bool
  | .plain => false
  | _ => true

/-- R196: the changed flag after a request. -/
def changedAfter (cls : RequestClass) (status : Status) (changed : Bool) : Bool :=
  changed || (cls == .configuring && status == .ok)

/-- R198: the supervision timer runs. -/
def supervisionRuns (s : State) : Bool :=
  s.mode == .run || (s.mode == .emergency && s.returnMode == some .run)

end Sys2Proof.Machine
end

