-- ==== Sys2Proof/Machine/Operands.lean ====
section
/-! DEFINITION. The operands of requests: reading the fields of a body as R193 encodes them. A reader that
does not come out at the body's end means a body length that check 2 of R192 refuses. -/

namespace Sys2Proof.Machine

/-- A reader of fields from the front of a body. -/
abbrev Reader (α : Type) := StateT (List Byte) Option α

/-- One byte. -/
def takeByte : Reader Nat := fun body =>
  match body with
  | [] => none
  | b :: rest => some (b.toNat, rest)

/-- A 2-byte number, most significant byte first. -/
def takeWord : Reader Nat := do
  let hi ← takeByte
  let lo ← takeByte
  return hi * 256 + lo

/-- R193: the signed number of a 2-byte field. -/
def signedOf (n : Nat) : Int := if n < 32768 then n else (n : Int) - 65536

/-- A signed 2-byte number. -/
def takeSigned : Reader Int := do
  let n ← takeWord
  return signedOf n

/-- `n` items. -/
def takeMany {α : Type} (item : Reader α) : Nat → Reader (List α)
  | 0 => return []
  | n + 1 => do
    let x ← item
    let rest ← takeMany item n
    return x :: rest

/-- R193: a list is a count byte followed by its items. -/
def takeList {α : Type} (item : Reader α) : Reader (List α) := do
  let n ← takeByte
  takeMany item n

/-- Read a whole body; none when its length is not the one its content gives (R192, check 2). -/
def readWhole {α : Type} (reader : Reader α) (body : List Byte) : Option α :=
  match reader body with
  | some (x, []) => some x
  | _ => none

/-- A body with no fields. -/
def takeNothing : Reader Unit := return ()

/-! ## Compound fields -/

/-- A point as it stands in a body (R193). -/
structure RawPoint where
  line : Nat
  addr : Nat
  point : Nat
  deriving DecidableEq, Repr

/-- A point is three bytes (R193). -/
def takePoint : Reader RawPoint := do
  let line ← takeByte
  let addr ← takeByte
  let point ← takeByte
  return ⟨line, addr, point⟩

/-- The bus of a line byte (R193): A 0, B 1, T 2. -/
def busOfByte : Nat → Option Bus
  | 0 => some .a
  | 1 => some .b
  | 2 => some .t
  | _ => none

/-- The field line of a line byte. -/
def lineOfByte : Nat → Option LineId
  | 0 => some .a
  | 1 => some .b
  | _ => none

/-- A point in its range (R73, R85, R99, R118, R145), none when it lies outside. -/
def pointOfRaw (r : RawPoint) : Option PointRef :=
  (busOfByte r.line).bind fun bus =>
    if pointInRange ⟨bus, r.addr, r.point⟩ then some ⟨bus, r.addr, r.point⟩ else none

/-- R193: a point that is none carries all ones. -/
def noPoint : RawPoint := ⟨255, 255, 255⟩

/-- A field whose range stops short of the byte's all-ones value (R193). -/
def byteOrNone (n : Nat) : Option Nat := if n = 255 then none else some n

/-- A field whose range stops short of the all-ones value of 2 bytes (R193). -/
def wordOrNone (n : Nat) : Option Nat := if n = 65535 then none else some n

/-- R193: the action of a request that carries a definition or REMOVE; an action byte beyond the list. -/
inductive Action (α β : Type) where
  | define (x : α)
  | remove (y : β)
  | unknown
  deriving DecidableEq, Repr

/-- R193: such a request opens with an action byte. An action beyond the list passes the length check and
is refused by the owner (log 8). -/
def readAction {α β : Type} (definition : Reader α) (removal : Reader β) (body : List Byte) :
    Option (Action α β) :=
  match body with
  | [] => none
  | action :: rest =>
    match action.toNat with
    | 0 => (readWhole definition rest).map .define
    | 1 => (readWhole removal rest).map .remove
    | _ => some .unknown

/-- A flag byte: 1 is yes, on or set, 0 is no, off or clear (log 8). -/
def flagOf : Nat → Option Bool
  | 0 => some false
  | 1 => some true
  | _ => none

end Sys2Proof.Machine
end

