-- ==== Sys2Proof/Machine/Link.lean ====
section
/-! DEFINITION. The host link (chapter 11): serving a request through the checks of R192, the reply frame
and its CRC (R191, R201), frames that are discarded, and the encoding of reply fields (R193). -/

namespace Sys2Proof.Machine

/-! ## Encoding (R193) -/

/-- One byte. -/
def byteOf (n : Nat) : Byte := BitVec.ofNat 8 n

/-- A 2-byte number. -/
def wordBytes (n : Nat) : List Byte := [byteOf (n / 256), byteOf n]

/-- A 4-byte number, modulo 2^32. -/
def longBytes (n : Nat) : List Byte := wordBytes (n / 65536) ++ wordBytes (n % 65536)

/-- A signed 2-byte number. -/
def signedBytes (i : Int) : List Byte := wordBytes (BitVec.ofInt 16 i).toNat

/-- A flag (log 8). -/
def flagByte (b : Bool) : Byte := if b then 1 else 0

/-- A 1-byte field whose range stops short of all ones, or none. -/
def optByte (n : Option Nat) : Byte := byteOf (n.getD 255)

/-- A 2-byte field whose range stops short of all ones, or none. -/
def optWord (n : Option Nat) : List Byte := wordBytes (n.getD 65535)

/-- A signed 2-byte field, or none: the most negative value. -/
def optSigned (i : Option Int) : List Byte := signedBytes (i.getD (-32768))

/-- A 2-byte field whose range reaches all ones, preceded by a presence byte. -/
def presentWord (n : Option Nat) : List Byte := flagByte n.isSome :: wordBytes (n.getD 0)

/-- A 4-byte field whose range reaches all ones, preceded by a presence byte. -/
def presentLong (n : Option Nat) : List Byte := flagByte n.isSome :: longBytes (n.getD 0)

/-- A list: its count and its items. -/
def listBytes {α : Type} (item : α → List Byte) (items : List α) : List Byte :=
  byteOf items.length :: items.flatMap item

/-- A point. -/
def pointBytes (p : PointRef) : List Byte := [byteOf p.bus.ctorIdx, byteOf p.addr, byteOf p.point]

/-- A point or none. -/
def optPoint (p : Option PointRef) : List Byte :=
  match p with
  | some q => pointBytes q
  | none => [0xFF, 0xFF, 0xFF]

/-- An age in units of 0.1 s, saturating (R193), rounded down (log 9). -/
def ageOf (s : State) (t : Nat) : Nat := min ((s.now - t) / 100) 65535

/-- The age of a time that may be none. -/
def optAge (s : State) (t : Option Nat) : List Byte := presentWord (t.map (ageOf s))

/-- A date. -/
def dateBytes (d : Date) : List Byte := [byteOf d.day, byteOf d.month] ++ wordBytes d.year

/-- A date and time of day that a moment gives, or none: all ones. -/
def momentBytes (m : Option Moment) : List Byte :=
  match m with
  | some x => dateBytes x.date ++ [byteOf (x.minute / 60), byteOf (x.minute % 60), 0]
  | none => [0xFF, 0xFF, 0xFF, 0xFF, 0xFF, 0xFF, 0xFF]

/-- The date and time of a calendar second. -/
def secondBytes (n : Nat) : List Byte :=
  dateBytes (dateOfDay (n / 86400)) ++
    [byteOf (n % 86400 / 3600), byteOf (n % 3600 / 60), byteOf (n % 60)]

/-! ## CRC and frames (R191, R201) -/

/-- R191: the start byte. -/
def startByteValue : Byte := 0xA5

/-- R191: one shift of the CRC register. -/
def crcShift (r : Word16) : Word16 := if r.msb then (r <<< 1) ^^^ 0x1021 else r <<< 1

/-- R191: feed one byte, most significant bit first. -/
def crcByte (r : Word16) (b : Byte) : Word16 :=
  crcShift (crcShift (crcShift (crcShift (crcShift (crcShift (crcShift (crcShift
    (r ^^^ (b ++ (0 : Byte))))))))))

/-- R191: the CRC of the bytes under it. -/
def crc (bytes : List Byte) : Word16 := bytes.foldl crcByte 0xFFFF

/-- R201: the bytes of a reply under its CRC: length, code with its top bit set, status, body. -/
def replyBytes (r : Reply) : List Byte :=
  wordBytes r.body.length ++ [byteOf r.code ||| 0x80, byteOf r.status.ctorIdx] ++ r.body

/-- R201: the reply frame. -/
def replyFrame (r : Reply) : List Byte :=
  startByteValue :: replyBytes r ++ wordBytes (crc (replyBytes r)).toNat

/-- R201: the bytes of a request frame after its start byte: length, code, body, CRC. -/
def frameTail (code : Nat) (body : List Byte) : List Byte :=
  let covered := wordBytes body.length ++ [byteOf code] ++ body
  covered ++ wordBytes (crc covered).toNat

/-- R201: a request frame. -/
def requestBytes (code : Nat) (body : List Byte) : List Byte := startByteValue :: frameTail code body

/-! ## The receiver (R191) -/

/-- What a frame in hand has become: it lacks bytes, it has failed, or it is whole and its CRC agrees. -/
inductive FrameJudgement where
  | growing
  | failed
  | whole (code : Byte) (body : List Byte)
  deriving DecidableEq, Repr

/-- R191: the last two of a frame's bytes are the CRC of those before them. -/
def crcAgrees (bytes : List Byte) : Bool :=
  let covered := bytes.take (bytes.length - 2)
  wordBytes (crc covered).toNat == bytes.drop covered.length

/-- R191: the judgement of a frame: a framing error, a body length above the limit, and a CRC that does not agree fail
it. -/
def judgeFrame (f : HostFrame) : FrameJudgement :=
  if f.broken then .failed
  else match f.bytes with
    | hi :: lo :: rest =>
      let n := hi.toNat * 256 + lo.toNat
      if Config.hostBodyLimit < n then .failed
      else match rest with
        | [] => .growing
        | code :: tail =>
          if tail.length < n + 2 then .growing
          else if crcAgrees f.bytes then .whole code (tail.take n)
          else .failed
    | _ => .growing

/-- R191: more than 20 ms have passed since the last byte of a frame that lacks bytes. -/
def frameLate (now : Nat) (f : HostFrame) : Bool :=
  judgeFrame f == .growing && decide (f.last + Config.byteGapMs < now)

/-- R191: a frame is discarded as early. -/
def discardEarly (s : State) : State :=
  { s with receiver := .hunting, earlyFrames := min (s.earlyFrames + 1) 65535 }

/-- R191: a frame is discarded for another cause. -/
def discardFrame (s : State) : State :=
  { s with receiver := .hunting, frameErrors := min (s.frameErrors + 1) 65535 }

/-- R191, R192: a frame in hand that has failed is discarded, and one that is whole and early. An early frame that fails
counts as a frame error (log 57). -/
def discardEnded (f : HostFrame) (s : State) : State :=
  match judgeFrame f with
  | .growing => s
  | .failed => discardFrame s
  | .whole _ _ => if f.early then discardEarly s else s

/-- R191: a frame that broke off is discarded. -/
def discardLate (f : HostFrame) (s : State) : State := if frameLate s.now f then discardFrame s else s

/-- What the receiver does with the frame in hand. -/
def withFrame (act : HostFrame → State → State) (s : State) : State :=
  match s.receiver with
  | .hunting => s
  | .collecting f => act f s

/-- R191: before anything else reaches the receiver, a frame that is over is discarded. -/
def settleFrame (s : State) : State := withFrame discardLate (withFrame discardEnded s)

/-- R191: a byte of the frame in hand. A whole frame waits for its request's command, and takes none (log 17). -/
def growFrame (b : LinkByte) (f : HostFrame) (s : State) : State :=
  if judgeFrame f = .growing then
    { s with receiver := .collecting { f with
      bytes := f.bytes ++ [b.byte], broken := b.framingError, last := s.now } }
  else s

/-- R191, R192: while hunting, the receiver ignores every byte but the start byte, which begins a frame, early when the
link is answering. -/
def huntByte (b : LinkByte) (s : State) : State :=
  if b = ⟨startByteValue, false⟩ then { s with receiver := .collecting ⟨s.answering, [], false, s.now⟩ } else s

/-- R191: a byte reaches the receiver; a frame that is over is discarded before it. -/
def receiveByte (b : LinkByte) (s : State) : State :=
  let t := settleFrame s
  match t.receiver with
  | .hunting => huntByte b t
  | .collecting f => growFrame b f t

/-! ## Serving a request (R192) -/

/-- What an owner answers. -/
structure Served where
  status : Status
  body : List Byte
  state : State
  deriving DecidableEq, Repr

/-- A refusal changes nothing and carries no body. -/
def refuse (status : Status) (s : State) : Served := ⟨status, [], s⟩

/-- Taken and done, with a body. -/
def answer (body : List Byte) (s : State) : Served := ⟨.ok, body, s⟩

/-- Taken and done. -/
def done (s : State) : Served := answer [] s

/-- R192: the checks of a request after that of its code, in order. `handler` is none when the body length
is wrong. -/
def checkRequest (cls : RequestClass) (holdOnly : Bool) (handler : Option (State → Served)) (s : State) : Served :=
  match handler with
  | none => refuse .badLength s
  | some handle =>
    if holdOnly && s.mode != .hold then refuse .wrongMode s
    else if waitsForStore cls && isStoring s then refuse .busy s
    else handle s

/-- The code of ENTER HOLD (R194). -/
def enterHoldCode : Nat := 0x02

/-- R186, R189: what a valid request does to STANDALONE, and to a return mode of STANDALONE. -/
def followHost (code : Nat) (s : State) : State :=
  match s.mode with
  | .standalone => if code = enterHoldCode then s else changeMode .run .hostRequest s
  | .emergency => if s.returnMode = some .standalone then { s with returnMode := some .run } else s
  | _ => s

/-- R198: after a valid request the supervision timer restarts where it runs, and is stopped elsewhere. -/
def superviseRequest (s : State) : State :=
  { s with supervisionAt := if supervisionRuns s then supervisionStart s else none }

/-- R192: a request has been handled: its reply stands, and the link is answering. -/
def finishRequest (code : Nat) (cls : RequestClass) (r : Served) : State :=
  let t := { r.state with store := { r.state.store with
    changed := changedAfter cls r.status r.state.store.changed } }
  { superviseRequest (followHost code t) with
    receiver := .hunting
    answering := true
    reply := some ⟨code, r.status, r.body⟩ }

/-- R191, R192: a request's whole frame is in: too long, it is discarded; early, it is discarded; otherwise its request
is taken. -/
def endFrame (early : Bool) (body : List Byte) (take : State → State) (s : State) : State :=
  if Config.hostBodyLimit < body.length then discardFrame s
  else if early then discardEarly s
  else take s

/-- R191: the bytes of a request's frame that are not in hand yet arrive with its command; a frame whose bytes in hand
are others is not this request's, and the command does nothing (log 17). -/
def receiveRequest (code : Nat) (body : List Byte) (take : State → State) (s : State) : State :=
  match s.receiver with
  | .hunting => endFrame s.answering body take s
  | .collecting f =>
    if f.bytes.isPrefixOf (frameTail code body) then
      endFrame (s.answering || f.early) body take { s with receiver := .hunting }
    else s

/-- R191, R192: a request's frame reaches the link, and its request goes through the checks. -/
def serve (code : Nat) (cls : RequestClass) (holdOnly : Bool) (body : List Byte) (handler : Option (State → Served))
    (s : State) : Result :=
  whenPowered (fun s =>
    receiveRequest code body (fun t => finishRequest code cls (checkRequest cls holdOnly handler t)) (settleFrame s)) s

/-! ## Commands of the link -/

/-- START_BYTE (R191, R192): the byte 0xA5 reaches the receiver; of a frame in hand it is a byte like others. -/
def execStartByte (s : State) : Result := whenPowered (receiveByte ⟨startByteValue, false⟩) s

/-- HOST_FRAME_DISCARDED (R191, R192): the bytes reach the receiver, and the frame in hand is discarded if it has
failed, or is early and whole. -/
def execHostFrameDiscarded (bytes : List LinkByte) (s : State) : Result :=
  whenPowered (fun s => withFrame discardEnded (forEach bytes receiveByte s)) s

/-- HOST_BYTE_TIMEOUT (R191): the frame in hand is discarded if it broke off; an early one counts as a frame error then
(log 57). -/
def execHostByteTimeout (s : State) : Result := whenPowered (withFrame discardLate) s

/-- REPLY_SENT (R192): the last byte of the reply has been sent. -/
def execReplySent (s : State) : Result := whenPowered (fun s => { s with answering := false }) s

/-- UNKNOWN_REQUEST (R192, check 1). -/
def execUnknownRequest (r : UnknownFrame) (s : State) : Result :=
  serve r.code.toNat .plain false r.body (some (refuse .unknownRequest)) s

end Sys2Proof.Machine
end

