-- ==== Sys2Proof/Machine/HostRequests.lean ====
section
/-! DEFINITION. Requests of the mode controller and the host link: IDENTIFY, ENTER HOLD, ENTER RUN with its
configuration checks (R187), RESTART, STORE SETTINGS, COLLECT NOTICES. -/

namespace Sys2Proof.Machine

/-! ## Configuration checks (R187) -/

/-- Item kinds of a BAD_CONFIG reply (R201), in the order of their codes. -/
inductive ItemKind where
  | load | door | zone | group | line
  deriving DecidableEq, Repr

/-- What a point is bound as (R187). -/
inductive BindUse where
  | load | door | temperature | gas (g : Gas) | presence | daylight
  deriving DecidableEq, Repr

/-- A binding: the item that makes it, the point, what it is bound as. -/
structure Binding where
  kind : ItemKind
  number : Nat
  point : PointRef
  use : BindUse
  deriving DecidableEq, Repr

/-- The first offending item (R187, R201). -/
structure BadItem where
  check : Nat
  kind : ItemKind
  number : Nat
  point : Option PointRef
  deriving DecidableEq, Repr

/-- The bindings of a zone: temperature point, gas points, presence sources (R187). -/
def zoneBindings (z : Nat) (d : ZoneDef) : List Binding :=
  d.temperature.toList.map (fun p => ⟨.zone, z, p, .temperature⟩)
    ++ d.gas.map (fun g => ⟨.zone, z, g.point, .gas g.gas⟩)
    ++ d.presence.map (fun p => ⟨.zone, z, p, .presence⟩)

/-- The bindings of a configuration in the order of check 1 (R187). -/
def allBindings (c : RunningConfig) : List Binding :=
  c.loads.map (fun e => ⟨.load, e.1, e.2.binding, .load⟩)
    ++ c.doors.map (fun e => ⟨.door, e.1, e.2.binding, .door⟩)
    ++ c.zones.flatMap (fun e => zoneBindings e.1 e.2)
    ++ c.daylight.flatMap (fun e => e.2.point.toList.map fun p => ⟨.group, e.1, p, .daylight⟩)

/-- The bad item of a binding. -/
def badBinding (check : Nat) (b : Binding) : BadItem := ⟨check, b.kind, b.number, some b.point⟩

/-- R187, check 1. -/
def checkBinding (c : RunningConfig) : Option BadItem :=
  ((allBindings c).find? fun x => !pointDefined c x.point).map (badBinding 1)

/-- R187: the terminal functions that suit a binding. -/
def suits (f : TermFunction) (u : BindUse) : Bool :=
  match u, f with
  | .door, .doorContact => true
  | .presence, .presenceIn => true
  | .load, .relayOut => true
  | .load, .dimOut => true
  | .temperature, .analogIn .temperature _ _ => true
  | .gas .co, .analogIn .co _ _ => true
  | .gas .no2, .analogIn .no2 _ _ => true
  | .daylight, .analogIn .lux _ _ => true
  | _, _ => false

/-- R187, check 2. -/
def checkFunction (c : RunningConfig) : Option BadItem :=
  ((allBindings c).find? fun x =>
    x.point.bus == .t && !suits (functionOf c (x.point.point + 1)) x.use).map (badBinding 2)

/-- R187, check 3: two bindings collide: one point, not both daylight. -/
def collides (a b : Binding) : Bool := a.point == b.point && !(a.use == .daylight && b.use == .daylight)

/-- R187, check 3: the first binding that collides with one before it. -/
def firstDuplicate (before : List Binding) : List Binding → Option Binding
  | [] => none
  | x :: rest => if before.any (collides x) then some x else firstDuplicate (before ++ [x]) rest

/-- R187, check 3. -/
def checkDuplicate (c : RunningConfig) : Option BadItem :=
  (firstDuplicate [] (allBindings c)).map (badBinding 3)

/-- R187, check 4: the loads bound to a line. -/
def loadsOnLine (c : RunningConfig) (bus : Bus) : Nat := c.loads.countP fun e => e.2.binding.bus == bus

/-- R187, check 4. -/
def checkLineLoads (c : RunningConfig) : Option BadItem :=
  if 24 < loadsOnLine c .a then some ⟨4, .line, 0, none⟩
  else if 24 < loadsOnLine c .b then some ⟨4, .line, 1, none⟩
  else none

/-- R187, check 5: a zone is named by more lights, heaters or fans than it may hold. -/
def zoneOverloaded (c : RunningConfig) (z : Nat) : Bool :=
  decide (4 < (zoneLoads c (· == .light) z).length)
    || decide (6 < (zoneLoads c isHeater z).length)
    || decide (4 < (zoneLoads c isFan z).length)

/-- The numbers of the zones. -/
def zoneNumbers : List Nat := [1, 2, 3, 4, 5, 6, 7, 8, 9, 10, 11, 12]

/-- R187, check 5. -/
def checkZoneLoads (c : RunningConfig) : Option BadItem :=
  (zoneNumbers.find? (zoneOverloaded c)).map fun z => ⟨5, .zone, z, none⟩

/-- R187, check 6. -/
def checkDoorZone (c : RunningConfig) : Option BadItem :=
  (c.doors.find? fun e => !slotUsed c.zones e.2.zone).map fun e => ⟨6, .door, e.1, none⟩

/-- R187: the checks in order, to the first failure. -/
def firstBadItem (c : RunningConfig) : Option BadItem :=
  (checkBinding c).or ((checkFunction c).or ((checkDuplicate c).or
    ((checkLineLoads c).or ((checkZoneLoads c).or (checkDoorZone c)))))

/-- R201: a BAD_CONFIG body. -/
def badItemBytes (b : BadItem) : List Byte :=
  [byteOf b.check, byteOf b.kind.ctorIdx, byteOf b.number] ++ optPoint b.point

/-! ## Mode requests (R186) -/

/-- ENTER HOLD (R186). -/
def handleEnterHold (s : State) : Served :=
  match s.mode with
  | .emergency => refuse .wrongMode s
  | .hold => done s
  | _ => done (changeMode .hold .enterHold s)

/-- ENTER RUN (R186, R187). -/
def handleEnterRun (s : State) : Served :=
  match s.mode with
  | .emergency => refuse .wrongMode s
  | .hold =>
    match firstBadItem s.config with
    | some b => ⟨.badConfig, badItemBytes b, s⟩
    | none => done (changeMode .run .enterRun s)
  | _ => done s

/-- RESTART (R185): the warm restart begins once the reply has been sent. -/
def handleRestart (s : State) : Served := done { s with restartPending := true }

/-- STORE SETTINGS (R197): the write begins once the reply has been sent. -/
def handleStoreSettings (s : State) : Served := ⟨.accepted, [], { s with storePending := true }⟩

/-! ## IDENTIFY (R196) -/

/-- R196: the part code KDH-48. -/
def partCode : List Byte := [0x4B, 0x44, 0x48, 0x2D, 0x34, 0x38]

/-- R183: a last start, with STORED or DEFAULTS; HOST_RESTART has neither, and sends 0xFF there (log 9). -/
def lastStartBytes : LastStart → List Byte
  | .powerOn stored => [0, if stored then 0 else 1]
  | .restartInput stored => [1, if stored then 0 else 1]
  | .hostRestart => [2, 0xFF]

/-- R196: the body of an IDENTIFY reply. The emergency signal goes as a flag, active 1 and inactive 0; the running time in
whole seconds is rounded down; a stopped supervision timer has no time left, though R198 has it hold the full supervision
time after a start (log 9). -/
def identifyBody (s : State) : List Byte :=
  partCode ++ [1, byteOf s.mode.ctorIdx, optByte (s.returnMode.map Mode.ctorIdx), flagByte s.signal,
      optByte (s.releaseAt.map (secondsLeft s))]
    ++ lastStartBytes s.lastStart ++ longBytes (s.now / 1000)
    ++ [byteOf s.store.state.ctorIdx, flagByte s.store.changed]
    ++ wordBytes s.config.supervision ++ optWord (s.supervisionAt.map (secondsLeft s))
    ++ [byteOf s.notices.length, byteOf (priorityCount s.notices), byteOf s.lost, flagByte (attentionLine s)]
    ++ wordBytes s.frameErrors ++ wordBytes s.earlyFrames

/-! ## Notices (R200, R202) -/

/-- R202: the subject's type and number. The number of a subject NONE is 0 (log 9). -/
def subjectBytes : Subject → List Byte
  | .none => [0, 0]
  | .zone n => [1, byteOf n]
  | .door n => [2, byteOf n]
  | .load n => [3, byteOf n]
  | .node .a addr => [4, byteOf addr]
  | .node .b addr => [5, byteOf addr]
  | .line l => [6, byteOf l.ctorIdx]
  | .terminal n => [7, byteOf n]
  | .record n => [8, byteOf n]
  | .mode m => [9, byteOf m.ctorIdx]
  | .order terminal => [10, flagByte terminal]

/-- R202: a value of a notice; one that no rule states is a free value (log 10). -/
def valueBytes (kind : NoticeKind) (place : Nat) (v : Option Int) : List Byte :=
  match v with
  | some i => signedBytes i
  | none => wordBytes (Config.unstatedNoticeValue (kind.ctorIdx + 1) place)

/-- R202: a notice record. -/
def noticeBytes (n : Notice) : List Byte :=
  byteOf (n.kind.ctorIdx + 1) :: subjectBytes n.subject ++ longBytes n.time
    ++ valueBytes n.kind 0 n.first ++ valueBytes n.kind 1 n.second

/-- R200: collect up to `count` notices. -/
def collect (count : Nat) (s : State) : Served :=
  let taken := s.notices.take count
  answer
    (byteOf taken.length :: byteOf s.lost :: byteOf (s.notices.length - taken.length) :: taken.flatMap noticeBytes)
    { s with notices := s.notices.drop count, lost := 0 }

/-- R200: COLLECT NOTICES carries a count, 1..8. -/
def handleCollect (count : Nat) (s : State) : Served :=
  if 1 ≤ count ∧ count ≤ 8 then collect count s else refuse .outOfRange s

/-! ## Commands -/

/-- IDENTIFY (R196). -/
def execIdentify (body : List Byte) (s : State) : Result :=
  serve 0x01 .plain false body ((readWhole takeNothing body).map fun _ s => answer (identifyBody s) s) s

/-- ENTER_HOLD (R186). -/
def execEnterHold (body : List Byte) (s : State) : Result :=
  serve 0x02 .plain false body ((readWhole takeNothing body).map fun _ => handleEnterHold) s

/-- ENTER_RUN (R186). -/
def execEnterRun (body : List Byte) (s : State) : Result :=
  serve 0x03 .plain false body ((readWhole takeNothing body).map fun _ => handleEnterRun) s

/-- RESTART (R185). -/
def execRestart (body : List Byte) (s : State) : Result :=
  serve 0x04 .restartOrStore false body ((readWhole takeNothing body).map fun _ => handleRestart) s

/-- STORE_SETTINGS (R197). -/
def execStoreSettings (body : List Byte) (s : State) : Result :=
  serve 0x05 .restartOrStore false body ((readWhole takeNothing body).map fun _ => handleStoreSettings) s

/-- COLLECT_NOTICES (R200). -/
def execCollectNotices (body : List Byte) (s : State) : Result :=
  serve 0x4A .plain false body ((readWhole takeByte body).map handleCollect) s

end Sys2Proof.Machine
end

