-- ==== Sys2Proof/Machine/PlanRequests.lean ====
section
/-! DEFINITION. Requests of the plan unit (chapter 1): the clock, shift records, exceptions, plan state. -/

namespace Sys2Proof.Machine

/-! ## The clock (R3, R4) -/

/-- The operands of SET CLOCK (R3). -/
structure ClockFields where
  date : Date
  hour : Nat
  minute : Nat
  second : Nat
  deriving DecidableEq, Repr

/-- SET CLOCK's body (R193): day, month, year, hour, minute, second. -/
def takeClock : Reader ClockFields := do
  let day ← takeByte
  let month ← takeByte
  let year ← takeWord
  let hour ← takeByte
  let minute ← takeByte
  let second ← takeByte
  return ⟨⟨day, month, year⟩, hour, minute, second⟩

/-- R3: the fields lie in their ranges. -/
def clockFits (f : ClockFields) : Bool :=
  dateValid f.date && decide (f.hour ≤ 23) && decide (f.minute ≤ 59) && decide (f.second ≤ 59)

/-- R3, R130: the reading is set, the plan evaluated, and a PARTIAL demand window opens; the open window of a clock that
was SET closes first, at the old reading. -/
def setClock (f : ClockFields) (s : State) : State :=
  let t := evaluate .edit { s with clock := ⟨true, readingOf f.date f.hour f.minute f.second, 0⟩ }
  openWindow true (if s.clock.isSet then closeWindow (secondNumber s.clock.reading) true t else t)

/-- SET CLOCK (R3). -/
def handleSetClock (f : ClockFields) (s : State) : Served :=
  if clockFits f then done (setClock f s) else refuse .outOfRange s

/-- R1, R4: the clock state and the reading; SET 0, UNSET 1; the weekday by its place in R1, Monday 0 (log 9). -/
def clockBytes (c : Clock) : List Byte :=
  (if c.isSet then (0 : Byte) else 1) :: dateBytes c.reading.date
    ++ [byteOf c.reading.weekday, byteOf c.reading.hour, byteOf c.reading.minute, byteOf c.reading.second]

/-! ## Shift records (R5, R7, R8) -/

/-- A shift record as it stands in a body (R5, R193). -/
structure RawShift where
  weekdays : Nat
  startMinute : Nat
  label : Nat
  openZones : Nat
  levels : List Nat
  setpoint : List Int
  setback : List Int
  drop : List Nat
  cap : Nat
  base : Nat
  windowLimit : Nat
  lead : Nat
  changeover : Nat
  deriving DecidableEq, Repr

/-- The fields of R5 in their order. -/
def takeShift : Reader RawShift := do
  let weekdays ← takeByte
  let startMinute ← takeWord
  let label ← takeByte
  let openZones ← takeWord
  let levels ← takeMany takeWord 16
  let setpoint ← takeMany takeSigned 4
  let setback ← takeMany takeSigned 4
  let drop ← takeMany takeWord 4
  let cap ← takeWord
  let base ← takeWord
  let windowLimit ← takeWord
  let lead ← takeByte
  let changeover ← takeByte
  return ⟨weekdays, startMinute, label, openZones, levels, setpoint, setback, drop, cap, base, windowLimit,
    lead, changeover⟩

/-- WRITE SHIFT's body: an index and a record. -/
def takeWriteShift : Reader (Nat × RawShift) := do
  let index ← takeByte
  let record ← takeShift
  return (index, record)

/-- R5: a temperature in −400..600. -/
def temperatureFits (t : Int) : Bool := decide (-400 ≤ t) && decide (t ≤ 600)

/-- R5, R7: the fields in their ranges; a timed record also its weekday set, start, lead and changeover. -/
def shiftFits (timed : Bool) (r : RawShift) : Bool :=
  decide (r.openZones ≤ 0xFFF) && r.levels.all (· ≤ 1000) && r.setpoint.all temperatureFits
    && r.setback.all temperatureFits && r.drop.all (· ≤ 300)
    && (!timed || (decide (1 ≤ r.weekdays) && decide (r.weekdays ≤ 0x7F) && decide (r.startMinute ≤ 1439)
      && decide (r.lead ≤ 180) && decide (r.changeover ≤ 60)))

/-- Four values, one for each zone kind. -/
def perKind {α : Type} [Inhabited α] (l : List α) : PerKind α :=
  ⟨l.getD 0 default, l.getD 1 default, l.getD 2 default, l.getD 3 default⟩

/-- The four levels that begin at place `i`. -/
def levelsAt (l : List Nat) (i : Nat) : Levels := ⟨l.getD i 0, l.getD (i + 1) 0, l.getD (i + 2) 0, l.getD (i + 3) 0⟩

/-- The record that a body gives; S0 holds none of the four fields it does not have (R5). -/
def shiftOf (timed : Bool) (r : RawShift) : ShiftRecord where
  weekdays := if timed then BitVec.ofNat 7 r.weekdays else 0
  startMinute := if timed then r.startMinute else 0
  label := r.label
  openZones := BitVec.ofNat 12 r.openZones
  levels := ⟨levelsAt r.levels 0, levelsAt r.levels 4, levelsAt r.levels 8, levelsAt r.levels 12⟩
  setpoint := perKind r.setpoint
  setback := perKind r.setback
  drop := perKind r.drop
  cap := r.cap
  base := r.base
  windowLimit := r.windowLimit
  lead := if timed then r.lead else 0
  changeover := if timed then r.changeover else 0

/-- R7: a start instance of the record falls at one of another defined record. -/
def startsCollide (c : RunningConfig) (index : Nat) (r : ShiftRecord) : Bool :=
  (instancesOf index r).any fun i =>
    (startInstances c).any fun j => j.record != index && j.position == i.position

/-- R7: the record takes its slot. -/
def putShift (c : RunningConfig) (index : Nat) (r : ShiftRecord) : RunningConfig :=
  if index = 0 then { c with shift0 := r } else { c with shifts := slotSet c.shifts index r }

/-- An edit of the plan and the evaluation it runs (R7 to R10). -/
def editPlan (c : RunningConfig) (s : State) : State := evaluate .edit { s with config := c }

/-- WRITE SHIFT (R7). -/
def handleWriteShift (op : Nat × RawShift) (s : State) : Served :=
  let timed := decide (op.1 ≠ 0)
  let r := shiftOf timed op.2
  if 16 < op.1 then refuse .notFound s
  else if !shiftFits timed op.2 then refuse .outOfRange s
  else if timed && startsCollide s.config op.1 r then refuse .conflict s
  else done (editPlan (putShift s.config op.1 r) s)

/-- The bytes of four levels. -/
def levelBytes (l : Levels) : List Byte :=
  wordBytes l.occupied ++ wordBytes l.vacant ++ wordBytes l.dormant ++ wordBytes l.closed

/-- The bytes of a value for each zone kind. -/
def perKindBytes {α : Type} (f : α → List Byte) (v : PerKind α) : List Byte :=
  f v.dock ++ f v.staging ++ f v.office ++ f v.canopy

/-- R8: the fields of a record, S0 without the four it does not have (log 9). -/
def shiftBytes (timed : Bool) (r : ShiftRecord) : List Byte :=
  (if timed then byteOf r.weekdays.toNat :: wordBytes r.startMinute else [])
    ++ [byteOf r.label] ++ wordBytes r.openZones.toNat
    ++ perKindBytes levelBytes r.levels ++ perKindBytes signedBytes r.setpoint
    ++ perKindBytes signedBytes r.setback ++ perKindBytes wordBytes r.drop
    ++ wordBytes r.cap ++ wordBytes r.base ++ wordBytes r.windowLimit
    ++ (if timed then [byteOf r.lead, byteOf r.changeover] else [])

/-- READ SHIFT (R8). -/
def handleReadShift (index : Nat) (s : State) : Served :=
  match shiftRecord s.config index with
  | none => refuse .notFound s
  | some r => answer (shiftBytes (index != 0) r) s

/-- R8: an exception's replacement names the record. -/
def isReplacement (c : RunningConfig) (index : Nat) : Bool :=
  c.exceptions.any fun e => e.2.replacement == .record index

/-- R8, R15: the slot becomes empty; the record is no longer previous. -/
def removeShift (index : Nat) (s : State) : State :=
  editPlan { s.config with shifts := slotFree s.config.shifts index }
    { s with plan := { s.plan with
      previous := if s.plan.previous = some index then none else s.plan.previous } }

/-- DELETE SHIFT (R8). -/
def handleDeleteShift (index : Nat) (s : State) : Served :=
  if index = 0 then refuse .outOfRange s
  else if !slotUsed s.config.shifts index then refuse .notFound s
  else if isReplacement s.config index then refuse .conflict s
  else done (removeShift index s)

/-! ## Exceptions (R9, R10) -/

/-- R9: WRITE EXCEPTION's body: day, month, replacement. Its date has no year, though R193's dates have one (log 8). -/
def takeException : Reader (Nat × Nat × Nat) := do
  let day ← takeByte
  let month ← takeByte
  let replacement ← takeByte
  return (day, month, replacement)

/-- A replacement byte: CLOSED_DAY is all ones (log 8). -/
def replacementOf (n : Nat) : Option Replacement :=
  if n = 255 then some .closedDay else if 1 ≤ n ∧ n ≤ 16 then some (.record n) else none

/-- R9: the replacement names an empty slot. -/
def replacementMissing (c : RunningConfig) : Replacement → Bool
  | .closedDay => false
  | .record n => !slotUsed c.shifts n

/-- R9: the slot of the exception for a date. -/
def exceptionSlot (c : RunningConfig) (day month : Nat) : Option Nat :=
  (c.exceptions.find? fun e => e.2.day == day && e.2.month == month).map Prod.fst

/-- R9: how many exceptions the list holds. -/
def exceptionSlots : Nat := 24

/-- R9: the slot that an exception takes, none when all are in use. -/
def slotForException (c : RunningConfig) (day month : Nat) : Option Nat :=
  match exceptionSlot c day month with
  | some k => some k
  | none => if c.exceptions.length < exceptionSlots then some (lowestFree c.exceptions) else none

/-- R9: an exception takes its slot. -/
def putException (slot : Nat) (x : PlanException) (s : State) : Served :=
  answer [byteOf slot] (editPlan { s.config with exceptions := slotSet s.config.exceptions slot x } s)

/-- WRITE EXCEPTION (R9). -/
def handleWriteException (op : Nat × Nat × Nat) (s : State) : Served :=
  match exceptionDateValid op.1 op.2.1, replacementOf op.2.2 with
  | true, some x =>
    if replacementMissing s.config x then refuse .notFound s
    else match slotForException s.config op.1 op.2.1 with
      | none => refuse .busy s
      | some slot => putException slot ⟨op.1, op.2.1, x⟩ s
  | _, _ => refuse .outOfRange s

/-- R10: DELETE EXCEPTION's body: day, month, without R193's year (log 8). -/
def takeExceptionDate : Reader (Nat × Nat) := do
  let day ← takeByte
  let month ← takeByte
  return (day, month)

/-- DELETE EXCEPTION (R10). -/
def handleDeleteException (op : Nat × Nat) (s : State) : Served :=
  if !exceptionDateValid op.1 op.2 then refuse .outOfRange s
  else match exceptionSlot s.config op.1 op.2 with
    | none => refuse .notFound s
    | some slot => done (editPlan { s.config with exceptions := slotFree s.config.exceptions slot } s)

/-! ## Plan state (R19) -/

/-- R19: the plan state as READ PLAN STATE gives it; the clock reading is the one that stands (log 49). -/
def planBytes (s : State) : List Byte :=
  clockBytes s.clock ++ [byteOf s.plan.active, byteOf s.plan.reason.ctorIdx,
      optByte (s.plan.next.map NextRecord.index)]
    ++ momentBytes (s.plan.next.map NextRecord.start)
    ++ [flagByte s.plan.precondition, flagByte s.plan.changeover, optByte s.plan.previous]
    ++ wordBytes s.plan.openZones.toNat ++ momentBytes s.plan.activation

/-! ## Commands -/

/-- SET_CLOCK (R3). -/
def execSetClock (body : List Byte) (s : State) : Result :=
  serve 0x10 .plain false body ((readWhole takeClock body).map handleSetClock) s

/-- READ_CLOCK (R4). -/
def execReadClock (body : List Byte) (s : State) : Result :=
  serve 0x11 .plain false body ((readWhole takeNothing body).map fun _ s => answer (clockBytes s.clock) s) s

/-- WRITE_SHIFT (R7). -/
def execWriteShift (body : List Byte) (s : State) : Result :=
  serve 0x12 .configuring false body ((readWhole takeWriteShift body).map handleWriteShift) s

/-- READ_SHIFT (R8). -/
def execReadShift (body : List Byte) (s : State) : Result :=
  serve 0x13 .plain false body ((readWhole takeByte body).map handleReadShift) s

/-- DELETE_SHIFT (R8). -/
def execDeleteShift (body : List Byte) (s : State) : Result :=
  serve 0x14 .configuring false body ((readWhole takeByte body).map handleDeleteShift) s

/-- WRITE_EXCEPTION (R9). -/
def execWriteException (body : List Byte) (s : State) : Result :=
  serve 0x15 .configuring false body ((readWhole takeException body).map handleWriteException) s

/-- DELETE_EXCEPTION (R10). -/
def execDeleteException (body : List Byte) (s : State) : Result :=
  serve 0x16 .configuring false body ((readWhole takeExceptionDate body).map handleDeleteException) s

/-- READ_PLAN_STATE (R19). -/
def execReadPlanState (body : List Byte) (s : State) : Result :=
  serve 0x17 .plain false body ((readWhole takeNothing body).map fun _ s => answer (planBytes s) s) s

end Sys2Proof.Machine
end

