-- ==== Sys2Proof/Machine/Definitions.lean ====
section
/-! DEFINITION. Requests that define zones, doors, loads, nodes, scan entries, terminal functions, line
parameters and filter tests (chapters 2 to 7). -/

namespace Sys2Proof.Machine

/-! ## Zones (R99, R100) -/

/-- A gas point as it stands in a body. -/
structure RawGas where
  point : RawPoint
  gas : Nat
  deriving DecidableEq, Repr

/-- A gas point with its gas. -/
def takeGas : Reader RawGas := do
  let point ← takePoint
  let gas ← takeByte
  return ⟨point, gas⟩

/-- DEFINE ZONE's definition as it stands in a body. -/
structure RawZone where
  zone : Nat
  kind : Nat
  temperature : RawPoint
  gas : List RawGas
  presence : List RawPoint
  deriving DecidableEq, Repr

/-- The definition's fields (R99). -/
def takeZone : Reader RawZone := do
  let zone ← takeByte
  let kind ← takeByte
  let temperature ← takePoint
  let gas ← takeList takeGas
  let presence ← takeList takePoint
  return ⟨zone, kind, temperature, gas, presence⟩

/-- R98: the zone kinds by position. -/
def zoneKindOf : Nat → Option ZoneKind
  | 0 => some .dock
  | 1 => some .staging
  | 2 => some .office
  | 3 => some .canopy
  | _ => none

/-- R98: the gases by position. -/
def gasOf : Nat → Option Gas
  | 0 => some .co
  | 1 => some .no2
  | _ => none

/-- A gas point in its range. -/
def gasPointOf (r : RawGas) : Option GasPoint :=
  match pointOfRaw r.point, gasOf r.gas with
  | some p, some g => some ⟨p, g⟩
  | _, _ => none

/-- A point or none, in its range: `some none` is no point. -/
def optPointOf (r : RawPoint) : Option (Option PointRef) :=
  if r = noPoint then some none else (pointOfRaw r).map some

/-- Z1..Z12. -/
def zoneInRange (z : Nat) : Bool := decide (1 ≤ z) && decide (z ≤ 12)

/-- R99, check 1: the definition, with the aging and dormancy times of a new zone. -/
def zoneOf (r : RawZone) : Option ZoneDef :=
  if !zoneInRange r.zone || decide (3 < r.gas.length) || decide (8 < r.presence.length) then none
  else do
    let kind ← zoneKindOf r.kind
    let temperature ← optPointOf r.temperature
    let gas ← r.gas.mapM gasPointOf
    let presence ← r.presence.mapM pointOfRaw
    return ⟨kind, temperature, gas, presence, 300, 900⟩

/-- The points that a zone names. -/
def zonePoints (d : ZoneDef) : List PointRef := d.temperature.toList ++ d.gas.map GasPoint.point ++ d.presence

/-- A list names one member twice. -/
def hasRepeat {α : Type} [DecidableEq α] (l : List α) : Bool := decide (¬ l.Nodup)

/-- R161: a zone at stage 4 ends its purge before its climate record goes. GAS_PURGE_END gives whole seconds, rounded
down (log 41). -/
def endPurge (z : Nat) (s : State) : State :=
  match slotGet s.climate z with
  | none => s
  | some r =>
    if r.stage = 4 then
      raise .gasPurgeEnd (.zone z) (quantity r.gasIndex) (quantity ((s.now - r.stageAt) / 1000)) s
    else s

/-- R99: a SENSOR entry of the zone whose source is no longer among its presence sources. -/
def isOrphan (z : Nat) (sources : List PointRef) (e : PresenceEntry) : Bool :=
  e.zone == z && match e.source with
    | .sensor p => !sources.contains p
    | _ => false

/-- R99: a definition for a free slot. -/
def createZone (z : Nat) (d : ZoneDef) (s : State) : State :=
  judgeZone z { s with
    config := { s.config with zones := slotSet s.config.zones z d }
    zones := slotSet s.zones z startZone
    climate := slotSet s.climate z (freshClimate s.now d) }

/-- R99, R161: a definition for a defined slot. -/
def replaceZone (z : Nat) (old d : ZoneDef) (s : State) : State :=
  let t := endPurge z s
  let u := { t with
    config := { t.config with
      zones := slotChange (fun _ => { d with aging := old.aging, dormancy := old.dormancy }) t.config.zones z }
    climate := slotChange (fun _ => freshClimate t.now d) t.climate z }
  let v := forEach (slotsWhere (isOrphan z d.presence) u.presence) removeEntry u
  changeZone z (fun r => { r with intruded := false }) (judgeZone z v)

/-- R99: take a definition. -/
def putZone (z : Nat) (d : ZoneDef) (s : State) : State :=
  match slotGet s.config.zones z with
  | none => createZone z d s
  | some old => replaceZone z old d s

/-- R100: a door or a load names the zone; a door names its own zone and its neighbours (log 34). -/
def zoneNamed (c : RunningConfig) (z : Nat) : Bool :=
  c.doors.any (fun e => e.2.zone == z || e.2.neighbours.contains z) || c.loads.any fun e => e.2.zone == z

/-- R100, R161: free a zone's slot, with its entries, its pin and its overrides (log 20). -/
def removeZone (z : Nat) (s : State) : State :=
  let t := endPurge z s
  clearFullReported { t with
    config := { t.config with
      zones := slotFree t.config.zones z, pins := t.config.pins.filter fun p => p != z }
    zones := slotFree t.zones z
    climate := slotFree t.climate z
    presence := t.presence.filter fun e => e.2.zone != z
    lightOverrides := slotFree t.lightOverrides z }

/-- DEFINE ZONE (R99, R100). REMOVE of a free slot is NOT_FOUND even where a door names it (log 50). -/
def handleDefineZone (op : Action RawZone Nat) (s : State) : Served :=
  match op with
  | .unknown => refuse .outOfRange s
  | .define r =>
    match zoneOf r with
    | none => refuse .outOfRange s
    | some d => if hasRepeat (zonePoints d) then refuse .conflict s else done (putZone r.zone d s)
  | .remove z =>
    if !zoneInRange z then refuse .outOfRange s
    else if !slotUsed s.config.zones z then refuse .notFound s
    else if zoneNamed s.config z then refuse .conflict s
    else done (removeZone z s)

/-! ## Doors (R85) -/

/-- DEFINE DOOR's definition as it stands in a body. -/
structure RawDoor where
  door : Nat
  binding : RawPoint
  zone : Nat
  neighbours : List Nat
  curtain : Nat
  boost : Nat
  deriving DecidableEq, Repr

/-- The definition's fields (R85). -/
def takeDoor : Reader RawDoor := do
  let door ← takeByte
  let binding ← takePoint
  let zone ← takeByte
  let neighbours ← takeList takeByte
  let curtain ← takeByte
  let boost ← takeWord
  return ⟨door, binding, zone, neighbours, curtain, boost⟩

/-- D1..D48. -/
def doorInRange (d : Nat) : Bool := decide (1 ≤ d) && decide (d ≤ 48)

/-- L1..L64. -/
def loadInRange (k : Nat) : Bool := decide (1 ≤ k) && decide (k ≤ 64)

/-- R85, check 1: the fields in their ranges. -/
def doorFits (r : RawDoor) : Bool :=
  doorInRange r.door && zoneInRange r.zone && decide (r.neighbours.length ≤ 4)
    && r.neighbours.all zoneInRange && !hasRepeat r.neighbours && decide (r.boost ≤ 500)
    && (byteOrNone r.curtain).all loadInRange

/-- R85, check 1: the definition. -/
def doorOf (r : RawDoor) : Option DoorDef :=
  if doorFits r then
    (pointOfRaw r.binding).map fun p => ⟨p, r.zone, r.neighbours, byteOrNone r.curtain, r.boost⟩
  else none

/-- R85, check 2: the curtain load is not defined. -/
def curtainMissing (c : RunningConfig) (d : DoorDef) : Bool := d.curtain.any fun k => !slotUsed c.loads k

/-- R85, check 3: the curtain is not of kind CURTAIN, or another door names it. -/
def curtainTaken (c : RunningConfig) (door k : Nat) : Bool :=
  !((slotGet c.loads k).any fun l => l.kind == .curtain)
    || c.doors.any fun e => e.1 != door && e.2.curtain == some k

/-- R85, check 3. -/
def doorConflicts (c : RunningConfig) (door : Nat) (d : DoorDef) : Bool :=
  d.neighbours.contains d.zone || d.curtain.any (curtainTaken c door)

/-- R85: the DOOR entry of the old definition leaves the presence table (log 35). -/
def dropDoorEntry (door : Nat) (s : State) : State :=
  let t := { s with evictedDoors := s.evictedDoors.filter fun d => d != door }
  match slotGet s.config.doors door with
  | none => t
  | some old => dropEntry old.zone (.door door) t

/-- R85: take a definition. -/
def putDoor (door : Nat) (d : DoorDef) (s : State) : State :=
  let t := dropDoorEntry door s
  { t with
    config := { t.config with doors := slotSet t.config.doors door d }
    doors := slotSet t.doors door (freshDoor t.now) }

/-- R85: free a door's slot. -/
def removeDoor (door : Nat) (s : State) : State :=
  let t := dropDoorEntry door s
  { t with
    config := { t.config with doors := slotFree t.config.doors door }
    doors := slotFree t.doors door }

/-- DEFINE DOOR (R85). -/
def handleDefineDoor (op : Action RawDoor Nat) (s : State) : Served :=
  match op with
  | .unknown => refuse .outOfRange s
  | .define r =>
    match doorOf r with
    | none => refuse .outOfRange s
    | some d =>
      if curtainMissing s.config d then refuse .notFound s
      else if doorConflicts s.config r.door d then refuse .conflict s
      else done (putDoor r.door d s)
  | .remove door =>
    if !doorInRange door then refuse .outOfRange s
    else if !slotUsed s.config.doors door then refuse .notFound s
    else done (removeDoor door s)

/-! ## Loads (R118, R119) -/

/-- DEFINE LOAD's definition as it stands in a body. -/
structure RawLoad where
  load : Nat
  kind : Nat
  zone : Nat
  binding : RawPoint
  rating : Nat
  drive : Nat
  cls : Nat
  exempt : Nat
  hold : Nat
  fallback : Nat
  deriving DecidableEq, Repr

/-- The definition's fields (R118). -/
def takeLoad : Reader RawLoad := do
  let load ← takeByte
  let kind ← takeByte
  let zone ← takeByte
  let binding ← takePoint
  let rating ← takeWord
  let drive ← takeByte
  let cls ← takeByte
  let exempt ← takeByte
  let hold ← takeWord
  let fallback ← takeWord
  return ⟨load, kind, zone, binding, rating, drive, cls, exempt, hold, fallback⟩

/-- R116: the load kinds by position. -/
def loadKindOf : Nat → Option LoadKind
  | 0 => some .light
  | 1 => some .heater
  | 2 => some .curtain
  | 3 => some .exhaustFan
  | 4 => some .supplyFan
  | _ => none

/-- R116: the drives by position. -/
def driveOf : Nat → Option Drive
  | 0 => some .step
  | 1 => some .modulating
  | _ => none

/-- A load definition whose DEFAULT values are still to be worked out (none). -/
structure LoadFields where
  kind : LoadKind
  zone : Nat
  binding : PointRef
  rating : Nat
  drive : Drive
  exempt : Bool
  cls : Option Nat
  hold : Option Nat
  fallback : Option Nat
  deriving DecidableEq, Repr

/-- R118, check 1: the ranges of the numbers. -/
def loadFits (r : RawLoad) : Bool :=
  loadInRange r.load && zoneInRange r.zone && decide (1 ≤ r.rating) && decide (r.rating ≤ 5000)
    && (byteOrNone r.cls).all (· ≤ 3) && (wordOrNone r.hold).all (· ≤ 1000)
    && (wordOrNone r.fallback).all (· ≤ 1000)

/-- R118, check 1: the fields. An exempt byte that is no flag fails with them (log 52). -/
def loadFieldsOf (r : RawLoad) : Option LoadFields :=
  if !loadFits r then none
  else do
    let kind ← loadKindOf r.kind
    let binding ← pointOfRaw r.binding
    let drive ← driveOf r.drive
    let exempt ← flagOf r.exempt
    return ⟨kind, r.zone, binding, r.rating, drive, exempt, byteOrNone r.cls, wordOrNone r.hold,
      wordOrNone r.fallback⟩

/-- R119: the default class. -/
def defaultClass (kind : LoadKind) (zone : ZoneKind) : Nat :=
  match kind, zone with
  | .curtain, _ => 0
  | .exhaustFan, _ => 0
  | .light, .dock => 1
  | .light, .staging => 1
  | .light, _ => 3
  | .heater, _ => 2
  | .supplyFan, _ => 2

/-- R119: the default hold fraction. -/
def defaultHold : LoadKind → Nat
  | .curtain => 0
  | .exhaustFan => 150
  | .light => 500
  | .heater => 300
  | .supplyFan => 120

/-- R119: the default fallback fraction. -/
def defaultFallback : LoadKind → Nat
  | .curtain => 0
  | .exhaustFan => 1000
  | .light => 1000
  | .heater => 300
  | .supplyFan => 800

/-- R119: the definition with its defaults worked out. -/
def loadOf (f : LoadFields) (zone : ZoneKind) : LoadDef where
  kind := f.kind
  zone := f.zone
  binding := f.binding
  rating := f.rating
  drive := f.drive
  cls := f.cls.getD (defaultClass f.kind zone)
  exempt := f.exempt
  hold := f.hold.getD (defaultHold f.kind)
  fallback := f.fallback.getD (defaultFallback f.kind)

/-- R118: the slot holds a curtain that a door names. -/
def isNamedCurtain (c : RunningConfig) (k : Nat) : Bool := !(curtainDoors c k).isEmpty

/-- R118, check 3. -/
def loadConflicts (c : RunningConfig) (k : Nat) (f : LoadFields) : Bool :=
  (f.exempt && f.kind != .light) || (isNamedCurtain c k && f.kind != .curtain)

/-- R144: the daylight assignments after a definition: kept from LIGHT to LIGHT alone. -/
def daylightAfter (c : RunningConfig) (k : Nat) (kind : LoadKind) : Table Daylight :=
  if kind = .light ∧ (slotGet c.loads k).any isLight then c.daylight else slotFree c.daylight k

/-- R64: a terminal output that no load drives is off: its contact open, its voltage 0. -/
def outputOff (r : TermRec) : TermRec := { r with relayClosed := false, dimMillivolts := 0 }

/-- R64: the function is one that a load drives. -/
def isDriven (f : TermFunction) : Bool :=
  match f with
  | .relayOut => true
  | .dimOut => true
  | _ => false

/-- R64: a load has left its point: the terminal there goes off if no load drives it any more. The point's
record stands as it is (log 46). -/
def leaveOutput (binding : Option PointRef) (s : State) : State :=
  match binding with
  | none => s
  | some p =>
    if p.bus == .t && (loadsAt s.config p).isEmpty && isDriven (functionOf s.config (p.point + 1)) then
      changeTerminal (p.point + 1) outputOff s
    else s

/-- The binding of the load in a slot. -/
def bindingOf (c : RunningConfig) (k : Nat) : Option PointRef := (slotGet c.loads k).map LoadDef.binding

/-- R119: take a definition. -/
def putLoad (k : Nat) (d : LoadDef) (s : State) : State :=
  leaveOutput (bindingOf s.config k) { s with
    config := { s.config with
      loads := slotSet s.config.loads k d, daylight := daylightAfter s.config k d.kind }
    loads := slotSet s.loads k
      (freshLoad s.now (contactOf s d.binding.bus d.binding.addr) s.config.budget.nodeHold d) }

/-- R118, R144: free a load's slot. -/
def removeLoad (k : Nat) (s : State) : State :=
  leaveOutput (bindingOf s.config k) { s with
    config := { s.config with
      loads := slotFree s.config.loads k, daylight := slotFree s.config.daylight k }
    loads := slotFree s.loads k }

/-- DEFINE LOAD (R118, R119). -/
def handleDefineLoad (op : Action RawLoad Nat) (s : State) : Served :=
  match op with
  | .unknown => refuse .outOfRange s
  | .define r =>
    match loadFieldsOf r with
    | none => refuse .outOfRange s
    | some f =>
      match slotGet s.config.zones f.zone with
      | none => refuse .notFound s
      | some z =>
        if loadConflicts s.config r.load f then refuse .conflict s
        else done (putLoad r.load (loadOf f z.kind) s)
  | .remove k =>
    if !loadInRange k then refuse .outOfRange s
    else if !slotUsed s.config.loads k then refuse .notFound s
    else if isNamedCurtain s.config k then refuse .conflict s
    else done (removeLoad k s)

/-! ## Nodes (R38) -/

/-- DEFINE NODE's definition as it stands in a body. -/
structure RawNode where
  line : Nat
  addr : Nat
  kind : Nat
  count : Nat
  deriving DecidableEq, Repr

/-- The definition's fields (R38). -/
def takeNode : Reader RawNode := do
  let line ← takeByte
  let addr ← takeByte
  let kind ← takeByte
  let count ← takeByte
  return ⟨line, addr, kind, count⟩

/-- A line and an address. -/
def takeLineAddr : Reader (Nat × Nat) := do
  let line ← takeByte
  let addr ← takeByte
  return (line, addr)

/-- Addresses 1..31. -/
def addrInRange (addr : Nat) : Bool := decide (1 ≤ addr) && decide (addr ≤ 31)

/-- Every point that a door, a load, a zone sensor, a presence source or a lighting group is bound to. -/
def boundPoints (c : RunningConfig) : List PointRef :=
  c.loads.map (fun e => e.2.binding) ++ c.doors.map (fun e => e.2.binding)
    ++ c.zones.flatMap (fun e => zonePoints e.2) ++ c.daylight.flatMap (fun e => e.2.point.toList)

/-- R38: the end of the points that scan entries and bindings of a node refer to. -/
def refersBeyond (c : RunningConfig) (l : LineId) (addr count : Nat) : Bool :=
  (lineCfg c l).scan.any (fun e => e.node == addr && decide (count < e.first + e.count))
    || (boundPoints c).any fun p => p.bus == busOf l && p.addr == addr && decide (count ≤ p.point)

/-- R38: a transaction to the node is voided, and a queued entry that `p` drops leaves without a write result. -/
def cutNodeWork (addr : Nat) (drop : QueueEntry → Bool) (line : Line) : Line :=
  { line with
    fetch := line.fetch.filter fun a => a != addr
    oneOffs := line.oneOffs.filter fun q => q.node != addr
    queue := line.queue.filter fun e => !(e.node == addr && drop e)
    inFlight := line.inFlight.map fun x => if x.node = addr then { x with voided := true } else x }

/-- R38, R67, R77: take a definition of a node, and report the change of contact state. -/
def putNode (l : LineId) (addr : Nat) (d : NodeDef) (s : State) : State :=
  let before := contactOf s (busOf l) addr
  let cfg := lineCfg s.config l
  let t := changeLine l (fun line => { cutNodeWork addr (fun e => decide (d.count ≤ e.point)) line with
    nodes := slotSet line.nodes addr (freshNode s.now) }) s
  reportContact (busOf l) addr before
    { t with
      config := setLineCfg t.config l { cfg with nodes := slotSet cfg.nodes addr d }
      points := createPoints (busOf l) addr d.count (removePoints (busOf l) addr t.points)
      windows := slotFree t.windows (nodeKey (busOf l) addr) }

/-- R38: a REMOVE is refused while anything refers to the node. -/
def isReferred (c : RunningConfig) (l : LineId) (addr : Nat) : Bool := refersBeyond c l addr 0

/-- R38: free a node's slot. -/
def removeNode (l : LineId) (addr : Nat) (s : State) : State :=
  let cfg := lineCfg s.config l
  let t := changeLine l (fun line => { cutNodeWork addr (fun _ => true) line with
    nodes := slotFree line.nodes addr }) s
  { t with
    config := setLineCfg t.config l { cfg with nodes := slotFree cfg.nodes addr }
    points := removePoints (busOf l) addr t.points
    windows := slotFree t.windows (nodeKey (busOf l) addr) }

/-- R38: the definition in its ranges. The expected kind ANY is the byte 0xFF, the one that the kinds 0..254 leave;
R193 does not name ANY among its special values (log 8). -/
def nodeOf (r : RawNode) : Option NodeDef :=
  if addrInRange r.addr && decide (1 ≤ r.count) && decide (r.count ≤ 16) then some ⟨byteOrNone r.kind, r.count⟩
  else none

/-- DEFINE NODE (R38). The CONFLICT of a point left out holds for a free slot as for an occupied one
(log 18). -/
def handleDefineNode (op : Action RawNode (Nat × Nat)) (s : State) : Served :=
  match op with
  | .unknown => refuse .outOfRange s
  | .define r =>
    match lineOfByte r.line, nodeOf r with
    | some l, some d =>
      if refersBeyond s.config l r.addr d.count then refuse .conflict s
      else done (grantLines (putNode l r.addr d s))
    | _, _ => refuse .outOfRange s
  | .remove r =>
    match lineOfByte r.1, addrInRange r.2 with
    | some l, true =>
      if !slotUsed (lineCfg s.config l).nodes r.2 then refuse .notFound s
      else if isReferred s.config l r.2 then refuse .conflict s
      else done (grantLines (removeNode l r.2 s))
    | _, _ => refuse .outOfRange s

/-! ## Scan entries (R32) -/

/-- DEFINE SCAN ENTRY's ADD as it stands in a body. -/
structure RawScan where
  line : Nat
  node : Nat
  first : Nat
  count : Nat
  period : Nat
  deriving DecidableEq, Repr

/-- The fields of ADD (R32). -/
def takeScan : Reader RawScan := do
  let line ← takeByte
  let node ← takeByte
  let first ← takeByte
  let count ← takeByte
  let period ← takeByte
  return ⟨line, node, first, count, period⟩

/-- The fields of REMOVE (R32): line, node, first point. -/
def takeScanKey : Reader (Nat × Nat × Nat) := do
  let line ← takeByte
  let node ← takeByte
  let first ← takeByte
  return (line, node, first)

/-- R32: the period classes by position. -/
def periodOf : Nat → Option PeriodClass
  | 0 => some .fast
  | 1 => some .normal
  | 2 => some .slow
  | _ => none

/-- R32: the entry of a node and a first point. -/
def isEntry (node first : Nat) (e : ScanDef) : Bool := e.node == node && e.first == first

/-- R69: every point of a node is held against its new scan period. -/
def restaleNode (l : LineId) (addr : Nat) (s : State) : State :=
  forEach (nodePoints s.config (busOf l) addr) restale s

/-- R32, R33: an entry joins the list, due at once. -/
def addScan (l : LineId) (e : ScanDef) (s : State) : State :=
  let cfg := lineCfg s.config l
  let t := changeLine l (fun line => { line with
    scan := slotSet line.scan (scanKey e.node e.first) ⟨none, s.now⟩ }) s
  restaleNode l e.node { t with config := setLineCfg t.config l { cfg with scan := cfg.scan ++ [e] } }

/-- R32: an entry leaves the list. -/
def removeScan (l : LineId) (node first : Nat) (s : State) : State :=
  let cfg := lineCfg s.config l
  let t := changeLine l (fun line => { line with scan := slotFree line.scan (scanKey node first) }) s
  restaleNode l node { t with
    config := setLineCfg t.config l { cfg with scan := cfg.scan.filter fun e => !isEntry node first e } }

/-- R32: how many entries a scan list holds. -/
def scanEntries : Nat := 48

/-- R32: the checks of an ADD on a line. R32 gives a period class beyond its list no place in their order: it is refused
OUT_OF_RANGE with the count, after NOT_FOUND and before CONFLICT (log 52). -/
def addChecked (l : LineId) (r : RawScan) (s : State) : Served :=
  match slotGet (lineCfg s.config l).nodes r.node, periodOf r.period with
  | none, _ => refuse .notFound s
  | some _, none => refuse .outOfRange s
  | some d, some p =>
    if r.count = 0 ∨ 16 < r.count ∨ d.count < r.first + r.count then refuse .outOfRange s
    else if (lineCfg s.config l).scan.any (isEntry r.node r.first) then refuse .conflict s
    else if scanEntries ≤ (lineCfg s.config l).scan.length then refuse .busy s
    else done (grantLines (addScan l ⟨r.node, r.first, r.count, p⟩ s))

/-- DEFINE SCAN ENTRY (R32). -/
def handleDefineScan (op : Action RawScan (Nat × Nat × Nat)) (s : State) : Served :=
  match op with
  | .unknown => refuse .outOfRange s
  | .define r =>
    match lineOfByte r.line with
    | none => refuse .outOfRange s
    | some l => addChecked l r s
  | .remove r =>
    match lineOfByte r.1 with
    | none => refuse .outOfRange s
    | some l =>
      if (lineCfg s.config l).scan.any (isEntry r.2.1 r.2.2) then done (grantLines (removeScan l r.2.1 r.2.2 s))
      else refuse .notFound s

/-! ## Terminal functions (R53, R54) -/

/-- SET TERMINAL FUNCTION as it stands in a body: the function's position and its parameters. -/
inductive RawFunction where
  | plain (position : Nat)
  | meter (weight : Nat)
  | curtail (cap : Nat)
  | analog (use : Nat) (offset span : Int)
  | unknown
  deriving DecidableEq, Repr

/-- Use, offset, span (R53). -/
def takeAnalog : Reader RawFunction := do
  let use ← takeByte
  let offset ← takeSigned
  let span ← takeSigned
  return .analog use offset span

/-- The parameters that follow a function's name (R53). -/
def functionReader (position : Nat) : Reader RawFunction :=
  match position with
  | 4 => do return .meter (← takeWord)
  | 6 => do return .curtail (← takeWord)
  | 8 => takeAnalog
  | n => return .plain n

/-- SET TERMINAL FUNCTION's body: terminal, function, parameters. A function beyond the list passes the
length check (log 8). -/
def readFunction (body : List Byte) : Option (Nat × RawFunction) :=
  match body with
  | t :: f :: rest =>
    if f.toNat ≤ 11 then (readWhole (functionReader f.toNat) rest).map fun x => (t.toNat, x)
    else some (t.toNat, .unknown)
  | _ => none

/-- R53: the uses by position. -/
def useOf : Nat → Option AnalogUse
  | 0 => some .temperature
  | 1 => some .co
  | 2 => some .no2
  | 3 => some .lux
  | _ => none

/-- R53: the functions without parameters, by position. -/
def plainFunction : Nat → Option TermFunction
  | 0 => some .unused
  | 1 => some .digitalIn
  | 2 => some .doorContact
  | 3 => some .presenceIn
  | 5 => some .emergencyIn
  | 7 => some .restartIn
  | 9 => some .relayOut
  | 10 => some .dimOut
  | 11 => some .strainOut
  | _ => none

/-- R53: a scale in its range. -/
def scaleFits (i : Int) : Bool := decide (-4000 ≤ i) && decide (i ≤ 4000)

/-- R53: the function with its parameters in their ranges. -/
def functionOfRaw : RawFunction → Option TermFunction
  | .plain n => plainFunction n
  | .meter w => if 1 ≤ w ∧ w ≤ 1000 then some (.meterPulse w) else none
  | .curtail cap => some (.curtailIn cap)
  | .analog u offset span =>
    if scaleFits offset && scaleFits span && span != 0 then (useOf u).map fun x => .analogIn x offset span else none
  | .unknown => none

/-- A number lies in a range. -/
def isWithin (lo hi n : Nat) : Bool := decide (lo ≤ n) && decide (n ≤ hi)

/-- R53: the terminals on which a function is allowed. -/
def isAllowed (t : Nat) : TermFunction → Bool
  | .unused => isWithin 1 16 t
  | .digitalIn => isWithin 1 10 t
  | .doorContact => isWithin 1 10 t
  | .presenceIn => isWithin 1 10 t
  | .meterPulse _ => isWithin 1 2 t
  | .emergencyIn => isWithin 3 4 t
  | .curtailIn _ => isWithin 5 6 t
  | .restartIn => t == 7
  | .analogIn _ _ _ => isWithin 5 10 t
  | .relayOut => isWithin 11 16 t
  | .dimOut => isWithin 13 16 t
  | .strainOut => isWithin 11 16 t

/-- R53: the same function, whatever its parameters. -/
def sameFunction (f g : TermFunction) : Bool := f.ctorIdx == g.ctorIdx

/-- R53, check 4: the use of an analog input, which a binding pins. -/
def analogUse : TermFunction → Option AnalogUse
  | .analogIn u _ _ => some u
  | _ => none

/-- R53, check 4: the request changes the function, or the use. -/
def changesBinding (old new : TermFunction) : Bool := !sameFunction old new || analogUse old != analogUse new

/-- R54: a terminal takes a new function: the old one's state ends, its point starts afresh, the new one
starts. -/
def changeFunction (t : Nat) (f : TermFunction) (s : State) : State :=
  let u := { s with
    config := { s.config with functions := slotSet s.config.functions t f }
    terminals := slotSet s.terminals t idleTerminal }
  let v := handOrder (handSignal t u)
  startFunction t (changePoint (terminalPoint t) (fun _ => freshPoint) v)

/-- R54: a terminal takes new parameters; a curtail cap acts at once. -/
def changeParameters (t : Nat) (f : TermFunction) (s : State) : State :=
  handOrder { s with config := { s.config with functions := slotSet s.config.functions t f } }

/-- R53: the request is taken. -/
def putFunction (t : Nat) (f : TermFunction) (s : State) : State :=
  if sameFunction (functionOf s.config t) f then changeParameters t f s else changeFunction t f s

/-- SET TERMINAL FUNCTION (R53). -/
def handleSetFunction (op : Nat × RawFunction) (s : State) : Served :=
  match functionOfRaw op.2 with
  | none => refuse .outOfRange s
  | some f =>
    if !isAllowed op.1 f then refuse .outOfRange s
    else if isBound s.config (terminalPoint op.1) && changesBinding (functionOf s.config op.1) f then
      refuse .conflict s
    else done (putFunction op.1 f s)

/-! ## Line parameters (R21) and filter tests (R80) -/

/-- SET LINE PARAMETERS as it stands in a body. -/
def takeLineParameters : Reader (Nat × Nat × Nat) := do
  let line ← takeByte
  let rate ← takeWord
  let timeout ← takeByte
  return (line, rate, timeout)

/-- R21: the three bit rates. -/
def bitRateOf : Nat → Option BitRate
  | 19200 => some .b19200
  | 38400 => some .b38400
  | 57600 => some .b57600
  | _ => none

/-- SET LINE PARAMETERS (R21). -/
def handleLineParameters (op : Nat × Nat × Nat) (s : State) : Served :=
  match lineOfByte op.1, bitRateOf op.2.1 with
  | some l, some rate =>
    if isWithin 5 100 op.2.2 then
      done { s with config := setLineCfg s.config l { lineCfg s.config l with bitRate := rate, timeout := op.2.2 } }
    else refuse .outOfRange s
  | _, _ => refuse .outOfRange s

/-- SET FILTER TESTS as it stands in a body: five enables, storm limit, staleness limit. -/
def takeFilter : Reader (List Nat × Nat × Nat) := do
  let enables ← takeMany takeByte 5
  let storm ← takeByte
  let stale ← takeByte
  return (enables, storm, stale)

/-- R80: the settings in their ranges. -/
def filterOf (op : List Nat × Nat × Nat) : Option FilterCfg :=
  match op.1.mapM flagOf with
  | some [f2, f3, f4, f5, f6] =>
    if isWithin 1 255 op.2.1 && isWithin 1 60 op.2.2 then some ⟨f2, f3, f4, f5, f6, op.2.1, op.2.2⟩ else none
  | _ => none

/-- SET FILTER TESTS (R80). -/
def handleFilter (op : List Nat × Nat × Nat) (s : State) : Served :=
  match filterOf op with
  | none => refuse .outOfRange s
  | some f => done { s with config := { s.config with filter := f } }

/-! ## Commands -/

/-- DEFINE_ZONE (R99, R100). -/
def execDefineZone (body : List Byte) (s : State) : Result :=
  serve 0x20 .configuring true body ((readAction takeZone takeByte body).map handleDefineZone) s

/-- DEFINE_DOOR (R85). -/
def execDefineDoor (body : List Byte) (s : State) : Result :=
  serve 0x21 .configuring true body ((readAction takeDoor takeByte body).map handleDefineDoor) s

/-- DEFINE_LOAD (R118, R119). -/
def execDefineLoad (body : List Byte) (s : State) : Result :=
  serve 0x22 .configuring true body ((readAction takeLoad takeByte body).map handleDefineLoad) s

/-- DEFINE_NODE (R38). -/
def execDefineNode (body : List Byte) (s : State) : Result :=
  serve 0x23 .configuring true body ((readAction takeNode takeLineAddr body).map handleDefineNode) s

/-- DEFINE_SCAN_ENTRY (R32). -/
def execDefineScanEntry (body : List Byte) (s : State) : Result :=
  serve 0x24 .configuring true body ((readAction takeScan takeScanKey body).map handleDefineScan) s

/-- SET_TERMINAL_FUNCTION (R53). -/
def execSetTerminalFunction (body : List Byte) (s : State) : Result :=
  serve 0x25 .configuring true body ((readFunction body).map handleSetFunction) s

/-- SET_LINE_PARAMETERS (R21). -/
def execSetLineParameters (body : List Byte) (s : State) : Result :=
  serve 0x26 .configuring true body ((readWhole takeLineParameters body).map handleLineParameters) s

/-- SET_FILTER_TESTS (R80). -/
def execSetFilterTests (body : List Byte) (s : State) : Result :=
  serve 0x27 .configuring true body ((readWhole takeFilter body).map handleFilter) s

end Sys2Proof.Machine
end

