-- ==== Sys2Proof/Machine/Parameters.lean ====
section
/-! DEFINITION. SET PARAMETERS by group, and READ PARAMETERS (R195). -/

namespace Sys2Proof.Machine

/-! ## Door group (R86) -/

/-- The four values of the door group. -/
def takeDoorParams : Reader DoorParams := do
  let heldOpen ← takeWord
  let chatterLimit ← takeByte
  let runOn ← takeByte
  let presence ← takeWord
  return ⟨heldOpen, chatterLimit, runOn, presence⟩

/-- R86: the ranges. -/
def doorParamsFit (p : DoorParams) : Bool :=
  isWithin 30 1800 p.heldOpen && isWithin 2 60 p.chatterLimit && decide (p.runOn ≤ 120) && isWithin 10 600 p.presence

/-- R86: an OPEN door whose held-open expiry lies in the past becomes HELD_OPEN at once. -/
def catchHeldOpen (d : Nat) (s : State) : State :=
  match (slotGet s.doors d).bind (heldOpenAt s.config) with
  | none => s
  | some t => if t < s.now then becomeHeldOpen d s else s

/-- R86: the door group is taken; doors that are held open under it enter that state by rising door number
(log 21). -/
def putDoorParams (p : DoorParams) (s : State) : State :=
  forEach (slotNumbers s.doors) catchHeldOpen { s with config := { s.config with doorParams := p } }

/-- SET PARAMETERS, door group (R86). -/
def handleDoorParams (p : DoorParams) (s : State) : Served :=
  if doorParamsFit p then done (putDoorParams p s) else refuse .outOfRange s

/-! ## Occupancy group (R101) -/

/-- A zone with its aging and dormancy times. -/
structure OccupancyFields where
  zone : Nat
  aging : Nat
  dormancy : Nat
  deriving DecidableEq, Repr

/-- The occupancy group: the key and two values. -/
def takeOccupancy : Reader OccupancyFields := do
  let zone ← takeByte
  let aging ← takeWord
  let dormancy ← takeWord
  return ⟨zone, aging, dormancy⟩

/-- R101: the ranges. -/
def occupancyFits (f : OccupancyFields) : Bool :=
  zoneInRange f.zone && isWithin 30 3600 f.aging && isWithin 60 7200 f.dormancy

/-- R101, R110: a VACANT zone takes the new dormancy time at once. -/
def redormant (now dormancyMs : Nat) (r : ZoneRec) : ZoneRec :=
  match r.state, r.vacantSince with
  | .vacant, some since =>
    if since + dormancyMs < now then { r with state := .dormant, dormancyAt := none }
    else { r with dormancyAt := some (since + dormancyMs) }
  | _, _ => r

/-- R101: the occupancy group is taken for a defined zone; the dormancy time in steps of 10 s. -/
def putOccupancy (f : OccupancyFields) (s : State) : State :=
  let dormancy := f.dormancy / 10 * 10
  changeZone f.zone (redormant s.now (dormancy * 1000)) { s with
    config := { s.config with
      zones := slotChange (fun d => { d with aging := f.aging, dormancy := dormancy }) s.config.zones f.zone } }

/-- SET PARAMETERS, occupancy group (R101). -/
def handleOccupancy (f : OccupancyFields) (s : State) : Served :=
  if !occupancyFits f then refuse .outOfRange s
  else match slotGet s.config.zones f.zone with
    | none => refuse .notFound s
    | some _ => done (putOccupancy f s)

/-! ## Lighting group (R146) -/

/-- The four values of the lighting group. -/
def takeLighting : Reader LightingParams := do
  let closedPresence ← takeWord
  let minDim ← takeWord
  let ramp ← takeWord
  let fade ← takeWord
  return ⟨closedPresence, minDim, ramp, fade⟩

/-- R146: the ranges. -/
def lightingFits (p : LightingParams) : Bool :=
  decide (p.closedPresence ≤ 1000) && isWithin 10 300 p.minDim && isWithin 1 1000 p.ramp && isWithin 1 1000 p.fade

/-- SET PARAMETERS, lighting group (R146). -/
def handleLighting (p : LightingParams) (s : State) : Served :=
  if lightingFits p then done { s with config := { s.config with lighting := p } } else refuse .outOfRange s

/-! ## Daylight group (R145) -/

/-- The daylight group as it stands in a body: a load, and a point with TL, or NONE. -/
structure RawDaylight where
  load : Nat
  assignment : Option (RawPoint × Nat)
  deriving DecidableEq, Repr

/-- The daylight group; NONE carries no TL (log 8). -/
def takeDaylight : Reader RawDaylight := do
  let load ← takeByte
  let point ← takePoint
  if point = noPoint then return ⟨load, none⟩
  else
    let target ← takeWord
    return ⟨load, some (point, target)⟩

/-- R145, check 1: the assignment in its ranges; `some none` is NONE. -/
def assignmentOf (r : RawDaylight) : Option (Option (PointRef × Nat)) :=
  if !loadInRange r.load then none
  else match r.assignment with
    | none => some none
    | some (p, tl) => if isWithin 50 2000 tl then (pointOfRaw p).map fun q => some (q, tl) else none

/-- R145: the assignment of a group after the request. -/
def assigned (old : Daylight) : Option (PointRef × Nat) → Daylight
  | none => { old with point := none }
  | some (p, tl) => ⟨some p, tl⟩

/-- SET PARAMETERS, daylight group (R145). -/
def handleDaylight (r : RawDaylight) (s : State) : Served :=
  match assignmentOf r with
  | none => refuse .outOfRange s
  | some a =>
    match slotGet s.config.loads r.load with
    | none => refuse .notFound s
    | some d =>
      if !isLight d then refuse .conflict s
      else done { s with config := { s.config with
        daylight := slotSet s.config.daylight r.load (assigned (daylightOf s.config r.load) a) } }

/-! ## Climate group (R162) -/

/-- The climate group as it stands in a body. -/
structure RawClimate where
  band : Nat
  holdTime : Nat
  coRef : Nat
  no2Ref : Nat
  makeUp : Nat
  vent : Nat
  deriving DecidableEq, Repr

/-- The six values of the climate group. -/
def takeClimate : Reader RawClimate := do
  let band ← takeByte
  let holdTime ← takeWord
  let coRef ← takeWord
  let no2Ref ← takeWord
  let makeUp ← takeWord
  let vent ← takeByte
  return ⟨band, holdTime, coRef, no2Ref, makeUp, vent⟩

/-- R162: the emergency ventilation settings by position. -/
def ventOf : Nat → Option EmergencyVent
  | 0 => some .stop
  | 1 => some .extract
  | _ => none

/-- R162: the values in their ranges. -/
def climateOf (r : RawClimate) : Option ClimateParams :=
  if isWithin 5 100 r.band && isWithin 60 1800 r.holdTime && isWithin 10 500 r.coRef && isWithin 10 2000 r.no2Ref
      && decide (r.makeUp ≤ 1000) then
    (ventOf r.vent).map fun v => ⟨r.band, r.holdTime, r.coRef, r.no2Ref, r.makeUp, v⟩
  else none

/-- R162, R180: the climate group is taken; a change of the setting in EMERGENCY acts at once. -/
def putClimate (p : ClimateParams) (s : State) : State :=
  let t := { s with config := { s.config with climate := p } }
  if s.mode = .emergency ∧ p.vent ≠ s.config.climate.vent then grantLines (handVentilation t) else t

/-- SET PARAMETERS, climate group (R162). -/
def handleClimate (r : RawClimate) (s : State) : Served :=
  match climateOf r with
  | none => refuse .outOfRange s
  | some p => done (putClimate p s)

/-! ## Budget and settlement groups (R142) -/

/-- The five values of the budget group. -/
def takeBudget : Reader BudgetParams := do
  let restore ← takeWord
  let strainBegin ← takeByte
  let strainEnd ← takeByte
  let nodeHold ← takeWord
  let windowLength ← takeWord
  return ⟨restore, strainBegin, strainEnd, nodeHold, windowLength⟩

/-- R142: the ranges; Lw is checked against the H of the same request. -/
def budgetFits (p : BudgetParams) : Bool :=
  decide (1 ≤ p.restore) && isWithin 50 150 p.strainBegin && isWithin 30 (p.strainBegin - 5) p.strainEnd
    && decide (p.nodeHold ≤ 600) && isWithin 300 3600 p.windowLength

/-- R142: a load whose node hold expiry lies in the past takes its fallback fraction at once. -/
def catchNodeHold (k : Nat) (s : State) : State :=
  match (slotGet s.loads k).bind (nodeHoldAt s.config) with
  | none => s
  | some t => if t < s.now then takeFallback k s else s

/-- R130, R142: an accepted change of the window length realigns the demand window. -/
def changeWindowLength (old : Nat) (s : State) : State :=
  if s.config.budget.windowLength ≠ old ∧ s.clock.isSet then realignWindow (secondNumber s.clock.reading) s else s

/-- R142: the budget group is taken; the window length in steps of 60 s. -/
def putBudget (p : BudgetParams) (s : State) : State :=
  let t := { s with config := { s.config with
    budget := { p with windowLength := p.windowLength / 60 * 60 } } }
  changeWindowLength s.config.budget.windowLength (forEach (slotNumbers t.loads) catchNodeHold t)

/-- SET PARAMETERS, budget group (R142). -/
def handleBudget (p : BudgetParams) (s : State) : Served :=
  if budgetFits p then done (putBudget p s) else refuse .outOfRange s

/-- SET PARAMETERS, settlement group (R142). -/
def handleSettlementPeriod (period : Nat) (s : State) : Served :=
  if isWithin 1 10 period then done { s with config := { s.config with settlementPeriod := period } }
  else refuse .outOfRange s

/-! ## Host link group (R195) -/

/-- The supervision time and the notice watermark. -/
def takeHostLink : Reader (Nat × Nat) := do
  let supervision ← takeWord
  let watermark ← takeByte
  return (supervision, watermark)

/-- R195: the ranges. -/
def hostValuesFit (p : Nat × Nat) : Bool := (p.1 == 0 || isWithin 5 600 p.1) && isWithin 1 40 p.2

/-- SET PARAMETERS, HOST_LINK group (R195). -/
def handleHostLink (p : Nat × Nat) (s : State) : Served :=
  if hostValuesFit p then done { s with config := { s.config with supervision := p.1, watermark := p.2 } }
  else refuse .outOfRange s

/-! ## READ PARAMETERS (R195) -/

/-- READ PARAMETERS as it stands in a body. -/
inductive RawRead where
  | door | lighting | climate | budget | settlement | hostLink
  | occupancy (zone : Nat)
  | daylight (load : Nat)
  | noSuchGroup
  deriving DecidableEq, Repr

/-- R195: a group code, with its key; a code outside 0..7 passes whatever the body's length. -/
def readGroup (body : List Byte) : Option RawRead :=
  match body with
  | [] => none
  | code :: rest =>
    match code.toNat with
    | 0 => (readWhole takeNothing rest).map fun _ => .door
    | 1 => (readWhole takeByte rest).map .occupancy
    | 2 => (readWhole takeNothing rest).map fun _ => .lighting
    | 3 => (readWhole takeByte rest).map .daylight
    | 4 => (readWhole takeNothing rest).map fun _ => .climate
    | 5 => (readWhole takeNothing rest).map fun _ => .budget
    | 6 => (readWhole takeNothing rest).map fun _ => .settlement
    | 7 => (readWhole takeNothing rest).map fun _ => .hostLink
    | _ => some .noSuchGroup

/-- The door group's values. -/
def doorParamBytes (p : DoorParams) : List Byte :=
  wordBytes p.heldOpen ++ [byteOf p.chatterLimit, byteOf p.runOn] ++ wordBytes p.presence

/-- The lighting group's values. -/
def lightingBytes (p : LightingParams) : List Byte :=
  wordBytes p.closedPresence ++ wordBytes p.minDim ++ wordBytes p.ramp ++ wordBytes p.fade

/-- The climate group's values. -/
def climateBytes (p : ClimateParams) : List Byte :=
  byteOf p.band :: wordBytes p.holdTime ++ wordBytes p.coRef ++ wordBytes p.no2Ref ++ wordBytes p.makeUp
    ++ [byteOf p.vent.ctorIdx]

/-- The budget group's values. -/
def budgetBytes (p : BudgetParams) : List Byte :=
  wordBytes p.restore ++ [byteOf p.strainBegin, byteOf p.strainEnd] ++ wordBytes p.nodeHold ++ wordBytes p.windowLength

/-- R101, R195: the occupancy values of a zone. -/
def readOccupancy (zone : Nat) (s : State) : Served :=
  if !zoneInRange zone then refuse .outOfRange s
  else match slotGet s.config.zones zone with
    | none => refuse .notFound s
    | some d => answer (wordBytes d.aging ++ wordBytes d.dormancy) s

/-- R145, R195: the daylight assignment of a group. -/
def readDaylight (load : Nat) (s : State) : Served :=
  if !loadInRange load then refuse .outOfRange s
  else match slotGet s.config.loads load with
    | none => refuse .notFound s
    | some d =>
      if !isLight d then refuse .conflict s
      else answer (optPoint (daylightOf s.config load).point ++ wordBytes (daylightOf s.config load).target) s

/-- READ PARAMETERS (R195). -/
def handleReadParameters (r : RawRead) (s : State) : Served :=
  match r with
  | .door => answer (doorParamBytes s.config.doorParams) s
  | .lighting => answer (lightingBytes s.config.lighting) s
  | .climate => answer (climateBytes s.config.climate) s
  | .budget => answer (budgetBytes s.config.budget) s
  | .settlement => answer [byteOf s.config.settlementPeriod] s
  | .hostLink => answer (wordBytes s.config.supervision ++ [byteOf s.config.watermark]) s
  | .occupancy zone => readOccupancy zone s
  | .daylight load => readDaylight load s
  | .noSuchGroup => refuse .outOfRange s

/-! ## Commands -/

/-- The code of SET PARAMETERS (R194). -/
def setParametersCode : Nat := 0x28

/-- SET_PARAMETERS_DOOR (R86). -/
def execSetParametersDoor (body : List Byte) (s : State) : Result :=
  serve setParametersCode .configuring false (0 :: body) ((readWhole takeDoorParams body).map handleDoorParams) s

/-- SET_PARAMETERS_OCCUPANCY (R101). -/
def execSetParametersOccupancy (body : List Byte) (s : State) : Result :=
  serve setParametersCode .configuring false (1 :: body) ((readWhole takeOccupancy body).map handleOccupancy) s

/-- SET_PARAMETERS_LIGHTING (R146). -/
def execSetParametersLighting (body : List Byte) (s : State) : Result :=
  serve setParametersCode .configuring false (2 :: body) ((readWhole takeLighting body).map handleLighting) s

/-- SET_PARAMETERS_DAYLIGHT (R145). -/
def execSetParametersDaylight (body : List Byte) (s : State) : Result :=
  serve setParametersCode .configuring true (3 :: body) ((readWhole takeDaylight body).map handleDaylight) s

/-- SET_PARAMETERS_CLIMATE (R162). -/
def execSetParametersClimate (body : List Byte) (s : State) : Result :=
  serve setParametersCode .configuring false (4 :: body) ((readWhole takeClimate body).map handleClimate) s

/-- SET_PARAMETERS_BUDGET (R142). -/
def execSetParametersBudget (body : List Byte) (s : State) : Result :=
  serve setParametersCode .configuring false (5 :: body) ((readWhole takeBudget body).map handleBudget) s

/-- SET_PARAMETERS_SETTLEMENT (R142). -/
def execSetParametersSettlement (body : List Byte) (s : State) : Result :=
  serve setParametersCode .configuring true (6 :: body) ((readWhole takeByte body).map handleSettlementPeriod) s

/-- What the HOST_LINK row does with its body: a group code outside 0..7 reaches the owner's refusal
whatever the length (R195), and a body without one has the wrong length (log 8). -/
def hostLinkHandler (body : HostLinkBody) : Option (State → Served) :=
  match body with
  | .group bytes => (readWhole takeHostLink bytes).map handleHostLink
  | .noSuchGroup _ _ => some (refuse .outOfRange)
  | .noGroup => none

/-- The body of a frame of the HOST_LINK row. -/
def hostLinkBytes : HostLinkBody → List Byte
  | .group bytes => 7 :: bytes
  | .noSuchGroup code bytes => code :: bytes
  | .noGroup => []

/-- SET_PARAMETERS_HOST_LINK (R195). -/
def execSetParametersHostLink (body : HostLinkBody) (s : State) : Result :=
  serve setParametersCode .configuring false (hostLinkBytes body) (hostLinkHandler body) s

/-- READ_PARAMETERS (R195). -/
def execReadParameters (body : List Byte) (s : State) : Result :=
  serve 0x4B .plain false body ((readGroup body).map handleReadParameters) s

end Sys2Proof.Machine
end

