-- ==== Sys2Proof/Machine/Operation.lean ====
section
/-! DEFINITION. The operation requests (R194): overrides, curtailment, presence, node service, line
restart, point writes and fetches; and the expiries of presence lives and dormancy timers. -/

namespace Sys2Proof.Machine

/-! ## Overrides (R150, R164) -/

/-- A duration: minutes (0 clears), or UNTIL_SHIFT_CHANGE. -/
inductive Duration where
  | minutes (n : Nat)
  | untilShiftChange
  deriving DecidableEq, Repr

/-- The expiry that a duration gives from now. -/
def expiryOf (now : Nat) : Duration → Option Nat
  | .minutes n => some (now + n * 60000)
  | .untilShiftChange => none

/-- The operands of LIGHT OVERRIDE and SETPOINT OVERRIDE. -/
structure OverrideFields where
  zone : Nat
  level : Int
  duration : Duration
  deriving DecidableEq, Repr

/-- LIGHT OVERRIDE's body: zone, level, duration in a byte (R150, R193). -/
def takeLightOverride : Reader OverrideFields := do
  let zone ← takeByte
  let level ← takeWord
  let duration ← takeByte
  return ⟨zone, level, if duration = 255 then .untilShiftChange else .minutes duration⟩

/-- SETPOINT OVERRIDE's body: zone, setpoint, duration in 2 bytes (R164, R193). -/
def takeSetpointOverride : Reader OverrideFields := do
  let zone ← takeByte
  let level ← takeSigned
  let duration ← takeWord
  return ⟨zone, level, if duration = 65535 then .untilShiftChange else .minutes duration⟩

/-- The duration lies in its range. -/
def durationFits (longest : Nat) : Duration → Bool
  | .minutes n => decide (n ≤ longest)
  | .untilShiftChange => true

/-- Minutes left to an expiry, rounded up. -/
def minutesLeft (s : State) (t : Nat) : Nat := ceilDiv (t - s.now) 60000

/-- R150: a light override as a reply gives it: the level with its minutes or UNTIL_SHIFT_CHANGE, or NONE. -/
def lightOverrideBytes (s : State) (o : Option LightOverride) : List Byte :=
  match o with
  | none => [0xFF, 0xFF, 0]
  | some x => wordBytes x.level ++ [optByte (x.expiry.map (minutesLeft s))]

/-- R164: a setpoint override as a reply gives it. -/
def setpointOverrideBytes (s : State) (o : Option SetpointOverride) : List Byte :=
  match o with
  | none => [0x80, 0, 0, 0]
  | some x => signedBytes x.level ++ optWord (x.expiry.map (minutesLeft s))

/-- R150: the light override that a request leaves. -/
def placeLight (f : OverrideFields) (s : State) : State :=
  if f.duration = .minutes 0 then { s with lightOverrides := slotFree s.lightOverrides f.zone }
  else { s with
    lightOverrides := slotSet s.lightOverrides f.zone ⟨f.level.toNat, expiryOf s.now f.duration⟩ }

/-- LIGHT OVERRIDE (R150). -/
def handleLightOverride (f : OverrideFields) (s : State) : Served :=
  if !zoneInRange f.zone || decide (1000 < f.level) || !durationFits 240 f.duration then refuse .outOfRange s
  else if !slotUsed s.config.zones f.zone then refuse .notFound s
  else
    let t := placeLight f s
    answer (lightOverrideBytes s (slotGet s.lightOverrides f.zone)
      ++ lightOverrideBytes t (slotGet t.lightOverrides f.zone)) t

/-- The setpoint override of a zone. -/
def setpointOverrideOf (s : State) (z : Nat) : Option SetpointOverride :=
  (slotGet s.climate z).bind ClimateRec.override

/-- R164: the setpoint override that a request leaves. -/
def placeSetpoint (f : OverrideFields) (s : State) : State :=
  changeClimate f.zone (fun r => { r with
    override := if f.duration = .minutes 0 then none else some ⟨f.level, expiryOf s.now f.duration⟩ }) s

/-- R164: a setpoint in its range. -/
def setpointFits (t : Int) : Bool := decide (-400 ≤ t) && decide (t ≤ 600)

/-- SETPOINT OVERRIDE (R164). -/
def handleSetpointOverride (f : OverrideFields) (s : State) : Served :=
  if !zoneInRange f.zone || !setpointFits f.level || !durationFits 480 f.duration then refuse .outOfRange s
  else if !slotUsed s.config.zones f.zone then refuse .notFound s
  else
    let t := placeSetpoint f s
    answer (setpointOverrideBytes s (setpointOverrideOf s f.zone)
      ++ setpointOverrideBytes t (setpointOverrideOf t f.zone)) t

/-! ## Curtailment (R125) -/

/-- CURTAIL's body: cap and hold in quanta. -/
def takeCurtail : Reader (Nat × Nat) := do
  let cap ← takeWord
  let hold ← takeWord
  return (cap, hold)

/-- R125: ACTIVE as 0, NONE as 0xFF (log 9). -/
def orderState (s : State) : Byte := if s.hostOrder.isSome then 0 else 0xFF

/-- R125: the host order as a reply gives it after the request: its state, cap and remaining hold in quanta,
rounded up. NONE is sent as 0xFF with a cap and a hold of 0 (log 9). -/
def orderBytes (s : State) : List Byte :=
  orderState s :: wordBytes ((s.hostOrder.map CurtailOrder.cap).getD 0) ++ wordBytes (holdQuanta s)

/-- R125: a release. -/
def releaseOrder (s : State) : State :=
  match s.hostOrder with
  | none => s
  | some order => endHostOrder order s

/-- R125: a host order begins, or replaces the one that exists. -/
def beginOrder (cap hold : Nat) (s : State) : State :=
  raise .curtailBegin (.order false) (quantity cap) (quantity hold)
    { s with hostOrder := some ⟨cap, s.now + hold * Config.curtailQuantumMs⟩ }

/-- CURTAIL (R125). -/
def handleCurtail (op : Nat × Nat) (s : State) : Served :=
  if 5760 < op.2 then refuse .outOfRange s
  else
    let t := if op.2 = 0 then releaseOrder s else beginOrder op.1 op.2 s
    answer (orderState s :: orderBytes t) t

/-! ## Presence (R105, R107, R108, R110) -/

/-- R107: the checks of a zone: in range and defined. -/
def withZone (z : Nat) (s : State) (f : Served) : Served :=
  if !zoneInRange z then refuse .outOfRange s
  else if !slotUsed s.config.zones z then refuse .notFound s
  else f

/-- R107: create a zone's PINNED entry. -/
def pinZone (z : Nat) (s : State) : State :=
  createEntry ⟨z, .host, .pinned⟩ { s with config := { s.config with pins := s.config.pins ++ [z] } }

/-- PIN PRESENCE (R107). -/
def handlePin (z : Nat) (s : State) : Served :=
  withZone z s (done (if (entrySlot s z .host).isSome then s else pinZone z s))

/-- R107: remove a zone's PINNED entry. -/
def unpinZone (z : Nat) (s : State) : State :=
  dropEntry z .host { s with config := { s.config with pins := s.config.pins.filter fun p => p != z } }

/-- UNPIN PRESENCE (R107). -/
def handleUnpin (z : Nat) (s : State) : Served :=
  withZone z s (if (entrySlot s z .host).isSome then done (unpinZone z s) else refuse .notFound s)

/-- FLUSH PRESENCE (R108): a zone, or ALL. -/
def handleFlush (z : Nat) (s : State) : Served :=
  if z = 255 then done (flushEntries (fun _ => true) s) else withZone z s (done (flushEntries (entryIn z) s))

/-! ## Nodes and lines (R43, R49) -/

/-- SET NODE SERVICE's body: line, address, ON or OFF. -/
def takeService : Reader (Nat × Nat × Nat) := do
  let line ← takeByte
  let addr ← takeByte
  let order ← takeByte
  return (line, addr, order)

/-- R43: ON takes a node to SERVICE; its scan entries become due at once (R33). A node that stands in SERVICE stays as
it is (log 43). -/
def serviceOn (l : LineId) (addr : Nat) (n : NodeRec) (s : State) : State :=
  if n.state = .service then s
  else
    let before := contactOf s (busOf l) addr
    reportContact (busOf l) addr before (changeLine l (fun line => { line with
      nodes := slotChange (fun x => { enterNode s.now .service x with probeDue := none }) line.nodes addr
      scan := dueAtOnce s.now (· == addr) line.scan }) s)

/-- R43: OFF takes a SERVICE node to UNPROBED. -/
def serviceOff (l : LineId) (addr : Nat) (n : NodeRec) (s : State) : State :=
  if n.state ≠ .service then s
  else
    let before := contactOf s (busOf l) addr
    reportContact (busOf l) addr before (leaveLists l addr (changeLine l (fun line => { line with
      nodes := slotChange (becomeUnprobed s.now) line.nodes addr }) s))

/-- SET NODE SERVICE (R43): ON is position 0, OFF position 1 (log 8). A byte that is neither is refused OUT_OF_RANGE
before the node is looked for (log 52). -/
def handleService (op : Nat × Nat × Nat) (s : State) : Served :=
  match lineOfByte op.1, decide (op.2.2 ≤ 1) with
  | some l, true =>
    match slotGet (getLine s l).nodes op.2.1 with
    | none => refuse .notFound s
    | some n =>
      done (grantLines (if op.2.2 = 0 then serviceOn l op.2.1 n s else serviceOff l op.2.1 n s))
  | _, _ => refuse .outOfRange s

/-- LINE RESTART (R49). -/
def handleLineRestart (line : Nat) (s : State) : Served :=
  match lineOfByte line with
  | none => refuse .outOfRange s
  | some l => done (grantLines (restartLine l s))

/-! ## Points (R74, R75) -/

/-- WRITE POINT's body: a point and a value. -/
def takeWrite : Reader (RawPoint × Nat) := do
  let point ← takePoint
  let value ← takeWord
  return (point, value)

/-- R74, R75: steps 1 and 2: in range, and a point of a defined node. -/
def withPoint (r : RawPoint) (s : State) (f : PointRef → Served) : Served :=
  match pointOfRaw r with
  | none => refuse .outOfRange s
  | some p => if pointDefined s.config p then f p else refuse .notFound s

/-- R74: steps 3 to 5, and the write. -/
def writeHost (value : Nat) (s : State) (p : PointRef) : Served :=
  if isBound s.config p then refuse .owned s
  else match lineOf p.bus with
    | none => refuse .conflict s
    | some l =>
      if hostQueueFull p.addr p.point (getLine s l).queue then refuse .busy s
      else ⟨.accepted, [], grantLines (queueWrite l p.addr p.point value .host s)⟩

/-- WRITE POINT (R74). -/
def handleWritePoint (op : RawPoint × Nat) (s : State) : Served := withPoint op.1 s (writeHost op.2 s)

/-- R34: how many one-off reads a line's list holds. -/
def oneOffLength : Nat := 16

/-- R75: a one-off read is taken: the record shows it, a NEVER_READ point becomes PENDING. -/
def takeOneOff (l : LineId) (p : PointRef) (s : State) : State :=
  grantLines (changePoint p (fun r => { r with
      oneOffWaiting := true, status := if r.status = .neverRead then .pending else r.status })
    (changeLine l (fun line => { line with oneOffs := line.oneOffs ++ [⟨p.addr, p.point⟩] }) s))

/-- R34, R75: the line controller's answer to a one-off read. A read that is in flight has left the list, so another one
for its point is taken (log 38). -/
def offerOneOff (l : LineId) (p : PointRef) (s : State) : Served :=
  let line := getLine s l
  if isDown line || !nodeWorked line p.addr then refuse .conflict s
  else if line.oneOffs.contains ⟨p.addr, p.point⟩ then ⟨.accepted, [], s⟩
  else if oneOffLength ≤ line.oneOffs.length then refuse .busy s
  else ⟨.accepted, [], takeOneOff l p s⟩

/-- R75: a field point is offered as a one-off read, a terminal point makes none. -/
def fetchHost (s : State) (p : PointRef) : Served :=
  match lineOf p.bus with
  | none => ⟨.accepted, [], s⟩
  | some l => offerOneOff l p s

/-- FETCH POINT (R75). -/
def handleFetchPoint (r : RawPoint) (s : State) : Served := withPoint r s (fetchHost s)

/-! ## Commands -/

/-- LIGHT_OVERRIDE (R150). -/
def execLightOverride (body : List Byte) (s : State) : Result :=
  serve 0x30 .plain false body ((readWhole takeLightOverride body).map handleLightOverride) s

/-- SETPOINT_OVERRIDE (R164). -/
def execSetpointOverride (body : List Byte) (s : State) : Result :=
  serve 0x31 .plain false body ((readWhole takeSetpointOverride body).map handleSetpointOverride) s

/-- CURTAIL (R125). -/
def execCurtail (body : List Byte) (s : State) : Result :=
  serve 0x32 .plain false body ((readWhole takeCurtail body).map handleCurtail) s

/-- PIN_PRESENCE (R107). -/
def execPinPresence (body : List Byte) (s : State) : Result :=
  serve 0x33 .configuring false body ((readWhole takeByte body).map handlePin) s

/-- UNPIN_PRESENCE (R107). -/
def execUnpinPresence (body : List Byte) (s : State) : Result :=
  serve 0x34 .configuring false body ((readWhole takeByte body).map handleUnpin) s

/-- FLUSH_PRESENCE (R108). -/
def execFlushPresence (body : List Byte) (s : State) : Result :=
  serve 0x35 .plain false body ((readWhole takeByte body).map handleFlush) s

/-- SET_NODE_SERVICE (R43). -/
def execSetNodeService (body : List Byte) (s : State) : Result :=
  serve 0x36 .plain false body ((readWhole takeService body).map handleService) s

/-- LINE_RESTART (R49). -/
def execLineRestart (body : List Byte) (s : State) : Result :=
  serve 0x37 .plain false body ((readWhole takeByte body).map handleLineRestart) s

/-- WRITE_POINT (R74). -/
def execWritePoint (body : List Byte) (s : State) : Result :=
  serve 0x38 .plain false body ((readWhole takeWrite body).map handleWritePoint) s

/-- FETCH_POINT (R75). -/
def execFetchPoint (body : List Byte) (s : State) : Result :=
  serve 0x39 .plain false body ((readWhole takePoint body).map handleFetchPoint) s

/-- PRESENCE_LIFE_EXPIRES (R105). -/
def execPresenceLifeExpires (entry : Nat) (s : State) : Result :=
  whenPowered (fun s =>
    match (slotGet s.presence entry).map PresenceEntry.life with
    | some (.running t) => whenDue t (removeEntry entry) s
    | _ => s) s

/-- R110: the dormancy timer of a VACANT zone expires. -/
def becomeDormant (r : ZoneRec) : ZoneRec :=
  if r.state = .vacant then { r with state := .dormant, dormancyAt := none } else r

/-- DORMANCY_TIMER_EXPIRES (R110). -/
def execDormancyTimerExpires (zone : Nat) (s : State) : Result :=
  whenPowered (fun s =>
    match (slotGet s.zones zone).bind ZoneRec.dormancyAt with
    | none => s
    | some t => whenDue t (changeZone zone becomeDormant) s) s

end Sys2Proof.Machine
end

