-- ==== Sys2Proof/Machine/Reading.lean ====
section
/-! DEFINITION. The reading requests (R194): zones, doors, loads, the settlement record, windows, nodes,
lines, points, presence, events. Log 9 says what the layouts take from the rules and what they choose. -/

namespace Sys2Proof.Machine

/-- R114: the time left to a time in seconds, or none, in 2 bytes. -/
def leftWord (s : State) (t : Option Nat) : List Byte := optWord (t.map (secondsLeft s))

/-- The status of a point, all ones when there is no point. -/
def statusByte (s : State) (p : Option PointRef) : Byte :=
  optByte ((p.bind (getPoint s)).map fun r => r.status.ctorIdx)

/-- The value of a point, or none, behind its presence byte (R67, R193). READ POINT alone sends it bare (R73). -/
def pointValueBytes (s : State) (p : Option PointRef) : List Byte :=
  let v := (p.bind (getPoint s)).bind PointRec.value
  flagByte v.isSome :: signedBytes (v.getD 0)

/-! ## READ ZONE (R114, R159, R181) -/

/-- R98: the fields of the zone record. -/
def zoneRecordBytes (s : State) (d : ZoneDef) (r : ZoneRec) : List Byte :=
  byteOf d.kind.ctorIdx :: optPoint d.temperature
    ++ listBytes (fun g => pointBytes g.point ++ [byteOf g.gas.ctorIdx]) d.gas
    ++ listBytes pointBytes d.presence ++ wordBytes d.aging ++ wordBytes d.dormancy
    ++ [byteOf r.state.ctorIdx, flagByte r.intruded] ++ optAge s r.vacantSince ++ leftWord s r.dormancyAt

/-- The kind of an entry (R102): SENSOR 0, DOOR 1, PINNED 2. -/
def entryKind (e : PresenceEntry) : Nat :=
  match e.source with
  | .sensor _ => 0
  | .door _ => 1
  | .host => 2

/-- R114: how many live entries of a kind a zone holds. -/
def entriesOfKind (s : State) (z kind : Nat) : Nat :=
  s.presence.countP fun e => e.2.zone == z && entryKind e.2 == kind

/-- R98, R114: the member loads of a zone. -/
def memberLoads (c : RunningConfig) (z : Nat) : List Nat := slotsWhere (fun d => d.zone == z) c.loads

/-- R114, R159: entries, member loads, door boost, light override. -/
def zoneExtraBytes (s : State) (z : Nat) : List Byte :=
  [byteOf (entriesOfKind s z 0), byteOf (entriesOfKind s z 1), byteOf (entriesOfKind s z 2)]
    ++ listBytes (fun k => [byteOf k]) (memberLoads s.config z) ++ wordBytes (doorBoost s z)
    ++ lightOverrideBytes s (slotGet s.lightOverrides z)

/-- R181: the heating demand with its parts, or none. -/
def heatBytes (h : Option HeatDemand) : List Byte :=
  optWord (h.map HeatDemand.q) ++ optWord (h.map HeatDemand.base) ++ optWord (h.map HeatDemand.boost)
    ++ optWord (h.map HeatDemand.offset)

/-- R181: the climate record of a zone. -/
def climateRecordBytes (s : State) (d : ZoneDef) (r : ClimateRec) : List Byte :=
  optSigned r.tset ++ [byteOf r.source.ctorIdx] ++ heatBytes r.demand ++ optWord r.held
    ++ statusByte s d.temperature :: pointValueBytes s d.temperature ++ optAge s r.staleSince
    ++ setpointOverrideBytes s r.override ++ wordBytes r.gasIndex ++ [byteOf r.gasFresh, byteOf r.stage]
    ++ wordBytes (ageOf s r.stageAt) ++ optAge s r.dwell ++ optAge s r.purgeClear ++ [flagByte r.gasStale]

/-- READ ZONE (R114, R159, R181). -/
def handleReadZone (z : Nat) (s : State) : Served :=
  if !zoneInRange z then refuse .outOfRange s
  else match slotGet s.config.zones z, slotGet s.zones z, slotGet s.climate z with
    | some d, some r, some c => answer (zoneRecordBytes s d r ++ zoneExtraBytes s z ++ climateRecordBytes s d c) s
    | _, _, _ => refuse .notFound s

/-! ## READ DOOR (R96) -/

/-- R84: a reported level: open 0, closed 1. -/
def levelByte (level : Option Bool) : Byte := optByte (level.map fun isOpen => if isOpen then 0 else 1)

/-- R84, R96: the fields of the door record. The neighbours go as a list of zones, as DEFINE DOOR takes them (log 9). -/
def doorRecordBytes (s : State) (d : DoorDef) (r : DoorRec) : List Byte :=
  pointBytes d.binding ++ [byteOf d.zone] ++ listBytes (fun z => [byteOf z]) d.neighbours
    ++ [optByte d.curtain] ++ wordBytes d.boost ++ [byteOf r.state.ctorIdx, levelByte r.level]
    ++ optAge s r.openSince ++ [flagByte r.heldFlag] ++ optAge s (r.window.map CountWindow.start)
    ++ wordBytes ((r.window.map CountWindow.count).getD 0) ++ wordBytes r.request
    ++ [optByte (r.runOn.map (secondsLeft s))] ++ wordBytes (ageOf s r.entered)

/-- READ DOOR (R96). The point status is 0xFF where the binding names no defined node (log 9). -/
def handleReadDoor (door : Nat) (s : State) : Served :=
  if !doorInRange door then refuse .outOfRange s
  else match slotGet s.config.doors door, slotGet s.doors door with
    | some d, some r =>
      answer (doorRecordBytes s d r ++ leftWord s (heldOpenAt s.config r) ++ [statusByte s (some d.binding)]
        ++ wordBytes (boostTo d.zone d r)) s
    | _, _ => refuse .notFound s

/-! ## READ LOAD (R141, R159, R181) -/

/-- R116: the definition's fields. -/
def loadDefBytes (d : LoadDef) : List Byte :=
  [byteOf d.kind.ctorIdx, byteOf d.zone] ++ pointBytes d.binding ++ wordBytes d.rating
    ++ [byteOf d.drive.ctorIdx, byteOf d.cls, flagByte d.exempt] ++ wordBytes d.hold ++ wordBytes d.fallback

/-- R116, R141: the other fields of the load record. Exemption reason NONE goes as its position 0 (log 9). -/
def loadStateBytes (s : State) (r : LoadRec) : List Byte :=
  wordBytes r.posted ++ [byteOf r.reason.ctorIdx, flagByte r.exempt, byteOf r.effClass]
    ++ wordBytes r.grant ++ wordBytes r.grantFraction ++ wordBytes r.previousGrant ++ wordBytes r.applied
    ++ [if r.controlled then (0 : Byte) else 1] ++ optAge s r.unreachableSince ++ optWord r.assumed
    ++ optWord r.lastCommand ++ leftWord s (nodeHoldAt s.config r) ++ [byteOf (secondsLeft s r.refreshAt)]

/-- R141: the status and last write status of the load's point; both are 0xFF where the binding's node is not defined,
so that there is no point record (log 9). -/
def loadPointBytes (s : State) (p : PointRef) : List Byte :=
  [statusByte s (some p), optByte ((getPoint s p).map fun r => r.lastWrite.ctorIdx)]

/-- R159: the group record of a LIGHT. -/
def groupBytes (s : State) (k : Nat) (r : LoadRec) (g : LightRec) : List Byte :=
  let d := daylightOf s.config k
  optPoint d.point ++ wordBytes d.target ++ statusByte s d.point :: pointValueBytes s d.point
    ++ [byteOf g.source.ctorIdx] ++ wordBytes g.target ++ wordBytes g.trimmed ++ wordBytes r.goal

/-- R159, R181: what the owning unit's kind of load adds. -/
def loadOwnBytes (s : State) (k : Nat) (d : LoadDef) (r : LoadRec) : List Byte :=
  match r.light with
  | some g => groupBytes s k r g
  | none =>
    wordBytes r.goal ++ if d.kind = .curtain then [optByte (curtainDoors s.config k).head?] else []

/-- READ LOAD (R141, R159, R181). -/
def handleReadLoad (k : Nat) (s : State) : Served :=
  if !loadInRange k then refuse .outOfRange s
  else match slotGet s.config.loads k, slotGet s.loads k with
    | some d, some r =>
      answer (loadDefBytes d ++ loadStateBytes s r ++ loadPointBytes s d.binding ++ loadOwnBytes s k d r) s
    | _, _ => refuse .notFound s

/-! ## READ SETTLEMENT (R139, R202) -/

/-- R202: the clock reading of the record, all ones when UNSET. -/
def recordClockBytes (c : Option Reading) : List Byte :=
  match c with
  | some r => [byteOf (r.date.year - 2000), byteOf r.date.month, byteOf r.date.day, byteOf r.hour,
      byteOf r.minute, byteOf r.second]
  | none => [0xFF, 0xFF, 0xFF, 0xFF, 0xFF, 0xFF]

/-- A bit of a flag byte. -/
def bitValue (place : Nat) (b : Bool) : Nat := if b then 2 ^ place else 0

/-- R202: the flags of the record. -/
def recordFlags (r : SettlementRec) : Nat :=
  bitValue 0 r.isEmpty + bitValue 1 r.hostCap.isSome + bitValue 2 r.termCap.isSome + bitValue 3 r.windowCap.isSome
    + bitValue 4 r.overrun + bitValue 5 r.strain

/-- R139, R202: the clock of the record: all figures 0 while it is empty. -/
def recordTimeBytes (r : SettlementRec) : List Byte :=
  if r.isEmpty then [0, 0, 0, 0, 0, 0] else recordClockBytes r.clock

/-- R202: the figures of a class. -/
def figureBytes (f : ClassFigures) : List Byte :=
  longBytes f.demand ++ wordBytes f.shares ++ wordBytes f.grants ++ [byteOf f.state.ctorIdx]

/-- R202: the 78 bytes of the settlement record. -/
def settlementBytes (r : SettlementRec) : List Byte :=
  longBytes r.time ++ recordTimeBytes r ++ [byteOf (recordFlags r), byteOf r.source.ctorIdx]
    ++ wordBytes r.shiftCap ++ wordBytes (r.hostCap.getD 0) ++ wordBytes r.hostHold
    ++ wordBytes (r.termCap.getD 0) ++ wordBytes (r.windowCap.getD 0)
    ++ wordBytes r.cap ++ wordBytes r.base ++ longBytes r.uncontrolled ++ wordBytes r.available
    ++ longBytes r.exemptDemand ++ wordBytes r.remaining ++ wordBytes r.poolDrawn ++ wordBytes r.count
    ++ figureBytes r.class0 ++ figureBytes r.class1 ++ figureBytes r.class2 ++ figureBytes r.class3

/-! ## READ WINDOWS (R131) -/

/-- R131: a window of the history. -/
def closedWindowBytes (w : ClosedWindow) : List Byte :=
  secondBytes w.start ++ wordBytes w.length ++ longBytes w.used ++ wordBytes w.limit ++ [flagByte w.isPartial]

/-- How many bytes the fields of the open window take. -/
def openWindowLength : Nat := 28

/-- R131: the open window behind a presence byte; with none its fields are sent as 0 (R193). Its t_rem is worked afresh
at the request and not taken from the latest settlement (log 53). -/
def openWindowBytes (s : State) : List Byte :=
  match s.window with
  | none => 0 :: List.replicate openWindowLength 0
  | some w =>
    1 :: secondBytes w.start ++ secondBytes w.ends ++ wordBytes (w.ends - w.start) ++ longBytes w.used
      ++ [flagByte w.isPartial] ++ wordBytes (secondNumber s.clock.reading - w.start)
      ++ wordBytes (secondsRemaining s w) ++ presentWord s.record.windowCap

/-- READ WINDOWS (R131): the history and the open window. -/
def windowsBytes (s : State) : List Byte := listBytes closedWindowBytes s.history ++ openWindowBytes s

/-! ## READ NODE (R45) -/

/-- R38, R45: the node record and the contact state. -/
def nodeBytes (s : State) (l : LineId) (addr : Nat) (d : NodeDef) (n : NodeRec) : List Byte :=
  [optByte d.kind, byteOf d.count, byteOf n.state.ctorIdx, byteOf n.score, byteOf n.goodProbes, byteOf n.waiting,
      optByte (n.probe.map ProbeInfo.kind), optByte (n.probe.map ProbeInfo.count)]
    ++ presentLong n.lastGood ++ presentLong n.entered
    ++ [optByte (n.lastOutcome.map TxnOutcome.ctorIdx), byteOf (contactOf s (busOf l) addr).ctorIdx]

/-- READ NODE (R45). -/
def handleReadNode (op : Nat × Nat) (s : State) : Served :=
  match lineOfByte op.1, addrInRange op.2 with
  | some l, true =>
    match slotGet (lineCfg s.config l).nodes op.2, slotGet (getLine s l).nodes op.2 with
    | some d, some n => answer (nodeBytes s l op.2 d n) s
    | _, _ => refuse .notFound s
  | _, _ => refuse .outOfRange s

/-! ## READ LINE (R50) -/

/-- R46: a line state by position. -/
def lineStateByte : LineState → Byte
  | .ok => 0
  | .warn => 1
  | .down _ => 2

/-- R50: resting with the seconds left, or listening with the run of quiet windows; all ones elsewhere. -/
def downBytes (s : State) : LineState → List Byte
  | .down (.resting ends) => [0, byteOf (secondsLeft s ends)]
  | .down (.listening _ quiet _) => [1, byteOf quiet]
  | _ => [0xFF, 0]

/-- R50: a queue entry. -/
def queueEntryBytes (e : QueueEntry) : List Byte :=
  [byteOf e.node, byteOf e.point] ++ wordBytes e.value ++ [byteOf e.origin.ctorIdx, byteOf e.tries]

/-- R22: a function by position in the rule's table. -/
def functionByte : TxnWork → Byte
  | .readPoints _ _ _ => 0
  | .writePoint _ => 1
  | .fetchEvents => 2
  | .probe => 3

/-- R50: the transaction in flight, or none: with none, one byte 0xFF in the node's place and no function after it
(log 9). -/
def inFlightBytes : Option Txn → List Byte
  | none => [0xFF]
  | some x =>
    [byteOf x.node, functionByte x.work] ++
      match x.work with
      | .writePoint e => byteOf e.point :: wordBytes e.value
      | _ => []

/-- R50: how many queue entries a reply lists. -/
def listedEntries : Nat := 32

/-- R50: the body of a READ LINE reply. -/
def lineBytes (s : State) (l : LineId) : List Byte :=
  let line := getLine s l
  let cfg := lineCfg s.config l
  wordBytes (bitsPerSecond cfg.bitRate) ++ [byteOf cfg.timeout, lineStateByte line.state, byteOf line.errors]
    ++ downBytes s line.state ++ [byteOf (min line.queue.length 255), byteOf (min (hostEntries line.queue) 255)]
    ++ listBytes queueEntryBytes (line.queue.take listedEntries) ++ inFlightBytes line.inFlight
    ++ listBytes (fun a => [byteOf a]) line.fetch ++ [byteOf line.oneOffs.length]

/-- READ LINE (R50). -/
def handleReadLine (line : Nat) (s : State) : Served :=
  match lineOfByte line with
  | none => refuse .outOfRange s
  | some l => answer (lineBytes s l) s

/-! ## READ POINT (R73) -/

/-- The operands of READ POINT. -/
structure ReadPointFields where
  line : Nat
  addr : Nat
  first : Nat
  count : Nat
  deriving DecidableEq, Repr

/-- READ POINT's body: line, address, first point, count. -/
def takeReadPoint : Reader ReadPointFields := do
  let line ← takeByte
  let addr ← takeByte
  let first ← takeByte
  let count ← takeByte
  return ⟨line, addr, first, count⟩

/-- R53: a terminal function by position, with its parameters. -/
def functionBytes (f : TermFunction) : List Byte :=
  byteOf f.ctorIdx ::
    match f with
    | .meterPulse weight => wordBytes weight
    | .curtailIn cap => wordBytes cap
    | .analogIn use offset span => byteOf use.ctorIdx :: signedBytes offset ++ signedBytes span
    | _ => []

/-- R60: the measurement state of a METER_PULSE terminal. -/
def meterBytes (s : State) (f : TermFunction) (r : TermRec) : List Byte :=
  match f with
  | .meterPulse _ => presentLong r.lastInterval ++ optAge s r.lastPulse
  | _ => []

/-- R73: what the entry of a terminal point adds. -/
def terminalBytes (s : State) (p : PointRef) : List Byte :=
  match p.bus with
  | .t => functionBytes (functionOf s.config (p.point + 1)) ++
      meterBytes s (functionOf s.config (p.point + 1)) (getTerminal s (p.point + 1))
  | _ => []

/-- R73: the age of a point's value, 0 when it has none. -/
def pointAge (s : State) (r : PointRec) : Nat := (r.time.map (ageOf s)).getD 0

/-- R73: the entry of a point. A last write status NONE goes as the name that R67 lists first (log 9). -/
def pointEntryBytes (s : State) (p : PointRef) : List Byte :=
  match getPoint s p with
  | none => []
  | some r =>
    signedBytes (r.value.getD 0) ++ [byteOf r.status.ctorIdx] ++ wordBytes (pointAge s r)
      ++ [flagByte (isOutput s.config p)]
      ++ presentWord (if isOutput s.config p then r.readback else none)
      ++ [byteOf r.lastWrite.ctorIdx, byteOf r.tries, flagByte r.oneOffWaiting] ++ terminalBytes s p

/-- R73: the request's fields in range: the bus. -/
def readPointBus (f : ReadPointFields) : Option Bus :=
  (busOfByte f.line).bind fun bus =>
    if pointInRange ⟨bus, f.addr, f.first⟩ && isWithin 1 16 f.count && decide (f.first + f.count ≤ 16) then some bus
    else none

/-- The points of the request. -/
def requestedPoints (bus : Bus) (f : ReadPointFields) : List PointRef :=
  (List.range f.count).map fun i => ⟨bus, f.addr, f.first + i⟩

/-- READ POINT (R73). -/
def handleReadPoint (f : ReadPointFields) (s : State) : Served :=
  match readPointBus f with
  | none => refuse .outOfRange s
  | some bus =>
    if (requestedPoints bus f).all (pointDefined s.config) then
      answer (listBytes (pointEntryBytes s) (requestedPoints bus f)) s
    else refuse .notFound s

/-! ## READ PRESENCE (R114) -/

/-- R102: a source in three bytes: a sensor's point, a door's number, the host (log 9). -/
def sourceBytes : PresenceSource → List Byte
  | .sensor p => pointBytes p
  | .door d => [byteOf d, 0, 0]
  | .host => [0, 0, 0]

/-- R114: a life: RUNNING with its remaining life in whole tenths of a second, the rest below a tenth left out
(log 9), HELD with its held life, PINNED. -/
def lifeBytes (s : State) : PresenceLife → List Byte
  | .running t => 0 :: wordBytes (min ((t - s.now) / 100) 65535)
  | .held seconds => 1 :: wordBytes seconds
  | .pinned => [2, 0, 0]

/-- R114: an entry: number, zone, source, kind, life. -/
def entryBytes (s : State) (e : Nat × PresenceEntry) : List Byte :=
  [byteOf e.1, byteOf e.2.zone] ++ sourceBytes e.2.source ++ [byteOf (entryKind e.2)] ++ lifeBytes s e.2.life

/-- R114: the table's counts and flag, and the entries that `p` picks. -/
def presenceBytes (s : State) (p : PresenceEntry → Bool) : List Byte :=
  [byteOf s.presence.length, byteOf (s.presence.countP fun e => entryKind e.2 == 2), flagByte s.fullReported]
    ++ listBytes (entryBytes s) (s.presence.filter fun e => p e.2)

/-- READ PRESENCE (R114): a zone, or ALL. -/
def handleReadPresence (z : Nat) (s : State) : Served :=
  if z = 255 then answer (presenceBytes s fun _ => true) s
  else withZone z s (answer (presenceBytes s (entryIn z)) s)

/-! ## READ EVENTS (R82) -/

/-- R76: a match set as one byte, bit 0 for F1 up to bit 5 for F6: R193 gives no encoding of it (log 9). -/
def matchByte (m : MatchSet) : Byte :=
  byteOf (bitValue 0 m.f1 + bitValue 1 m.f2 + bitValue 2 m.f3 + bitValue 3 m.f4 + bitValue 4 m.f5 + bitValue 5 m.f6)

/-- R76: an event record. -/
def eventBytes (r : EventRec) : List Byte :=
  wordBytes r.seq ++ longBytes r.arrival ++ pointBytes r.point ++ [byteOf r.kind.ctorIdx] ++ wordBytes r.age
    ++ wordBytes r.value ++ wordBytes r.storm ++ [matchByte r.matches_, byteOf r.outcome.ctorIdx]

/-- R82: a node with its storm window: the start, a running time (R193), and the count. -/
def windowBytes (e : Nat × CountWindow) : List Byte :=
  [byteOf (e.1 / 32), byteOf (e.1 % 32)] ++ longBytes e.2.start ++ wordBytes e.2.count

/-- R193: a reply body fits in 1024 bytes. -/
def bodyLimit : Nat := 1024

/-- R82: the filter's enables and limits. -/
def filterBytes (f : FilterCfg) : List Byte :=
  [flagByte f.f2, flagByte f.f3, flagByte f.f4, flagByte f.f5, flagByte f.f6, byteOf f.stormLimit, byteOf f.staleLimit]

/-- R82: what a READ EVENTS reply sends behind its records: the next sequence number, the filter, and the storm window
of every node that has one, by rising node number: line A, line B, T.0 (log 9). -/
def eventsTail (s : State) : List Byte :=
  wordBytes s.nextSeq ++ filterBytes s.config.filter ++ listBytes windowBytes s.windows

/-- R82, R193: how many records a READ EVENTS reply holds: up to the count asked for, and no more than its 1024 bytes
leave room for beside the storm windows, at 18 bytes a record (log 47). -/
def recordsSent (count : Nat) (s : State) : Nat := min count ((bodyLimit - 1 - (eventsTail s).length) / 18)

/-- READ EVENTS (R82): the newest records, oldest first. -/
def handleReadEvents (count : Nat) (s : State) : Served :=
  if isWithin 1 32 count then
    answer (listBytes eventBytes (s.recent.drop (s.recent.length - recordsSent count s)) ++ eventsTail s) s
  else refuse .outOfRange s

/-! ## Commands -/

/-- READ_ZONE (R114, R159, R181). -/
def execReadZone (body : List Byte) (s : State) : Result :=
  serve 0x40 .plain false body ((readWhole takeByte body).map handleReadZone) s

/-- READ_DOOR (R96). -/
def execReadDoor (body : List Byte) (s : State) : Result :=
  serve 0x41 .plain false body ((readWhole takeByte body).map handleReadDoor) s

/-- READ_LOAD (R141). -/
def execReadLoad (body : List Byte) (s : State) : Result :=
  serve 0x42 .plain false body ((readWhole takeByte body).map handleReadLoad) s

/-- READ_SETTLEMENT (R139). -/
def execReadSettlement (body : List Byte) (s : State) : Result :=
  serve 0x43 .plain false body ((readWhole takeNothing body).map fun _ s => answer (settlementBytes s.record) s) s

/-- READ_WINDOWS (R131). -/
def execReadWindows (body : List Byte) (s : State) : Result :=
  serve 0x44 .plain false body ((readWhole takeNothing body).map fun _ s => answer (windowsBytes s) s) s

/-- READ_NODE (R45). -/
def execReadNode (body : List Byte) (s : State) : Result :=
  serve 0x45 .plain false body ((readWhole takeLineAddr body).map handleReadNode) s

/-- READ_LINE (R50). -/
def execReadLine (body : List Byte) (s : State) : Result :=
  serve 0x46 .plain false body ((readWhole takeByte body).map handleReadLine) s

/-- READ_POINT (R73). -/
def execReadPoint (body : List Byte) (s : State) : Result :=
  serve 0x47 .plain false body ((readWhole takeReadPoint body).map handleReadPoint) s

/-- READ_PRESENCE (R114). -/
def execReadPresence (body : List Byte) (s : State) : Result :=
  serve 0x48 .plain false body ((readWhole takeByte body).map handleReadPresence) s

/-- READ_EVENTS (R82). -/
def execReadEvents (body : List Byte) (s : State) : Result :=
  serve 0x49 .plain false body ((readWhole takeByte body).map handleReadEvents) s

end Sys2Proof.Machine
end

