-- ==== Sys2Proof/Machine/Dispatch.lean ====
section
/-! DEFINITION. One arm for each command, each a direct call of its meaning. -/

namespace Sys2Proof.Machine

/-- The effect of a command on everything but the queue. -/
def exec (i : Instr) (s : State) : Host.Outcome State Fault Refusal :=
  match i with
  | .coldStart cause => Sys2Proof.Machine.execColdStart cause s
  | .warmRestart => Sys2Proof.Machine.execWarmRestart s
  | .clockTick => Sys2Proof.Machine.execClockTick s
  | .hostFrameDiscarded bytes => Sys2Proof.Machine.execHostFrameDiscarded bytes s
  | .hostByteTimeout => Sys2Proof.Machine.execHostByteTimeout s
  | .unknownRequest request => Sys2Proof.Machine.execUnknownRequest request s
  | .identify body => Sys2Proof.Machine.execIdentify body s
  | .enterHold body => Sys2Proof.Machine.execEnterHold body s
  | .enterRun body => Sys2Proof.Machine.execEnterRun body s
  | .restart body => Sys2Proof.Machine.execRestart body s
  | .storeSettings body => Sys2Proof.Machine.execStoreSettings body s
  | .storeWriteBegin => Sys2Proof.Machine.execStoreWriteBegin s
  | .storeWriteEnd agrees => Sys2Proof.Machine.execStoreWriteEnd agrees s
  | .setClock body => Sys2Proof.Machine.execSetClock body s
  | .readClock body => Sys2Proof.Machine.execReadClock body s
  | .writeShift body => Sys2Proof.Machine.execWriteShift body s
  | .readShift body => Sys2Proof.Machine.execReadShift body s
  | .deleteShift body => Sys2Proof.Machine.execDeleteShift body s
  | .writeException body => Sys2Proof.Machine.execWriteException body s
  | .deleteException body => Sys2Proof.Machine.execDeleteException body s
  | .readPlanState body => Sys2Proof.Machine.execReadPlanState body s
  | .defineZone body => Sys2Proof.Machine.execDefineZone body s
  | .defineDoor body => Sys2Proof.Machine.execDefineDoor body s
  | .defineLoad body => Sys2Proof.Machine.execDefineLoad body s
  | .defineNode body => Sys2Proof.Machine.execDefineNode body s
  | .defineScanEntry body => Sys2Proof.Machine.execDefineScanEntry body s
  | .setTerminalFunction body => Sys2Proof.Machine.execSetTerminalFunction body s
  | .setLineParameters body => Sys2Proof.Machine.execSetLineParameters body s
  | .setFilterTests body => Sys2Proof.Machine.execSetFilterTests body s
  | .setParametersDoor body => Sys2Proof.Machine.execSetParametersDoor body s
  | .setParametersOccupancy body => Sys2Proof.Machine.execSetParametersOccupancy body s
  | .setParametersLighting body => Sys2Proof.Machine.execSetParametersLighting body s
  | .setParametersDaylight body => Sys2Proof.Machine.execSetParametersDaylight body s
  | .setParametersClimate body => Sys2Proof.Machine.execSetParametersClimate body s
  | .setParametersBudget body => Sys2Proof.Machine.execSetParametersBudget body s
  | .setParametersSettlement body => Sys2Proof.Machine.execSetParametersSettlement body s
  | .setParametersHostLink body => Sys2Proof.Machine.execSetParametersHostLink body s
  | .readParameters body => Sys2Proof.Machine.execReadParameters body s
  | .lightOverride body => Sys2Proof.Machine.execLightOverride body s
  | .setpointOverride body => Sys2Proof.Machine.execSetpointOverride body s
  | .curtail body => Sys2Proof.Machine.execCurtail body s
  | .pinPresence body => Sys2Proof.Machine.execPinPresence body s
  | .unpinPresence body => Sys2Proof.Machine.execUnpinPresence body s
  | .flushPresence body => Sys2Proof.Machine.execFlushPresence body s
  | .setNodeService body => Sys2Proof.Machine.execSetNodeService body s
  | .lineRestart body => Sys2Proof.Machine.execLineRestart body s
  | .writePoint body => Sys2Proof.Machine.execWritePoint body s
  | .fetchPoint body => Sys2Proof.Machine.execFetchPoint body s
  | .readZone body => Sys2Proof.Machine.execReadZone body s
  | .readDoor body => Sys2Proof.Machine.execReadDoor body s
  | .readLoad body => Sys2Proof.Machine.execReadLoad body s
  | .readSettlement body => Sys2Proof.Machine.execReadSettlement body s
  | .readWindows body => Sys2Proof.Machine.execReadWindows body s
  | .readNode body => Sys2Proof.Machine.execReadNode body s
  | .readLine body => Sys2Proof.Machine.execReadLine body s
  | .readPoint body => Sys2Proof.Machine.execReadPoint body s
  | .readPresence body => Sys2Proof.Machine.execReadPresence body s
  | .readEvents body => Sys2Proof.Machine.execReadEvents body s
  | .collectNotices body => Sys2Proof.Machine.execCollectNotices body s
  | .supervisionTimerExpires => Sys2Proof.Machine.execSupervisionTimerExpires s
  | .releaseTimerExpires => Sys2Proof.Machine.execReleaseTimerExpires s
  | .replyTimeout line => Sys2Proof.Machine.execReplyTimeout line s
  | .replySilence line bytes framingError => Sys2Proof.Machine.execReplySilence line bytes framingError s
  | .replyCutoff line => Sys2Proof.Machine.execReplyCutoff line s
  | .idleNoise line => Sys2Proof.Machine.execIdleNoise line s
  | .lineRestEnd line => Sys2Proof.Machine.execLineRestEnd line s
  | .listenWindowEnd line => Sys2Proof.Machine.execListenWindowEnd line s
  | .probeTimerExpires line addr => Sys2Proof.Machine.execProbeTimerExpires line addr s
  | .scanPeriodExpires line addr first => Sys2Proof.Machine.execScanPeriodExpires line addr first s
  | .stalenessTimerExpires point => Sys2Proof.Machine.execStalenessTimerExpires point s
  | .terminalInputChange terminal closed => Sys2Proof.Machine.execTerminalInputChange terminal closed s
  | .debounceTimerExpires terminal => Sys2Proof.Machine.execDebounceTimerExpires terminal s
  | .restartTimerExpires terminal => Sys2Proof.Machine.execRestartTimerExpires terminal s
  | .terminalRepeatDelivery terminal => Sys2Proof.Machine.execTerminalRepeatDelivery terminal s
  | .analogConversion terminal millivolts => Sys2Proof.Machine.execAnalogConversion terminal millivolts s
  | .meterPulse terminal => Sys2Proof.Machine.execMeterPulse terminal s
  | .meterZeroTimerExpires terminal => Sys2Proof.Machine.execMeterZeroTimerExpires terminal s
  | .heldOpenTimerExpires door => Sys2Proof.Machine.execHeldOpenTimerExpires door s
  | .chatterTimerExpires door => Sys2Proof.Machine.execChatterTimerExpires door s
  | .curtainRunOnExpires door => Sys2Proof.Machine.execCurtainRunOnExpires door s
  | .presenceLifeExpires entry => Sys2Proof.Machine.execPresenceLifeExpires entry s
  | .dormancyTimerExpires zone => Sys2Proof.Machine.execDormancyTimerExpires zone s
  | .nodeHoldTimerExpires load => Sys2Proof.Machine.execNodeHoldTimerExpires load s
  | .hostCurtailExpires => Sys2Proof.Machine.execHostCurtailExpires s
  | .settlement => Sys2Proof.Machine.execSettlement s
  | .commandRefreshExpires load => Sys2Proof.Machine.execCommandRefreshExpires load s
  | .lightingStep => Sys2Proof.Machine.execLightingStep s
  | .lightOverrideExpires zone => Sys2Proof.Machine.execLightOverrideExpires zone s
  | .heatingEvaluation => Sys2Proof.Machine.execHeatingEvaluation s
  | .ventilationEvaluation => Sys2Proof.Machine.execVentilationEvaluation s
  | .curtainStep => Sys2Proof.Machine.execCurtainStep s
  | .setpointOverrideExpires zone => Sys2Proof.Machine.execSetpointOverrideExpires zone s
  | .mainPowerLoss => Sys2Proof.Machine.execMainPowerLoss s
  | .startByte => Sys2Proof.Machine.execStartByte s
  | .replySent => Sys2Proof.Machine.execReplySent s
  | .firstReplyCharacter line => Sys2Proof.Machine.execFirstReplyCharacter line s

end Sys2Proof.Machine
end

