-- ==== Sys2Proof/Machine/Idle.lean ====
section
/-! DEFINITION. The idle step: on an empty queue a millisecond passes, and the commands of the part's own
timers that are then due come to wait in the queue (log 1). -/

namespace Sys2Proof.Machine

/-! ## Timers that are due -/

/-- The time has come. -/
def isDue (now : Nat) (t : Option Nat) : Bool := t.any fun x => decide (x ≤ now)

/-- The commands of the records of a table whose time has come, in the order of their numbers. -/
def dueIn {α : Type} (now : Nat) (time : α → Option Nat) (command : Nat → Instr) (table : Table α) :
    List Instr :=
  (slotsWhere (fun r => isDue now (time r)) table).map command

/-- A command when a condition holds. -/
def commandIf (p : Bool) (i : Instr) : List Instr := if p then [i] else []

/-- R191, R185, R197, R63: what waits for a reply to be sent, or for a store write to end. -/
def dueStarts (s : State) : List Instr :=
  commandIf (restartInputReady s) (.coldStart .restartInput)
    ++ commandIf (warmRestartReady s) .warmRestart
    ++ commandIf (s.storePending && !s.answering) .storeWriteBegin

/-- R25, R48: the expiry of a line's reply timeout, of its rest or of its listen window. -/
def dueOnWire (now : Nat) (l : LineId) (line : Line) : List Instr :=
  (match line.inFlight.map Txn.phase with
    | some (.waiting expiry) => commandIf (decide (expiry ≤ now)) (.replyTimeout l)
    | _ => [])
  ++ (match line.state with
    | .down (.resting ends) => commandIf (decide (ends ≤ now)) (.lineRestEnd l)
    | .down (.listening ends _ _) => commandIf (decide (ends ≤ now)) (.listenWindowEnd l)
    | _ => [])

/-- R33, R41, R42: probes and scan entries of a line that fall due at this millisecond. -/
def dueWork (now : Nat) (l : LineId) (line : Line) : List Instr :=
  (slotsWhere (fun n => n.probeDue == some now) line.nodes).map (.probeTimerExpires l)
    ++ (slotsWhere (fun t => t.due == now) line.scan).map fun k => .scanPeriodExpires l (k / 16) (k % 16)

/-- The commands that a line's timers call for. -/
def dueOnLine (now : Nat) (l : LineId) (line : Line) : List Instr :=
  dueOnWire now l line ++ dueWork now l line

/-- The bus of a node's number. -/
def busOfKey : Nat → Bus
  | 0 => .a
  | 1 => .b
  | _ => .t

/-- The point that has a number in the point table. -/
def pointOfKey (k : Nat) : PointRef := ⟨busOfKey (k / 512), k / 16 % 32, k % 16⟩

/-- R69: the points whose staleness timer is due. -/
def duePoints (s : State) : List Instr :=
  ((slotNumbers s.points).filter fun k => isDue s.now (staleAt s (pointOfKey k))).map fun k =>
    .stalenessTimerExpires (pointOfKey k)

/-- R55, R57, R60, R63: the timers of the terminals. A conversion reads the voltage that the wiring holds. -/
def dueTerminals (s : State) : List Instr :=
  dueIn s.now TermRec.debounceAt .debounceTimerExpires s.terminals
    ++ dueIn s.now TermRec.restartAt .restartTimerExpires s.terminals
    ++ dueIn s.now TermRec.repeatAt .terminalRepeatDelivery s.terminals
    ++ dueIn s.now TermRec.convertAt (fun t => .analogConversion t (pinOf s t).millivolts) s.terminals
    ++ dueIn s.now TermRec.zeroAt .meterZeroTimerExpires s.terminals

/-- R90, R91, R94: the timers of the doors. -/
def dueDoors (s : State) : List Instr :=
  dueIn s.now (heldOpenAt s.config) .heldOpenTimerExpires s.doors
    ++ dueIn s.now chatterAt .chatterTimerExpires s.doors
    ++ dueIn s.now DoorRec.runOn .curtainRunOnExpires s.doors

/-- R105: the expiry of an entry's life. -/
def lifeExpiry (e : PresenceEntry) : Option Nat :=
  match e.life with
  | .running t => some t
  | _ => none

/-- R105, R110: the lives of the entries and the dormancy timers. -/
def dueOccupancy (s : State) : List Instr :=
  dueIn s.now lifeExpiry .presenceLifeExpires s.presence
    ++ dueIn s.now ZoneRec.dormancyAt .dormancyTimerExpires s.zones

/-- R160: a group that nothing has commanded since the start waits for the first lighting step, whose command it
then takes. A start sets the step timer to one period, and every step sets it later. -/
def awaitsFirstStep (s : State) (r : LoadRec) : Bool :=
  r.light.isSome && r.lastCommand.isNone && decide (s.stepAt ≤ Config.lightingStepMs)

/-- R119, R140, R160: when a load's command refresh is reached: a new record's is at once, but for a group before the
first step after a start (log 51). -/
def loadRefresh (s : State) (r : LoadRec) : Option Nat := if awaitsFirstStep s r then none else some r.refreshAt

/-- R122, R126, R132, R140: the timers of the budget unit. -/
def dueBudget (s : State) : List Instr :=
  dueIn s.now (nodeHoldAt s.config) .nodeHoldTimerExpires s.loads
    ++ commandIf (isDue s.now (s.hostOrder.map CurtailOrder.expiry)) .hostCurtailExpires
    ++ commandIf (decide (s.settleAt ≤ s.now)) .settlement
    ++ dueIn s.now (loadRefresh s) .commandRefreshExpires s.loads

/-- R165: the expiry of a zone's setpoint override. -/
def overrideExpiry (r : ClimateRec) : Option Nat := r.override.bind SetpointOverride.expiry

/-- R147, R151, R161, R165: the timers of the lighting and climate units. -/
def dueComfort (s : State) : List Instr :=
  commandIf (decide (s.stepAt ≤ s.now)) .lightingStep
    ++ dueIn s.now LightOverride.expiry .lightOverrideExpires s.lightOverrides
    ++ commandIf (decide (s.heatAt ≤ s.now)) .heatingEvaluation
    ++ commandIf (decide (s.ventAt ≤ s.now)) .ventilationEvaluation
    ++ commandIf (decide (s.curtainAt ≤ s.now)) .curtainStep
    ++ dueIn s.now overrideExpiry .setpointOverrideExpires s.climate

/-- R190, R198: the release timer and the supervision timer. -/
def dueModes (s : State) : List Instr :=
  commandIf (isDue s.now s.supervisionAt) .supervisionTimerExpires
    ++ commandIf (isDue s.now s.releaseAt) .releaseTimerExpires

/-- R1: the clock is SET and a second has passed. -/
def dueClock (s : State) : List Instr := commandIf (s.clock.isSet && decide (1000 ≤ s.clock.phase)) .clockTick

/-! ## Frames of the host link -/

/-- R195: the command of a SET PARAMETERS request. -/
def parametersOf : List Byte → Instr
  | [] => .setParametersHostLink .noGroup
  | group :: body =>
    match group.toNat with
    | 0 => .setParametersDoor body
    | 1 => .setParametersOccupancy body
    | 2 => .setParametersLighting body
    | 3 => .setParametersDaylight body
    | 4 => .setParametersClimate body
    | 5 => .setParametersBudget body
    | 6 => .setParametersSettlement body
    | 7 => .setParametersHostLink (.group body)
    | _ => .setParametersHostLink (.noSuchGroup group body)

/-- R194: the command of a request with this code and body. -/
def requestOf (code : Byte) (body : List Byte) : Instr :=
  match code.toNat with
  | 0x01 => .identify body
  | 0x02 => .enterHold body
  | 0x03 => .enterRun body
  | 0x04 => .restart body
  | 0x05 => .storeSettings body
  | 0x10 => .setClock body
  | 0x11 => .readClock body
  | 0x12 => .writeShift body
  | 0x13 => .readShift body
  | 0x14 => .deleteShift body
  | 0x15 => .writeException body
  | 0x16 => .deleteException body
  | 0x17 => .readPlanState body
  | 0x20 => .defineZone body
  | 0x21 => .defineDoor body
  | 0x22 => .defineLoad body
  | 0x23 => .defineNode body
  | 0x24 => .defineScanEntry body
  | 0x25 => .setTerminalFunction body
  | 0x26 => .setLineParameters body
  | 0x27 => .setFilterTests body
  | 0x28 => parametersOf body
  | 0x30 => .lightOverride body
  | 0x31 => .setpointOverride body
  | 0x32 => .curtail body
  | 0x33 => .pinPresence body
  | 0x34 => .unpinPresence body
  | 0x35 => .flushPresence body
  | 0x36 => .setNodeService body
  | 0x37 => .lineRestart body
  | 0x38 => .writePoint body
  | 0x39 => .fetchPoint body
  | 0x40 => .readZone body
  | 0x41 => .readDoor body
  | 0x42 => .readLoad body
  | 0x43 => .readSettlement body
  | 0x44 => .readWindows body
  | 0x45 => .readNode body
  | 0x46 => .readLine body
  | 0x47 => .readPoint body
  | 0x48 => .readPresence body
  | 0x49 => .readEvents body
  | 0x4A => .collectNotices body
  | 0x4B => .readParameters body
  | _ => .unknownRequest ⟨code, body⟩

/-- R191, R192: what is due of the frame in hand: the request of a whole frame, its discard where it has failed or is
early, or its byte timeout. -/
def dueLink (s : State) : List Instr :=
  match s.receiver with
  | .hunting => []
  | .collecting f =>
    match judgeFrame f with
    | .growing => commandIf (frameLate s.now f) .hostByteTimeout
    | .failed => [.hostFrameDiscarded []]
    | .whole code body => [if f.early then .hostFrameDiscarded [] else requestOf code body]

/-- Everything of the part that is due, in one fixed order of the many that the spec allows (log 13); a frame in hand
comes first, since a start would lose it. -/
def dueTimers (s : State) : List Instr :=
  dueLink s ++ dueStarts s ++ dueClock s ++ dueModes s ++ dueOnLine s.now .a s.lineA ++ dueOnLine s.now .b s.lineB
    ++ duePoints s ++ dueTerminals s ++ dueDoors s ++ dueOccupancy s ++ dueBudget s ++ dueComfort s

/-! ## The step on an empty queue -/

/-- R1: a millisecond passes for a SET clock. -/
def clockPasses (c : Clock) : Clock := if c.isSet then { c with phase := c.phase + Config.idleMs } else c

/-- A millisecond passes: for the clock always (R2), for the running time under main power (log 6). -/
def passTime (s : State) : State :=
  { s with clock := clockPasses s.clock, now := if s.powered then s.now + Config.idleMs else s.now }

/-- The step on an empty queue. Without main power no timer runs but the clock's. -/
def idle (s : State) : State :=
  let t := passTime s
  { t with pending := if t.powered then dueTimers t else dueClock t }

end Sys2Proof.Machine
end

