-- ==== Sys2Proof/WellFormed.lean ====
section
/-! DEFINITION. Which commands can reach the part: the objects that an event names exist, a request's body fits
a frame, a reply is shorter than the cut-off. `exec` gives every command a meaning, well-formed or not. -/

namespace Sys2Proof

/-- R191: a body of at most 1024 bytes. -/
def bodyFits (body : List Byte) : Bool := decide (body.length ≤ 1024)

/-- R194: the codes of the catalogue. -/
def catalogue : List Nat :=
  [0x01, 0x02, 0x03, 0x04, 0x05]
    ++ [0x10, 0x11, 0x12, 0x13, 0x14, 0x15, 0x16, 0x17]
    ++ [0x20, 0x21, 0x22, 0x23, 0x24, 0x25, 0x26, 0x27, 0x28]
    ++ [0x30, 0x31, 0x32, 0x33, 0x34, 0x35, 0x36, 0x37, 0x38, 0x39]
    ++ [0x40, 0x41, 0x42, 0x43, 0x44, 0x45, 0x46, 0x47, 0x48, 0x49, 0x4A, 0x4B]

/-- A number in a range. -/
def numberFits (lo hi n : Nat) : Bool := decide (lo ≤ n) && decide (n ≤ hi)

/-- R52, R67: a point of a node of a line, or of T.0. -/
def pointFits (p : PointRef) : Bool :=
  (match p.bus with
    | .t => p.addr == 0
    | _ => numberFits 1 31 p.addr) && decide (p.point ≤ 15)

/-- R195: what follows a group code leaves room for it in the body. -/
def groupFits (body : List Byte) : Bool := decide (body.length ≤ 1023)

/-- R195: a HOST_LINK body, or what follows a code of no group. -/
def hostLinkFits : HostLinkBody → Bool
  | .group body => groupFits body
  | .noSuchGroup code body => decide (7 < code.toNat) && groupFits body
  | .noGroup => true

/-- R25, R26: the bytes of a reply that ends in silence: at least one, fewer than 41. -/
def replyFits (bytes : List Byte) : Bool := numberFits 1 40 bytes.length

/-- The command can reach the part. -/
def Instr.wellFormed : Instr → Bool
  | .unknownRequest r => !catalogue.contains r.code.toNat && bodyFits r.body
  | .identify body => bodyFits body
  | .enterHold body => bodyFits body
  | .enterRun body => bodyFits body
  | .restart body => bodyFits body
  | .storeSettings body => bodyFits body
  | .setClock body => bodyFits body
  | .readClock body => bodyFits body
  | .writeShift body => bodyFits body
  | .readShift body => bodyFits body
  | .deleteShift body => bodyFits body
  | .writeException body => bodyFits body
  | .deleteException body => bodyFits body
  | .readPlanState body => bodyFits body
  | .defineZone body => bodyFits body
  | .defineDoor body => bodyFits body
  | .defineLoad body => bodyFits body
  | .defineNode body => bodyFits body
  | .defineScanEntry body => bodyFits body
  | .setTerminalFunction body => bodyFits body
  | .setLineParameters body => bodyFits body
  | .setFilterTests body => bodyFits body
  | .setParametersDoor body => groupFits body
  | .setParametersOccupancy body => groupFits body
  | .setParametersLighting body => groupFits body
  | .setParametersDaylight body => groupFits body
  | .setParametersClimate body => groupFits body
  | .setParametersBudget body => groupFits body
  | .setParametersSettlement body => groupFits body
  | .setParametersHostLink body => hostLinkFits body
  | .readParameters body => bodyFits body
  | .lightOverride body => bodyFits body
  | .setpointOverride body => bodyFits body
  | .curtail body => bodyFits body
  | .pinPresence body => bodyFits body
  | .unpinPresence body => bodyFits body
  | .flushPresence body => bodyFits body
  | .setNodeService body => bodyFits body
  | .lineRestart body => bodyFits body
  | .writePoint body => bodyFits body
  | .fetchPoint body => bodyFits body
  | .readZone body => bodyFits body
  | .readDoor body => bodyFits body
  | .readLoad body => bodyFits body
  | .readSettlement body => bodyFits body
  | .readWindows body => bodyFits body
  | .readNode body => bodyFits body
  | .readLine body => bodyFits body
  | .readPoint body => bodyFits body
  | .readPresence body => bodyFits body
  | .readEvents body => bodyFits body
  | .collectNotices body => bodyFits body
  | .replySilence _ bytes _ => replyFits bytes
  | .probeTimerExpires _ addr => numberFits 1 31 addr
  | .scanPeriodExpires _ addr first => numberFits 1 31 addr && decide (first ≤ 15)
  | .stalenessTimerExpires point => pointFits point
  | .terminalInputChange terminal _ => numberFits 1 16 terminal
  | .debounceTimerExpires terminal => numberFits 1 10 terminal
  | .restartTimerExpires terminal => terminal == 7
  | .terminalRepeatDelivery terminal => numberFits 1 10 terminal
  | .analogConversion terminal _ => numberFits 5 10 terminal
  | .meterPulse terminal => numberFits 1 2 terminal
  | .meterZeroTimerExpires terminal => numberFits 1 2 terminal
  | .heldOpenTimerExpires door => numberFits 1 48 door
  | .chatterTimerExpires door => numberFits 1 48 door
  | .curtainRunOnExpires door => numberFits 1 48 door
  | .presenceLifeExpires entry => numberFits 1 96 entry
  | .dormancyTimerExpires zone => numberFits 1 12 zone
  | .nodeHoldTimerExpires load => numberFits 1 64 load
  | .commandRefreshExpires load => numberFits 1 64 load
  | .lightOverrideExpires zone => numberFits 1 12 zone
  | .setpointOverrideExpires zone => numberFits 1 12 zone
  | _ => true

end Sys2Proof
end

