-- ==== Sys2Proof/Safety.lean ====
section
/-! DEFINITION. Properties of states that the spec calls laws of the device, as decidable predicates, and what it
means for the machine to keep one. -/

namespace Sys2Proof.Machine

/-- A predicate that every step into a next state keeps. -/
def KeptByStep (inv : State → Prop) : Prop := ∀ s t : State, inv s → step s = .next t → inv t

/-- R199: the notice queue holds at most 40 notices, and the lost count stays in 0..255. -/
def noticesBounded (s : State) : Prop := s.notices.length ≤ 40 ∧ s.lost ≤ 255

/-- R191: the two frame counters stay in 0..65535. R76: so does the next sequence number. -/
def countersBounded (s : State) : Prop :=
  s.frameErrors ≤ 65535 ∧ s.earlyFrames ≤ 65535 ∧ s.nextSeq ≤ 65535

/-- R81: the recent events list holds at most 32 records. R131: the window history at most 8. -/
def listsBounded (s : State) : Prop := s.recent.length ≤ 32 ∧ s.history.length ≤ 8

/-- R46: the error count of a line lies in 0..255. R34: its list holds at most 16 one-off reads. R35: its queue
holds at most one entry for each node and point, and at most 8 of HOST origin. -/
def lineLaw (line : Line) : Prop :=
  line.errors ≤ 255 ∧ line.oneOffs.length ≤ 16 ∧ (line.queue.map fun e => (e.node, e.point)).Nodup
    ∧ hostEntries line.queue ≤ 8

/-- Both lines keep the laws of a line. -/
def linesLawful (s : State) : Prop := lineLaw s.lineA ∧ lineLaw s.lineB

/-- R183: a return mode stands exactly while the mode is EMERGENCY, and the part is never left in START. -/
def modeLegal (s : State) : Prop :=
  s.mode ≠ .start ∧ (s.mode = .emergency ↔ s.returnMode.isSome) ∧ s.returnMode ≠ some .emergency
    ∧ s.returnMode ≠ some .start

/-- Every defined door, zone, load and node has its record of state, and nothing else has one (R84, R98, R116,
R38); every defined zone has its climate record (R161). -/
def recordsMatch (s : State) : Prop :=
  slotNumbers s.doors = slotNumbers s.config.doors ∧ slotNumbers s.zones = slotNumbers s.config.zones
    ∧ slotNumbers s.climate = slotNumbers s.config.zones ∧ slotNumbers s.loads = slotNumbers s.config.loads
    ∧ slotNumbers s.lineA.nodes = slotNumbers s.config.lineA.nodes
    ∧ slotNumbers s.lineB.nodes = slotNumbers s.config.lineB.nodes

/-- R98: the zones of a configuration are numbered 1 to 12, each once. -/
def zonesNumbered (c : RunningConfig) : Prop :=
  slotWf c.zones = true ∧ ∀ z ∈ slotNumbers c.zones, 1 ≤ z ∧ z ≤ 12

/-- R102: the presence table holds at most 96 entries, at most one for a zone and source, and a HOST entry is what is
PINNED; every entry names a zone Z1..Z12. -/
def presenceLawful (s : State) : Prop :=
  zonesNumbered s.config ∧ zonesNumbered s.store.copy ∧ slotWf s.presence = true
    ∧ s.presence.length ≤ Config.presenceSlots ∧ (s.presence.map fun e => (e.2.zone, e.2.source)).Nodup
    ∧ ∀ e ∈ s.presence, (e.2.life = .pinned ↔ e.2.source = .host) ∧ 1 ≤ e.2.zone ∧ e.2.zone ≤ 12

/-- R109: a zone is CLOSED exactly while it is not in the effective open-zone set, and OCCUPIED exactly while it is
in it and holds a live entry. R111: an intruded zone is CLOSED and holds a SENSOR or DOOR entry. -/
def zonesLawful (s : State) : Prop :=
  ∀ z r, slotGet s.zones z = some r →
    (r.state = .closed ↔ inZones s.plan.openZones z = false)
      ∧ (r.state = .occupied ↔ inZones s.plan.openZones z = true ∧ hasEntry s z = true)
      ∧ (r.intruded = true → r.state = .closed ∧ hasDynamic s z = true)

/-- R117: the applied fraction of a CONTROLLED load that is not exempt never exceeds its grant fraction. R158, R179:
in EMERGENCY every load stands at its emergency value, and the loads that R121 exempts then are exempt. -/
def loadLaw (mode : Mode) (vent : EmergencyVent) (d : LoadDef) (r : LoadRec) : Prop :=
  (isLimited r = true → r.applied ≤ r.grantFraction)
    ∧ (mode = .emergency → r.applied = emergencyFraction vent d.kind
      ∧ (emergencyExempt vent d.kind = true → r.exempt = true))

/-- Every load keeps its law; a load's number stands once in the configuration. -/
def loadsLawful (s : State) : Prop :=
  slotWf s.config.loads = true ∧ slotWf s.store.copy.loads = true
    ∧ ∀ k d r, slotGet s.config.loads k = some d → slotGet s.loads k = some r →
      loadLaw s.mode s.config.climate.vent d r

end Sys2Proof.Machine
end

