-- ==== Sys2Proof/Certificates/Slice0/Obligations.lean ====
section
/-! DEFINITION. The statements for the provers, and the few words they are written in. An equation of the form
`t = { s with f := t.f, g := t.g }` says that `t` is `s` in every field but those named. -/

namespace Sys2Proof.Claims

open Sys2Proof.Machine

/-! ## Requests -/

/-- The code that R194 gives a request; none for an event. -/
def requestCode : Instr → Option Nat
  | .unknownRequest r => some r.code.toNat
  | .identify _ => some 0x01
  | .enterHold _ => some 0x02
  | .enterRun _ => some 0x03
  | .restart _ => some 0x04
  | .storeSettings _ => some 0x05
  | .setClock _ => some 0x10
  | .readClock _ => some 0x11
  | .writeShift _ => some 0x12
  | .readShift _ => some 0x13
  | .deleteShift _ => some 0x14
  | .writeException _ => some 0x15
  | .deleteException _ => some 0x16
  | .readPlanState _ => some 0x17
  | .defineZone _ => some 0x20
  | .defineDoor _ => some 0x21
  | .defineLoad _ => some 0x22
  | .defineNode _ => some 0x23
  | .defineScanEntry _ => some 0x24
  | .setTerminalFunction _ => some 0x25
  | .setLineParameters _ => some 0x26
  | .setFilterTests _ => some 0x27
  | .setParametersDoor _ => some 0x28
  | .setParametersOccupancy _ => some 0x28
  | .setParametersLighting _ => some 0x28
  | .setParametersDaylight _ => some 0x28
  | .setParametersClimate _ => some 0x28
  | .setParametersBudget _ => some 0x28
  | .setParametersSettlement _ => some 0x28
  | .setParametersHostLink _ => some 0x28
  | .lightOverride _ => some 0x30
  | .setpointOverride _ => some 0x31
  | .curtail _ => some 0x32
  | .pinPresence _ => some 0x33
  | .unpinPresence _ => some 0x34
  | .flushPresence _ => some 0x35
  | .setNodeService _ => some 0x36
  | .lineRestart _ => some 0x37
  | .writePoint _ => some 0x38
  | .fetchPoint _ => some 0x39
  | .readZone _ => some 0x40
  | .readDoor _ => some 0x41
  | .readLoad _ => some 0x42
  | .readSettlement _ => some 0x43
  | .readWindows _ => some 0x44
  | .readNode _ => some 0x45
  | .readLine _ => some 0x46
  | .readPoint _ => some 0x47
  | .readPresence _ => some 0x48
  | .readEvents _ => some 0x49
  | .collectNotices _ => some 0x4A
  | .readParameters _ => some 0x4B
  | _ => none

/-- The body of a request's frame (R201); in the SET PARAMETERS rows the group code stands before it (R195). -/
def requestBody : Instr → List Byte
  | .unknownRequest r => r.body
  | .identify b => b
  | .enterHold b => b
  | .enterRun b => b
  | .restart b => b
  | .storeSettings b => b
  | .setClock b => b
  | .readClock b => b
  | .writeShift b => b
  | .readShift b => b
  | .deleteShift b => b
  | .writeException b => b
  | .deleteException b => b
  | .readPlanState b => b
  | .defineZone b => b
  | .defineDoor b => b
  | .defineLoad b => b
  | .defineNode b => b
  | .defineScanEntry b => b
  | .setTerminalFunction b => b
  | .setLineParameters b => b
  | .setFilterTests b => b
  | .setParametersDoor b => 0 :: b
  | .setParametersOccupancy b => 1 :: b
  | .setParametersLighting b => 2 :: b
  | .setParametersDaylight b => 3 :: b
  | .setParametersClimate b => 4 :: b
  | .setParametersBudget b => 5 :: b
  | .setParametersSettlement b => 6 :: b
  | .setParametersHostLink (.group b) => 7 :: b
  | .setParametersHostLink (.noSuchGroup code b) => code :: b
  | .setParametersHostLink .noGroup => []
  | .lightOverride b => b
  | .setpointOverride b => b
  | .curtail b => b
  | .pinPresence b => b
  | .unpinPresence b => b
  | .flushPresence b => b
  | .setNodeService b => b
  | .lineRestart b => b
  | .writePoint b => b
  | .fetchPoint b => b
  | .readZone b => b
  | .readDoor b => b
  | .readLoad b => b
  | .readSettlement b => b
  | .readWindows b => b
  | .readNode b => b
  | .readLine b => b
  | .readPoint b => b
  | .readPresence b => b
  | .readEvents b => b
  | .collectNotices b => b
  | .readParameters b => b
  | _ => []

/-- The requests that are taken in HOLD alone (R194). -/
def isHoldOnly : Instr → Bool
  | .defineZone _ => true
  | .defineDoor _ => true
  | .defineLoad _ => true
  | .defineNode _ => true
  | .defineScanEntry _ => true
  | .setTerminalFunction _ => true
  | .setLineParameters _ => true
  | .setFilterTests _ => true
  | .setParametersDaylight _ => true
  | .setParametersSettlement _ => true
  | _ => false

/-- The requests that wait for a store write (R192, R194). -/
def waitsForWrite : Instr → Bool
  | .restart _ => true
  | .storeSettings _ => true
  | .writeShift _ => true
  | .deleteShift _ => true
  | .writeException _ => true
  | .deleteException _ => true
  | .defineZone _ => true
  | .defineDoor _ => true
  | .defineLoad _ => true
  | .defineNode _ => true
  | .defineScanEntry _ => true
  | .setTerminalFunction _ => true
  | .setLineParameters _ => true
  | .setFilterTests _ => true
  | .setParametersDoor _ => true
  | .setParametersOccupancy _ => true
  | .setParametersLighting _ => true
  | .setParametersDaylight _ => true
  | .setParametersClimate _ => true
  | .setParametersBudget _ => true
  | .setParametersSettlement _ => true
  | .setParametersHostLink _ => true
  | .pinPresence _ => true
  | .unpinPresence _ => true
  | _ => false

/-- The length of a body that opens with an action byte: 0 for a definition, 1 for REMOVE; an action beyond the list
is left to the owner (R193, log 8). -/
def actionLength (definition : List Byte → Prop) (removal : Nat) : List Byte → Prop
  | [] => False
  | action :: rest => (action = 0 → definition rest) ∧ (action = 1 → rest.length = removal)

/-- R193: the body has the length that its encoding gives, each list sized from its own count byte. -/
def rightLength : Instr → Prop
  | .identify b => b.length = 0
  | .enterHold b => b.length = 0
  | .enterRun b => b.length = 0
  | .restart b => b.length = 0
  | .storeSettings b => b.length = 0
  | .setClock b => b.length = 7
  | .readClock b => b.length = 0
  | .writeShift b => b.length = 71
  | .readShift b => b.length = 1
  | .deleteShift b => b.length = 1
  | .writeException b => b.length = 3
  | .deleteException b => b.length = 2
  | .readPlanState b => b.length = 0
  | .defineZone b => actionLength (fun d =>
      let gas := (d.getD 5 0).toNat
      d.length = 7 + 4 * gas + 3 * (d.getD (6 + 4 * gas) 0).toNat) 1 b
  | .defineDoor b => actionLength (fun d => d.length = 9 + (d.getD 5 0).toNat) 1 b
  | .defineLoad b => actionLength (fun d => d.length = 15) 1 b
  | .defineNode b => actionLength (fun d => d.length = 4) 2 b
  | .defineScanEntry b => actionLength (fun d => d.length = 5) 3 b
  | .setTerminalFunction b => 2 ≤ b.length ∧
      let f := (b.getD 1 0).toNat
      (f = 4 ∨ f = 6 → b.length = 4) ∧ (f = 8 → b.length = 7)
        ∧ (f ≤ 11 → f ≠ 4 → f ≠ 6 → f ≠ 8 → b.length = 2)
  | .setLineParameters b => b.length = 4
  | .setFilterTests b => b.length = 7
  | .setParametersDoor b => b.length = 6
  | .setParametersOccupancy b => b.length = 5
  | .setParametersLighting b => b.length = 8
  | .setParametersDaylight b => b.length = if (b.drop 1).take 3 = [0xFF, 0xFF, 0xFF] then 4 else 6
  | .setParametersClimate b => b.length = 10
  | .setParametersBudget b => b.length = 8
  | .setParametersSettlement b => b.length = 1
  | .setParametersHostLink (.group b) => b.length = 3
  | .setParametersHostLink .noGroup => False
  | .lightOverride b => b.length = 4
  | .setpointOverride b => b.length = 5
  | .curtail b => b.length = 4
  | .pinPresence b => b.length = 1
  | .unpinPresence b => b.length = 1
  | .flushPresence b => b.length = 1
  | .setNodeService b => b.length = 3
  | .lineRestart b => b.length = 1
  | .writePoint b => b.length = 5
  | .fetchPoint b => b.length = 3
  | .readZone b => b.length = 1
  | .readDoor b => b.length = 1
  | .readLoad b => b.length = 1
  | .readSettlement b => b.length = 0
  | .readWindows b => b.length = 0
  | .readNode b => b.length = 2
  | .readLine b => b.length = 1
  | .readPoint b => b.length = 4
  | .readPresence b => b.length = 1
  | .readEvents b => b.length = 1
  | .collectNotices b => b.length = 1
  | .readParameters b => 1 ≤ b.length ∧
      let group := (b.getD 0 0).toNat
      (group = 1 ∨ group = 3 → b.length = 2) ∧ (group ≤ 7 → group ≠ 1 → group ≠ 3 → b.length = 1)
  | _ => True

/-- The part is under main power, the link is not answering (R192), and no frame is in hand. What a request does whose
frame is in hand in part or whole, `RequestsAreDiscardedOrAnswered` gives by this. -/
abbrev canTake (s : State) : Prop := s.powered = true ∧ s.answering = false ∧ s.receiver = .hunting

/-- R191: a frame is discarded for another cause than being early. -/
abbrev frameErrorCounted (s : State) : State :=
  { s with receiver := .hunting, frameErrors := min (s.frameErrors + 1) 65535 }

/-- R191, R192: a frame is discarded as early. -/
abbrev earlyFrameCounted (s : State) : State :=
  { s with receiver := .hunting, earlyFrames := min (s.earlyFrames + 1) 65535 }

/-- R191: the frame lacks bytes, and no more than 20 ms have passed since its last one. -/
abbrev isGrowing (now : Nat) (f : HostFrame) : Prop := judgeFrame f = .growing ∧ now ≤ f.last + 20

/-- R191: the frame lacks bytes, and more than 20 ms have passed since its last one. -/
abbrev isBrokenOff (now : Nat) (f : HostFrame) : Prop := judgeFrame f = .growing ∧ f.last + 20 < now

/-- R191: the frame is whole, and its CRC agrees. -/
abbrev isWhole (f : HostFrame) : Prop := ∃ code body, judgeFrame f = .whole code body

/-- A request that changes configuration can be taken: no store write is in progress. -/
abbrev canConfigure (s : State) : Prop := canTake s ∧ s.store.state ≠ .writing ∧ s.storePending = false

/-- A request that is taken in HOLD alone can be taken. -/
abbrev canDefine (s : State) : Prop := canConfigure s ∧ s.mode = .hold

/-- The request is answered with this status and body, and `u` is what its owner has left; what the end of every
request does beside it is said by `RequestEndMovesModeAndSupervision`. -/
def taken (code : Nat) (cls : RequestClass) (status : Status) (body : List Byte) (u : State) :
    Host.Outcome State Fault Refusal :=
  .next (finishRequest code cls ⟨status, body, u⟩)

/-- Z1..Z12. -/
abbrev isZone (z : Nat) : Prop := 1 ≤ z ∧ z ≤ 12

/-- A point that a request can name. -/
abbrev isPoint (p : PointRef) : Prop :=
  p.point ≤ 15 ∧ ((p.bus = .t ∧ p.addr = 0) ∨ (p.bus ≠ .t ∧ 1 ≤ p.addr ∧ p.addr ≤ 31))

/-! ## Words and bytes of the lines -/

/-- The bytes of words, most significant first (R22). -/
def bytesOf (words : List Word16) : List Byte :=
  words.flatMap fun w => [BitVec.ofNat 8 (w.toNat / 256), BitVec.ofNat 8 w.toNat]

/-- A frame with its check word. -/
def checked (words : List Word16) : List Word16 := words ++ [checkWord words]

/-! ## Timers -/

/-- The time at which a timer's command is due; none for a timer that does not run, and for every other command.
ANALOG_CONVERSION, which also sets its pin, stands apart. -/
def dueTime (s : State) : Instr → Option Nat
  | .settlement => some s.settleAt
  | .lightingStep => some s.stepAt
  | .heatingEvaluation => some s.heatAt
  | .ventilationEvaluation => some s.ventAt
  | .curtainStep => some s.curtainAt
  | .supervisionTimerExpires => s.supervisionAt
  | .releaseTimerExpires => s.releaseAt
  | .hostCurtailExpires => s.hostOrder.map CurtailOrder.expiry
  | .lightOverrideExpires z => (slotGet s.lightOverrides z).bind LightOverride.expiry
  | .setpointOverrideExpires z => ((slotGet s.climate z).bind ClimateRec.override).bind SetpointOverride.expiry
  | .presenceLifeExpires n =>
    match (slotGet s.presence n).map PresenceEntry.life with
    | some (.running t) => some t
    | _ => none
  | .dormancyTimerExpires z => (slotGet s.zones z).bind ZoneRec.dormancyAt
  | .heldOpenTimerExpires d => (slotGet s.doors d).bind (heldOpenAt s.config)
  | .curtainRunOnExpires d => (slotGet s.doors d).bind DoorRec.runOn
  | .chatterTimerExpires d => (slotGet s.doors d).bind fun r => r.window.map (·.start + 60000)
  | .nodeHoldTimerExpires k => (slotGet s.loads k).bind (nodeHoldAt s.config)
  | .commandRefreshExpires k => (slotGet s.loads k).map LoadRec.refreshAt
  | .debounceTimerExpires t => (getTerminal s t).debounceAt
  | .restartTimerExpires t => (getTerminal s t).restartAt
  | .terminalRepeatDelivery t => (getTerminal s t).repeatAt
  | .meterZeroTimerExpires t => (getTerminal s t).zeroAt
  | .stalenessTimerExpires p => staleAt s p
  | .replyTimeout l =>
    match (getLine s l).inFlight.map Txn.phase with
    | some (.waiting t) => some t
    | _ => none
  | .lineRestEnd l =>
    match (getLine s l).state with
    | .down (.resting t) => some t
    | _ => none
  | .listenWindowEnd l =>
    match (getLine s l).state with
    | .down (.listening t _ _) => some t
    | _ => none
  | .probeTimerExpires l addr => (slotGet (getLine s l).nodes addr).bind NodeRec.probeDue
  | .scanPeriodExpires l addr first => (slotGet (getLine s l).scan (scanKey addr first)).map ScanTime.due
  | .hostByteTimeout =>
    match s.receiver with
    | .collecting f => some (f.last + 21)
    | .hunting => none
  | .storeWriteEnd _ => if s.store.state = .writing then some (s.store.writingSince.getD s.now + 500) else none
  | _ => none

/-- Whether the idle step that has come to `s` queues a timer's command that is due at `t` (log 1): once the time has come,
but a probe and a scan entry at the moment they fall due, a byte timeout for a frame that lacks bytes (log 17), the refresh
of a group that nothing has commanded since the start only behind the first lighting step (log 51), and the end of a store
write never. -/
def raisedAt (s : State) (t : Nat) : Instr → Prop
  | .probeTimerExpires _ _ => t = s.now
  | .scanPeriodExpires _ _ _ => t = s.now
  | .hostByteTimeout => t ≤ s.now ∧ ∃ f, s.receiver = .collecting f ∧ judgeFrame f = .growing
  | .commandRefreshExpires k => t ≤ s.now ∧ ∃ r, slotGet s.loads k = some r
    ∧ (r.light = none ∨ r.lastCommand ≠ none ∨ 250 < s.stepAt)
  | .storeWriteEnd _ => False
  | _ => t ≤ s.now

/-- The tables that hold timers have strictly rising numbers. -/
def timersOrdered (s : State) : Bool :=
  slotWf s.lineA.nodes && slotWf s.lineA.scan && slotWf s.lineB.nodes && slotWf s.lineB.scan && slotWf s.terminals
    && slotWf s.doors && slotWf s.presence && slotWf s.zones && slotWf s.loads && slotWf s.lightOverrides
    && slotWf s.climate

/-- What is in the queue `q` that the idle step of a powered part has made, having come to `s`: the command of every timer
that is due (`dueTime`), the starts and the store write that wait (R185, R191, R197), CLOCK_TICK after a second (R1), the
conversions with the voltage of their pin (R57, log 31), what is due of a frame in hand (R191, R192), and nothing else. -/
def timersRaised (s : State) (q : List Instr) : Prop :=
  let writing := s.store.state = .writing ∨ s.storePending = true
  (∀ c t, c.wellFormed = true → dueTime s c = some t → raisedAt s t c → c ∈ q)
  ∧ (Instr.clockTick ∈ q ↔ s.clock.isSet = true ∧ 1000 ≤ s.clock.phase)
  ∧ (Instr.coldStart .restartInput ∈ q ↔ s.restartRequested = true ∧ ¬ writing)
  ∧ (Instr.warmRestart ∈ q ↔ s.restartPending = true ∧ s.answering = false ∧ ¬ writing)
  ∧ (Instr.storeWriteBegin ∈ q ↔ s.storePending = true ∧ s.answering = false)
  ∧ (∀ t mv, Instr.analogConversion t mv ∈ q ↔ ∃ r e, (t, r) ∈ s.terminals ∧ r.convertAt = some e ∧ e ≤ s.now
    ∧ mv = (pinOf s t).millivolts)
  ∧ (timersOrdered s = true → ∀ c ∈ q, (∃ t, dueTime s c = some t ∧ raisedAt s t c)
    ∨ c ∈ [Instr.clockTick, .coldStart .restartInput, .warmRestart, .storeWriteBegin, .hostFrameDiscarded []]
    ∨ (∃ t mv, c = .analogConversion t mv)
    ∨ ∃ f code body, s.receiver = .collecting f ∧ f.early = false ∧ judgeFrame f = .whole code body
      ∧ c = requestOf code body)

/-! ## Events -/

/-- The events of the lines, the terminals and the units behind them: neither a request, nor a start, a store
write, a power loss, a clock tick, a frame of the host link, nor a change of the wiring. -/
def isFieldEvent : Instr → Bool
  | .supervisionTimerExpires => false
  | .hostCurtailExpires => false
  | .lightOverrideExpires _ => false
  | .releaseTimerExpires => true
  | .replyTimeout _ => true
  | .replySilence _ _ _ => true
  | .replyCutoff _ => true
  | .idleNoise _ => true
  | .lineRestEnd _ => true
  | .listenWindowEnd _ => true
  | .probeTimerExpires _ _ => true
  | .scanPeriodExpires _ _ _ => true
  | .stalenessTimerExpires _ => true
  | .debounceTimerExpires _ => true
  | .terminalRepeatDelivery _ => true
  | .meterZeroTimerExpires _ => true
  | .heldOpenTimerExpires _ => true
  | .chatterTimerExpires _ => true
  | .curtainRunOnExpires _ => true
  | .presenceLifeExpires _ => true
  | .dormancyTimerExpires _ => true
  | .nodeHoldTimerExpires _ => true
  | .settlement => true
  | .commandRefreshExpires _ => true
  | .lightingStep => true
  | .heatingEvaluation => true
  | .ventilationEvaluation => true
  | .curtainStep => true
  | .setpointOverrideExpires _ => true
  | .firstReplyCharacter _ => true
  | _ => false

/-- What no event of the lines, the terminals and the units behind them touches: the configuration, the clock, the
plan, the store, the host link, the host's orders and overrides, the wiring. -/
structure HostSideKept (s t : State) : Prop where
  pending : t.pending = s.pending
  powered : t.powered = s.powered
  config : t.config = s.config
  clock : t.clock = s.clock
  plan : t.plan = s.plan
  inputs : t.inputs = s.inputs
  hostOrder : t.hostOrder = s.hostOrder
  history : t.history = s.history
  lightOverrides : t.lightOverrides = s.lightOverrides
  lastStart : t.lastStart = s.lastStart
  restartRequested : t.restartRequested = s.restartRequested
  receiver : t.receiver = s.receiver
  answering : t.answering = s.answering
  reply : t.reply = s.reply
  frameErrors : t.frameErrors = s.frameErrors
  earlyFrames : t.earlyFrames = s.earlyFrames
  restartPending : t.restartPending = s.restartPending
  storePending : t.storePending = s.storePending
  supervisionAt : t.supervisionAt = s.supervisionAt
  store : t.store = s.store

end Sys2Proof.Claims

open Sys2Proof Sys2Proof.Machine Sys2Proof.Claims

/-! ## The machine -/

/-- With a command at the front of the queue, a step is that command on the queue's rest. -/
def Obligations.StepRunsFrontCommand : Prop :=
  ∀ (c : Instr) (rest : List Instr) (s : State), s.pending = c :: rest →
    step s = exec c { s with pending := rest }

/-- The idle step (log 1): a millisecond passes, and the commands of all timers then due come to wait (`timersRaised`), with
what is due of a frame in hand (log 17). The refresh of a load is queued once its time has come, but for a group that
nothing has commanded since the start, which waits for the first lighting step (R160, log 51). A conversion brings the
voltage of its pin (log 31). -/
def Obligations.IdleStepPassesOneMillisecond : Prop :=
  ∀ s : State, s.pending = [] → ∃ q : List Instr,
    let passed : State := { s with
      now := if s.powered then s.now + 1 else s.now
      clock := if s.clock.isSet then { s.clock with phase := s.clock.phase + 1 } else s.clock }
    step s = .next { passed with pending := q }
    ∧ (s.powered = true → timersRaised passed q)
    ∧ (s.powered = true →
      (Instr.settlement ∈ q ↔ s.settleAt ≤ s.now + 1)
      ∧ (Instr.lightingStep ∈ q ↔ s.stepAt ≤ s.now + 1)
      ∧ (Instr.heatingEvaluation ∈ q ↔ s.heatAt ≤ s.now + 1)
      ∧ (Instr.ventilationEvaluation ∈ q ↔ s.ventAt ≤ s.now + 1)
      ∧ (Instr.curtainStep ∈ q ↔ s.curtainAt ≤ s.now + 1)
      ∧ (Instr.releaseTimerExpires ∈ q ↔ ∃ t, s.releaseAt = some t ∧ t ≤ s.now + 1)
      ∧ (Instr.supervisionTimerExpires ∈ q ↔ ∃ t, s.supervisionAt = some t ∧ t ≤ s.now + 1)
      ∧ (∀ k, Instr.commandRefreshExpires k ∈ q ↔ ∃ r, (k, r) ∈ s.loads ∧ r.refreshAt ≤ s.now + 1
        ∧ (r.light = none ∨ r.lastCommand ≠ none ∨ 250 < s.stepAt))
      ∧ (Instr.hostByteTimeout ∈ q ↔ ∃ f, s.receiver = .collecting f ∧ isBrokenOff (s.now + 1) f)
      ∧ (Instr.hostFrameDiscarded [] ∈ q
        ↔ ∃ f, s.receiver = .collecting f ∧ (judgeFrame f = .failed ∨ f.early = true ∧ isWhole f))
      ∧ (∀ f code body, s.receiver = .collecting f → f.early = false → judgeFrame f = .whole code body →
        requestOf code body ∈ q))
    ∧ (s.powered = false →
      q = if s.clock.isSet = true ∧ 1000 ≤ s.clock.phase + 1 then [.clockTick] else [])

/-- Every command, in every state, is answered by a next state, and leaves the queue's rest alone. Without main power a
command does nothing, but for the return of power, its loss, the clock on its backup and the wiring (log 6). A timer's
command before the timer's time does nothing (log 2). -/
def Obligations.EveryCommandIsAnswered : Prop :=
  (∀ (c : Instr) (s : State), ∃ t, exec c s = .next t ∧ t.pending = s.pending)
  ∧ (∀ (c : Instr) (s : State), s.powered = false → (∀ held, c ≠ .coldStart (.powerOn held)) → c ≠ .clockTick →
    c ≠ .mainPowerLoss → (∀ t closed, c ≠ .terminalInputChange t closed) → (∀ t mv, c ≠ .analogConversion t mv) →
    (∀ t, c ≠ .meterPulse t) → exec c s = .next s)
  ∧ (∀ (c : Instr) (s : State) (t : Nat), dueTime s c = some t → s.now < t → exec c s = .next s)

/-- The state after reset is a power-on cold start that found the store empty and the clock's backup lost (log 4): a
cold start like it leaves it as it is, in HOLD, with the factory configuration and an UNSET clock. The laws hold of
it. -/
def Obligations.ResetIsALawfulColdStart : Prop :=
  (exec (.coldStart (.powerOn false)) State.reset = .next State.reset
    ∧ State.reset.mode = .hold ∧ State.reset.config = factoryConfig
    ∧ State.reset.clock = ⟨false, ⟨⟨1, 1, 2000⟩, 5, 0, 0, 0⟩, 0⟩
    ∧ State.reset.plan.active = 0 ∧ State.reset.plan.reason = .clockUnset ∧ State.reset.plan.openZones = 0xFFF
    ∧ State.reset.lastStart = .powerOn false ∧ State.reset.store.changed = true
    ∧ State.reset.notices.map Notice.kind = [.modeChanged, .clockUnset]
    ∧ State.reset.pending = [])
  ∧ (noticesBounded State.reset ∧ countersBounded State.reset ∧ listsBounded State.reset ∧ linesLawful State.reset
    ∧ modeLegal State.reset ∧ recordsMatch State.reset ∧ presenceLawful State.reset ∧ zonesLawful State.reset
    ∧ loadsLawful State.reset)

/-! ## Laws that every step keeps -/

/-- R199, R191, R76, R81, R131: the notice queue, the lost count, the frame counters, the sequence number, the recent
events list and the window history stay in their bounds. -/
def Obligations.EveryStepKeepsTheBounds : Prop :=
  (KeptByStep noticesBounded)
  ∧ (KeptByStep countersBounded)
  ∧ (KeptByStep listsBounded)

/-- R46, R34, R35: both lines keep the range of the error count, the length of the one-off list, one queue entry at most
for a node and point, and eight queue entries at most of HOST origin. -/
def Obligations.EveryStepKeepsLinesLawful : Prop := KeptByStep linesLawful

/-- R102: the presence table keeps its law. -/
def Obligations.EveryStepKeepsPresenceLawful : Prop := KeptByStep presenceLawful

/-- R109, R111: the occupancy states keep their law, with the presence table's (R102) and the match of records and
definitions (R98), which rule out tables that no run reaches: one that holds a slot number twice could lose an entry whose
zone is not judged, or leave an old record behind a zone that is removed. -/
def Obligations.EveryStepKeepsZonesLawful : Prop :=
  KeptByStep fun s => recordsMatch s ∧ presenceLawful s ∧ zonesLawful s

/-- R117, R158, R179: the loads keep their law. -/
def Obligations.EveryStepKeepsLoadsLawful : Prop := KeptByStep loadsLawful

/-- R183: the mode and the return mode stay legal. -/
def Obligations.EveryStepKeepsModeLegal : Prop := KeptByStep modeLegal

/-- R84, R98, R116, R161, R38: what is defined, and nothing else, has a record of state. -/
def Obligations.EveryStepKeepsRecordsMatched : Prop := KeptByStep recordsMatch

/-- What an event of the lines, the terminals and the units behind them leaves alone. -/
def Obligations.FieldEventsKeepTheHostSide : Prop :=
  ∀ (c : Instr) (s : State), isFieldEvent c = true → ∃ t, exec c s = .next t ∧ HostSideKept s t

/-! ## The host link -/

/-- R191, R192: what becomes of a request, with the receiver hunting or a frame in hand: its frame is discarded and
counted where it is too long or early, and nothing else happens; any other is answered with its own code, and the link
is answering from then on. A request's command brings what its frame lacks; bytes in hand that are not its own leave
it without effect (log 17). Which requests are early is the model's reading (log 7), and that an early frame counts as a
frame error when it has failed, has broken off or is too long is its choice (log 57). -/
def Obligations.RequestsAreDiscardedOrAnswered : Prop :=
  (∀ (code : Byte) (body : List Byte),
    requestCode (requestOf code body) = some code.toNat ∧ requestBody (requestOf code body) = body)
  ∧ (∀ (c : Instr) (code : Nat) (s : State), requestCode c = some code → s.powered = true →
    s.receiver = .hunting →
    (1024 < (requestBody c).length → exec c s = .next (frameErrorCounted s))
    ∧ ((requestBody c).length ≤ 1024 → s.answering = true → exec c s = .next (earlyFrameCounted s)))
  ∧ (∀ (c : Instr) (code : Nat) (s : State), requestCode c = some code → canTake s →
    (requestBody c).length ≤ 1024 →
    ∃ t status body, exec c s = .next t ∧ t.reply = some ⟨code, status, body⟩ ∧ t.answering = true
      ∧ t.receiver = .hunting ∧ t.powered = true ∧ t.now = s.now ∧ t.inputs = s.inputs
      ∧ t.frameErrors = s.frameErrors ∧ t.earlyFrames = s.earlyFrames ∧ t.lastStart = s.lastStart)
  ∧ (∀ (c : Instr) (code : Nat) (f : HostFrame) (s : State), requestCode c = some code → s.powered = true →
    s.receiver = .collecting f →
    let isIts := f.bytes <+: frameTail code (requestBody c)
    (judgeFrame f = .failed ∨ isBrokenOff s.now f → exec c s = exec c (frameErrorCounted s))
    ∧ (f.early = true → isWhole f → exec c s = exec c (earlyFrameCounted s))
    ∧ (isGrowing s.now f ∨ (f.early = false ∧ isWhole f) →
      (¬ isIts → exec c s = .next s)
      ∧ (isIts → 1024 < (requestBody c).length → exec c s = .next (frameErrorCounted s))
      ∧ (isIts → (requestBody c).length ≤ 1024 →
        (f.early = true ∨ s.answering = true → exec c s = .next (earlyFrameCounted s))
        ∧ (f.early = false → s.answering = false → exec c s = exec c { s with receiver := .hunting }))))

/-- R192: a request that is refused changes nothing but what the end of every request changes; its body is empty,
but for BAD_CONFIG. -/
def Obligations.RefusedRequestsChangeNothing : Prop :=
  ∀ (c : Instr) (code : Nat) (s t : State) (status : Status) (body : List Byte), requestCode c = some code →
    canTake s → (requestBody c).length ≤ 1024 → exec c s = .next t → t.reply = some ⟨code, status, body⟩ →
    status ≠ .ok → status ≠ .accepted →
    t = finishRequest code .plain ⟨status, body, s⟩ ∧ (status ≠ .badConfig → body = [])

/-- R186, R189, R192, R196, R198: what the end of a request does, whatever its owner has done. -/
def Obligations.RequestEndMovesModeAndSupervision : Prop :=
  ∀ (code : Nat) (cls : RequestClass) (r : Served),
    let u := r.state
    let v : State := { u with
      receiver := .hunting
      answering := true
      reply := some ⟨code, r.status, r.body⟩
      store := { u.store with changed := u.store.changed || (cls == .configuring && r.status == .ok) } }
    let timer := if u.config.supervision = 0 then none else some (u.now + u.config.supervision * 1000)
    (u.mode = .start ∨ u.mode = .hold → finishRequest code cls r = { v with supervisionAt := none })
    ∧ (u.mode = .run → finishRequest code cls r = { v with supervisionAt := timer })
    ∧ (u.mode = .standalone → code ≠ 0x02 →
      finishRequest code cls r
        = raise .modeChanged (.mode .run) (some 3) (some 6) { v with mode := .run, supervisionAt := timer })
    ∧ (u.mode = .standalone → code = 0x02 → finishRequest code cls r = { v with supervisionAt := none })
    ∧ (u.mode = .emergency → u.returnMode = some .standalone →
      finishRequest code cls r = { v with returnMode := some .run, supervisionAt := timer })
    ∧ (u.mode = .emergency → u.returnMode = some .run → finishRequest code cls r = { v with supervisionAt := timer })
    ∧ (u.mode = .emergency → u.returnMode ≠ some .standalone → u.returnMode ≠ some .run →
      finishRequest code cls r = { v with supervisionAt := none })

/-- R191: the CRC, a byte at a time. -/
def Sys2Proof.Claims.crcLaw : Prop :=
  let shift := fun (r : Word16) => if 0x8000 ≤ r.toNat then (r <<< 1) ^^^ 0x1021 else r <<< 1
  crc [] = 0xFFFF
  ∧ ∀ (bytes : List Byte) (b : Byte), crc (bytes ++ [b])
    = shift (shift (shift (shift (shift (shift (shift (shift (crc bytes ^^^ BitVec.ofNat 16 (b.toNat * 256)))))))))

/-- R191, R201: what the receiver makes of the bytes of a frame after its start byte: a framing error, a length above
1024 as soon as it has arrived, and a CRC that does not agree fail it; the frame of a request is whole with its last
byte. -/
def Sys2Proof.Claims.frameLaw : Prop :=
  (∀ early bytes last, judgeFrame ⟨early, bytes, true, last⟩ = .failed)
  ∧ (∀ early bytes last, bytes.length < 2 → judgeFrame ⟨early, bytes, false, last⟩ = .growing)
  ∧ (∀ early hi lo rest last,
    let n := hi.toNat * 256 + lo.toNat
    let judged := judgeFrame ⟨early, hi :: lo :: rest, false, last⟩
    (1024 < n → judged = .failed)
    ∧ (n ≤ 1024 → rest.length < n + 3 → judged = .growing)
    ∧ ∀ code body high low, n ≤ 1024 → body.length = n → rest = code :: body ++ [high, low] →
      let agrees := (crc (hi :: lo :: code :: body)).toNat = high.toNat * 256 + low.toNat
      (agrees → judged = .whole code body) ∧ (¬ agrees → judged = .failed))
  ∧ ∀ (code : Byte) (body : List Byte) early last, body.length ≤ 1024 →
    judgeFrame ⟨early, frameTail code.toNat body, false, last⟩ = .whole code body

/-- START_BYTE, HOST_FRAME_DISCARDED, HOST_BYTE_TIMEOUT, REPLY_SENT (R191, R192): how bytes move the receiver, and
when a frame is discarded, and counted for which cause. HOST_FRAME_DISCARDED brings the bytes that end a frame so, and
those that do not end it are held; a whole frame waits for its request (log 17). An early frame that fails or breaks
off counts as a frame error, and one is discarded as early when it is whole (log 57). -/
def Obligations.LinkEventsMoveTheReceiver : Prop :=
  crcLaw ∧ frameLaw ∧ ∀ s : State, s.powered = true →
    exec .startByte s = .next (receiveByte ⟨0xA5, false⟩ s)
    ∧ (∀ b bytes, exec (.hostFrameDiscarded (b :: bytes)) s = exec (.hostFrameDiscarded bytes) (receiveByte b s))
    ∧ (s.receiver = .hunting →
      receiveByte ⟨0xA5, false⟩ s = { s with receiver := .collecting ⟨s.answering, [], false, s.now⟩ }
      ∧ (∀ b, b ≠ ⟨0xA5, false⟩ → receiveByte b s = s)
      ∧ exec (.hostFrameDiscarded []) s = .next s ∧ exec .hostByteTimeout s = .next s)
    ∧ (∀ f, s.receiver = .collecting f →
      (isGrowing s.now f →
        (∀ b, receiveByte b s = { s with
          receiver := .collecting ⟨f.early, f.bytes ++ [b.byte], b.framingError, s.now⟩ })
        ∧ exec (.hostFrameDiscarded []) s = .next s ∧ exec .hostByteTimeout s = .next s)
      ∧ (isBrokenOff s.now f →
        (∀ b, receiveByte b s = receiveByte b (frameErrorCounted s))
        ∧ exec (.hostFrameDiscarded []) s = .next s ∧ exec .hostByteTimeout s = .next (frameErrorCounted s))
      ∧ (judgeFrame f = .failed →
        (∀ b, receiveByte b s = receiveByte b (frameErrorCounted s))
        ∧ exec (.hostFrameDiscarded []) s = .next (frameErrorCounted s) ∧ exec .hostByteTimeout s = .next s)
      ∧ (isWhole f → f.early = true →
        (∀ b, receiveByte b s = receiveByte b (earlyFrameCounted s))
        ∧ exec (.hostFrameDiscarded []) s = .next (earlyFrameCounted s) ∧ exec .hostByteTimeout s = .next s)
      ∧ (isWhole f → f.early = false →
        (∀ b, receiveByte b s = s)
        ∧ exec (.hostFrameDiscarded []) s = .next s ∧ exec .hostByteTimeout s = .next s))
    ∧ exec .replySent s = .next { s with answering := false }

/-- R192: the four checks, each with its own status: a code outside the catalogue (1); a body without the length that
R193's encoding gives it (2); of a body of the right length, a request of HOLD outside HOLD (3); during a store write,
one that changes configuration, restarts the part or stores again (4). The bytes of a request are laid out as log 8
says; a write that has been accepted counts as in progress (log 37). -/
def Obligations.RequestsAreCheckedInOrder : Prop :=
  (∀ (r : UnknownFrame) (s : State), canTake s → r.body.length ≤ 1024 → catalogue.contains r.code.toNat = false →
    exec (.unknownRequest r) s = taken r.code.toNat .plain .unknownRequest [] s)
  ∧ (∀ (c : Instr) (code : Nat) (s : State), requestCode c = some code → canTake s →
    (requestBody c).length ≤ 1024 → ¬ rightLength c →
    exec c s = taken code .plain .badLength [] s)
  ∧ (∀ (c : Instr) (code : Nat) (s : State), requestCode c = some code → canTake s →
    (requestBody c).length ≤ 1024 → rightLength c →
    isHoldOnly c = true → s.mode ≠ .hold → exec c s = taken code .plain .wrongMode [] s)
  ∧ (∀ (c : Instr) (code : Nat) (s : State), requestCode c = some code → canTake s →
    (requestBody c).length ≤ 1024 → rightLength c →
    (isHoldOnly c = true → s.mode = .hold) → waitsForWrite c = true →
    s.store.state = .writing ∨ s.storePending = true → exec c s = taken code .plain .busy [] s)

/-- Two bindings name one point, and not both as a daylight point (R187). -/
def Sys2Proof.Claims.sharePoint (a b : Binding) : Prop :=
  a.point = b.point ∧ ¬ (a.use = .daylight ∧ b.use = .daylight)

/-- The loads of a zone and a kind that `p` picks (R187). -/
def Sys2Proof.Claims.loadsIn (c : RunningConfig) (z : Nat) (p : LoadKind → Bool) : Nat :=
  (c.loads.filter fun e => e.2.zone == z && p e.2.kind).length

/-- R187: more than 4 lights, 6 heaters or 4 fans name the zone. -/
def Sys2Proof.Claims.tooMany (c : RunningConfig) (z : Nat) : Prop :=
  4 < loadsIn c z (· == .light) ∨ 6 < loadsIn c z (· == .heater)
    ∨ 4 < loadsIn c z (fun k => k == .exhaustFan || k == .supplyFan)

/-- R187: the six checks, in order, each with the item it names. -/
def Sys2Proof.Claims.checksName (c : RunningConfig) : Prop :=
  let all := allBindings c
  let defined := fun (x : Binding) => pointDefined c x.point = true
  let suited := fun (x : Binding) => x.point.bus = .t → suits (functionOf c (x.point.point + 1)) x.use = true
  let pass1 := ∀ x ∈ all, defined x
  let pass2 := pass1 ∧ ∀ x ∈ all, suited x
  let pass3 := pass2 ∧ all.Pairwise fun a b => ¬ sharePoint a b
  let onLine := fun (bus : Bus) => (c.loads.filter fun e => e.2.binding.bus == bus).length
  let pass4 := pass3 ∧ onLine .a ≤ 24 ∧ onLine .b ≤ 24
  let pass5 := pass4 ∧ ∀ z, isZone z → ¬ tooMany c z
  all = c.loads.map (fun e => ⟨.load, e.1, e.2.binding, .load⟩)
      ++ c.doors.map (fun e => ⟨.door, e.1, e.2.binding, .door⟩)
      ++ c.zones.flatMap (fun e => e.2.temperature.toList.map (fun p => ⟨.zone, e.1, p, .temperature⟩)
        ++ e.2.gas.map (fun g => ⟨.zone, e.1, g.point, .gas g.gas⟩)
        ++ e.2.presence.map (fun p => ⟨.zone, e.1, p, .presence⟩))
      ++ c.daylight.flatMap (fun e => e.2.point.toList.map fun p => ⟨.group, e.1, p, .daylight⟩)
    ∧ (∀ f u, suits f u = true ↔ (u = .door ∧ f = .doorContact) ∨ (u = .presence ∧ f = .presenceIn)
      ∨ (u = .load ∧ (f = .relayOut ∨ f = .dimOut)) ∨ (u = .temperature ∧ ∃ o p, f = .analogIn .temperature o p)
      ∨ (u = .gas .co ∧ ∃ o p, f = .analogIn .co o p) ∨ (u = .gas .no2 ∧ ∃ o p, f = .analogIn .no2 o p)
      ∨ (u = .daylight ∧ ∃ o p, f = .analogIn .lux o p))
    ∧ (∀ before x after, all = before ++ x :: after → (∀ y ∈ before, defined y) → ¬ defined x →
      firstBadItem c = some ⟨1, x.kind, x.number, some x.point⟩)
    ∧ (∀ before x after, pass1 → all = before ++ x :: after → (∀ y ∈ before, suited y) → ¬ suited x →
      firstBadItem c = some ⟨2, x.kind, x.number, some x.point⟩)
    ∧ (∀ before x after, pass2 → all = before ++ x :: after → (before.Pairwise fun a b => ¬ sharePoint a b) →
      (∃ y ∈ before, sharePoint y x) → firstBadItem c = some ⟨3, x.kind, x.number, some x.point⟩)
    ∧ (pass3 → 24 < onLine .a → firstBadItem c = some ⟨4, .line, 0, none⟩)
    ∧ (pass3 → onLine .a ≤ 24 → 24 < onLine .b → firstBadItem c = some ⟨4, .line, 1, none⟩)
    ∧ (∀ z, pass4 → isZone z → (∀ y, isZone y → y < z → ¬ tooMany c y) → tooMany c z →
      firstBadItem c = some ⟨5, .zone, z, none⟩)
    ∧ (∀ before e after, pass5 → c.doors = before ++ e :: after →
      (∀ y ∈ before, slotUsed c.zones y.2.zone = true) → slotUsed c.zones e.2.zone = false →
      firstBadItem c = some ⟨6, .door, e.1, none⟩)
    ∧ (pass5 → (∀ e ∈ c.doors, slotUsed c.zones e.2.zone = true) → firstBadItem c = none)

/-- ENTER_HOLD, ENTER_RUN (R186), and the six configuration checks of ENTER RUN with the item that each names (R187).
The bytes of a reply are laid out as log 9 says. -/
def Obligations.ModeRequestsFollowTheirTable : Prop :=
  (∀ c : RunningConfig, checksName c)
  ∧ ∀ s : State, canTake s →
    (s.mode = .run ∨ s.mode = .standalone →
      exec (.enterHold []) s = taken 0x02 .plain .ok []
        (raise .modeChanged (.mode .hold) (some s.mode.ctorIdx) (some 3) { s with mode := .hold }))
    ∧ (s.mode = .hold → exec (.enterHold []) s = taken 0x02 .plain .ok [] s)
    ∧ (s.mode = .emergency → exec (.enterHold []) s = taken 0x02 .plain .wrongMode [] s)
    ∧ (s.mode = .hold → firstBadItem s.config = none →
      exec (.enterRun []) s = taken 0x03 .plain .ok []
        (raise .modeChanged (.mode .run) (some 1) (some 4) { s with mode := .run }))
    ∧ (∀ b, s.mode = .hold → firstBadItem s.config = some b →
      exec (.enterRun []) s = taken 0x03 .plain .badConfig
        ([byteOf b.check, byteOf b.kind.ctorIdx, byteOf b.number] ++ optPoint b.point) s)
    ∧ (s.mode = .run ∨ s.mode = .standalone → exec (.enterRun []) s = taken 0x03 .plain .ok [] s)
    ∧ (s.mode = .emergency → exec (.enterRun []) s = taken 0x03 .plain .wrongMode [] s)

/-- COLLECT_NOTICES (R200): the oldest notices leave the queue, and the lost count is cleared. R199: a notice joins
the queue at the end while there is room; when there is none, a priority notice displaces the oldest that is not
one, and every other notice is dropped. R200: the attention line is asserted exactly while the queue holds the
watermark number of notices or any priority notice. The bytes of a reply are laid out as log 9 says. -/
def Obligations.NoticesAreQueuedAndCollected : Prop :=
  (∀ (n : Nat) (s : State), canTake s → 1 ≤ n → n ≤ 8 →
    exec (.collectNotices [byteOf n]) s = taken 0x4A .plain .ok
      (byteOf (min n s.notices.length) :: byteOf s.lost :: byteOf (s.notices.length - n)
        :: (s.notices.take n).flatMap noticeBytes)
      { s with notices := s.notices.drop n, lost := 0 })
  ∧ (∀ (kind : NoticeKind) (subject : Subject) (a b : Option Int) (s : State),
    let n : Notice := ⟨kind, s.now, subject, a, b⟩
    let lost := min (s.lost + 1) 255
    (s.notices.length < 40 → raise kind subject a b s = { s with notices := s.notices ++ [n] })
    ∧ (40 ≤ s.notices.length → isPriority kind = false → raise kind subject a b s = { s with lost := lost })
    ∧ (40 ≤ s.notices.length → isPriority kind = true → (∀ m ∈ s.notices, isPriority m.kind = true) →
      raise kind subject a b s = { s with lost := lost })
    ∧ (∀ before m after, 40 ≤ s.notices.length → isPriority kind = true → s.notices = before ++ m :: after →
      (∀ x ∈ before, isPriority x.kind = true) → isPriority m.kind = false →
      raise kind subject a b s = { s with notices := before ++ after ++ [n], lost := lost }))
  ∧ (∀ s : State, attentionLine s = true ↔ s.config.watermark ≤ s.notices.length
    ∨ ∃ n ∈ s.notices, n.kind = .emergencyBegin ∨ n.kind = .supplyOverrun ∨ n.kind = .gasPurgeBegin
      ∨ n.kind = .lineDown)

/-! ## Starts and the store -/

/-- R161: the climate record of a zone that is defined at `now`, and at a start (R182). Its setpoint, source, gas index
and time of entry follow log 5. -/
def Sys2Proof.Claims.newClimate (now : Nat) (d : ZoneDef) : ClimateRec where
  tset := none
  source := .hold
  demand := none
  held := none
  staleSince := some now
  override := none
  gasIndex := 0
  gasFresh := 0
  stage := if d.gas = [] then 0 else 2
  stageAt := now
  dwell := none
  purgeClear := none
  gasStale := decide (d.gas ≠ [])

/-- R119: the record of a load that is defined at `now`, and at a start (R143): CONTROLLED, or UNCONTROLLED from then on
with its node hold. -/
def Sys2Proof.Claims.newLoad (now nodeHold : Nat) (controlled : Bool) (d : LoadDef) : LoadRec where
  posted := 0
  reason := .none
  exempt := false
  effClass := d.cls
  grant := 0
  grantFraction := 0
  previousGrant := 0
  applied := 0
  controlled := controlled
  unreachableSince := if controlled = true then none else some now
  assumed := if controlled = true then none else some (if nodeHold = 0 then d.fallback else 0)
  holdRunning := decide (controlled = false ∧ nodeHold ≠ 0)
  lastCommand := none
  refreshAt := now
  goal := 0
  light := if d.kind = .light then some ⟨.scene, 0, 0⟩ else none

/-- R51: a field line at a start, before its first grant. R51 does not name the time of entry (log 43). -/
def Sys2Proof.Claims.startedLine (c : LineCfg) (line : Line) : Prop :=
  line = { state := .ok, errors := 0, noiseCounted := false, scan := line.scan, fetch := [], oneOffs := [], queue := []
           inFlight := none
           nodes := slotMap (fun _ _ => ⟨.unprobed, 0, 0, 0, none, none, some 0, none, some 0⟩) c.nodes }
    ∧ (∀ e ∈ c.scan, slotGet line.scan (scanKey e.node e.first) = some ⟨none, 0⟩)
    ∧ ∀ x ∈ line.scan, x.2 = ⟨none, 0⟩ ∧ ∃ e ∈ c.scan, x.1 = scanKey e.node e.first

/-- R83: the point table at a start: a record for each point of each node, and for the sixteen terminals. -/
def Sys2Proof.Claims.startedPoints (c : RunningConfig) (points : Table PointRec) : Prop :=
  let new : PointRec := ⟨none, .neverRead, none, none, .none, 0, false⟩
  let ofLine := fun (nodes : Table NodeDef) (p : PointRef) => ∃ n ∈ nodes, p.addr = n.1 ∧ p.point < n.2.count
  let stands := fun (p : PointRef) => match p.bus with
    | .a => ofLine c.lineA.nodes p
    | .b => ofLine c.lineB.nodes p
    | .t => p.addr = 0 ∧ p.point < 16
  (∀ p, stands p → slotGet points (pointKey p) = some new)
    ∧ ∀ x ∈ points, x.2 = new ∧ ∃ p, stands p ∧ x.1 = pointKey p

/-- R54, R66: a terminal as its function starts. The first repeat and the first conversion follow log 15. -/
def Sys2Proof.Claims.startedTerminal (f : TermFunction) : TermRec :=
  let off : TermRec := ⟨none, none, none, none, none, none, 0, none, false, none, false, 0⟩
  match f with
  | .analogIn _ _ _ => { off with convertAt := some 100 }
  | .meterPulse _ => { off with repeatAt := some 100 }
  | f => if isContactInput f = true then { off with debounceAt := some 50, repeatAt := some 100 } else off

/-- R115: the zones at a start, judged by the open zones that the start evaluation publishes. -/
def Sys2Proof.Claims.startedZones (c : RunningConfig) (openZones : ZoneSet) (zones : Table ZoneRec) : Prop :=
  slotNumbers zones = slotNumbers c.zones
    ∧ ∀ z d, slotGet c.zones z = some d → slotGet zones z = some (
      if inZones openZones z = false then ⟨.closed, false, none, none⟩
      else if z ∈ c.pins then ⟨.occupied, false, none, none⟩
      else ⟨.vacant, false, some 0, some (d.dormancy * 1000)⟩)

/-- R184, R185: the notices of a start, in their order. CLOCK_UNSET is raised at power-on alone: a start by the restart
input with an UNSET clock raises none (log 26). -/
def Sys2Proof.Claims.startNotices (mode : Mode) (cause : ModeCause) (unset : Bool) (p : PlanState) : List Notice :=
  let begun : Option Nat := if p.precondition = true then p.next.map NextRecord.index else none
  [⟨.modeChanged, 0, .mode mode, some 0, some cause.ctorIdx⟩]
    ++ (if unset = true then [⟨.clockUnset, 0, .none, none, none⟩] else [])
    ++ begun.toList.map fun n => ⟨.preconditionBegin, 0, .record n, none, none⟩

/-- R184, R185: START ends in `mode` with this configuration, clock, store and last start, every block in the state that
its chapter gives (R2, R20, R51, R66, R83, R97, R115, R130, R143, R160, R182, R198, R199); then each METER_PULSE
terminal delivers its 0 (R59), by rising terminal (log 21), and the lines grant (R29) as the start's last part, which is
the model's reading (log 39). A node's time of entry follows log 43, a door's log 58, the `unset` that raises CLOCK_UNSET log 26, the fields of a climate record that its rule does
not name log 5, the refresh of a load log 51. -/
def Sys2Proof.Claims.startedAs (mode : Mode) (cause : ModeCause) (unset : Bool) (c : RunningConfig) (clock : Clock)
    (store : Store) (last : LastStart) (s t : State) : Prop :=
  let p := planAfter .start { s with config := c, clock := clock }
  let isMeter := fun n => match functionOf c n with
    | .meterPulse _ => true
    | _ => false
  let now := secondNumber clock.reading
  ∃ v, t = grantLines (forEach (terminalNumbers.filter isMeter) (fun n => deliverTerminal n 0) v)
    ∧ v = { s with
      powered := true, now := 0, config := c, clock := clock, plan := p, lineA := v.lineA, lineB := v.lineB
      terminals := terminalNumbers.map fun n => (n, startedTerminal (functionOf c n))
      points := v.points, windows := [], recent := [], nextSeq := 0
      doors := slotMap (fun _ _ => ⟨.unknown, none, none, false, none, 0, none, 0⟩) c.doors
      zones := v.zones
      presence := (((slotNumbers c.zones).filter c.pins.contains).zipIdx 1).map fun e => (e.2, ⟨e.1, .host, .pinned⟩)
      fullReported := false, evictedDoors := []
      loads := slotMap (fun _ d => newLoad 0 c.budget.nodeHold
        (decide (d.binding.bus = .t) || (nodeDef c d.binding.bus d.binding.addr).isSome) d) c.loads
      hostOrder := none, termOrder := none
      window := if clock.isSet = true then some ⟨now, nextBoundary c.budget.windowLength now, 0, true, false⟩ else none
      history := [], strain := false, overrun := false, record := emptySettlement
      settleAt := c.settlementPeriod * 1000, lightOverrides := [], stepAt := 250
      climate := slotMap (fun _ d => newClimate 0 d) c.zones
      heatAt := 10000, ventAt := 5000, curtainAt := 1000, mode := mode, returnMode := none, signal := false
      releaseAt := none, emergencyAt := none, lastStart := last, restartRequested := false, receiver := .hunting
      answering := false, reply := none, frameErrors := 0, earlyFrames := 0, restartPending := false
      storePending := false, supervisionAt := none, notices := startNotices mode cause unset p, lost := 0
      store := store }
    ∧ startedLine c.lineA v.lineA ∧ startedLine c.lineB v.lineB ∧ startedPoints c v.points
    ∧ startedZones c p.openZones v.zones

/-- COLD_START (R2, R184): from power-on, or for the restart input when no store write stands in its way, the
stored copy or the factory values. RESTART and WARM_RESTART (R185): the restart waits until its reply has been
sent; it keeps the running configuration, the clock and the store, and ends in STANDALONE. A power-on of a powered
part is a power cycle, and a start of the restart input that nothing calls for changes nothing (log 24); a write that
has been accepted holds up a start as one in progress does (logs 37 and 56). The first repeats and conversions of the
terminals follow log 15, a start by the restart input raises no CLOCK_UNSET (log 26), both arbiters grant as the last
part of a start (log 39), and `startedAs` names the logs of the rest of a start state. -/
def Obligations.StartsLoadTheirConfiguration : Prop :=
  (∀ (cause : StartCause) (s : State),
    (cause = .restartInput → s.powered = true ∧ s.restartRequested = true ∧ s.store.state ≠ .writing
      ∧ s.storePending = false) →
    let clock : Clock := match cause with
      | .powerOn held => if held = true ∧ s.clock.isSet = true then s.clock
        else ⟨false, ⟨⟨1, 1, 2000⟩, 5, 0, 0, 0⟩, 0⟩
      | .restartInput => s.clock
    let unset := decide (cause ≠ .restartInput ∧ clock.isSet = false)
    let last := fun (stored : Bool) => match cause with
      | .powerOn _ => LastStart.powerOn stored
      | .restartInput => LastStart.restartInput stored
    ∃ t, exec (.coldStart cause) s = .next t
      ∧ (s.store.state = .valid → startedAs .standalone .coldStored unset s.store.copy clock
        { s.store with writingSince := none, changed := false } (last true) s t)
      ∧ (s.store.state ≠ .valid → startedAs .hold .coldDefaults unset factoryConfig clock
        { s.store with
          state := if s.store.state = .writing then .invalid else s.store.state
          writingSince := none
          changed := true } (last false) s t))
  ∧ ∀ s : State,
    (s.powered = false ∨ s.restartRequested = false ∨ s.store.state = .writing ∨ s.storePending = true →
      exec (.coldStart .restartInput) s = .next s)
    ∧ (canConfigure s → exec (.restart []) s = taken 0x04 .restartOrStore .ok [] { s with restartPending := true })
    ∧ (s.powered = true →
      (s.restartPending = false ∨ s.answering = true ∨ s.store.state = .writing ∨ s.storePending = true →
        exec .warmRestart s = .next s)
      ∧ (s.restartPending = true → s.answering = false → s.store.state ≠ .writing → s.storePending = false →
        ∃ t, exec .warmRestart s = .next t
          ∧ startedAs .standalone .warm false s.config s.clock s.store .hostRestart s t))

/-- STORE_SETTINGS, STORE_WRITE_BEGIN, STORE_WRITE_END, MAIN_POWER_LOSS (R197, R184): a write takes the running
configuration as it begins, ends 0.5 s after that or later, and leaves the store VALID or INVALID; a power loss cuts
it and leaves it INVALID. When a write begins and ends comes with the commands (log 23). -/
def Obligations.StoreWritesRunToTheirEnd : Prop :=
  (∀ s : State,
    (canConfigure s → exec (.storeSettings []) s
      = taken 0x05 .restartOrStore .accepted [] { s with storePending := true })
    ∧ (s.powered = true → s.storePending = true → s.answering = false →
      exec .storeWriteBegin s = .next { s with
        storePending := false
        store := ⟨.writing, s.config, some s.now, s.store.changed⟩ })
    ∧ (∀ begun, s.powered = true → s.store.state = .writing → s.store.writingSince = some begun →
      begun + 500 ≤ s.now →
      exec (.storeWriteEnd true) s
        = .next (raise .storeDone .none (some (min (s.now - begun) 65535 : Nat)) none
          { s with store := ⟨.valid, s.store.copy, none, false⟩ })
      ∧ exec (.storeWriteEnd false) s
        = .next (raise .storeFailed .none none none
          { s with store := ⟨.invalid, s.store.copy, none, s.store.changed⟩ })))
  ∧ (∀ s : State, exec .mainPowerLoss s = .next { s with
    powered := false
    store := { s.store with
      state := if s.store.state = .writing then .invalid else s.store.state
      writingSince := none } })

/-! ## The clock and the plan -/

/-- SET_CLOCK (R3, R130): the clock is SET to the reading with the weekday of its date, the plan is evaluated, and
a PARTIAL demand window opens at the reading; the open window of a clock that was SET closes PARTIAL into the history of
the last eight. The second begins at the setting, and the evaluation comes first, so that the window closes under the
limit of the record then active (logs 3 and 14). -/
def Obligations.SetClockSetsTheReading : Prop :=
  ∀ (d : Date) (h m sec : Nat) (s : State), canTake s → dateValid d = true → h ≤ 23 → m ≤ 59 → sec ≤ 59 →
    ∃ u, exec (.setClock (dateBytes d ++ [byteOf h, byteOf m, byteOf sec])) s = taken 0x10 .plain .ok [] u
      ∧ u.clock = ⟨true, ⟨d, (dayNumber d + 5) % 7, h, m, sec⟩, 0⟩
      ∧ u.plan = planAfter .edit { s with clock := u.clock }
      ∧ u.window = some ⟨secondNumber u.clock.reading,
        nextBoundary s.config.budget.windowLength (secondNumber u.clock.reading), 0, true, false⟩
      ∧ (s.clock.isSet = false ∨ s.window = none → u.history = s.history)
      ∧ (∀ w, s.clock.isSet = true → s.window = some w →
        let closed : ClosedWindow :=
          ⟨w.start, secondNumber s.clock.reading - w.start, w.used, (activeRecord u).windowLimit, true⟩
        u.history = (s.history ++ [closed]).drop (s.history.length + 1 - 8))
      ∧ u = { s with
        clock := u.clock, plan := u.plan, window := u.window, history := u.history, zones := u.zones
        lightOverrides := u.lightOverrides, climate := u.climate, notices := u.notices, lost := u.lost }

/-- R1: the length of a month in 2000..2099. -/
def Sys2Proof.Claims.daysOf (year month : Nat) : Nat :=
  if month = 2 then (if year % 4 = 0 then 29 else 28)
  else if month = 4 ∨ month = 6 ∨ month = 9 ∨ month = 11 then 30 else 31

/-- R1: the reading that follows a reading, second by second, and none after the last second of 2099. -/
def Sys2Proof.Claims.calendarLaw (r : Reading) : Prop :=
  let midnight := fun (d : Date) => some (⟨d, (r.weekday + 1) % 7, 0, 0, 0⟩ : Reading)
  (r.second < 59 → nextReading r = some { r with second := r.second + 1 })
  ∧ (r.second = 59 → r.minute < 59 → nextReading r = some { r with minute := r.minute + 1, second := 0 })
  ∧ (r.second = 59 → r.minute = 59 → r.hour < 23 →
    nextReading r = some { r with hour := r.hour + 1, minute := 0, second := 0 })
  ∧ (r.second = 59 → r.minute = 59 → r.hour = 23 → dateValid r.date = true →
    (r.date.day < daysOf r.date.year r.date.month →
      nextReading r = midnight ⟨r.date.day + 1, r.date.month, r.date.year⟩)
    ∧ (r.date.day = daysOf r.date.year r.date.month → r.date.month < 12 →
      nextReading r = midnight ⟨1, r.date.month + 1, r.date.year⟩)
    ∧ (r.date.day = 31 → r.date.month = 12 → r.date.year < 2099 → nextReading r = midnight ⟨1, 1, r.date.year + 1⟩)
    ∧ (r.date = ⟨31, 12, 2099⟩ → nextReading r = none))

/-- CLOCK_TICK (R1, R2, R128, R130): a SET clock advances by a second of the calendar; at a minute boundary the plan
is evaluated; when the clock reaches the end of the open demand window, the window closes into the history with the
limit of the record then active, and a new one opens. At the end of 2099 the clock becomes UNSET, and the open window
closes PARTIAL; CLOCK_UNSET is raised, and SHIFT_CHANGED after it where another record than S0 was active. Without main
power the clock alone advances. An UNSET clock stands. The clock's phase, its running
without main power, and the evaluation before the window are the model's choices (logs 3, 6, 14). -/
def Obligations.ClockTicksAdvanceASecond : Prop :=
  let closed := fun (w : DemandWindow) (second limit : Nat) (isPartial : Bool) (history : List ClosedWindow) =>
    (history ++ [(⟨w.start, second - w.start, w.used, limit, isPartial⟩ : ClosedWindow)]).drop (history.length + 1 - 8)
  (∀ s : State,
    (s.clock.isSet = false → exec .clockTick s = .next s)
    ∧ (∀ r, s.clock.isSet = true → s.powered = false → nextReading s.clock.reading = some r →
      exec .clockTick s = .next { s with clock := ⟨true, r, 0⟩ })
    ∧ (s.clock.isSet = true → s.powered = false → nextReading s.clock.reading = none →
      exec .clockTick s = .next { s with clock := ⟨false, ⟨⟨1, 1, 2000⟩, 5, 0, 0, 0⟩, 0⟩ })
    ∧ (∀ r, s.clock.isSet = true → s.powered = true → nextReading s.clock.reading = some r → r.second ≠ 0 →
      (∀ w, s.window = some w → secondNumber r < w.ends) →
      exec .clockTick s = .next { s with clock := ⟨true, r, 0⟩ })
    ∧ (∀ r, s.clock.isSet = true → s.powered = true → nextReading s.clock.reading = some r → r.second = 0 →
      ∃ t, exec .clockTick s = .next t ∧ t.clock = ⟨true, r, 0⟩
        ∧ t.plan = planAfter .boundary { s with clock := t.clock }
        ∧ (∀ w, s.window = some w → w.ends ≤ secondNumber r →
          t.window = some ⟨secondNumber r, nextBoundary s.config.budget.windowLength (secondNumber r), 0, false, false⟩
          ∧ t.history = closed w (secondNumber r) (activeRecord t).windowLimit w.isPartial s.history)
        ∧ ((∀ w, s.window = some w → secondNumber r < w.ends) → t.window = s.window ∧ t.history = s.history)
        ∧ t = { s with
          clock := t.clock, plan := t.plan, window := t.window, history := t.history, zones := t.zones
          lightOverrides := t.lightOverrides, climate := t.climate, notices := t.notices, lost := t.lost })
    ∧ (s.clock.isSet = true → s.powered = true → nextReading s.clock.reading = none →
      ∃ t, exec .clockTick s = .next t ∧ t.clock = ⟨false, ⟨⟨1, 1, 2000⟩, 5, 0, 0, 0⟩, 0⟩
        ∧ t.plan = planAfter .boundary { s with clock := t.clock } ∧ t.window = none
        ∧ (∀ w, s.window = some w →
          t.history = closed w (secondNumber s.clock.reading + 1) (activeRecord t).windowLimit true s.history)
        ∧ (s.window = none → t.history = s.history)
        ∧ (let unset := raise .clockUnset .none none none s
          let noted := if s.plan.active = 0 then unset
            else raise .shiftChanged (.record 0) (some s.plan.active) (some ActiveReason.clockUnset.ctorIdx) unset
          t.notices = noted.notices ∧ t.lost = noted.lost)
        ∧ t = { s with
          clock := t.clock, plan := t.plan, window := t.window, history := t.history, zones := t.zones
          lightOverrides := t.lightOverrides, climate := t.climate, notices := t.notices, lost := t.lost }))
  ∧ (∀ (s : State) (r : Reading) (w : DemandWindow), s.clock.isSet = true → s.powered = true →
    nextReading s.clock.reading = some r → r.second ≠ 0 → s.window = some w → w.ends ≤ secondNumber r →
    ∃ t, exec .clockTick s = .next t
      ∧ t.window = some ⟨secondNumber r, nextBoundary s.config.budget.windowLength (secondNumber r), 0, false, false⟩
      ∧ t.history = closed w (secondNumber r) (activeRecord s).windowLimit w.isPartial s.history
      ∧ t = { s with clock := ⟨true, r, 0⟩, window := t.window, history := t.history })
  ∧ ∀ r : Reading, calendarLaw r

/-- R13: a moment `m` minutes after the reading is a candidate that makes record `n` the next one: a start instance on
a date without an exception, or 00:00 of a date with one. -/
def Sys2Proof.Claims.isCandidate (c : RunningConfig) (r : Reading) (m n : Nat) : Prop :=
  let date := dateOfPlanMinute (planMinute r + m)
  1 ≤ m ∧ m ≤ 10080 ∧
    ((exceptionOn c date = none ∧ ∃ i ∈ startInstances c, i.record = n
        ∧ (weeklyPosition r + m) % 10080 = i.position)
      ∨ ((minuteOfDay r + m) % 1440 = 0 ∧ ∃ x, exceptionOn c date = some x
        ∧ n = match x with
          | .closedDay => 0
          | .record k => k))

/-- R11, R12, R13, R14, R15, R17: which record an evaluation makes active, and why; its activation point and the
changeover flag; the next record, its start and the precondition flag; the previous record. Beside publishing the plan
state it ends the overrides held until shift change when the active record changes, judges every zone, and raises
PRECONDITION_BEGIN and SHIFT_CHANGED, in this order (log 21). The moments of January 2100 are candidates (log 48). -/
def Obligations.EvaluationsPublishThePlan : Prop :=
  (∀ (cause : EvaluationCause) (s : State),
    let p := planAfter cause s
    (s.clock.isSet = false → p.active = 0 ∧ p.reason = .clockUnset ∧ p.activation = none ∧ p.next = none
      ∧ p.precondition = false ∧ p.changeover = false)
    ∧ (s.clock.isSet = true → exceptionOn s.config s.clock.reading.date = some .closedDay →
      p.active = 0 ∧ p.reason = .closedDay ∧ p.activation = none ∧ p.changeover = false)
    ∧ (∀ n, s.clock.isSet = true → exceptionOn s.config s.clock.reading.date = some (.record n) →
      p.active = n ∧ p.reason = .exception ∧ p.activation = some ⟨s.clock.reading.date, 0⟩
      ∧ (p.changeover = true ↔ n ≠ 0 ∧ ∃ q, shiftRecord s.config n = some q
        ∧ minuteOfDay s.clock.reading < q.changeover))
    ∧ (s.clock.isSet = true → exceptionOn s.config s.clock.reading.date = none → startInstances s.config = [] →
      p.active = 0 ∧ p.reason = .noRecords ∧ p.activation = none ∧ p.changeover = false)
    ∧ (s.clock.isSet = true → exceptionOn s.config s.clock.reading.date = none → startInstances s.config ≠ [] →
      p.reason = .timetable ∧ ∃ i ∈ startInstances s.config, p.active = i.record
        ∧ (∀ j ∈ startInstances s.config, minutesSince (weeklyPosition s.clock.reading) i
          ≤ minutesSince (weeklyPosition s.clock.reading) j)
        ∧ p.activation = some (momentOf
          (planMinute s.clock.reading - minutesSince (weeklyPosition s.clock.reading) i))
        ∧ (p.changeover = true ↔ i.record ≠ 0 ∧ ∃ q, shiftRecord s.config i.record = some q
          ∧ minutesSince (weeklyPosition s.clock.reading) i < q.changeover))
    ∧ (s.clock.isSet = true → s.clock.reading.weekday ≤ 6 → s.clock.reading.hour ≤ 23 → s.clock.reading.minute ≤ 59 →
      (∀ e ∈ s.config.shifts, e.2.startMinute ≤ 1439) →
      (p.next = none ↔ ∀ m n, ¬ isCandidate s.config s.clock.reading m n)
      ∧ (p.next = none → p.precondition = false)
      ∧ ∀ x, p.next = some x → ∃ m, isCandidate s.config s.clock.reading m x.index
        ∧ x.start = momentOf (planMinute s.clock.reading + m)
        ∧ (∀ m' n, isCandidate s.config s.clock.reading m' n → m ≤ m')
        ∧ (p.precondition = true ↔ x.index ≠ 0 ∧ ∃ q, shiftRecord s.config x.index = some q ∧ m ≤ q.lead))
    ∧ (cause = .start → p.previous = none)
    ∧ (cause = .boundary → s.plan.active ≠ p.active → p.previous = some s.plan.active)
    ∧ (cause = .edit → s.plan.active ≠ p.active → p.previous = none)
    ∧ (cause ≠ .start → s.plan.active = p.active → p.previous = s.plan.previous))
  ∧ (∀ (cause : EvaluationCause) (s : State),
    let p := planAfter cause s
    let begun := if p.precondition = true ∧ (cause = .start ∨ s.plan.precondition = false) then
        raise .preconditionBegin (.record ((p.next.map NextRecord.index).getD 0)) none none s
      else s
    let changed := if cause ≠ .start ∧ s.plan.active ≠ p.active then
        raise .shiftChanged (.record p.active) (some s.plan.active) (some p.reason.ctorIdx) begun
      else begun
    (evaluate cause s).notices = changed.notices ∧ (evaluate cause s).lost = changed.lost)
  ∧ (∀ (cause : EvaluationCause) (s : State),
    evaluate cause s = { s with
      plan := planAfter cause s
      zones := (evaluate cause s).zones
      lightOverrides := (evaluate cause s).lightOverrides
      climate := (evaluate cause s).climate
      notices := (evaluate cause s).notices
      lost := (evaluate cause s).lost }
    ∧ (cause ≠ .start → s.plan.active ≠ (planAfter cause s).active →
      (evaluate cause s).lightOverrides = s.lightOverrides.filter (fun e => e.2.expiry.isSome)
      ∧ (∀ z r, slotGet (evaluate cause s).climate z = some r → ∀ o, r.override = some o → o.expiry.isSome = true))
    ∧ (cause = .start ∨ s.plan.active = (planAfter cause s).active →
      (evaluate cause s).lightOverrides = s.lightOverrides ∧ (evaluate cause s).climate = s.climate))

/-- R16: the effective open-zone set of an evaluation. -/
def Obligations.EffectiveZonesFollowTheChangeover : Prop :=
  ∀ (cause : EvaluationCause) (s : State),
    let p := planAfter cause s
    (evaluate cause s).plan = p
    ∧ (p.changeover = false → p.openZones = openZonesOf s.config p.active)
    ∧ (p.previous = none → p.openZones = openZonesOf s.config p.active)
    ∧ (∀ n, p.changeover = true → p.previous = some n →
      p.openZones = openZonesOf s.config p.active ||| openZonesOf s.config n)

/-- The ranges of a shift record's fields (R5). S0 has no weekday set, start, lead or changeover. -/
def Sys2Proof.Claims.recordFits (timed : Bool) (r : ShiftRecord) : Prop :=
  r.label ≤ 255 ∧ r.cap ≤ 65535 ∧ r.base ≤ 65535 ∧ r.windowLimit ≤ 65535
    ∧ (∀ k, (forKind r.levels k).occupied ≤ 1000 ∧ (forKind r.levels k).vacant ≤ 1000
      ∧ (forKind r.levels k).dormant ≤ 1000 ∧ (forKind r.levels k).closed ≤ 1000)
    ∧ (∀ k, -400 ≤ forKind r.setpoint k ∧ forKind r.setpoint k ≤ 600 ∧ -400 ≤ forKind r.setback k
      ∧ forKind r.setback k ≤ 600 ∧ forKind r.drop k ≤ 300)
    ∧ (timed = true → r.weekdays ≠ 0 ∧ r.startMinute ≤ 1439 ∧ r.lead ≤ 180 ∧ r.changeover ≤ 60)

/-- The record as its slot holds it: S0 has no weekday set, start minute, lead or changeover (R5, R7). -/
def Sys2Proof.Claims.asHeld (i : Nat) (r : ShiftRecord) : ShiftRecord :=
  if i = 0 then { r with weekdays := 0, startMinute := 0, lead := 0, changeover := 0 } else r

/-- WRITE_SHIFT (R7, R8, R193): the full set of a record's fields, in the bytes that READ SHIFT gives for a timed
record, puts exactly that record into its slot (S0 without the four fields it ignores), and the plan is evaluated
before the reply. The bytes of a request are laid out as log 8 says. -/
def Obligations.WriteShiftTakesTheRecordOfItsBytes : Prop :=
  ∀ (i : Nat) (r : ShiftRecord) (s : State), canConfigure s → i ≤ 16 → recordFits (i != 0) r →
    (i ≠ 0 → startsCollide s.config i r = false) →
    ∃ u, exec (.writeShift (byteOf i :: shiftBytes true r)) s = taken 0x12 .configuring .ok [] u
      ∧ shiftRecord u.config i = some (asHeld i r)
      ∧ u.config = (if i = 0 then { s.config with shift0 := asHeld i r }
        else { s.config with shifts := slotSet s.config.shifts i r })
      ∧ u = evaluate .edit { s with config := u.config }

/-- DELETE_SHIFT, WRITE_EXCEPTION, DELETE_EXCEPTION (R8, R9, R10): the slot is freed or written, and the plan is
evaluated before the reply. The bytes of a request are laid out as log 8 says. -/
def Obligations.PlanEditsAreEvaluatedBeforeTheReply : Prop :=
  ∀ s : State, canConfigure s →
    (∀ i, 1 ≤ i → i ≤ 16 → slotUsed s.config.shifts i = true →
      (∀ e ∈ s.config.exceptions, e.2.replacement ≠ .record i) →
      exec (.deleteShift [byteOf i]) s = taken 0x14 .configuring .ok []
        (evaluate .edit { s with
          config := { s.config with shifts := slotFree s.config.shifts i }
          plan := { s.plan with previous := if s.plan.previous = some i then none else s.plan.previous } }))
    ∧ (∀ day month, exceptionDateValid day month = true →
      (∀ e ∈ s.config.exceptions, ¬ (e.2.day = day ∧ e.2.month = month)) → s.config.exceptions.length < 24 →
      exec (.writeException [byteOf day, byteOf month, 0xFF]) s
        = taken 0x15 .configuring .ok [byteOf (lowestFree s.config.exceptions)]
          (evaluate .edit { s with config := { s.config with
            exceptions := slotSet s.config.exceptions (lowestFree s.config.exceptions)
              ⟨day, month, .closedDay⟩ } }))
    ∧ (∀ day month n slot, exceptionDateValid day month = true → 1 ≤ n → n ≤ 16 →
      slotUsed s.config.shifts n = true → exceptionSlot s.config day month = some slot →
      exec (.writeException [byteOf day, byteOf month, byteOf n]) s
        = taken 0x15 .configuring .ok [byteOf slot]
          (evaluate .edit { s with config := { s.config with
            exceptions := slotSet s.config.exceptions slot ⟨day, month, .record n⟩ } }))
    ∧ (∀ day month slot, exceptionDateValid day month = true → exceptionSlot s.config day month = some slot →
      exec (.deleteException [byteOf day, byteOf month]) s = taken 0x16 .configuring .ok []
        (evaluate .edit { s with config := { s.config with exceptions := slotFree s.config.exceptions slot } }))

/-! ## Definitions -/

/-- R161: a zone at stage 4 ends its purge as its record goes (log 41). -/
def Sys2Proof.Claims.purgeEnded (z : Nat) (s : State) : State :=
  match slotGet s.climate z with
  | none => s
  | some c =>
    if c.stage = 4 then raise .gasPurgeEnd (.zone z) (some (min c.gasIndex 65535 : Nat))
      (some (min ((s.now - c.stageAt) / 1000) 65535 : Nat)) s
    else s

/-- R99: a SENSOR entry of the zone whose point the definition does not list. -/
def Sys2Proof.Claims.lostSensor (z : Nat) (d : ZoneDef) (e : PresenceEntry) : Bool :=
  match e.source with
  | .sensor p => e.zone == z && !d.presence.contains p
  | _ => false

/-- R99, R109, R111: the record `r'` that a redefinition makes of a zone's record `r`; `after` is the presence table
that it leaves. -/
def Sys2Proof.Claims.redefinedZone (s : State) (z dormancy : Nat) (after : Table PresenceEntry)
    (r r' : ZoneRec) : Prop :=
  let isOpen := inZones s.plan.openZones z = true
  let held := fun (entries : Table PresenceEntry) => ∃ e ∈ entries, e.2.zone = z
  (¬ isOpen → r' = ⟨.closed, false, none, none⟩)
  ∧ (isOpen → held after → r' = ⟨.occupied, false, none, none⟩)
  ∧ (isOpen → ¬ held after → r.state = .closed ∨ r.state = .occupied →
    r' = ⟨.vacant, false, some s.now, some (s.now + dormancy * 1000)⟩)
  ∧ (isOpen → ¬ held s.presence → r.state = .vacant ∨ r.state = .dormant → r' = { r with intruded := false })

/-- DEFINE_ZONE (R99, R100, R98, R109, R111, R161). The bytes of a request are laid out as log 8 says. A removed zone's
light override and a neighbour's naming follow logs 20 and 34; a purge that ends gives whole seconds (log 41), and the
fields that a new climate record's rule does not name follow log 5. That a REMOVE of a zone that is not defined finds
NOT_FOUND, also where a door names it, is log 50. -/
def Obligations.ZoneDefinitionsTakeAndFreeTheirSlot : Prop :=
  ∀ (z : Nat) (s : State), canDefine s → isZone z →
    (∀ d : ZoneDef, (∀ p ∈ zonePoints d, isPoint p) → d.gas.length ≤ 3 → d.presence.length ≤ 8 →
      (zonePoints d).Nodup →
      let body := [0, byteOf z, byteOf d.kind.ctorIdx] ++ optPoint d.temperature
        ++ listBytes (fun g => pointBytes g.point ++ [byteOf g.gas.ctorIdx]) d.gas
        ++ listBytes pointBytes d.presence
      (slotGet s.config.zones z = none → exec (.defineZone body) s = taken 0x20 .configuring .ok [] { s with
        config := { s.config with zones := slotSet s.config.zones z { d with aging := 300, dormancy := 900 } }
        zones := slotSet s.zones z (if inZones s.plan.openZones z = false then ⟨.closed, false, none, none⟩
          else if ∃ e ∈ s.presence, e.2.zone = z then ⟨.occupied, false, none, none⟩
          else ⟨.vacant, false, some s.now, some (s.now + 900000)⟩)
        climate := slotSet s.climate z (newClimate s.now d) })
      ∧ (∀ old, slotGet s.config.zones z = some old → ∃ u,
        exec (.defineZone body) s = taken 0x20 .configuring .ok [] u
        ∧ u = { purgeEnded z s with
          config := { s.config with
            zones := slotChange (fun _ => { d with aging := old.aging, dormancy := old.dormancy }) s.config.zones z }
          climate := slotChange (fun _ => newClimate s.now d) s.climate z
          zones := u.zones
          presence := u.presence
          fullReported := u.fullReported, evictedDoors := u.evictedDoors }
        ∧ (slotWf s.presence = true →
          u.presence = s.presence.filter (fun e => !lostSensor z d e.2)
          ∧ (u.presence = s.presence → u.fullReported = s.fullReported)
          ∧ (u.presence ≠ s.presence → u.fullReported = (s.fullReported && decide (96 ≤ u.presence.length)))
          ∧ ∃ r', u.zones = slotChange (fun _ => r') s.zones z
            ∧ ∀ r, slotGet s.zones z = some r → redefinedZone s z old.dormancy u.presence r r')))
    ∧ (slotUsed s.config.zones z = true → zoneNamed s.config z = false →
      let kept := s.presence.filter fun e => e.2.zone != z
      exec (.defineZone [1, byteOf z]) s = taken 0x20 .configuring .ok [] { purgeEnded z s with
        config := { s.config with
          zones := slotFree s.config.zones z, pins := s.config.pins.filter (fun p => p != z) }
        zones := slotFree s.zones z
        climate := slotFree s.climate z
        presence := kept
        fullReported := s.fullReported && decide (96 ≤ kept.length)
        lightOverrides := slotFree s.lightOverrides z })
    ∧ (slotUsed s.config.zones z = true → zoneNamed s.config z = true →
      exec (.defineZone [1, byteOf z]) s = taken 0x20 .plain .conflict [] s)
    ∧ (slotUsed s.config.zones z = false → exec (.defineZone [1, byteOf z]) s = taken 0x20 .plain .notFound [] s)

/-- R85, R105, R106, R109: what the old definition of a door takes with it as it goes: its DOOR entry, whose zone is
judged, and the model's note that its entry was evicted (R104, log 22). -/
def Sys2Proof.Claims.doorEntryDropped (n : Nat) (s : State) : Prop :=
  let entryOf := fun (old : DoorDef) (e : PresenceEntry) => e.zone = old.zone ∧ e.source = .door n
  let unnoted : State := { s with evictedDoors := s.evictedDoors.filter fun x => decide (x ≠ n) }
  (slotGet s.config.doors n = none → dropDoorEntry n s = unnoted)
  ∧ ∀ old, slotGet s.config.doors n = some old →
    ((∀ e ∈ s.presence, ¬ entryOf old e.2) → dropDoorEntry n s = unnoted)
    ∧ ∀ before slot e after, slotWf s.presence = true → s.presence = before ++ (slot, e) :: after → entryOf old e →
      (∀ x ∈ before, ¬ entryOf old x.2) →
      dropDoorEntry n s = judgeZone old.zone { unnoted with
        presence := before ++ after
        fullReported := s.fullReported && decide (96 ≤ (before ++ after).length) }

/-- DEFINE_DOOR (R84, R85, R97). The bytes of a request are laid out as log 8 says. The old presence entry goes in
every state (log 35). The new record's time of entry is the moment of the definition (log 58). -/
def Obligations.DoorDefinitionsTakeAndFreeTheirSlot : Prop :=
  (∀ n s, doorEntryDropped n s)
  ∧ ∀ (n : Nat) (s : State), canDefine s → 1 ≤ n → n ≤ 48 →
    (∀ d : DoorDef, isPoint d.binding → isZone d.zone → d.neighbours.length ≤ 4 → (∀ z ∈ d.neighbours, isZone z) →
      d.neighbours.Nodup → d.zone ∉ d.neighbours → d.boost ≤ 500 →
      (∀ k, d.curtain = some k → 1 ≤ k ∧ k ≤ 64 ∧ (∃ l, slotGet s.config.loads k = some l ∧ l.kind = .curtain)
        ∧ ∀ e ∈ s.config.doors, e.1 ≠ n → e.2.curtain ≠ some k) →
      exec (.defineDoor ([0, byteOf n] ++ pointBytes d.binding ++ [byteOf d.zone]
          ++ listBytes (fun z => [byteOf z]) d.neighbours ++ [optByte d.curtain] ++ wordBytes d.boost)) s
        = taken 0x21 .configuring .ok [] { dropDoorEntry n s with
          config := { s.config with doors := slotSet s.config.doors n d }
          doors := slotSet s.doors n ⟨.unknown, none, none, false, none, 0, none, s.now⟩ })
    ∧ (slotUsed s.config.doors n = true →
      exec (.defineDoor [1, byteOf n]) s = taken 0x21 .configuring .ok [] { dropDoorEntry n s with
        config := { s.config with doors := slotFree s.config.doors n }
        doors := slotFree s.doors n })

/-- R64: the terminals after the load in slot `k` has left its point for the loads of `c`: an output that no load drives
any more is off. -/
def Sys2Proof.Claims.terminalsLeft (s : State) (k : Nat) (c : RunningConfig) : Table TermRec :=
  match slotGet s.config.loads k with
  | none => s.terminals
  | some old =>
    let t := old.binding.point + 1
    if old.binding.bus = .t ∧ (∀ e ∈ c.loads, e.2.binding ≠ old.binding)
        ∧ (functionOf s.config t = .relayOut ∨ functionOf s.config t = .dimOut) then
      slotChange (fun r => { r with relayClosed := false, dimMillivolts := 0 }) s.terminals t
    else s.terminals

/-- R119: the defaults of a load. -/
def Sys2Proof.Claims.defaultTable : Prop :=
  (∀ z, defaultClass .curtain z = 0 ∧ defaultClass .exhaustFan z = 0 ∧ defaultClass .heater z = 2
    ∧ defaultClass .supplyFan z = 2)
  ∧ defaultClass .light .dock = 1 ∧ defaultClass .light .staging = 1 ∧ defaultClass .light .office = 3
  ∧ defaultClass .light .canopy = 3
  ∧ [LoadKind.curtain, .exhaustFan, .light, .heater, .supplyFan].map defaultHold = [0, 150, 500, 300, 120]
  ∧ [LoadKind.curtain, .exhaustFan, .light, .heater, .supplyFan].map defaultFallback = [0, 1000, 1000, 300, 800]

/-- DEFINE_LOAD (R118, R119, R144): fields given as DEFAULT take the default of the load's kind and zone; the load
starts with nothing posted, granted or applied, CONTROLLED or not by its node's contact state, its command refresh
expired (log 51). A daylight assignment is kept from LIGHT to LIGHT alone. A terminal output that loses its last load
goes off (R64), without a delivery (log 46). The bytes of a request are laid out as log 8 says. -/
def Obligations.LoadDefinitionsTakeAndFreeTheirSlot : Prop :=
  defaultTable
  ∧ ∀ (k : Nat) (s : State), canDefine s → 1 ≤ k → k ≤ 64 →
    (∀ (f : LoadFields) (z : ZoneDef), isZone f.zone → slotGet s.config.zones f.zone = some z → isPoint f.binding →
      1 ≤ f.rating → f.rating ≤ 5000 → (∀ c, f.cls = some c → c ≤ 3) → (∀ h, f.hold = some h → h ≤ 1000) →
      (∀ h, f.fallback = some h → h ≤ 1000) → (f.exempt = true → f.kind = .light) →
      (f.kind ≠ .curtain → ∀ e ∈ s.config.doors, e.2.curtain ≠ some k) →
      let d : LoadDef := ⟨f.kind, f.zone, f.binding, f.rating, f.drive, f.cls.getD (defaultClass f.kind z.kind),
        f.exempt, f.hold.getD (defaultHold f.kind), f.fallback.getD (defaultFallback f.kind)⟩
      let wasLight := ∃ old, slotGet s.config.loads k = some old ∧ old.kind = .light
      let contact := contactOf s f.binding.bus f.binding.addr
      ∃ c : RunningConfig, c = { s.config with loads := slotSet s.config.loads k d, daylight := c.daylight }
        ∧ (f.kind = .light → wasLight → c.daylight = s.config.daylight)
        ∧ (f.kind ≠ .light ∨ ¬ wasLight → c.daylight = slotFree s.config.daylight k)
        ∧ exec (.defineLoad ([0, byteOf k, byteOf f.kind.ctorIdx, byteOf f.zone] ++ pointBytes f.binding
            ++ wordBytes f.rating ++ [byteOf f.drive.ctorIdx, optByte f.cls, flagByte f.exempt]
            ++ optWord f.hold ++ optWord f.fallback)) s
          = taken 0x22 .configuring .ok [] { s with
            config := c
            loads := slotSet s.loads k (newLoad s.now s.config.budget.nodeHold
              (decide (contact = .inContact ∨ contact = .unconfirmed)) d)
            terminals := terminalsLeft s k c })
    ∧ (slotUsed s.config.loads k = true → (∀ e ∈ s.config.doors, e.2.curtain ≠ some k) →
      let c : RunningConfig := { s.config with
        loads := slotFree s.config.loads k, daylight := slotFree s.config.daylight k }
      exec (.defineLoad [1, byteOf k]) s = taken 0x22 .configuring .ok [] { s with
        config := c, loads := slotFree s.loads k, terminals := terminalsLeft s k c })

/-- R31, R34, R36, R37, R38: what line `l` keeps of its work once node `addr` has no more than `count` points: the node
leaves the fetch list and the one-off reads, the queued writes of points that it no longer has go without a write
result, and a transaction to it that is in flight is voided. -/
def Sys2Proof.Claims.lineWithout (l : LineId) (addr count : Nat) (s : State) : Line :=
  let line := getLine s l
  { line with
    fetch := line.fetch.filter fun a => decide (a ≠ addr)
    oneOffs := line.oneOffs.filter fun q => decide (q.node ≠ addr)
    queue := line.queue.filter fun e => decide (e.node ≠ addr ∨ e.point < count)
    inFlight := line.inFlight.map fun x => if x.node = addr then { x with voided := true } else x }

/-- R38, R41, R67, R77: the state once node `addr` of line `l` has the definition `d`, before its contact state is
reported: a new record, UNPROBED and due for a probe at once, with the remaining fields none; its points made afresh;
its storm window gone. -/
def Sys2Proof.Claims.nodeTaken (l : LineId) (addr : Nat) (d : NodeDef) (s v : State) : Prop :=
  let cfg := lineCfg s.config l
  let line := lineWithout l addr d.count s
  v = { setLine s l { line with
      nodes := slotSet line.nodes addr ⟨.unprobed, 0, 0, 0, none, none, none, none, some s.now⟩ } with
    config := setLineCfg s.config l { cfg with nodes := slotSet cfg.nodes addr d }
    points := createPoints (busOf l) addr d.count (removePoints (busOf l) addr s.points)
    windows := slotFree s.windows (nodeKey (busOf l) addr) }
  ∧ (∀ i, i < 16 → slotGet v.points (pointKey ⟨busOf l, addr, i⟩)
    = if i < d.count then some ⟨none, .neverRead, none, none, .none, 0, false⟩ else none)
  ∧ ∀ k, k / 16 ≠ nodeKey (busOf l) addr → slotGet v.points k = slotGet s.points k

/-- R44, R119: `u` is `v` once the contact state of a newly defined node has been reported, if it changed: to the doors
by rising number (log 21), to the presence table, and to the loads by rising number (log 54). Its points hold no value
yet, so that nothing is marked on them. -/
def Sys2Proof.Claims.contactReported (l : LineId) (addr : Nat) (s v u : State) : Prop :=
  let new : Contact := if isDown (getLine s l) = true then .unreachable else .unconfirmed
  let cause : UnknownCause := if isDown (getLine s l) = true then .unreachable else .unconfirmed
  let doors := slotNumbers (s.config.doors.filter fun e =>
    decide (e.2.binding.bus = busOf l ∧ e.2.binding.addr = addr))
  let loads := slotNumbers (s.config.loads.filter fun e =>
    decide (e.2.binding.bus = busOf l ∧ e.2.binding.addr = addr))
  (contactOf s (busOf l) addr = new → u = v)
  ∧ (contactOf s (busOf l) addr ≠ new →
    u = forEach loads (loadTakesContact new)
      (presenceContact (busOf l) addr new (forEach doors (fun n => doorUnknown n cause) v)))

/-- R69: what a change of the scan list makes of one point: it goes STALE at once where the age limit of its new scan
period has passed, and its doors are told by rising number (log 21). -/
def Sys2Proof.Claims.restaled (p : PointRef) (s : State) : Prop :=
  let late := ∃ r period time, getPoint s p = some r ∧ scanPeriod s.config p = some period ∧ r.status = .fresh
    ∧ isOutput s.config p = false ∧ r.time = some time ∧ time + max (3 * period) 2000 < s.now
  (late → restale p s = forEach (doorsAt s.config p) (fun n => doorUnknown n .stalePoint) { s with
    points := slotChange (fun r => { r with status := .stale }) s.points (pointKey p) })
  ∧ (¬ late → restale p s = s)

/-- DEFINE_NODE (R38, R41): the node starts UNPROBED with score 0 and the remaining fields none, its points made afresh
(R67) and its storm window gone (R77), and the change of its contact state is reported (R44); its removal frees its
slot, its points and its storm window. DEFINE_SCAN_ENTRY (R32, R33, R69): an entry joins its list, due at once, or
leaves it, and each point of the node is held against its new scan period. Both arbiters grant at the end (log 39). A
count that leaves out a point that is referred to is refused for a free slot as for an occupied one (log 18). The bytes
of a request are laid out as log 8 says. -/
def Obligations.LineDefinitionsTakeAndFreeTheirSlot : Prop :=
  (∀ p s, restaled p s)
  ∧ (∀ (l : LineId) (addr : Nat) (s : State), canDefine s → 1 ≤ addr → addr ≤ 31 →
    (∀ d : NodeDef, 1 ≤ d.count → d.count ≤ 16 → (∀ k, d.kind = some k → k ≤ 254) →
      refersBeyond s.config l addr d.count = false →
      ∃ v u n, nodeTaken l addr d s v ∧ contactReported l addr s v u
        ∧ exec (.defineNode [0, byteOf l.ctorIdx, byteOf addr, optByte d.kind, byteOf d.count]) s
          = taken 0x23 .configuring .ok [] (grantLines u)
        ∧ slotGet (getLine (grantLines u) l).nodes addr = some n ∧ n.state = .unprobed ∧ n.score = 0
        ∧ n.entered = none)
    ∧ (slotUsed (lineCfg s.config l).nodes addr = true → isReferred s.config l addr = false →
      let cfg := lineCfg s.config l
      let line := lineWithout l addr 0 s
      exec (.defineNode [1, byteOf l.ctorIdx, byteOf addr]) s = taken 0x23 .configuring .ok [] (grantLines
        { setLine s l { line with nodes := slotFree line.nodes addr } with
          config := setLineCfg s.config l { cfg with nodes := slotFree cfg.nodes addr }
          points := removePoints (busOf l) addr s.points
          windows := slotFree s.windows (nodeKey (busOf l) addr) }))
    ∧ (slotUsed (lineCfg s.config l).nodes addr = false →
      exec (.defineNode [1, byteOf l.ctorIdx, byteOf addr]) s = taken 0x23 .plain .notFound [] s))
  ∧ (∀ (l : LineId) (node first : Nat) (s : State), canDefine s → node ≤ 255 → first ≤ 255 →
    let cfg := lineCfg s.config l
    let line := getLine s l
    let heldAgainst := forEach (nodePoints s.config (busOf l) node) restale
    (∀ (count : Nat) (p : PeriodClass) (d : NodeDef), slotGet cfg.nodes node = some d →
      1 ≤ count → count ≤ 16 → first + count ≤ d.count →
      cfg.scan.any (isEntry node first) = false → cfg.scan.length < 48 →
      exec (.defineScanEntry [0, byteOf l.ctorIdx, byteOf node, byteOf first, byteOf count, byteOf p.ctorIdx]) s
        = taken 0x24 .configuring .ok [] (grantLines (heldAgainst
          { setLine s l { line with scan := slotSet line.scan (scanKey node first) ⟨none, s.now⟩ } with
            config := setLineCfg s.config l { cfg with scan := cfg.scan ++ [⟨node, first, count, p⟩] } })))
    ∧ (cfg.scan.any (isEntry node first) = true →
      exec (.defineScanEntry [1, byteOf l.ctorIdx, byteOf node, byteOf first]) s
        = taken 0x24 .configuring .ok [] (grantLines (heldAgainst
          { setLine s l { line with scan := slotFree line.scan (scanKey node first) } with
            config := setLineCfg s.config l { cfg with scan := cfg.scan.filter fun e => !isEntry node first e } })))
    ∧ (cfg.scan.any (isEntry node first) = false →
      exec (.defineScanEntry [1, byteOf l.ctorIdx, byteOf node, byteOf first]) s
        = taken 0x24 .plain .notFound [] s))

/-- SET_TERMINAL_FUNCTION (R53, R54, R59, R61, R62, R65): the whole state after it. A terminal that changes its function
starts it afresh, and its point's record with it; the emergency signal and the curtail order are worked out again without
the function that has ended, and what has changed is handed on (`takeTerminalOrder`, which
`TerminalOrderReplacesTheHeldOne` states). A meter delivers its 0; a STRAIN_OUT terminal takes the strain state, and
delivers it where it is set (log 29). A change of parameters alone keeps the function's state, and a curtail cap acts at
once. A signal that has fallen moves no mode here, since the request is taken in HOLD alone; one that another terminal
ought to have raised before, which no run leaves, enters EMERGENCY. `functionStart` puts the first repeat or conversion
100 ms after the start (log 15). The bytes of a request are laid out as log 8 says. -/
def Obligations.TerminalFunctionsStartAfresh : Prop :=
  ∀ (t : Nat) (f : TermFunction) (s : State), canDefine s → t ≤ 16 → isAllowed t f = true →
    (∀ w, f = .meterPulse w → 1 ≤ w ∧ w ≤ 1000) → (∀ c, f = .curtailIn c → c ≤ 65535) →
    (∀ u o sp, f = .analogIn u o sp → scaleFits o = true ∧ scaleFits sp = true ∧ sp ≠ 0) →
    let old := functionOf s.config t
    (isBound s.config (terminalPoint t) = true → sameFunction old f = true ∧ analogUse old = analogUse f) →
    let c := { s.config with functions := slotSet s.config.functions t f }
    let ordered := fun (terminals : Table TermRec) =>
      let order := terminalOrder { s with config := c, terminals := terminals }
      if order = s.termOrder then s else takeTerminalOrder order s
    ∃ u, exec (.setTerminalFunction (byteOf t :: functionBytes f)) s = taken 0x25 .configuring .ok [] u
      ∧ (sameFunction old f = true → u = { ordered s.terminals with config := c })
      ∧ (sameFunction old f = false →
        let others := ∃ t' r, 1 ≤ t' ∧ t' ≤ 16 ∧ t' ≠ t ∧ functionOf s.config t' = .emergencyIn
          ∧ slotGet s.terminals t' = some r ∧ r.debounced = some false
        let start := { functionStart s.now f with relayClosed := decide (f = .strainOut) && s.strain }
        let terminals := slotSet s.terminals t start
        let afresh : PointRec := ⟨none, .neverRead, none, none, .none, 0, false⟩
        let point : PointRec := match f with
          | .meterPulse _ => { afresh with value := some 0, status := .fresh, time := some s.now }
          | .strainOut => if s.strain = true then
              { afresh with value := some 1, status := .fresh, time := some s.now, lastWrite := .ok, tries := 1 }
            else afresh
          | _ => afresh
        let started := { ordered terminals with
          config := c, terminals := terminals
          points := slotChange (fun _ => point) s.points (pointKey (terminalPoint t)) }
        (others → s.signal = true → u = started)
        ∧ (¬ others → u = { started with signal := false })
        ∧ (others → s.signal = false → u.mode = .emergency ∧ u.returnMode = some .hold ∧ u.signal = true
          ∧ u.config = c ∧ slotGet u.terminals t = some start))

/-- SET_LINE_PARAMETERS, SET_FILTER_TESTS, and the groups of SET PARAMETERS that only hold values: lighting,
daylight, settlement, HOST_LINK (R21, R80, R145, R146, R142, R195). The bytes of a request are laid out as log 8
says. -/
def Obligations.SettingsAreTakenWhole : Prop :=
  ∀ s : State,
    (∀ (l : LineId) (rate : BitRate) (timeout : Nat), canDefine s → 5 ≤ timeout → timeout ≤ 100 →
      exec (.setLineParameters ([byteOf l.ctorIdx] ++ wordBytes (bitsPerSecond rate) ++ [byteOf timeout])) s
        = taken 0x26 .configuring .ok [] { s with
          config := setLineCfg s.config l { lineCfg s.config l with bitRate := rate, timeout := timeout } })
    ∧ (∀ f : FilterCfg, canDefine s → 1 ≤ f.stormLimit → f.stormLimit ≤ 255 → 1 ≤ f.staleLimit → f.staleLimit ≤ 60 →
      exec (.setFilterTests [flagByte f.f2, flagByte f.f3, flagByte f.f4, flagByte f.f5, flagByte f.f6,
          byteOf f.stormLimit, byteOf f.staleLimit]) s
        = taken 0x27 .configuring .ok [] { s with config := { s.config with filter := f } })
    ∧ (∀ p : LightingParams, canConfigure s → p.closedPresence ≤ 1000 → 10 ≤ p.minDim → p.minDim ≤ 300 → 1 ≤ p.ramp →
      p.ramp ≤ 1000 → 1 ≤ p.fade → p.fade ≤ 1000 →
      exec (.setParametersLighting (wordBytes p.closedPresence ++ wordBytes p.minDim ++ wordBytes p.ramp
          ++ wordBytes p.fade)) s
        = taken 0x28 .configuring .ok [] { s with config := { s.config with lighting := p } })
    ∧ (∀ (k : Nat) (d : LoadDef) (p : PointRef) (tl : Nat), canDefine s → 1 ≤ k → k ≤ 64 →
      slotGet s.config.loads k = some d → d.kind = .light → isPoint p → 50 ≤ tl → tl ≤ 2000 →
      exec (.setParametersDaylight ([byteOf k] ++ pointBytes p ++ wordBytes tl)) s
        = taken 0x28 .configuring .ok [] { s with
          config := { s.config with daylight := slotSet s.config.daylight k ⟨some p, tl⟩ } })
    ∧ (∀ (k : Nat) (d : LoadDef), canDefine s → 1 ≤ k → k ≤ 64 → slotGet s.config.loads k = some d →
      d.kind = .light →
      exec (.setParametersDaylight [byteOf k, 0xFF, 0xFF, 0xFF]) s
        = taken 0x28 .configuring .ok [] { s with
          config := { s.config with
            daylight := slotSet s.config.daylight k ⟨none, (daylightOf s.config k).target⟩ } })
    ∧ (∀ n, canDefine s → 1 ≤ n → n ≤ 10 →
      exec (.setParametersSettlement [byteOf n]) s
        = taken 0x28 .configuring .ok [] { s with config := { s.config with settlementPeriod := n } })
    ∧ (∀ sup mark, canConfigure s → (sup = 0 ∨ 5 ≤ sup) → sup ≤ 600 → 1 ≤ mark → mark ≤ 40 →
      exec (.setParametersHostLink (.group (wordBytes sup ++ [byteOf mark]))) s
        = taken 0x28 .configuring .ok [] { s with
          config := { s.config with supervision := sup, watermark := mark } })
    ∧ (∀ code body, canConfigure s → body.length ≤ 1023 →
      exec (.setParametersHostLink (.noSuchGroup code body)) s = taken 0x28 .plain .outOfRange [] s)

/-- R179: what an entry into EMERGENCY, or a new emergency ventilation setting there, makes of the stages from `s` to `u`:
under STOP every zone stands at stage 0, and one in purge raises GAS_PURGE_END, its seconds whole (log 41), which a full
queue may lose (R199). The time of entry of stage 0 follows log 55. -/
def Sys2Proof.Claims.stagesSet (s u : State) (vent : EmergencyVent) : Prop :=
  (vent = .extract → u.climate = s.climate)
  ∧ (vent = .stop → ∀ z c, slotGet s.climate z = some c →
    slotGet u.climate z = some { c with
      stage := 0
      stageAt := if c.stage = 0 then c.stageAt else s.now
      dwell := none
      purgeClear := none
      gasStale := false }
    ∧ (c.stage = 4 → (⟨.gasPurgeEnd, s.now, .zone z, some (min c.gasIndex 65535 : Nat),
        some (min ((s.now - c.stageAt) / 1000) 65535 : Nat)⟩ : Notice) ∈ u.notices ∨ s.lost < u.lost ∨ u.lost = 255))

/-- R180: a change of the emergency ventilation setting in EMERGENCY sets the fans at once, and under STOP the stages;
a fan is commanded where R140 asks for it. -/
def Sys2Proof.Claims.ventilationChanged (s u : State) (vent : EmergencyVent) : Prop :=
  (∀ k l r, slotGet s.config.loads k = some l → slotGet s.loads k = some r →
    (isFan l.kind = false → slotGet u.loads k = some r)
    ∧ (isFan l.kind = true →
      let runs := l.kind = .exhaustFan ∧ vent = .extract
      let f := if runs then 1000 else 0
      let stands := r.lastCommand = some f ∧ s.now < r.refreshAt
      slotGet u.loads k = some { r with
        posted := f
        goal := f
        applied := f
        reason := if runs then .emergency else r.reason
        exempt := if runs then true else r.exempt
        lastCommand := some f
        refreshAt := if stands then r.refreshAt else s.now + 30000 }))
  ∧ stagesSet s u vent

/-- R142: the load of a record `r` takes its fallback fraction at once where its node hold expiry, under the allowance
of `nodeHold` seconds, lies in the past. -/
def Sys2Proof.Claims.holdCaught (now nodeHold fallback : Nat) (r r' : LoadRec) : Prop :=
  let isPast := ∃ since, r.holdRunning = true ∧ r.unreachableSince = some since ∧ since + nodeHold * 1000 < now
  (isPast → r' = { r with assumed := some fallback, holdRunning := false }) ∧ (¬ isPast → r' = r)

/-- The groups of SET PARAMETERS that act at once: door, occupancy, climate, budget (R86, R101, R162, R180, R142,
R130). The bytes of a request are laid out as log 8 says. Doors that a new held-open time leaves held open become so by
rising number (log 21); `becomeHeldOpen` is what `DoorsFollowEventsAndTimers` says of the held-open timer. A purge that
STOP ends gives whole seconds (log 41), and the time of entry of stage 0 follows log 55. -/
def Obligations.ActingParameterGroupsTakeEffectAtOnce : Prop :=
  ∀ s : State, canConfigure s →
    (∀ p : DoorParams, 30 ≤ p.heldOpen → p.heldOpen ≤ 1800 → 2 ≤ p.chatterLimit → p.chatterLimit ≤ 60 →
      p.runOn ≤ 120 → 10 ≤ p.presence → p.presence ≤ 600 →
      let v : State := { s with config := { s.config with doorParams := p } }
      let isLate := fun (r : DoorRec) => r.state = .open_ ∧ ∃ since ∈ r.openSince, since + p.heldOpen * 1000 < s.now
      ∃ u, exec (.setParametersDoor (wordBytes p.heldOpen ++ [byteOf p.chatterLimit, byteOf p.runOn]
          ++ wordBytes p.presence)) s = taken 0x28 .configuring .ok [] u
        ∧ u = { s with
          config := v.config, doors := u.doors, presence := u.presence, zones := u.zones
          fullReported := u.fullReported, evictedDoors := u.evictedDoors, notices := u.notices, lost := u.lost }
        ∧ (slotWf s.doors = true →
          u = forEach (slotNumbers (s.doors.filter fun e => decide (isLate e.2))) becomeHeldOpen v)
        ∧ ∀ n d r, slotGet s.config.doors n = some d → slotGet s.doors n = some r →
          (¬ isLate r → slotGet u.doors n = some r)
          ∧ (isLate r → slotGet u.doors n = some { r with
              state := .heldOpen
              heldFlag := true
              entered := s.now
              request := if d.curtain = none then r.request else 1000
              runOn := if d.curtain = none then r.runOn else none }
            ∧ ((⟨.doorHeldOpen, s.now, .door n, some (d.zone : Int), some (p.heldOpen : Int)⟩ : Notice) ∈ u.notices
              ∨ s.lost < u.lost ∨ u.lost = 255)))
    ∧ (∀ (z aging dormancy : Nat) (d : ZoneDef), isZone z → slotGet s.config.zones z = some d → 30 ≤ aging →
      aging ≤ 3600 → 60 ≤ dormancy → dormancy ≤ 7200 →
      ∃ u, exec (.setParametersOccupancy ([byteOf z] ++ wordBytes aging ++ wordBytes dormancy)) s
          = taken 0x28 .configuring .ok [] u
        ∧ (∀ r since, slotGet s.zones z = some r → r.state = .vacant → r.vacantSince = some since →
          (since + dormancy / 10 * 10 * 1000 < s.now →
            slotGet u.zones z = some { r with state := .dormant, dormancyAt := none })
          ∧ (s.now ≤ since + dormancy / 10 * 10 * 1000 →
            slotGet u.zones z = some { r with dormancyAt := some (since + dormancy / 10 * 10 * 1000) }))
        ∧ (∀ r, slotGet s.zones z = some r → r.state ≠ .vacant → u.zones = s.zones)
        ∧ (∃ r', u.zones = slotChange (fun _ => r') s.zones z)
        ∧ u = { s with
          config := { s.config with
            zones := slotChange (fun _ => { d with aging := aging, dormancy := dormancy / 10 * 10 }) s.config.zones z }
          zones := u.zones })
    ∧ (∀ p : ClimateParams, 5 ≤ p.band → p.band ≤ 100 → 60 ≤ p.holdTime → p.holdTime ≤ 1800 → 10 ≤ p.coRef →
      p.coRef ≤ 500 → 10 ≤ p.no2Ref → p.no2Ref ≤ 2000 → p.makeUp ≤ 1000 →
      ∃ u, exec (.setParametersClimate ([byteOf p.band] ++ wordBytes p.holdTime ++ wordBytes p.coRef
          ++ wordBytes p.no2Ref ++ wordBytes p.makeUp ++ [byteOf p.vent.ctorIdx])) s
          = taken 0x28 .configuring .ok [] u
        ∧ u.config = { s.config with climate := p }
        ∧ (s.mode ≠ .emergency ∨ p.vent = s.config.climate.vent → u = { s with config := u.config })
        ∧ (s.mode = .emergency → p.vent ≠ s.config.climate.vent → slotWf s.config.loads = true →
          ventilationChanged s u p.vent)
        ∧ u = { s with
          config := u.config, loads := u.loads, lineA := u.lineA, lineB := u.lineB, terminals := u.terminals
          points := u.points, doors := u.doors, zones := u.zones, presence := u.presence
          fullReported := u.fullReported
          evictedDoors := u.evictedDoors, climate := u.climate, notices := u.notices, lost := u.lost })
    ∧ (∀ p : BudgetParams, 1 ≤ p.restore → p.restore ≤ 65535 → 50 ≤ p.strainBegin → p.strainBegin ≤ 150 →
      30 ≤ p.strainEnd → p.strainEnd + 5 ≤ p.strainBegin → p.nodeHold ≤ 600 → 300 ≤ p.windowLength →
      p.windowLength ≤ 3600 →
      let length := p.windowLength / 60 * 60
      let second := secondNumber s.clock.reading
      let changes := length ≠ s.config.budget.windowLength ∧ s.clock.isSet = true
      ∃ u, exec (.setParametersBudget (wordBytes p.restore ++ [byteOf p.strainBegin, byteOf p.strainEnd]
          ++ wordBytes p.nodeHold ++ wordBytes p.windowLength)) s = taken 0x28 .configuring .ok [] u
        ∧ u.config = { s.config with budget := { p with windowLength := length } }
        ∧ (∀ k d r, slotGet s.config.loads k = some d → slotGet s.loads k = some r →
          ∃ r', slotGet u.loads k = some r' ∧ holdCaught s.now p.nodeHold d.fallback r r')
        ∧ (¬ changes → u.window = s.window ∧ u.history = s.history)
        ∧ (changes → u.window = some ⟨second, nextBoundary length second, 0, true, false⟩
          ∧ (s.window = none → u.history = s.history)
          ∧ ∀ w, s.window = some w → u.history
            = (s.history ++ [(⟨w.start, second - w.start, w.used, (activeRecord s).windowLimit, true⟩
              : ClosedWindow)]).drop (s.history.length + 1 - 8))
        ∧ u = { s with config := u.config, loads := u.loads, window := u.window, history := u.history })

/-! ## Readings -/

/-- IDENTIFY, READ_CLOCK, READ_PLAN_STATE, READ_SHIFT, READ_SETTLEMENT, READ_WINDOWS (R196, R4, R19, R8, R139,
R131), READ_ZONE, READ_DOOR, READ_LOAD, READ_NODE, READ_LINE (R114, R96, R141, R159, R181, R45, R50): the reply
carries the state as it stands, a free slot is NOT_FOUND, and nothing changes but what the end of every request
changes. The reading in the plan state is the one at the request (log 49). The bytes of a reply are laid out as log 9
says. -/
def Obligations.ReadingsOfThePartAndItsRecordsChangeNothing : Prop :=
  (∀ s : State, canTake s →
    exec (.identify []) s = taken 0x01 .plain .ok (identifyBody s) s
    ∧ (identifyBody s).take 8 = [0x4B, 0x44, 0x48, 0x2D, 0x34, 0x38, 1, byteOf s.mode.ctorIdx]
    ∧ exec (.readClock []) s = taken 0x11 .plain .ok
      ([if s.clock.isSet then 0 else 1, byteOf s.clock.reading.date.day, byteOf s.clock.reading.date.month]
        ++ wordBytes s.clock.reading.date.year ++ [byteOf s.clock.reading.weekday, byteOf s.clock.reading.hour,
          byteOf s.clock.reading.minute, byteOf s.clock.reading.second]) s
    ∧ exec (.readPlanState []) s = taken 0x17 .plain .ok (planBytes s) s
    ∧ (∀ i r, i ≤ 255 → shiftRecord s.config i = some r →
      exec (.readShift [byteOf i]) s = taken 0x13 .plain .ok (shiftBytes (i != 0) r) s)
    ∧ (∀ i, i ≤ 255 → shiftRecord s.config i = none →
      exec (.readShift [byteOf i]) s = taken 0x13 .plain .notFound [] s)
    ∧ exec (.readSettlement []) s = taken 0x43 .plain .ok (settlementBytes s.record) s
    ∧ (settlementBytes s.record).length = 78
    ∧ exec (.readWindows []) s = taken 0x44 .plain .ok (windowsBytes s) s)
  ∧ (∀ s : State, canTake s →
    (∀ z d r c, isZone z → slotGet s.config.zones z = some d → slotGet s.zones z = some r →
      slotGet s.climate z = some c →
      exec (.readZone [byteOf z]) s = taken 0x40 .plain .ok
        (zoneRecordBytes s d r ++ zoneExtraBytes s z ++ climateRecordBytes s d c) s)
    ∧ (∀ z, isZone z → slotGet s.config.zones z = none →
      exec (.readZone [byteOf z]) s = taken 0x40 .plain .notFound [] s)
    ∧ (∀ n d r, 1 ≤ n → n ≤ 48 → slotGet s.config.doors n = some d → slotGet s.doors n = some r →
      exec (.readDoor [byteOf n]) s = taken 0x41 .plain .ok
        (doorRecordBytes s d r ++ optWord ((heldOpenAt s.config r).map (secondsLeft s))
          ++ [statusByte s (some d.binding)] ++ wordBytes (boostTo d.zone d r)) s)
    ∧ (∀ k d r, 1 ≤ k → k ≤ 64 → slotGet s.config.loads k = some d → slotGet s.loads k = some r →
      exec (.readLoad [byteOf k]) s = taken 0x42 .plain .ok
        (loadDefBytes d ++ loadStateBytes s r ++ loadPointBytes s d.binding ++ loadOwnBytes s k d r) s)
    ∧ (∀ (l : LineId) addr d n, 1 ≤ addr → addr ≤ 31 → slotGet (lineCfg s.config l).nodes addr = some d →
      slotGet (getLine s l).nodes addr = some n →
      exec (.readNode [byteOf l.ctorIdx, byteOf addr]) s = taken 0x45 .plain .ok (nodeBytes s l addr d n) s)
    ∧ (∀ l : LineId, exec (.readLine [byteOf l.ctorIdx]) s = taken 0x46 .plain .ok (lineBytes s l) s))

/-- READ_POINT, READ_PRESENCE, READ_EVENTS, READ_PARAMETERS (R73, R114, R82, R195): read back, and nothing changes but
what the end of every request changes. A parameter group is given back in the bytes in which SET PARAMETERS takes it.
READ EVENTS sends every storm window, and as many of the records asked for as fit its 1024 bytes (log 47). The bytes
of a reply are laid out as log 9 says. -/
def Obligations.ReadingsOfListsAndParametersChangeNothing : Prop :=
  ∀ s : State, canTake s →
    (∀ (bus : Bus) addr first count, isPoint ⟨bus, addr, first⟩ → 1 ≤ count → first + count ≤ 16 →
      (∀ i, i < count → pointDefined s.config ⟨bus, addr, first + i⟩ = true) →
      exec (.readPoint [byteOf bus.ctorIdx, byteOf addr, byteOf first, byteOf count]) s
        = taken 0x47 .plain .ok (byteOf count ::
          (List.range count).flatMap fun i => pointEntryBytes s ⟨bus, addr, first + i⟩) s)
    ∧ exec (.readPresence [0xFF]) s = taken 0x48 .plain .ok (presenceBytes s fun _ => true) s
    ∧ (∀ z d, isZone z → slotGet s.config.zones z = some d →
      exec (.readPresence [byteOf z]) s = taken 0x48 .plain .ok (presenceBytes s (entryIn z)) s)
    ∧ (∀ n, 1 ≤ n → n ≤ 32 →
      let rest := wordBytes s.nextSeq ++ filterBytes s.config.filter ++ listBytes (fun e : Nat × CountWindow =>
        [byteOf (e.1 / 32), byteOf (e.1 % 32)] ++ longBytes e.2.start ++ wordBytes e.2.count) s.windows
      let sent := min n ((1023 - rest.length) / 18)
      let body := listBytes eventBytes (s.recent.drop (s.recent.length - sent)) ++ rest
      exec (.readEvents [byteOf n]) s = taken 0x49 .plain .ok body s
      ∧ (s.windows.length ≤ 54 → sent = n)
      ∧ (s.windows.length ≤ 63 → body.length ≤ 1024))
    ∧ exec (.readParameters [0]) s = taken 0x4B .plain .ok
      (wordBytes s.config.doorParams.heldOpen ++ [byteOf s.config.doorParams.chatterLimit,
        byteOf s.config.doorParams.runOn] ++ wordBytes s.config.doorParams.presence) s
    ∧ (∀ z d, isZone z → slotGet s.config.zones z = some d →
      exec (.readParameters [1, byteOf z]) s
        = taken 0x4B .plain .ok (wordBytes d.aging ++ wordBytes d.dormancy) s)
    ∧ exec (.readParameters [2]) s = taken 0x4B .plain .ok
      (wordBytes s.config.lighting.closedPresence ++ wordBytes s.config.lighting.minDim
        ++ wordBytes s.config.lighting.ramp ++ wordBytes s.config.lighting.fade) s
    ∧ (∀ k d, 1 ≤ k → k ≤ 64 → slotGet s.config.loads k = some d → d.kind = .light →
      exec (.readParameters [3, byteOf k]) s = taken 0x4B .plain .ok
        (optPoint (daylightOf s.config k).point ++ wordBytes (daylightOf s.config k).target) s)
    ∧ exec (.readParameters [4]) s = taken 0x4B .plain .ok
      ([byteOf s.config.climate.band] ++ wordBytes s.config.climate.holdTime ++ wordBytes s.config.climate.coRef
        ++ wordBytes s.config.climate.no2Ref ++ wordBytes s.config.climate.makeUp
        ++ [byteOf s.config.climate.vent.ctorIdx]) s
    ∧ exec (.readParameters [5]) s = taken 0x4B .plain .ok
      (wordBytes s.config.budget.restore ++ [byteOf s.config.budget.strainBegin, byteOf s.config.budget.strainEnd]
        ++ wordBytes s.config.budget.nodeHold ++ wordBytes s.config.budget.windowLength) s
    ∧ exec (.readParameters [6]) s = taken 0x4B .plain .ok [byteOf s.config.settlementPeriod] s
    ∧ exec (.readParameters [7]) s = taken 0x4B .plain .ok
      (wordBytes s.config.supervision ++ [byteOf s.config.watermark]) s

/-! ## Operation -/

/-- R150: a zone's light override as a reply gives it: its level and the minutes left to it, or NONE (log 9). -/
def Sys2Proof.Claims.shownLight (s : State) (z : Nat) : List Byte :=
  match slotGet s.lightOverrides z with
  | none => [0xFF, 0xFF, 0]
  | some o => wordBytes o.level ++ [match o.expiry with
    | none => 0xFF
    | some t => byteOf (ceilDiv (t - s.now) 60000)]

/-- R164: a zone's setpoint override as a reply gives it: its setpoint and the minutes left to it, or NONE (log 9). -/
def Sys2Proof.Claims.shownSetpoint (s : State) (z : Nat) : List Byte :=
  match (slotGet s.climate z).bind ClimateRec.override with
  | none => [0x80, 0, 0, 0]
  | some o => signedBytes o.level ++ match o.expiry with
    | none => [0xFF, 0xFF]
    | some t => wordBytes (ceilDiv (t - s.now) 60000)

/-- LIGHT_OVERRIDE, SETPOINT_OVERRIDE and the expiry of each (R150, R151, R164, R165). The reply gives the override as it
stood before the request and as it stands after it. The bytes of a request are laid out as log 8 says, those of a reply
as log 9 says. An expiry acts once its time has come (log 2). -/
def Obligations.OverridesArePlacedClearedAndExpire : Prop :=
  ∀ (z : Nat) (s : State), isZone z →
    let lit := fun (duration : Nat) (level : Nat) (u : State) =>
      exec (.lightOverride ([byteOf z] ++ wordBytes level ++ [byteOf duration])) s
        = taken 0x30 .plain .ok (shownLight s z ++ shownLight u z) u
    let heated := fun (duration : Nat) (level : Int) (override : Option SetpointOverride) =>
      let u := { s with climate := slotChange (fun r => { r with override := override }) s.climate z }
      exec (.setpointOverride ([byteOf z] ++ signedBytes level ++ wordBytes duration)) s
        = taken 0x31 .plain .ok (shownSetpoint s z ++ shownSetpoint u z) u
    (∀ level, canTake s → slotUsed s.config.zones z = true → level ≤ 1000 →
      (∀ minutes, 1 ≤ minutes → minutes ≤ 240 →
        let u := { s with lightOverrides := slotSet s.lightOverrides z ⟨level, some (s.now + minutes * 60000)⟩ }
        lit minutes level u ∧ shownLight u z = wordBytes level ++ [byteOf minutes])
      ∧ (let u := { s with lightOverrides := slotSet s.lightOverrides z ⟨level, none⟩ }
        lit 255 level u ∧ shownLight u z = wordBytes level ++ [0xFF])
      ∧ (let u := { s with lightOverrides := slotFree s.lightOverrides z }
        lit 0 level u ∧ (slotWf s.lightOverrides = true → shownLight u z = [0xFF, 0xFF, 0])))
    ∧ (∀ level, canTake s → slotUsed s.config.zones z = true → -400 ≤ level → level ≤ 600 →
      (∀ minutes, 1 ≤ minutes → minutes ≤ 480 →
        heated minutes level (some ⟨level, some (s.now + minutes * 60000)⟩))
      ∧ heated 65535 level (some ⟨level, none⟩)
      ∧ heated 0 level none)
    ∧ (∀ (u : State) r o, slotGet u.climate z = some r → r.override = some o →
      (∀ minutes, o.expiry = some (u.now + minutes * 60000) →
        shownSetpoint u z = signedBytes o.level ++ wordBytes minutes)
      ∧ (o.expiry = none → shownSetpoint u z = signedBytes o.level ++ [0xFF, 0xFF]))
    ∧ (∀ o t, s.powered = true → slotGet s.lightOverrides z = some o → o.expiry = some t → t ≤ s.now →
      exec (.lightOverrideExpires z) s
        = .next { s with lightOverrides := slotFree s.lightOverrides z })
    ∧ (∀ r o t, s.powered = true → slotGet s.climate z = some r → r.override = some o → o.expiry = some t →
      t ≤ s.now → exec (.setpointOverrideExpires z) s = .next { s with
        climate := slotChange (fun r => { r with override := none }) s.climate z })

/-- CURTAIL and HOST_CURTAIL_EXPIRES (R125, R126): a hold begins or replaces the order, a hold of 0 releases it,
and it ends when its hold has run; an expiry that a replacing order has overtaken does not happen. The bytes of a reply
are laid out as log 9 says. An expiry acts once its time has come (log 2). -/
def Obligations.HostCurtailBeginsAndEnds : Prop :=
  ∀ s : State,
    (∀ cap hold, canTake s → cap ≤ 65535 → 1 ≤ hold → hold ≤ 5760 →
      exec (.curtail (wordBytes cap ++ wordBytes hold)) s = taken 0x32 .plain .ok
        ([if s.hostOrder.isSome then 0 else 0xFF, 0] ++ wordBytes cap ++ wordBytes hold)
        (raise .curtailBegin (.order false) (some cap) (some hold)
          { s with hostOrder := some ⟨cap, s.now + hold * 15000⟩ }))
    ∧ (∀ cap order, canTake s → cap ≤ 65535 → s.hostOrder = some order →
      exec (.curtail (wordBytes cap ++ [0, 0])) s = taken 0x32 .plain .ok [0, 0xFF, 0, 0, 0, 0]
        (raise .curtailEnd (.order false) (some (min order.cap 65535 : Nat)) none { s with hostOrder := none }))
    ∧ (∀ cap, canTake s → cap ≤ 65535 → s.hostOrder = none →
      exec (.curtail (wordBytes cap ++ [0, 0])) s = taken 0x32 .plain .ok [0xFF, 0xFF, 0, 0, 0, 0] s)
    ∧ (∀ order, s.powered = true → s.hostOrder = some order → order.expiry ≤ s.now →
      exec .hostCurtailExpires s = .next (raise .curtailEnd (.order false) (some (min order.cap 65535 : Nat)) none
        { s with hostOrder := none }))
    ∧ (∀ order, s.hostOrder = some order → s.now < order.expiry → exec .hostCurtailExpires s = .next s)
    ∧ (s.hostOrder = none → exec .hostCurtailExpires s = .next s)

/-- R127: the terminal curtail order as the terminal block hands it. -/
def Obligations.TerminalOrderReplacesTheHeldOne : Prop :=
  ∀ (s : State) (order : Option Nat),
    (∀ cap, s.termOrder = none → order = some cap → takeTerminalOrder order s
      = raise .curtailBegin (.order true) (some (min cap 65535 : Nat)) none { s with termOrder := order })
    ∧ (∀ cap, s.termOrder = some cap → order = none → takeTerminalOrder order s
      = raise .curtailEnd (.order true) none none { s with termOrder := order })
    ∧ (s.termOrder.isSome = order.isSome → takeTerminalOrder order s = { s with termOrder := order })
    ∧ (∀ cap body, canTake s → body = wordBytes cap ++ [0, 0] → ∃ status reply u,
      exec (.curtail body) s = taken 0x32 .plain status reply u ∧ u.termOrder = s.termOrder)
    ∧ (∀ host cap, s.hostOrder = some host → s.termOrder = some cap →
      effectiveCap (capsOf s) ≤ host.cap ∧ effectiveCap (capsOf s) ≤ cap)

/-- PIN_PRESENCE, UNPIN_PRESENCE, FLUSH_PRESENCE (R107, R108, R109). The bytes of a request are laid out as log 8
says. -/
def Obligations.PresenceRequestsPlaceAndRemoveEntries : Prop :=
  ∀ s : State, slotWf s.presence = true →
    (∀ z r, canConfigure s → isZone z → slotUsed s.config.zones z = true → slotGet s.zones z = some r →
      entrySlot s z .host = none →
      ∃ u r', exec (.pinPresence [byteOf z]) s = taken 0x33 .configuring .ok [] u
        ∧ u.config = { s.config with pins := s.config.pins ++ [z] }
        ∧ (∃ e ∈ u.presence, e.2 = ⟨z, .host, .pinned⟩)
        ∧ slotGet u.zones z = some r'
        ∧ r'.state = (if inZones s.plan.openZones z = true then .occupied else .closed)
        ∧ u = { s with
          config := u.config, presence := u.presence, zones := u.zones, fullReported := u.fullReported
          evictedDoors := u.evictedDoors
          notices := u.notices, lost := u.lost })
    ∧ (∀ z, canConfigure s → isZone z → slotUsed s.config.zones z = true → (entrySlot s z .host).isSome = true →
      exec (.pinPresence [byteOf z]) s = taken 0x33 .configuring .ok [] s)
    ∧ (∀ z slot, canConfigure s → isZone z → slotUsed s.config.zones z = true → entrySlot s z .host = some slot →
      ∃ u, exec (.unpinPresence [byteOf z]) s = taken 0x34 .configuring .ok [] u
        ∧ u.config = { s.config with pins := s.config.pins.filter (fun p => p != z) }
        ∧ u.presence = slotFree s.presence slot
        ∧ u = { s with
          config := u.config, presence := u.presence, zones := u.zones, fullReported := u.fullReported })
    ∧ (∀ z, canConfigure s → isZone z → slotUsed s.config.zones z = true → entrySlot s z .host = none →
      exec (.unpinPresence [byteOf z]) s = taken 0x34 .plain .notFound [] s)
    ∧ (canTake s → ∃ u, exec (.flushPresence [0xFF]) s = taken 0x35 .plain .ok [] u
      ∧ u.presence = s.presence.filter (fun e => !isDynamic e.2)
      ∧ u = { s with presence := u.presence, zones := u.zones, fullReported := u.fullReported })
    ∧ (∀ z, canTake s → isZone z → slotUsed s.config.zones z = true →
      ∃ u, exec (.flushPresence [byteOf z]) s = taken 0x35 .plain .ok [] u
        ∧ u.presence = s.presence.filter (fun e => !(isDynamic e.2 && e.2.zone == z))
        ∧ u = { s with presence := u.presence, zones := u.zones, fullReported := u.fullReported })

/-- R49: the point `p` holds no load that the restart readmits, so that none writes to it again. -/
def Sys2Proof.Claims.spared (s : State) (p : PointRef) : Prop :=
  ∀ k d r, slotGet s.config.loads k = some d → slotGet s.loads k = some r → pointKey d.binding = pointKey p →
    r.controlled = true

/-- R49, R34, R36: the state `v` that a restart of line `l` makes of `s`, before the arbiters grant. A queued write ends
as FAILED with its attempts so far, one in flight with the attempt in flight too (log 32); the time of entry of a node
follows log 43. -/
def Sys2Proof.Claims.lineRestarted (l : LineId) (s v : State) : Prop :=
  let line := getLine s l
  let left := getLine v l
  let pointOf := fun (e : QueueEntry) => (⟨busOf l, e.node, e.point⟩ : PointRef)
  let failed := fun (p : PointRef) (tries : Nat) => ∀ q, getPoint s p = some q → spared s p →
    ∃ q', getPoint v p = some q' ∧ q'.lastWrite = .failed ∧ q'.tries = tries
  let waits := fun (p : PointRef) => (⟨p.addr, p.point⟩ : NodePoint) ∈ line.oneOffs ∨ ∃ x count,
    line.inFlight = some x ∧ x.voided = false ∧ x.node = p.addr ∧ x.work = .readPoints p.point count true
  left = { left with state := .ok, errors := 0, fetch := [], oneOffs := [], inFlight := none, scan := line.scan }
  ∧ (∀ addr n, slotGet line.nodes addr = some n → slotGet left.nodes addr = some (if n.state = .service then
      { n with score := 0 }
    else { n with
      state := .unprobed, score := 0, goodProbes := 0, waiting := 0, entered := some s.now, probeDue := some s.now }))
  ∧ (∀ e ∈ left.queue, e.origin = .internal ∧ e.tries = 0 ∧ ¬ spared s (pointOf e))
  ∧ (∀ before e after, line.queue = before ++ e :: after →
    (∀ x ∈ after, pointKey (pointOf x) ≠ pointKey (pointOf e)) → failed (pointOf e) e.tries)
  ∧ (∀ x e, line.inFlight = some x → x.voided = false → x.work = .writePoint e →
    (∀ y ∈ line.queue, pointKey (pointOf y) ≠ pointKey (pointOf e)) → failed (pointOf e) (e.tries + 1))
  ∧ (∀ p q, p.bus = busOf l → waits p → getPoint s p = some q →
    ∃ q', getPoint v p = some q' ∧ q'.oneOffWaiting = false ∧ q'.status ≠ .pending)
  ∧ (∀ p q, p.bus = busOf l → slotUsed line.nodes p.addr = true → pointDefined s.config p = true →
    getPoint s p = some q → ∃ q', getPoint v p = some q' ∧ q'.value = q.value
      ∧ (q.status = .fresh ∨ q.status = .stale ∨ q.status = .service → q'.status = .stale)
      ∧ (q.status = .neverRead → q'.status = .neverRead))
  ∧ (line.state ≠ .ok →
    (⟨.lineOk, s.now, .line l, some 0, none⟩ : Notice) ∈ v.notices ∨ s.lost < v.lost ∨ v.lost = 255)
  ∧ (line.state = .ok → ∀ n ∈ v.notices, n.subject = .line l → n ∈ s.notices)
  ∧ (∀ other, other ≠ l → getLine v other = getLine s other)
  ∧ v = { s with
    lineA := v.lineA, lineB := v.lineB, points := v.points, doors := v.doors, zones := v.zones
    presence := v.presence, fullReported := v.fullReported
    evictedDoors := v.evictedDoors, loads := v.loads, notices := v.notices, lost := v.lost }

/-- SET_NODE_SERVICE (R43): ON takes a node to SERVICE, OFF takes a SERVICE node to UNPROBED with score 0.
A request for what already stands moves no node; both arbiters grant at its end, as at the end of every command that can
bring work (log 39). LINE_RESTART (R49): the line is empty of work and OK, its nodes UNPROBED but for those in
SERVICE, its writes FAILED, its reads ended, its points STALE (logs 32 and 43). The bytes of a request are laid out as
log 8 says. -/
def Obligations.ServiceAndRestartMoveNodes : Prop :=
  (∀ (l : LineId) (addr : Nat) (n : NodeRec) (s : State), canTake s → addr ≤ 255 →
    slotGet (getLine s l).nodes addr = some n →
    (n.state ≠ .service → ∃ u n', exec (.setNodeService [byteOf l.ctorIdx, byteOf addr, 0]) s
        = taken 0x36 .plain .ok [] u
      ∧ slotGet (getLine u l).nodes addr = some n' ∧ n'.state = .service ∧ n'.score = n.score ∧ n'.entered = some s.now
      ∧ contactOf u (busOf l) addr = .inService ∧ u.config = s.config ∧ u.store = s.store)
    ∧ (n.state = .service → ∃ u n', exec (.setNodeService [byteOf l.ctorIdx, byteOf addr, 1]) s
        = taken 0x36 .plain .ok [] u
      ∧ slotGet (getLine u l).nodes addr = some n' ∧ n'.state = .unprobed ∧ n'.score = 0 ∧ n'.entered = some s.now
      ∧ addr ∉ (getLine u l).fetch ∧ (∀ q ∈ (getLine u l).oneOffs, q.node ≠ addr)
      ∧ u.config = s.config ∧ u.store = s.store)
    ∧ (n.state = .service → exec (.setNodeService [byteOf l.ctorIdx, byteOf addr, 0]) s
      = taken 0x36 .plain .ok [] (grantLines s))
    ∧ (n.state ≠ .service → exec (.setNodeService [byteOf l.ctorIdx, byteOf addr, 1]) s
      = taken 0x36 .plain .ok [] (grantLines s)))
  ∧ (∀ (l : LineId) (s : State), canTake s → slotWf s.config.loads = true →
    ∃ v, exec (.lineRestart [byteOf l.ctorIdx]) s = taken 0x37 .plain .ok [] (grantLines v) ∧ lineRestarted l s v)

/-- WRITE_POINT and FETCH_POINT (R74, R75, R35, R34); a write for a point that a queued entry already carries
replaces its value and starts its tries afresh, in its place and with its origin, and any other joins the end of
the queue. A new HOST entry is answered BUSY while the queue holds eight. A one-off read in flight has left the list, so
a further one for its point is taken (log 38). The bytes of a request are laid out as log 8 says. -/
def Obligations.PointRequestsQueueTheirWork : Prop :=
  (∀ (p : PointRef) (s : State), canTake s → isPoint p → pointDefined s.config p = true →
    (∀ value, value ≤ 65535 → isBound s.config p = true →
      exec (.writePoint (pointBytes p ++ wordBytes value)) s = taken 0x38 .plain .owned [] s)
    ∧ (∀ value, value ≤ 65535 → isBound s.config p = false → p.bus = .t →
      exec (.writePoint (pointBytes p ++ wordBytes value)) s = taken 0x38 .plain .conflict [] s)
    ∧ (∀ (l : LineId) value, value ≤ 65535 → isBound s.config p = false → p.bus = busOf l →
      (hostQueueFull p.addr p.point (getLine s l).queue = true →
        exec (.writePoint (pointBytes p ++ wordBytes value)) s = taken 0x38 .plain .busy [] s)
      ∧ (hostQueueFull p.addr p.point (getLine s l).queue = false →
        exec (.writePoint (pointBytes p ++ wordBytes value)) s = taken 0x38 .plain .accepted []
          (grantLines { setLine s l { getLine s l with
            queue := joinQueue p.addr p.point value .host (getLine s l).queue } with
            points := slotChange (fun r => { r with lastWrite := .queued }) s.points (pointKey p) })))
    ∧ (p.bus = .t → exec (.fetchPoint (pointBytes p)) s = taken 0x39 .plain .accepted [] s)
    ∧ (∀ l : LineId, p.bus = busOf l → (isDown (getLine s l) = true ∨ nodeWorked (getLine s l) p.addr = false) →
      exec (.fetchPoint (pointBytes p)) s = taken 0x39 .plain .conflict [] s)
    ∧ (∀ l : LineId, p.bus = busOf l → isDown (getLine s l) = false → nodeWorked (getLine s l) p.addr = true →
      (⟨p.addr, p.point⟩ : NodePoint) ∈ (getLine s l).oneOffs →
      exec (.fetchPoint (pointBytes p)) s = taken 0x39 .plain .accepted [] s)
    ∧ (∀ l : LineId, p.bus = busOf l → isDown (getLine s l) = false → nodeWorked (getLine s l) p.addr = true →
      (⟨p.addr, p.point⟩ : NodePoint) ∉ (getLine s l).oneOffs →
      (16 ≤ (getLine s l).oneOffs.length → exec (.fetchPoint (pointBytes p)) s = taken 0x39 .plain .busy [] s)
      ∧ ((getLine s l).oneOffs.length < 16 → exec (.fetchPoint (pointBytes p)) s = taken 0x39 .plain .accepted []
        (grantLines { setLine s l { getLine s l with
          oneOffs := (getLine s l).oneOffs ++ [⟨p.addr, p.point⟩] } with
          points := slotChange (fun r => { r with
            oneOffWaiting := true
            status := if r.status = .neverRead then .pending else r.status }) s.points (pointKey p) }))))
  ∧ (∀ (node point value : Nat) (origin : Origin) (queue : List QueueEntry),
    (∀ before e after, queue = before ++ e :: after → e.node = node → e.point = point →
      (queue.map fun e => (e.node, e.point)).Nodup →
      joinQueue node point value origin queue = before ++ ⟨node, point, value, e.origin, 0⟩ :: after)
    ∧ ((∀ e ∈ queue, ¬ (e.node = node ∧ e.point = point)) →
      joinQueue node point value origin queue = queue ++ [⟨node, point, value, origin, 0⟩]))
  ∧ (∀ (node point : Nat) (queue : List QueueEntry), hostQueueFull node point queue = true ↔
    (∀ e ∈ queue, ¬ (e.node = node ∧ e.point = point)) ∧ 8 ≤ (queue.filter fun e => e.origin == .host).length)

/-! ## Timers of the mode controller -/

/-- SUPERVISION_TIMER_EXPIRES, RELEASE_TIMER_EXPIRES (R186, R189, R190, R198): supervision lost takes RUN to
STANDALONE, or a return mode with it; the release takes EMERGENCY to the return mode. A timer that does not run
does nothing, and neither does an expiry that a restart has overtaken. An expiry acts once its time has come (log 2). -/
def Obligations.ModeTimersExpire : Prop :=
  ∀ s : State, s.powered = true →
    (∀ t, s.supervisionAt = some t → t ≤ s.now → s.mode = .run → exec .supervisionTimerExpires s
      = .next (raise .modeChanged (.mode .standalone) (some 2) (some 5)
        { s with mode := .standalone, supervisionAt := none }))
    ∧ (∀ t, s.supervisionAt = some t → t ≤ s.now → s.mode = .emergency → s.returnMode = some .run →
      exec .supervisionTimerExpires s
        = .next { s with returnMode := some .standalone, supervisionAt := none })
    ∧ (∀ t m e, s.releaseAt = some t → t ≤ s.now → s.returnMode = some m → s.emergencyAt = some e →
      exec .releaseTimerExpires s
      = .next (raise .modeChanged (.mode m) (some 4) (some 8)
        { raise .emergencyEnd .none (some m.ctorIdx) (some (min ((s.now - e) / 1000) 65535 : Nat))
          { s with mode := m, returnMode := none, releaseAt := none } with
          emergencyAt := none }))
    ∧ (s.supervisionAt = none → exec .supervisionTimerExpires s = .next s)
    ∧ (s.releaseAt = none → exec .releaseTimerExpires s = .next s)
    ∧ (∀ t, s.supervisionAt = some t → s.now < t → exec .supervisionTimerExpires s = .next s)
    ∧ (∀ t, s.releaseAt = some t → s.now < t → exec .releaseTimerExpires s = .next s)

/-! ## The field lines -/

/-- R122: the record of a load whose node is lost at `now`. -/
def Sys2Proof.Claims.lostLoad (now nodeHold : Nat) (d : LoadDef) (r : LoadRec) : LoadRec :=
  { r with
    controlled := false
    unreachableSince := some now
    assumed := some (if nodeHold = 0 then d.fallback else r.applied)
    holdRunning := decide (nodeHold ≠ 0) }

/-- R46, R47: line `l` of `s`, on which nothing is in flight, has fallen by idle noise in `t`: LINE_DOWN, the line's lists
emptied, its points STALE, the doors of its nodes UNKNOWN and their loads UNCONTROLLED. The notices of a full queue may
be lost (R199). -/
def Sys2Proof.Claims.lineFallen (l : LineId) (s t : State) : Prop :=
  let line := getLine s l
  let told := fun (kind : NoticeKind) (subject : Subject) (first second : Option Int) =>
    (⟨kind, s.now, subject, first, second⟩ : Notice) ∈ t.notices ∨ s.lost < t.lost ∨ t.lost = 255
  let lost := fun (p : PointRef) => p.bus = busOf l
    ∧ (contactOf s p.bus p.addr = .inContact ∨ contactOf s p.bus p.addr = .unconfirmed)
  getLine t l = { line with
    state := .down (.resting (s.now + 10000)), errors := 255, noiseCounted := true, fetch := [], oneOffs := [] }
  ∧ told .lineDown (.line l) (some 255) none
  ∧ (∀ p q, p.bus = busOf l → slotUsed line.nodes p.addr = true → pointDefined s.config p = true →
    getPoint s p = some q → ∃ q', getPoint t p = some q'
      ∧ q' = { q with status := q'.status, oneOffWaiting := q'.oneOffWaiting }
      ∧ (q.status = .fresh ∨ q.status = .stale ∨ q.status = .service → q'.status = .stale)
      ∧ (q.status = .neverRead → q'.status = .neverRead)
      ∧ ((⟨p.addr, p.point⟩ : NodePoint) ∈ line.oneOffs → q'.oneOffWaiting = false
        ∧ (q.status = .pending → q'.status = .neverRead)))
  ∧ (∀ n d r, slotGet s.config.doors n = some d → slotGet s.doors n = some r → lost d.binding →
    (∃ r', slotGet t.doors n = some r' ∧ r'.state = .unknown)
    ∧ (r.state ≠ .unknown → told .doorUnknown (.door n) (some r.state.ctorIdx) (some UnknownCause.stalePoint.ctorIdx)
      ∨ told .doorUnknown (.door n) (some r.state.ctorIdx) (some UnknownCause.unreachable.ctorIdx)))
  ∧ (∀ k d r, slotGet s.config.loads k = some d → slotGet s.loads k = some r → lost d.binding → r.controlled = true →
    slotGet t.loads k = some (lostLoad s.now s.config.budget.nodeHold d r))
  ∧ (∀ other, other ≠ l → getLine t other = getLine s other)
  ∧ t = { s with
    lineA := t.lineA, lineB := t.lineB, points := t.points, doors := t.doors, presence := t.presence
    loads := t.loads, notices := t.notices, lost := t.lost }

/-- R48, R123: the state `v` in which line `l`, DOWN in `s`, has recovered, before the arbiters grant: LINE_OK, its nodes
UNPROBED but for those in SERVICE, whose scan entries are due at once, its queue kept but for what readmitted loads
write, and these CONTROLLED. A node's time of entry follows log 43. -/
def Sys2Proof.Claims.lineRecovered (l : LineId) (s v : State) : Prop :=
  let line := getLine s l
  let left := getLine v l
  let identity := fun (e : QueueEntry) => (e.node, e.point, e.origin)
  let inService := fun (addr : Nat) => ∃ n, slotGet line.nodes addr = some n ∧ n.state = .service
  left = { line with state := .ok, errors := 0, nodes := left.nodes, scan := left.scan, queue := left.queue }
  ∧ ((⟨.lineOk, s.now, .line l, some 0, none⟩ : Notice) ∈ v.notices ∨ s.lost < v.lost ∨ v.lost = 255)
  ∧ (∀ addr n, slotGet line.nodes addr = some n → slotGet left.nodes addr = some (if n.state = .service then
      { n with score := 0 }
    else { n with
      state := .unprobed, score := 0, goodProbes := 0, entered := some s.now, probeDue := some s.now }))
  ∧ (∀ addr first x, first ≤ 15 → slotGet line.scan (scanKey addr first) = some x →
    (inService addr → slotGet left.scan (scanKey addr first) = some { x with due := s.now })
    ∧ (¬ inService addr → slotGet left.scan (scanKey addr first) = some x))
  ∧ line.queue.map identity <+: left.queue.map identity
  ∧ (∀ k d r n, slotGet s.config.loads k = some d → slotGet s.loads k = some r → d.binding.bus = busOf l →
    slotGet line.nodes d.binding.addr = some n → n.state ≠ .service →
    ∃ r', slotGet v.loads k = some r' ∧ r'.controlled = true ∧ (r.controlled = true → r' = r))
  ∧ (∀ other, other ≠ l → getLine v other = getLine s other)
  ∧ v = { s with
    lineA := v.lineA, lineB := v.lineB, points := v.points, doors := v.doors, presence := v.presence
    loads := v.loads, notices := v.notices, lost := v.lost }

/-- LINE_REST_END, LISTEN_WINDOW_END, IDLE_NOISE, FIRST_REPLY_CHARACTER (R25, R28, R46, R48): a DOWN line rests,
listens, and recovers after 32 quiet windows; noise on an idle line is one line fault until the next transaction;
the first character of a reply ends the wait for one. Noise during a transaction has no effect (log 30). An expiry acts
once its time has come (log 2). Noise in a listening window marks it (log 28). LINE_DOWN comes before the DOOR_UNKNOWN
notices that the lost points and nodes bring (log 21); at a recovery both arbiters grant at the end (log 39). -/
def Obligations.LineEventsMoveTheLine : Prop :=
  ∀ (l : LineId) (s : State), s.powered = true →
    (∀ ends, (getLine s l).state = .down (.resting ends) → ends ≤ s.now → exec (.lineRestEnd l) s
      = .next (setLine s l
        { getLine s l with state := .down (.listening (ends + 50) 0 false) }))
    ∧ (∀ ends quiet, (getLine s l).state = .down (.listening ends quiet true) → ends ≤ s.now →
      exec (.listenWindowEnd l) s = .next (setLine s l
        { getLine s l with state := .down (.listening (ends + 50) 0 false) }))
    ∧ (∀ ends quiet, (getLine s l).state = .down (.listening ends quiet false) → quiet + 1 < 32 → ends ≤ s.now →
      exec (.listenWindowEnd l) s = .next (setLine s l
        { getLine s l with state := .down (.listening (ends + 50) (quiet + 1) false) }))
    ∧ (∀ ends quiet, (getLine s l).state = .down (.listening ends quiet false) → 32 ≤ quiet + 1 → ends ≤ s.now →
      ∃ t, exec (.listenWindowEnd l) s = .next t ∧ t.now = s.now ∧ (getLine t l).state = .ok
        ∧ (getLine t l).errors = 0
        ∧ (slotWf s.config.loads = true → ∃ v, t = grantLines v ∧ lineRecovered l s v)
        ∧ ∀ addr n, slotGet (getLine s l).nodes addr = some n → ∃ n', slotGet (getLine t l).nodes addr = some n'
          ∧ n'.score = 0 ∧ n'.state = (if n.state = .service then .service else .unprobed))
    ∧ (∀ ends quiet heard, (getLine s l).state = .down (.listening ends quiet heard) → exec (.idleNoise l) s
      = .next (setLine s l { getLine s l with state := .down (.listening ends quiet true) }))
    ∧ (∀ ends, (getLine s l).state = .down (.resting ends) → exec (.idleNoise l) s = .next s)
    ∧ (isDown (getLine s l) = false → (getLine s l).inFlight = none → (getLine s l).noiseCounted = false →
      ((getLine s l).errors + 8 < 96 → (getLine s l).state = .ok → exec (.idleNoise l) s
        = .next (setLine s l { getLine s l with noiseCounted := true, errors := (getLine s l).errors + 8 }))
      ∧ (96 ≤ (getLine s l).errors + 8 → (getLine s l).errors + 8 ≤ 255 → (getLine s l).state = .ok →
        exec (.idleNoise l) s = .next (raise .lineWarn (.line l) (some ((getLine s l).errors + 8 : Nat)) none
          (setLine s l { getLine s l with
            noiseCounted := true, errors := (getLine s l).errors + 8, state := .warn })))
      ∧ (96 ≤ (getLine s l).errors + 8 → (getLine s l).errors + 8 ≤ 255 → (getLine s l).state = .warn →
        exec (.idleNoise l) s
        = .next (setLine s l { getLine s l with noiseCounted := true, errors := (getLine s l).errors + 8 }))
      ∧ (255 < (getLine s l).errors + 8 → ∃ t, exec (.idleNoise l) s = .next t ∧ lineFallen l s t))
    ∧ (isDown (getLine s l) = false → (getLine s l).noiseCounted = true ∨ (getLine s l).inFlight ≠ none →
      exec (.idleNoise l) s = .next s)
    ∧ (∀ x, (getLine s l).inFlight = some x → exec (.firstReplyCharacter l) s
      = .next (setLine s l { getLine s l with inFlight := some { x with phase := .collecting } }))

/-- R39, R40, R41, R42: the score and the state of a node after a transaction addressed to it. The notice of a change of
state stands in `TransactionsEndWithTheirOutcome`. -/
def Obligations.NodeScoresAndStatesFollowOutcomes : Prop :=
  ∀ (now : Nat) (work : TxnWork) (outcome : TxnOutcome) (reply : Option GoodReply) (n : NodeRec),
    let n' := nodeAfter now work outcome reply n
    let score := match outcome with
      | .noReply => min (n.score + 4) 63
      | .badCheck => min (n.score + 3) 63
      | .malformed => min (n.score + 2) 63
      | .broken => min (n.score + 2) 63
      | .good => n.score - 1
    n'.lastOutcome = some outcome
    ∧ (work ≠ .probe ∨ outcome ≠ .good ∨ (n.state ≠ .unprobed ∧ n.state ≠ .silent) → n'.score = score)
    ∧ (n.state = .service → n'.state = .service)
    ∧ (n.state = .online → n'.state = if 40 ≤ score then .silent else if 16 ≤ score then .degraded else .online)
    ∧ (n.state = .degraded → n'.state = if 40 ≤ score then .silent else if score ≤ 8 then .online else .degraded)
    ∧ (n.state = .unprobed → work = .probe → outcome = .good → n'.state = .online ∧ n'.score = 0)
    ∧ (n.state = .unprobed → work ≠ .probe ∨ outcome ≠ .good →
      n'.state = if 40 ≤ score then .silent else .unprobed)
    ∧ (n.state = .silent → work = .probe → outcome = .good → 2 ≤ n.goodProbes →
      n'.state = .online ∧ n'.score = 8 ∧ n'.goodProbes = 0)
    ∧ (n.state = .silent → work = .probe → outcome = .good → n.goodProbes < 2 →
      n'.state = .silent ∧ n'.score = score ∧ n'.goodProbes = n.goodProbes + 1)
    ∧ (n.state = .silent → work = .probe → outcome ≠ .good → n'.state = .silent ∧ n'.goodProbes = 0)
    ∧ (n.state ≠ .silent → n'.state = .silent → n'.probeDue = some (now + 5000))

/-- R27, R68, R75: from `s` to `t` the content of a good reply `g` to transaction `x` is delivered, the values of a read
from its first point upward, the events of a fetch from the oldest on. `u` is the state that the delivery starts from,
after the node has taken the outcome. -/
def Sys2Proof.Claims.contentTaken (l : LineId) (x : Txn) (g : GoodReply) (s t : State) : Prop :=
  let pointOf := fun (first i : Nat) => (⟨busOf l, x.node, first + i⟩ : PointRef)
  ∃ u, contactOf u (busOf l) x.node = contactOf t (busOf l) x.node
    ∧ u = { s with
      lineA := u.lineA, lineB := u.lineB, points := u.points, doors := u.doors, zones := u.zones
      presence := u.presence, fullReported := u.fullReported
      evictedDoors := u.evictedDoors, loads := u.loads, notices := u.notices, lost := u.lost }
    ∧ (contactOf s (busOf l) x.node = contactOf t (busOf l) x.node → u = { s with
      lineA := u.lineA, lineB := u.lineB, notices := u.notices, lost := u.lost })
    ∧ (∀ first count oneOff vs, x.work = .readPoints first count oneOff → g.content = .values vs →
      let v := forEach vs.zipIdx (fun e => deliverRead (pointOf first e.2) (e.1 : Nat)) u
      t = { v with
        lineA := t.lineA, lineB := t.lineB, points := t.points, notices := t.notices, lost := t.lost }
      ∧ ∀ i value r, vs[i]? = some value → getPoint s (pointOf first i) = some r →
        ∃ r', getPoint t (pointOf first i) = some r'
          ∧ (isOutput s.config (pointOf first i) = true → r'.readback = some value ∧ r'.value = r.value)
          ∧ (isOutput s.config (pointOf first i) = false → r'.value = some (value : Int) ∧ r'.time = some s.now
            ∧ r'.status = match contactOf t (busOf l) x.node with
              | .inContact => .fresh
              | .inService => .service
              | _ => .stale))
    ∧ ∀ es, x.work = .fetchEvents → g.content = .events es → t = { forEach es (takeEvent (busOf l) x.node) u with
      lineA := t.lineA, lineB := t.lineB, notices := t.notices, lost := t.lost }

/-- R31: the fetch list after a good reply: a node that the reply leaves worked joins at the tail with events waiting,
and leaves with none; the arbiter may take the head at once. -/
def Sys2Proof.Claims.fetchListed (l : LineId) (x : Txn) (g : GoodReply) (s t : State) : Prop :=
  nodeWorked (getLine t l) x.node = true →
    let list := (getLine s l).fetch
    let waiting := if g.waiting = 0 then list.filter (fun a => a != x.node)
      else if x.node ∈ list then list else list ++ [x.node]
    (getLine t l).fetch = waiting ∨ ∃ addr y, waiting = addr :: (getLine t l).fetch
      ∧ (getLine t l).inFlight = some y ∧ y.node = addr ∧ y.work = .fetchEvents

/-- R40, R41, R42: the notice of a node that has gone from record `n` to `n'`: one where its state has changed, with the
new score and the state left, and none for any other node. The notice of a full queue may be lost (R199). -/
def Sys2Proof.Claims.nodeNoticed (l : LineId) (addr : Nat) (n n' : NodeRec) (s t : State) : Prop :=
  let kind : NoticeKind := match n'.state with
    | .degraded => .nodeDegraded
    | .silent => .nodeSilent
    | _ => .nodeOnline
  let notice : Notice := ⟨kind, s.now, .node l addr, some (n'.score : Int), some n.state.ctorIdx⟩
  (n'.state ≠ n.state → notice ∈ t.notices ∨ s.lost < t.lost ∨ t.lost = 255)
  ∧ ∀ m ∈ t.notices, ∀ l' addr', m.subject = .node l' addr' → m ∈ s.notices ∨ (n'.state ≠ n.state ∧ m = notice)

/-- R46, R47: the state of a line that was not DOWN after a transaction, with its notice. The notice of a full queue may be
lost (R199). -/
def Sys2Proof.Claims.lineNoticed (l : LineId) (outcome : TxnOutcome) (s t : State) : Prop :=
  let line := getLine s l
  let left := getLine t l
  let falls := outcome = .broken ∧ 255 < line.errors + 8
  let told := fun (kind : NoticeKind) (count : Nat) =>
    (⟨kind, s.now, .line l, some (count : Int), none⟩ : Notice) ∈ t.notices ∨ s.lost < t.lost ∨ t.lost = 255
  (falls → left.state = .down (.resting (s.now + 10000)) ∧ told .lineDown 255)
  ∧ (outcome = .noReply → left.state = line.state)
  ∧ (¬ falls → outcome ≠ .noReply →
    left.state = (if 96 ≤ left.errors then .warn else .ok)
    ∧ (left.state ≠ line.state → told (if 96 ≤ left.errors then .lineWarn else .lineOk) (min left.errors 65535)))
  ∧ (left.state = line.state → ∀ m ∈ t.notices, ∀ l', m.subject = .line l' → m ∈ s.notices)

/-- REPLY_TIMEOUT, REPLY_CUTOFF, REPLY_SILENCE (R25, R26, R27, R31, R36, R38, R46, R75): a transaction ends with its
outcome, which reaches its node, its line's error count and, for a write, the point table or the queue; a good reply
delivers its values or events; a one-off read waits no longer; a voided transaction ends without effect. A failed write
that would come back as a ninth HOST entry ends as FAILED (log 36). A value from a node that is neither IN_CONTACT nor
IN_SERVICE is STALE (log 12). REPLY_SILENCE and REPLY_CUTOFF end a transaction that is still waiting, too (log 30). The
timeout acts once its time has come (log 2). -/
def Obligations.TransactionsEndWithTheirOutcome : Prop :=
  ∀ (l : LineId) (x : Txn) (s : State), s.powered = true → (getLine s l).inFlight = some x →
    (x.voided = true →
      let u := setLine s l { getLine s l with inFlight := none, noiseCounted := false }
      exec (.replyCutoff l) s = .next (grantLines u)
      ∧ (∀ bytes e, exec (.replySilence l bytes e) s = .next (grantLines u))
      ∧ ∀ expiry, x.phase = .waiting expiry → expiry ≤ s.now → exec (.replyTimeout l) s = .next (grantLines u))
    ∧ (∀ n d, x.voided = false → isDown (getLine s l) = false → slotGet (getLine s l).nodes x.node = some n →
      slotGet (lineCfg s.config l).nodes x.node = some d →
      let ended := fun (c : Instr) (outcome : TxnOutcome) (reply : Option GoodReply) =>
        ∃ t n', exec c s = .next t ∧ t.now = s.now ∧ slotGet (getLine t l).nodes x.node = some n'
          ∧ n' = { nodeAfter s.now x.work outcome reply n with probeDue := n'.probeDue }
          ∧ (outcome = .noReply → (getLine t l).errors = (getLine s l).errors)
          ∧ (outcome = .good ∨ outcome = .badCheck ∨ outcome = .malformed →
            (getLine t l).errors = (getLine s l).errors - 1)
          ∧ (outcome = .broken → (getLine t l).errors = min ((getLine s l).errors + 8) 255)
          ∧ nodeNoticed l x.node n n' s t ∧ lineNoticed l outcome s t
          ∧ (∀ e r, x.work = .writePoint e → getPoint s ⟨busOf l, e.node, e.point⟩ = some r →
            ∃ r', getPoint t ⟨busOf l, e.node, e.point⟩ = some r'
            ∧ (outcome = .good → r'.lastWrite = .ok ∧ r'.tries = e.tries + 1)
            ∧ (outcome ≠ .good → 2 ≤ e.tries → r'.lastWrite = .failed ∧ r'.tries = 3)
            ∧ (outcome ≠ .good → e.tries < 2 → (getLine s l).queue.any (entryFor e.node e.point) = false →
              let back : QueueEntry := { e with tries := e.tries + 1 }
              let flies := ∃ y, (getLine t l).inFlight = some y ∧ y.work = .writePoint back
              let returns := back ∈ (getLine t l).queue ∨ flies
              (e.origin = .internal ∨ hostEntries (getLine s l).queue < 8 → returns)
              ∧ (hostEntries (getLine s l).queue ≤ 8 → isDown (getLine t l) = false →
                nodeWorked (getLine t l) e.node = true → flies)
              ∧ (returns ∨ (r'.lastWrite = .failed ∧ r'.tries = e.tries + 1))
              ∧ (hostEntries (getLine s l).queue ≤ 8 → hostEntries (getLine t l).queue ≤ 8))
            ∧ (outcome ≠ .good → e.tries < 2 → ∀ q ∈ (getLine s l).queue, q.node = e.node → q.point = e.point →
              q ∈ (getLine t l).queue ∨ ∃ y, (getLine t l).inFlight = some y ∧ y.work = .writePoint q))
          ∧ (∀ first count r, x.work = .readPoints first count true →
            getPoint s ⟨busOf l, x.node, first⟩ = some r →
            ∃ r', getPoint t ⟨busOf l, x.node, first⟩ = some r' ∧ r'.oneOffWaiting = false ∧ r'.status ≠ .pending
              ∧ (outcome ≠ .good → r'.value = r.value))
      ended (.replyCutoff l) .broken none
      ∧ (∀ expiry, x.phase = .waiting expiry → expiry ≤ s.now → ended (.replyTimeout l) .noReply none)
      ∧ ∀ bytes e, ended (.replySilence l bytes e) (judgeReply d x.node x.work bytes e).1
        (judgeReply d x.node x.work bytes e).2
      ∧ ∀ g, judgeReply d x.node x.work bytes e = (.good, some g) → ∃ t, exec (.replySilence l bytes e) s = .next t
        ∧ contentTaken l x g s t ∧ fetchListed l x g s t)
    ∧ (x.phase = .collecting → exec (.replyTimeout l) s = .next s)

/-- R29: what the arbiter of a free line grants: the first queued write whose node is worked, then the head of the
fetch list, the probe due longest, the first one-off read, and the first due scan entry. SCAN_PERIOD_EXPIRES and
PROBE_TIMER_EXPIRES let both arbiters grant once their time has come (log 2). The sending time is rounded up to the
millisecond (log 16). -/
def Obligations.TheArbiterGrantsInOrder : Prop :=
  (∀ (now : Nat) (cfg : LineCfg) (line : Line),
    let grantOf := fun (node : Nat) (work : TxnWork) (rest : Line) => { rest with
      noiseCounted := false
      inFlight := some ⟨node, work, .waiting (now
        + ceilDiv ((requestFrame node work).length * 20000) (bitsPerSecond cfg.bitRate) + cfg.timeout), false⟩ }
    (isDown line = true ∨ line.inFlight ≠ none → grantLine now cfg line = line)
    ∧ (isDown line = false → line.inFlight = none →
      (∀ before e after, line.queue = before ++ e :: after → (∀ b ∈ before, nodeWorked line b.node = false) →
        nodeWorked line e.node = true →
        grantLine now cfg line = grantOf e.node (.writePoint e) { line with queue := before ++ after })
      ∧ ((∀ e ∈ line.queue, nodeWorked line e.node = false) →
        (∀ addr rest, line.fetch = addr :: rest → nodeWorked line addr = true →
          grantLine now cfg line = grantOf addr .fetchEvents { line with fetch := rest })
        ∧ (fetchHead line = none →
          (∀ addr n t, (addr, n) ∈ line.nodes → slotWf line.nodes = true → n.probeDue = some t → t ≤ now →
            (∀ e ∈ line.nodes, ∀ t', e.2.probeDue = some t' → t < t' ∨ (t = t' ∧ addr ≤ e.1)) →
            grantLine now cfg line = grantOf addr .probe { line with nodes := slotChange (fun n => { n with
              probeDue := if n.state = .silent then n.probeDue.map (· + 5000) else none }) line.nodes addr })
          ∧ ((∀ e ∈ line.nodes, ∀ t, e.2.probeDue = some t → now < t) →
            (∀ p rest, line.oneOffs = p :: rest → nodeWorked line p.node = true →
              grantLine now cfg line = grantOf p.node (.readPoints p.point 1 true) { line with oneOffs := rest })
            ∧ (oneOffHead line = none →
              (∀ before e after, cfg.scan = before ++ e :: after →
                (∀ b ∈ before, scanDue now line b = false ∨ nodeWorked line b.node = false) →
                scanDue now line e = true → nodeWorked line e.node = true →
                (∀ b ∈ before, ¬ (b.node = e.node ∧ b.first = e.first)) →
                grantLine now cfg line = grantOf e.node (.readPoints e.first e.count false) { line with
                  scan := slotChange (fun _ => ⟨some now, now + periodMs e.period⟩) line.scan
                    (scanKey e.node e.first) })
              ∧ ((∀ e ∈ cfg.scan, scanDue now line e = false ∨ nodeWorked line e.node = false) →
                grantLine now cfg line = line)))))))
  ∧ ∀ (l : LineId) (s : State), s.powered = true →
    grantLines s = { s with
      lineA := grantLine s.now s.config.lineA s.lineA
      lineB := grantLine s.now s.config.lineB s.lineB }
    ∧ (∀ addr n t, slotGet (getLine s l).nodes addr = some n → n.probeDue = some t → t ≤ s.now →
      exec (.probeTimerExpires l addr) s = .next (grantLines s))
    ∧ (∀ addr first t, slotGet (getLine s l).scan (scanKey addr first) = some t → t.due ≤ s.now →
      exec (.scanPeriodExpires l addr first) s = .next (grantLines s))

/-- The ones' complement sum of numbers, worked as one sum: 0 for nothing but zeros, otherwise what the sum leaves
modulo 65535, with 65535 for 0. -/
def Sys2Proof.Claims.foldedSum (n : Nat) : Nat := if n = 0 then 0 else if n % 65535 = 0 then 65535 else n % 65535

/-- R24: the sum of the words with end-around carry, the check word, and the receiver's test. -/
def Obligations.CheckWordsProtectFrames : Prop :=
  ∀ words : List Word16,
    (wordSum words).toNat = foldedSum (words.map BitVec.toNat).sum
    ∧ (checkWord words).toNat = 65535 - foldedSum (words.map BitVec.toNat).sum
    ∧ (checkPasses words = true ↔ foldedSum (words.map BitVec.toNat).sum = 0xFFFF)
    ∧ checkPasses (checked words) = true
    ∧ (∀ node work, requestFrame node work = checked (requestWords node work))
    ∧ (∀ d node work, words.length ≤ 20 → checkPasses words = false →
      judgeReply d node work (bytesOf words) false = (.badCheck, none))

/-- R22, R23, R26, R203: a reply sent in the words of its function, its check word at the end, is judged good, with
every value it was sent with. -/
def Obligations.RepliesAreReadAsTheyWereSent : Prop :=
  ∀ (d : NodeDef) (node : Nat) (status : Word16), node ≤ 31 →
    (∀ first count oneOff (vs : List Nat), vs.length = count → count ≤ 16 → (∀ v ∈ vs, v ≤ 65535) →
      judgeReply d node (.readPoints first count oneOff)
        (bytesOf (checked ([BitVec.ofNat 16 (node * 256 + 2), status] ++ vs.map (BitVec.ofNat 16)))) false
        = (.good, some ⟨status.toNat % 256, .values vs⟩))
    ∧ (∀ e : QueueEntry, e.point ≤ 15 → e.value ≤ 65535 →
      judgeReply d node (.writePoint e)
        (bytesOf (checked [BitVec.ofNat 16 (node * 256 + 3), status, BitVec.ofNat 16 e.point,
          BitVec.ofNat 16 e.value])) false
        = (.good, some ⟨status.toNat % 256, .written⟩))
    ∧ (∀ es : List FieldEvent, es.length ≤ 4 → (∀ e ∈ es, e.point ≤ 15 ∧ e.age ≤ 65535 ∧ e.value ≤ 65535) →
      judgeReply d node .fetchEvents
        (bytesOf (checked ([BitVec.ofNat 16 (node * 256 + 4), status, BitVec.ofNat 16 es.length]
          ++ es.flatMap fun e => [BitVec.ofNat 16 e.point, BitVec.ofNat 16 (e.kind.ctorIdx + 1),
            BitVec.ofNat 16 e.age, BitVec.ofNat 16 e.value]))) false
        = (.good, some ⟨status.toNat % 256, .events es⟩))
    ∧ (∀ kind count, kind ≤ 254 → 1 ≤ count → count ≤ 16 → d.count ≤ count → (∀ k, d.kind = some k → k = kind) →
      judgeReply d node .probe
        (bytesOf (checked [BitVec.ofNat 16 (node * 256 + 1), status, BitVec.ofNat 16 kind, BitVec.ofNat 16 count]))
        false
        = (.good, some ⟨status.toNat % 256, .probed ⟨kind, count⟩⟩))

/-! ## Points and events -/

/-- R70: the status that a report of contact state `new` gives a point; `down` says that its line is DOWN. -/
def Sys2Proof.Claims.reportedStatus (new : Contact) (down : Bool) (status : PointStatus) : PointStatus :=
  if status = .neverRead ∨ status = .pending then status
  else if new = .inContact then (if status = .service then .stale else status)
  else if new = .inService ∧ down = false then .service
  else .stale

/-- R44, R70, R72: a change of a node's contact state reaches its points, which keep their value and time, and the doors of
one that goes STALE. A load that the change readmits may write to its point. A contact state that has not changed reaches
nothing. -/
def Sys2Proof.Claims.contactReachesPoints (l : LineId) (addr : Nat) (old : Contact) (s : State) : Prop :=
  let new := contactOf s (busOf l) addr
  let u := reportContact (busOf l) addr old s
  let seen := fun (q : PointRec) => (q.value, q.time, q.status)
  (new = old → u = s)
  ∧ (new ≠ old → slotWf s.config.loads = true → (∀ n, pointCount s.config (busOf l) addr = some n → n ≤ 16) →
    (∀ i q, pointDefined s.config ⟨busOf l, addr, i⟩ = true → getPoint s ⟨busOf l, addr, i⟩ = some q →
      ∃ q', getPoint u ⟨busOf l, addr, i⟩ = some q'
        ∧ q' = { q with status := reportedStatus new (isDown (getLine s l)) q.status, lastWrite := q'.lastWrite }
        ∧ (q.status ≠ .stale → q'.status = .stale → ∀ d ∈ doorsAt s.config ⟨busOf l, addr, i⟩, ∀ x,
          slotGet s.doors d = some x → ∃ x', slotGet u.doors d = some x' ∧ x'.state = .unknown))
    ∧ ∀ k, k / 16 ≠ nodeKey (busOf l) addr → (slotGet u.points k).map seen = (slotGet s.points k).map seen)

/-- R68, R69, R70, R71, R72, STALENESS_TIMER_EXPIRES: how a point takes a value, when and how it goes STALE, and what a
change of its node's contact state makes of it. A value from a node that is neither IN_CONTACT nor IN_SERVICE is STALE
(log 12). Several doors of one point take a value, or its loss, one after another by rising number; R72 gives no order
(log 21). An expiry acts once its time has come (log 2). -/
def Obligations.PointsTakeValuesAndGoStale : Prop :=
  (∀ l addr old s, contactReachesPoints l addr old s)
  ∧ ∀ (p : PointRef) (r : PointRec) (s : State), getPoint s p = some r →
    (∀ v, isOutput s.config p = true → deliverRead p v s = { s with
      points := slotChange (fun r => { r with readback := some v.toNat }) s.points (pointKey p) })
    ∧ (∀ v, isOutput s.config p = false → contactOf s p.bus p.addr = .inContact →
      deliverRead p v s = forEach (doorsAt s.config p) (fun d => doorValue d (v != 0)) { s with
        points := slotChange (fun r => { r with value := some v, status := .fresh, time := some s.now }) s.points
          (pointKey p) })
    ∧ (∀ v, isOutput s.config p = false → contactOf s p.bus p.addr = .inService →
      deliverRead p v s = { s with
        points := slotChange (fun r => { r with value := some v, status := .service, time := some s.now }) s.points
          (pointKey p) })
    ∧ (∀ v, isOutput s.config p = false → contactOf s p.bus p.addr ≠ .inContact →
      contactOf s p.bus p.addr ≠ .inService → deliverRead p v s = { s with
        points := slotChange (fun r => { r with value := some v, status := .stale, time := some s.now }) s.points
          (pointKey p) })
    ∧ (∀ t v, terminalPoint t = p → deliverTerminal t v s
      = forEach (doorsAt s.config p) (fun d => doorValue d (v != 0)) { s with
        points := slotChange (fun r => { r with value := some v, status := .fresh, time := some s.now }) s.points
          (pointKey p) })
    ∧ (∀ period time, scanPeriod s.config p = some period → r.status = .fresh → isOutput s.config p = false →
      r.time = some time → s.powered = true → time + max (3 * period) 2000 ≤ s.now →
      exec (.stalenessTimerExpires p) s
        = .next (forEach (doorsAt s.config p) (fun d => doorUnknown d .stalePoint) { s with
          points := slotChange (fun r => { r with status := .stale }) s.points (pointKey p) }))
    ∧ (s.powered = true →
      scanPeriod s.config p = none ∨ r.status ≠ .fresh ∨ isOutput s.config p = true ∨ r.time = none →
      exec (.stalenessTimerExpires p) s = .next s)

/-- R76, R77, R78, R79, R81: the filter takes an event: its storm window, the first enabled test whose condition
holds, and the record that joins the list of the last 32. A rejected event, or one of a node in SERVICE, does
nothing more; an accepted one is handed to the doors or the zones of its point. A presence event taken under F6 is
handed on marked, and each CLOSED zone raises CLOSED_ZONE_PRESENCE with the zone, the node (R202) and the point, after
what the hand-off itself raises (log 21). -/
def Obligations.TheFilterTakesEveryEvent : Prop :=
  ∀ (bus : Bus) (addr : Nat) (e : FieldEvent) (s : State),
    let p : PointRef := ⟨bus, addr, e.point⟩
    let w : CountWindow := match slotGet s.windows (nodeKey bus addr) with
      | none => ⟨s.now, 1⟩
      | some w => if w.start + 10000 ≤ s.now then ⟨s.now, 1⟩ else ⟨w.start, min (w.count + 1) 65535⟩
    let m := matchSet s p e w.count
    let outcome : FilterOutcome :=
      if m.f1 = true then .rejectedIntegrity
      else if s.config.filter.f2 = true ∧ m.f2 = true then .acceptedService
      else if s.config.filter.f3 = true ∧ m.f3 = true then .rejectedUnbound
      else if s.config.filter.f4 = true ∧ m.f4 = true then .rejectedStorm
      else if s.config.filter.f5 = true ∧ m.f5 = true then .rejectedStale
      else if s.config.filter.f6 = true ∧ m.f6 = true then .acceptedAlert
      else .accepted
    let taken : State := { s with
      windows := slotSet s.windows (nodeKey bus addr) w
      recent := (s.recent ++ [(⟨s.nextSeq, s.now, p, e.kind, e.age, e.value, w.count, m, outcome⟩ : EventRec)]).drop
        (s.recent.length + 1 - 32)
      nextSeq := (s.nextSeq + 1) % 65536 }
    (m.f1 = true ↔ pointDefined s.config p = false
      ∨ (doorsAt s.config p ≠ [] ∧ ¬ (e.kind = .doorOpened ∧ e.value = 1) ∧ ¬ (e.kind = .doorClosed ∧ e.value = 0))
      ∨ (presenceZonesAt s.config p ≠ [] ∧ e.kind ≠ .presence)
      ∨ loadsAt s.config p ≠ [] ∨ isTemperaturePoint s.config p = true ∨ isGasPoint s.config p = true
      ∨ isDaylightPoint s.config p = true)
    ∧ (m.f2 = true ↔ contactOf s bus addr = .inService)
    ∧ (m.f3 = true ↔ doorsAt s.config p = [] ∧ presenceZonesAt s.config p = [])
    ∧ (m.f4 = true ↔ s.config.filter.stormLimit < w.count)
    ∧ (m.f5 = true ↔ s.config.filter.staleLimit * 10 < e.age)
    ∧ (m.f6 = true ↔ e.kind = .presence ∧ ∃ z r, z ∈ presenceZonesAt s.config p ∧ slotGet s.zones z = some r
      ∧ r.state = .closed)
    ∧ (outcome ≠ .accepted → outcome ≠ .acceptedAlert → takeEvent bus addr e s = taken)
    ∧ (outcome = .accepted → e.kind = .doorOpened →
      takeEvent bus addr e s = forEach (doorsAt s.config p) doorOpened taken)
    ∧ (outcome = .accepted → e.kind = .doorClosed →
      takeEvent bus addr e s = forEach (doorsAt s.config p) doorClosed taken)
    ∧ (outcome = .accepted → e.kind = .presence →
      takeEvent bus addr e s = forEach (presenceZonesAt s.config p) (fun z => presenceEvent z p false) taken)
    ∧ (outcome = .acceptedAlert → takeEvent bus addr e s = forEach (presenceZonesAt s.config p) (alertZone p) taken)
    ∧ (∀ (z : Nat) (x : State),
      ((∃ r, slotGet x.zones z = some r ∧ r.state = .closed) →
        alertZone p z x = raise .closedZonePresence (.zone z) (some (bus.ctorIdx * 256 + addr : Nat))
          (some (e.point : Int)) (presenceEvent z p true x))
      ∧ ((∀ r, slotGet x.zones z = some r → r.state ≠ .closed) → alertZone p z x = presenceEvent z p true x))
    ∧ (takeEvent bus addr e s).recent = taken.recent

/-! ## Terminals -/

/-- R62: the terminal curtail order: none while no CURTAIL_IN terminal is active, otherwise the lowest cap of those that
are. A terminal is active while its debounced level is closed. -/
def Sys2Proof.Claims.curtailLaw (s : State) : Prop :=
  let active := fun (t cap : Nat) => 1 ≤ t ∧ t ≤ 16 ∧ functionOf s.config t = .curtailIn cap
    ∧ ∃ r, slotGet s.terminals t = some r ∧ r.debounced = some true
  (terminalOrder s = none ↔ ∀ t cap, ¬ active t cap)
  ∧ ∀ cap, terminalOrder s = some cap ↔ (∃ t, active t cap) ∧ ∀ t other, active t other → cap ≤ other

/-- R140: whether a load whose applied fraction an event has set is commanded. -/
def Sys2Proof.Claims.commandChecked (now : Nat) (r r' : LoadRec) : Prop :=
  let stands := ∃ last, r.lastCommand = some last ∧ now < r.refreshAt ∧ r'.applied < last + 10
    ∧ last < r'.applied + 10 ∧ (r'.applied = 0 ∨ r'.applied = 1000 → r'.applied = last)
  (stands → r'.lastCommand = r.lastCommand ∧ r'.refreshAt = r.refreshAt)
    ∧ (¬ stands → r'.lastCommand = some r'.applied ∧ r'.refreshAt = now + 30000)

/-- R158, R179, R189: the entry into EMERGENCY that terminal `t` brings, from `s` to `x`. `v` is the state in which the
terminal has taken its level and delivered it. EMERGENCY_BEGIN and MODE_CHANGED come first, then what the hand-off to the
loads and the stages raises. -/
def Sys2Proof.Claims.emergencyEntered (t : Nat) (s v x : State) : Prop :=
  let vent := s.config.climate.vent
  let noted := raise .modeChanged (.mode .emergency) (some s.mode.ctorIdx) (some 7)
    (raise .emergencyBegin (.terminal t) (some s.mode.ctorIdx) none v)
  x.mode = .emergency ∧ x.returnMode = some s.mode ∧ x.emergencyAt = some s.now ∧ x.signal = true
  ∧ noted.notices <+: x.notices
  ∧ (∀ k l r, slotGet s.config.loads k = some l → slotGet s.loads k = some r →
    let runs := l.kind = .light ∨ (l.kind = .exhaustFan ∧ vent = .extract)
    let f := if runs then 1000 else 0
    ∃ r', slotGet x.loads k = some r' ∧ commandChecked s.now r r' ∧ r' = { r with
      posted := f
      goal := f
      applied := f
      light := if l.kind = .light then some ⟨.emergency, 1000, 1000⟩ else r.light
      reason := if runs then .emergency else r.reason
      exempt := if runs then true else r.exempt
      lastCommand := r'.lastCommand
      refreshAt := r'.refreshAt })
  ∧ stagesSet s x vent
  ∧ slotGet x.terminals t = slotGet v.terminals t
  ∧ x = { s with
    mode := x.mode, returnMode := x.returnMode, emergencyAt := x.emergencyAt, signal := x.signal, loads := x.loads
    climate := x.climate, lineA := x.lineA, lineB := x.lineB, terminals := x.terminals, points := x.points
    doors := x.doors, zones := x.zones, presence := x.presence, fullReported := x.fullReported
    evictedDoors := x.evictedDoors, notices := x.notices, lost := x.lost }

/-- TERMINAL_INPUT_CHANGE, DEBOUNCE_TIMER_EXPIRES, TERMINAL_REPEAT_DELIVERY, RESTART_TIMER_EXPIRES, ANALOG_CONVERSION
(R55, R56, R57, R59, R61, R62, R63), and the emergency signal at the mode controller (R189, R190), with what an entry
into EMERGENCY makes of the loads and the stages (R158, R179). A change at a
METER_PULSE terminal is its pulse as it closes; at a terminal that is no input it moves the pin alone. Without main
power the pin alone changes (log 6). An expiry acts once its time has come (log 2). A conversion and a pulse set the
pin (log 31). Both arbiters grant at the end of a debounce that takes a level (log 39). -/
def Obligations.TerminalInputsAreDebouncedAndDelivered : Prop :=
  (∀ s : State, curtailLaw s)
  ∧ ∀ (t : Nat) (pin : InputPin) (r : TermRec) (s : State), slotGet s.inputs t = some pin →
    slotGet s.terminals t = some r →
    (exec (.terminalInputChange t pin.closed) s = .next s)
    ∧ (isContactInput (functionOf s.config t) = true → s.powered = true →
      exec (.terminalInputChange t (!pin.closed)) s = .next { s with
        inputs := slotChange (fun p => { p with closed := !pin.closed }) s.inputs t
        terminals := slotChange (fun r => { r with debounceAt := some (s.now + 50) }) s.terminals t })
    ∧ (∀ w, functionOf s.config t = .meterPulse w → s.powered = true →
      (pin.closed = false → exec (.terminalInputChange t true) s = exec (.meterPulse t) s)
      ∧ (pin.closed = true → exec (.terminalInputChange t false) s = .next { s with
        inputs := slotChange (fun p => { p with closed := false }) s.inputs t }))
    ∧ (isContactInput (functionOf s.config t) = false → (∀ w, functionOf s.config t ≠ .meterPulse w) →
      s.powered = true → exec (.terminalInputChange t (!pin.closed)) s = .next { s with
        inputs := slotChange (fun p => { p with closed := !pin.closed }) s.inputs t })
    ∧ (s.powered = false → exec (.terminalInputChange t (!pin.closed)) s = .next { s with
        inputs := slotChange (fun p => { p with closed := !pin.closed }) s.inputs t })
    ∧ (s.powered = true → r.debounceAt = none → exec (.debounceTimerExpires t) s = .next s)
    ∧ (∀ e, s.powered = true → r.debounceAt = some e → e ≤ s.now →
      let u : State := { s with terminals := slotChange (fun r => { r with debounceAt := none }) s.terminals t }
      let v : State := deliverTerminal t (contactValue (functionOf s.config t) pin.closed) { s with
        terminals := slotChange (fun r => { r with debounceAt := none, debounced := some pin.closed }) s.terminals t }
      (r.debounced = some pin.closed → exec (.debounceTimerExpires t) s = .next u)
      ∧ (r.debounced ≠ some pin.closed →
        (functionOf s.config t = .digitalIn → exec (.debounceTimerExpires t) s = .next (grantLines v))
        ∧ (functionOf s.config t = .doorContact ∨ functionOf s.config t = .presenceIn → r.debounced = none →
          exec (.debounceTimerExpires t) s = .next (grantLines v))
        ∧ (functionOf s.config t = .doorContact → r.debounced ≠ none → exec (.debounceTimerExpires t) s
          = .next (grantLines (takeEvent .t 0 ⟨t - 1, if pin.closed then .doorClosed else .doorOpened, 0,
            if pin.closed then 0 else 1⟩ v)))
        ∧ (functionOf s.config t = .presenceIn → r.debounced ≠ none → pin.closed = true →
          exec (.debounceTimerExpires t) s
            = .next (grantLines (takeEvent .t 0 ⟨t - 1, .presence, 0, 1⟩ v)))
        ∧ (functionOf s.config t = .presenceIn → pin.closed = false →
          exec (.debounceTimerExpires t) s = .next (grantLines v))
        ∧ (functionOf s.config t = .restartIn → exec (.debounceTimerExpires t) s
          = .next (grantLines (changeTerminal t (fun x =>
            if pin.closed = false then { x with armed := true, restartAt := none }
            else if r.debounced ≠ none ∧ r.armed = true then { x with restartAt := some (v.now + 2000) }
            else x) v)))
        ∧ (functionOf s.config t = .emergencyIn → pin.closed = false → t ≤ 16 → 1 ≤ t → s.signal = false →
          s.mode ≠ .emergency → s.mode ≠ .start → ∃ x, exec (.debounceTimerExpires t) s = .next x
            ∧ emergencyEntered t s v x)
        ∧ (functionOf s.config t = .emergencyIn → t ≤ 16 → 1 ≤ t →
          let others := ∃ t' r', 1 ≤ t' ∧ t' ≤ 16 ∧ t' ≠ t ∧ functionOf s.config t' = .emergencyIn
            ∧ slotGet s.terminals t' = some r' ∧ r'.debounced = some false
          (pin.closed = true → s.signal = true → ¬ others → s.mode = .emergency →
            exec (.debounceTimerExpires t) s
              = .next (grantLines { v with signal := false, releaseAt := some (s.now + 30000) }))
          ∧ (pin.closed = true → s.signal = true → ¬ others → s.mode ≠ .emergency →
            exec (.debounceTimerExpires t) s = .next (grantLines { v with signal := false }))
          ∧ (pin.closed = true → s.signal = false → ¬ others →
            exec (.debounceTimerExpires t) s = .next (grantLines v))
          ∧ (pin.closed = true → s.signal = true → others → exec (.debounceTimerExpires t) s = .next (grantLines v))
          ∧ (pin.closed = false → s.signal = false → s.mode = .emergency →
            exec (.debounceTimerExpires t) s = .next (grantLines { v with signal := true, releaseAt := none }))
          ∧ (pin.closed = false → s.signal = true → exec (.debounceTimerExpires t) s = .next (grantLines v)))
        ∧ (∀ cap, functionOf s.config t = .curtailIn cap → exec (.debounceTimerExpires t) s
          = .next (grantLines (if terminalOrder v = v.termOrder then v
            else takeTerminalOrder (terminalOrder v) v)))))
    ∧ (∀ e, s.powered = true → r.repeatAt = some e → e ≤ s.now →
      let u : State := { s with
        terminals := slotChange (fun r => { r with repeatAt := some (e + 100) }) s.terminals t }
      (∀ level, isContactInput (functionOf s.config t) = true → r.debounced = some level →
        exec (.terminalRepeatDelivery t) s
          = .next (deliverTerminal t (contactValue (functionOf s.config t) level) u))
      ∧ (isContactInput (functionOf s.config t) = true → r.debounced = none →
        exec (.terminalRepeatDelivery t) s = .next u)
      ∧ (∀ w, functionOf s.config t = .meterPulse w →
        exec (.terminalRepeatDelivery t) s = .next (deliverTerminal t r.power u)))
    ∧ (∀ e, s.powered = true → r.restartAt = some e → e ≤ s.now → exec (.restartTimerExpires t) s = .next { s with
        terminals := slotChange (fun r => { r with restartAt := none }) s.terminals t
        restartRequested := true })
    ∧ (s.powered = true → r.restartAt = none → exec (.restartTimerExpires t) s = .next s)
    ∧ (∀ e use offset span mv, s.powered = true → r.convertAt = some e → e ≤ s.now →
      functionOf s.config t = .analogIn use offset span →
      exec (.analogConversion t mv) s = .next (deliverTerminal t
        (max (useRange use).1 (min (useRange use).2
          (offset + ((min (max (mv / 10) 0) 1000) * span) / 1000))) { s with
        inputs := slotChange (fun p => { p with millivolts := mv }) s.inputs t
        terminals := slotChange (fun r => { r with convertAt := some (e + 100) }) s.terminals t }))
    ∧ (∀ mv, r.convertAt = none ∨ (∃ e, r.convertAt = some e ∧ s.now < e) →
      exec (.analogConversion t mv) s = .next { s with
        inputs := slotChange (fun p => { p with millivolts := mv }) s.inputs t })

/-- METER_PULSE, METER_ZERO_TIMER_EXPIRES (R59, R60, R129): an accepted pulse hands its energy to the open window,
and from the second on gives the measured power; a pulse within 20 ms of the last is ignored; the zero timer takes
the power to 0 once its time has come (log 2). A pulse sets the pin, and on a terminal with another function it is the
closing of the contact (log 31). -/
def Obligations.MeterPulsesGiveEnergyAndPower : Prop :=
  ∀ (t w : Nat) (r : TermRec) (s : State), s.powered = true → functionOf s.config t = .meterPulse w →
    slotGet s.terminals t = some r →
    let u : State := { s with inputs := slotChange (fun p => { p with closed := true }) s.inputs t }
    let window := s.window.map fun x => { x with used := min (x.used + 36 * w) 4294967295 }
    (∀ last, r.lastPulse = some last → s.now < last + 20 → exec (.meterPulse t) s = .next u)
    ∧ (r.lastPulse = none → exec (.meterPulse t) s = .next { u with
        window := window
        terminals := slotChange (fun x => { x with lastPulse := some s.now, zeroAt := some (s.now + 60000) })
          s.terminals t })
    ∧ (∀ last, r.lastPulse = some last → last + 20 ≤ s.now →
      let interval := s.now - last
      let power := min (36000 * w / interval) 65535
      ∃ x, exec (.meterPulse t) s = .next x ∧ x.window = window
        ∧ slotGet x.terminals t = some { r with
          lastPulse := some s.now, lastInterval := some interval, power := power
          zeroAt := some (s.now + min 60000 (10 * interval)) }
        ∧ (r.power = power → x.points = s.points)
        ∧ (∀ q, r.power ≠ power → getPoint s (terminalPoint t) = some q → ∃ q',
          getPoint x (terminalPoint t) = some q' ∧ q'.value = some (power : Int) ∧ q'.status = .fresh))
    ∧ (∀ e, r.zeroAt = some e → e ≤ s.now → r.power = 0 → exec (.meterZeroTimerExpires t) s = .next { s with
        terminals := slotChange (fun x => { x with zeroAt := none }) s.terminals t })
    ∧ (∀ e, r.zeroAt = some e → e ≤ s.now → r.power ≠ 0 →
      exec (.meterZeroTimerExpires t) s = .next (deliverTerminal t 0 { s with
        terminals := slotChange (fun x => { x with power := 0 })
          (slotChange (fun x => { x with zeroAt := none }) s.terminals t) t }))
    ∧ (r.zeroAt = none → exec (.meterZeroTimerExpires t) s = .next s)
    ∧ (∀ t', (∀ w', functionOf s.config t' ≠ .meterPulse w') →
      exec (.meterPulse t') s = exec (.terminalInputChange t' true) s)

/-! ## Doors and zones -/

/-- R94: the curtain of a door that enters an open state is asked for. -/
def Sys2Proof.Claims.curtainAsked (d : DoorDef) (r : DoorRec) : DoorRec :=
  if d.curtain = none then r else { r with request := 1000, runOn := none }

/-- R94: the curtain of a door that leaves the open states runs on. -/
def Sys2Proof.Claims.curtainRunsOn (s : State) (d : DoorDef) (r : DoorRec) : DoorRec :=
  if d.curtain = none then r
  else if s.config.doorParams.runOn = 0 then { r with request := 0, runOn := none }
  else { r with runOn := some (s.now + s.config.doorParams.runOn * 1000) }

/-- R87, R91, R94, R95: the end of the chatter window `w` of door `n`. A CHATTERING door whose point has no value stays
so for another window (log 25). -/
def Sys2Proof.Claims.chatterEnds (n : Nat) (d : DoorDef) (r : DoorRec) (w : CountWindow) (s : State) : Prop :=
  let becomes := fun (x : DoorRec) => { s with doors := slotChange (fun _ => x) s.doors n }
  let value := (getPoint s d.binding).bind PointRec.value
  let ends := w.start + 60000
  (r.state ≠ .chattering → exec (.chatterTimerExpires n) s = .next (becomes { r with window := none }))
  ∧ (r.state = .chattering →
    (2 < w.count ∨ value = none →
      exec (.chatterTimerExpires n) s = .next (becomes { r with window := some ⟨ends, 0⟩ }))
    ∧ (w.count ≤ 2 → value = some 0 → exec (.chatterTimerExpires n) s = .next (becomes (curtainRunsOn s d { r with
      state := .closed, level := some false, openSince := none, heldFlag := false, window := none, entered := s.now })))
    ∧ ∀ v, w.count ≤ 2 → value = some v → v ≠ 0 → exec (.chatterTimerExpires n) s
      = .next (holdEntry d.zone n s.config.doorParams.presence (becomes (curtainAsked d { r with
        state := .open_, level := some true, openSince := some ends, window := none, entered := s.now }))))

/-- R87, R88, R89, R90, R91, R92, R93, R94, R95, HELD_OPEN_TIMER_EXPIRES, CHATTER_TIMER_EXPIRES,
CURTAIN_RUN_ON_EXPIRES: what events, values and timers make of a door, of its curtain and of its presence entry. A value
that closes a door refreshes the hold before the release, except where the door's entry was evicted while the door stood
open, which then leaves no entry behind (R89, R104, log 22). The hold of a door that becomes HELD_OPEN comes before its
notice (log 21). An expiry acts once its time has come (log 2). -/
def Obligations.DoorsFollowEventsAndTimers : Prop :=
  ∀ (n : Nat) (d : DoorDef) (r : DoorRec) (s : State), slotGet s.config.doors n = some d →
    slotGet s.doors n = some r →
    let p := s.config.doorParams
    let becomes := fun (x : DoorRec) => { s with doors := slotChange (fun _ => x) s.doors n }
    let counted : CountWindow := match r.window with
      | none => ⟨s.now, 1⟩
      | some w => ⟨w.start, min (w.count + 1) 65535⟩
    (r.state = .closed → counted.count ≤ p.chatterLimit →
      doorOpened n s = holdEntry d.zone n p.presence (becomes (curtainAsked d { r with
        state := .open_, level := some true, openSince := some s.now, window := some counted, entered := s.now })))
    ∧ (r.state = .closed → p.chatterLimit < counted.count →
      doorOpened n s = raise .doorChatter (.door n) (some counted.count) (some (min p.chatterLimit 65535 : Nat))
        (becomes (curtainAsked d { r with
          state := .chattering, level := some true, window := some counted, entered := s.now })))
    ∧ (r.state = .open_ ∨ r.state = .heldOpen → doorOpened n s = becomes { r with level := some true })
    ∧ (r.state = .chattering → r.level = some false →
      doorOpened n s = becomes { r with level := some true, window := some counted })
    ∧ (r.state = .chattering → r.level ≠ some false → doorOpened n s = becomes { r with level := some true })
    ∧ (r.state = .unknown → doorOpened n s = s ∧ doorClosed n s = s)
    ∧ (r.state = .open_ ∨ r.state = .heldOpen →
      doorClosed n s = releaseEntry d.zone n (p.presence * 1000) (becomes (curtainRunsOn s d { r with
        state := .closed, level := some false, openSince := none, heldFlag := false, entered := s.now })))
    ∧ (r.state = .closed ∨ r.state = .chattering → doorClosed n s = becomes { r with level := some false })
    ∧ (r.state = .closed → doorValue n true s = doorOpened n s ∧ doorValue n false s = s)
    ∧ (r.state = .open_ ∨ r.state = .heldOpen →
      doorValue n true s = holdEntry d.zone n p.presence s
      ∧ (n ∉ s.evictedDoors → doorValue n false s = doorClosed n (holdEntry d.zone n p.presence s))
      ∧ (n ∈ s.evictedDoors → doorValue n false s = doorClosed n s))
    ∧ (r.state = .chattering → doorValue n true s = doorOpened n s ∧ doorValue n false s = doorClosed n s)
    ∧ (r.state = .unknown →
      doorValue n true s = holdEntry d.zone n p.presence (becomes (curtainAsked d { r with
        state := .open_, level := some true, openSince := some s.now, heldFlag := false, entered := s.now }))
      ∧ doorValue n false s = becomes { r with state := .closed, level := some false, entered := s.now })
    ∧ (∀ cause, r.state = .unknown → doorUnknown n cause s = s)
    ∧ (∀ cause, r.state ≠ .unknown →
      let x : DoorRec := { r with
        state := .unknown, level := none, openSince := none, heldFlag := false, window := none, entered := s.now }
      let u := becomes (if r.request = 1000 ∧ r.runOn = none then curtainRunsOn s d x else x)
      doorUnknown n cause s = raise .doorUnknown (.door n) (some r.state.ctorIdx) (some cause.ctorIdx)
        (if r.state = .open_ ∨ r.state = .heldOpen then releaseEntry d.zone n 2000 u else u))
    ∧ (∀ z, r.state ≠ .open_ → boostTo z d r = 0)
    ∧ (∀ z, r.state = .open_ → boostTo z d r
      = if z = d.zone then d.boost else if z ∈ d.neighbours then d.boost / 2 else 0)
    ∧ becomeHeldOpen n s = raise .doorHeldOpen (.door n) (some d.zone) (some (min p.heldOpen 65535 : Nat))
      (holdEntry d.zone n p.presence (becomes (curtainAsked d { r with
        state := .heldOpen, heldFlag := true, entered := s.now })))
    ∧ (s.powered = true →
      (∀ since, r.state = .open_ → r.openSince = some since → since + p.heldOpen * 1000 ≤ s.now →
        exec (.heldOpenTimerExpires n) s = .next (becomeHeldOpen n s))
      ∧ (r.state ≠ .open_ → exec (.heldOpenTimerExpires n) s = .next s)
      ∧ (∀ w, r.window = some w → w.start + 60000 ≤ s.now → chatterEnds n d r w s)
      ∧ (r.window = none → exec (.chatterTimerExpires n) s = .next s)
      ∧ (∀ t, r.runOn = some t → t ≤ s.now →
        exec (.curtainRunOnExpires n) s = .next (becomes { r with request := 0, runOn := none }))
      ∧ (r.runOn = none → exec (.curtainRunOnExpires n) s = .next s))

/-- R103, R104, R106, R112: what an accepted presence event, a door's hold and release, a full table and a report of a
contact state do to the presence table. The doors whose entry was evicted, and not made again since, are noted
(log 22). -/
def Sys2Proof.Claims.presenceMoves (s : State) : Prop :=
  let putAt := fun (t : State) (slot : Nat) (e : PresenceEntry) => judgeZone e.zone { t with
    presence := slotSet t.presence slot e
    evictedDoors := t.evictedDoors.filter fun n => decide (e.source ≠ .door n) }
  let noted := fun (e : PresenceEntry) => match e.source with
    | .door n => if n ∈ s.evictedDoors then s.evictedDoors else s.evictedDoors ++ [n]
    | _ => s.evictedDoors
  let live := fun (slot : Nat) (life : PresenceLife) =>
    { s with presence := slotChange (fun e : PresenceEntry => { e with life := life }) s.presence slot }
  let left := fun (e : PresenceEntry) => match e.life with
    | .running t => t - s.now
    | .held seconds => seconds * 1000
    | .pinned => 0
  (∀ z p d, slotGet s.config.zones z = some d →
    let life := PresenceLife.running (s.now + d.aging * 1000)
    (∀ slot, entrySlot s z (.sensor p) = some slot → presenceEvent z p false s = live slot life)
    ∧ (entrySlot s z (.sensor p) = none → presenceEvent z p false s = createEntry ⟨z, .sensor p, life⟩ s)
    ∧ (let t := presenceEvent z p false s
      presenceEvent z p true s = { t with
        zones := slotChange (fun r => if r.state = .closed then { r with intruded := true } else r) t.zones z }))
  ∧ (∀ z door seconds, slotUsed s.config.zones z = true →
    (∀ slot, entrySlot s z (.door door) = some slot → holdEntry z door seconds s = live slot (.held seconds))
    ∧ (entrySlot s z (.door door) = none →
      holdEntry z door seconds s = createEntry ⟨z, .door door, .held seconds⟩ s))
  ∧ (∀ z door seconds, slotUsed s.config.zones z = false → holdEntry z door seconds s = s)
  ∧ (∀ z door ms,
    (∀ slot, entrySlot s z (.door door) = some slot → releaseEntry z door ms s = live slot (.running (s.now + ms)))
    ∧ (entrySlot s z (.door door) = none → releaseEntry z door ms s = s))
  ∧ (∀ e, s.presence.length < 96 → createEntry e s = putAt s (lowestFree s.presence) e)
  ∧ (∀ e slot v, slotNumbers s.presence = List.range' 1 96 → slotGet s.presence slot = some v → v.life ≠ .pinned →
    (∀ x ∈ s.presence, x.2.life ≠ .pinned → left v < left x.2 ∨ (left v = left x.2 ∧ slot ≤ x.1)) →
    let t := judgeZone v.zone { s with presence := slotFree s.presence slot, evictedDoors := noted v }
    (s.fullReported = true → createEntry e s = putAt t slot e)
    ∧ (s.fullReported = false → createEntry e s
      = putAt { raise .presenceTableFull (.zone e.zone) (some v.zone) (some 96) t with fullReported := true } slot e))
  ∧ (∀ bus addr, presenceContact bus addr .inContact s = s)
  ∧ (∀ bus addr new, new ≠ .inContact →
    presenceContact bus addr new s = { s with presence := (presenceContact bus addr new s).presence }
    ∧ ∀ slot e, slotGet s.presence slot = some e →
      let onNode := e.life ≠ .pinned ∧ ((∃ p, e.source = .sensor p ∧ p.bus = bus ∧ p.addr = addr)
        ∨ ∃ n d, e.source = .door n ∧ slotGet s.config.doors n = some d ∧ d.binding.bus = bus ∧ d.binding.addr = addr)
      (onNode → slotGet (presenceContact bus addr new s).presence slot
        = some { e with life := .running (s.now + min (left e) 2000) })
      ∧ (¬ onNode → slotGet (presenceContact bus addr new s).presence slot = some e))

/-- R103, R104, R105, R106, R109, R110, R112, PRESENCE_LIFE_EXPIRES, DORMANCY_TIMER_EXPIRES: what events, doors and
reports do to the presence table, how a zone is judged, and what the end of an entry's life and of the dormancy time do.
An expiry that a refresh has overtaken does not happen; an expiry acts once its time has come (log 2). -/
def Obligations.ZonesAreJudgedAndGoDormant : Prop :=
  ∀ s : State,
    (slotWf s.presence = true → presenceMoves s)
    ∧ (∀ z r, slotGet s.zones z = some r → ∃ r', slotGet (judgeZone z s).zones z = some r'
      ∧ judgeZone z s = { s with zones := (judgeZone z s).zones }
      ∧ (inZones s.plan.openZones z = false → r'.state = .closed ∧ r'.vacantSince = none ∧ r'.dormancyAt = none)
      ∧ (inZones s.plan.openZones z = true → hasEntry s z = true →
        r'.state = .occupied ∧ r'.vacantSince = none ∧ r'.dormancyAt = none)
      ∧ (inZones s.plan.openZones z = true → hasEntry s z = false → r.state = .vacant ∨ r.state = .dormant →
        r'.state = r.state ∧ r'.vacantSince = r.vacantSince ∧ r'.dormancyAt = r.dormancyAt)
      ∧ (∀ d, inZones s.plan.openZones z = true → hasEntry s z = false → r.state = .closed ∨ r.state = .occupied →
        slotGet s.config.zones z = some d →
        r'.state = .vacant ∧ r'.vacantSince = some s.now ∧ r'.dormancyAt = some (s.now + d.dormancy * 1000))
      ∧ (r'.intruded = true ↔ r.intruded = true ∧ hasDynamic s z = true ∧ (r.state = .closed → r'.state = .closed)))
    ∧ (∀ n e t, s.powered = true → slotGet s.presence n = some e → e.life = .running t → t ≤ s.now →
      exec (.presenceLifeExpires n) s = .next (judgeZone e.zone { s with
        presence := slotFree s.presence n
        fullReported := s.fullReported && decide (96 ≤ (slotFree s.presence n).length) }))
    ∧ (∀ n e, s.powered = true → slotGet s.presence n = some e → (∀ t, e.life = .running t → s.now < t) →
      exec (.presenceLifeExpires n) s = .next s)
    ∧ (∀ z r t, s.powered = true → slotGet s.zones z = some r → r.state = .vacant → r.dormancyAt = some t → t ≤ s.now →
      exec (.dormancyTimerExpires z) s = .next { s with
        zones := slotChange (fun _ => { r with state := .dormant, dormancyAt := none }) s.zones z })
    ∧ (∀ z r, s.powered = true → slotGet s.zones z = some r → r.dormancyAt = none →
      exec (.dormancyTimerExpires z) s = .next s)

/-! ## Loads, settlement, lighting and climate -/

/-- No load on a terminal shares its point with a door, a zone sensor or a daylight point. Only check 3 of ENTER RUN
(R187) sees to this: a definition may share a point (R85, R99, R118, R145), and a start enters STANDALONE without the
checks. Where a point is shared, the drive of one load in a step can change what the next zone or load reads; the three
statements with this premise say nothing of such a state. -/
def Sys2Proof.Claims.loadsApart (s : State) : Prop :=
  ∀ e ∈ s.config.loads, e.2.binding.bus = .t →
    let q := terminalPoint (e.2.binding.point + 1)
    doorsAt s.config q = []
    ∧ (∀ z ∈ s.config.zones, (∀ p, z.2.temperature = some p → pointKey p ≠ pointKey q)
      ∧ ∀ g ∈ z.2.gas, pointKey g.point ≠ pointKey q)
    ∧ ∀ x ∈ s.config.daylight, ∀ p, x.2.point = some p → pointKey p ≠ pointKey q

/-- NODE_HOLD_TIMER_EXPIRES, COMMAND_REFRESH_EXPIRES (R122, R140), and what a changed contact state does to a load
(R122, R123). An expiry acts once its time has come (log 2). -/
def Obligations.LoadsFollowTheirNodesAndTimers : Prop :=
  ∀ (k : Nat) (d : LoadDef) (r : LoadRec) (s : State), slotGet s.config.loads k = some d → slotGet s.loads k = some r →
    (∀ since, s.powered = true → r.holdRunning = true → r.unreachableSince = some since →
      since + s.config.budget.nodeHold * 1000 ≤ s.now →
      exec (.nodeHoldTimerExpires k) s = .next { s with
        loads := slotChange (fun r => { r with assumed := some d.fallback, holdRunning := false }) s.loads k })
    ∧ (s.powered = true → r.holdRunning = false → exec (.nodeHoldTimerExpires k) s = .next s)
    ∧ (s.powered = true → s.now < r.refreshAt → exec (.commandRefreshExpires k) s = .next s)
    ∧ (∀ l : LineId, s.powered = true → r.refreshAt ≤ s.now → d.binding.bus = busOf l →
      let value := if d.drive = .modulating then r.applied else if r.applied = 1000 then 1 else 0
      exec (.commandRefreshExpires k) s = .next (grantLines { setLine s l { getLine s l with
          queue := joinQueue d.binding.addr d.binding.point value .internal (getLine s l).queue } with
        loads := slotChange (fun x => { x with lastCommand := some r.applied, refreshAt := s.now + 30000 }) s.loads k
        points := slotChange (fun q => { q with lastWrite := .queued }) s.points (pointKey d.binding) }))
    ∧ (∀ q, s.powered = true → r.refreshAt ≤ s.now → d.binding = terminalPoint (d.binding.point + 1) →
      functionOf s.config (d.binding.point + 1) = .dimOut → doorsAt s.config d.binding = [] →
      getPoint s d.binding = some q →
      exec (.commandRefreshExpires k) s = .next (grantLines { s with
        loads := slotChange (fun x => { x with lastCommand := some r.applied, refreshAt := s.now + 30000 }) s.loads k
        terminals := slotChange (fun x => { x with dimMillivolts := 10 * r.applied }) s.terminals
          (d.binding.point + 1)
        points := slotChange (fun x => { x with
          lastWrite := .ok, tries := 1, value := some (r.applied : Int), time := some s.now, status := .fresh })
          s.points (pointKey d.binding) }))
    ∧ (∀ new, r.controlled = isControlledIn new → loadTakesContact new k s = s)
    ∧ (∀ new, r.controlled = true → isControlledIn new = false → loadTakesContact new k s = { s with
      loads := slotChange (fun r => { r with
        controlled := false
        unreachableSince := some s.now
        assumed := some (if s.config.budget.nodeHold = 0 then d.fallback else r.applied)
        holdRunning := decide (s.config.budget.nodeHold ≠ 0) }) s.loads k })
    ∧ (∀ new, r.controlled = false → isControlledIn new = true → ∃ r',
      slotGet (loadTakesContact new k s).loads k = some r' ∧ r'.controlled = true ∧ r'.unreachableSince = none
        ∧ r'.assumed = none ∧ r'.holdRunning = false ∧ r'.grant = 0 ∧ r'.grantFraction = 0 ∧ r'.previousGrant = 0
        ∧ (s.mode ≠ .emergency → r'.applied = 0)
        ∧ (s.mode = .emergency → r'.applied = emergencyFraction s.config.climate.vent d.kind))

/-- The grants of the loads that are CONTROLLED and not exempt, after a settlement. -/
def Sys2Proof.Claims.limitedGrants (t : State) : Nat :=
  ((t.config.loads.filterMap fun e => slotGet t.loads e.1).map fun r => if isLimited r = true then r.grant else 0).sum

/-- How much the grants of the loads that are not exempt before and after rise from one state to another. -/
def Sys2Proof.Claims.grantRises (s t : State) : Nat :=
  (s.config.loads.map fun e => match slotGet s.loads e.1, slotGet t.loads e.1 with
    | some a, some b => if a.exempt = false ∧ b.exempt = false then b.grant - a.previousGrant else 0
    | _, _ => 0).sum

/-- R133: the demand of a load that posts this much. -/
def Sys2Proof.Claims.demandFor (d : LoadDef) (posted : Nat) : Nat :=
  if d.drive = .modulating then ceilDiv (d.rating * posted) 1000 else if 0 < posted then d.rating else 0

/-- R135: the loads of class `c` at the settlement that leads from `s` to `t`: their definition, and their record before
and after it. -/
def Sys2Proof.Claims.classMembers (s t : State) (c : Nat) : List (LoadDef × LoadRec × LoadRec) :=
  s.config.loads.filterMap fun e => match slotGet s.loads e.1, slotGet t.loads e.1 with
    | some r, some r' => if r.controlled = true ∧ r'.exempt = false ∧ r'.effClass = c then some (e.2, r, r') else none
    | _, _ => none

/-- R135: the share of a load in a class with these figures, of which `power` was left. -/
def Sys2Proof.Claims.shareIn (f : ClassFigures) (power demand : Nat) : Nat :=
  match f.state with
  | .full => demand
  | .proRata => demand * power / f.demand
  | .zero => 0

/-- R136: by how much the shares of these loads of a class stand above their grants before; a load whose share does not
rise counts as 0. -/
def Sys2Proof.Claims.risesOf (f : ClassFigures) (power : Nat) (loads : List (LoadDef × LoadRec × LoadRec)) : Nat :=
  (loads.map fun m => shareIn f power (demandFor m.1 m.2.1.posted) - m.2.1.previousGrant).sum

/-- R136: by how much the shares of a class stand above the grants before. -/
def Sys2Proof.Claims.classRise (s t : State) (c : Nat) (f : ClassFigures) (power : Nat) : Nat :=
  risesOf f power (classMembers s t c)

/-- R135, R136: what a settlement gives class `c`: its demand, its state, its shares, and its grants. `short` says that
a class before it ended PRO_RATA or ZERO, `pool` what the classes before it have left of the restoration pool: the rising
loads of the class take from it by rising load number, each its whole rise or what is left. -/
def Sys2Proof.Claims.classLaw (s t : State) (c : Nat) (f : ClassFigures) (short : Prop) (power pool : Nat) : Prop :=
  let members := classMembers s t c
  f.demand = (members.map fun m => demandFor m.1 m.2.1.posted).sum
    ∧ (short → f.state = if 0 < f.demand then .zero else .full)
    ∧ (¬ short → f.state = if f.demand ≤ power then .full else .proRata)
    ∧ f.shares = (members.map fun m => shareIn f power (demandFor m.1 m.2.1.posted)).sum
    ∧ f.grants = (members.map fun m => m.2.2.grant).sum
    ∧ ∀ before m after, members = before ++ m :: after →
      let share := shareIn f power (demandFor m.1 m.2.1.posted)
      let previous := m.2.1.previousGrant
      (share ≤ previous → m.2.2.grant = share)
      ∧ (previous < share → m.2.2.grant = previous + min (share - previous) (pool - risesOf f power before))

/-- R129: the window cap of a settlement: the part of the allowance that the window has not used, spread over the whole
seconds that are left of it. -/
def Sys2Proof.Claims.windowCapLaw (s : State) (cap : Option Nat) : Prop :=
  let limit := (activeRecord s).windowLimit
  let active := limit ≠ 0 ∧ s.clock.isSet = true ∧ ∃ e ∈ s.config.functions, ∃ w, e.2 = .meterPulse w
  (¬ active → cap = none)
    ∧ ∀ w, active → s.window = some w →
      let left := max 1 (ceilDiv ((w.ends - secondNumber s.clock.reading) * 1000 - s.clock.phase) 1000)
      cap = some (min ((limit * (w.ends - w.start) - w.used) / left) 65535)

/-- R120: the effective class of a load: 3 where its zone is CLOSED and is not being preconditioned, and otherwise its
own. -/
def Sys2Proof.Claims.classAt (s : State) (d : LoadDef) (c : Nat) : Prop :=
  let closed := ∃ zr, slotGet s.zones d.zone = some zr ∧ zr.state = .closed
  let warmed := s.plan.precondition = true ∧ ∃ n, nextRecord s = some n ∧ inZones n.openZones d.zone = true
  (closed → ¬ warmed → c = 3) ∧ (¬ closed ∨ warmed → c = d.cls)

/-- The zone has a temperature point that is FRESH, with this temperature; a field sensor's word is read as a signed
number (`temperatureOf`, log 11). -/
def Sys2Proof.Claims.zoneTemperature (s : State) (z : Nat) (v : Int) : Prop :=
  ∃ zd p q raw, slotGet s.config.zones z = some zd ∧ zd.temperature = some p ∧ getPoint s p = some q
    ∧ q.status = .fresh ∧ q.value = some raw ∧ v = temperatureOf p raw

/-- R121: the dynamic exemption reason of a load: the first line of the rule's table that applies. -/
def Sys2Proof.Claims.exemptionLaw (s : State) (d : LoadDef) (reason : ExemptReason) : Prop :=
  let vent := s.config.climate.vent
  let emergency := s.mode = .emergency ∧ (d.kind = .light ∨ (d.kind = .exhaustFan ∧ vent = .extract))
  let purge := (d.kind = .exhaustFan ∨ d.kind = .supplyFan)
    ∧ (∃ c, slotGet s.climate d.zone = some c ∧ c.stage = 4) ∧ ¬ (s.mode = .emergency ∧ vent = .stop)
  let frost := d.kind = .heater ∧ ∃ v, zoneTemperature s d.zone v ∧ v < 50
  (emergency → reason = .emergency)
    ∧ (¬ emergency → purge → reason = .purge)
    ∧ (¬ emergency → ¬ purge → frost → reason = .frost)
    ∧ (¬ emergency → ¬ purge → ¬ frost → reason = .none)

/-- R137, R156, R170: a load at a publication: it is cut where the grant limits it below its applied fraction, and stays
otherwise; what a settlement does not work out stays in both. -/
def Sys2Proof.Claims.publishedLoad (now minDim : Nat) (d : LoadDef) (r r' : LoadRec) : Prop :=
  let cuts := isLimited r' = true ∧ r'.grantFraction < r.applied
  r'.previousGrant = r'.grant ∧ r'.grantFraction = r'.grant * 1000 / d.rating
    ∧ (¬ cuts → r'.applied = r.applied ∧ r'.goal = r.goal ∧ r'.lastCommand = r.lastCommand
      ∧ r'.refreshAt = r.refreshAt)
    ∧ (cuts → r'.applied = (if d.drive = .step then (if r'.grantFraction = 1000 then 1000 else 0)
        else if d.kind = .light ∧ r'.grantFraction < minDim then 0 else r'.grantFraction)
      ∧ r'.goal = r'.applied ∧ commandChecked now r r')
    ∧ r' = { r with
      reason := r'.reason, exempt := r'.exempt, effClass := r'.effClass, grant := r'.grant
      grantFraction := r'.grantFraction, previousGrant := r'.previousGrant, applied := r'.applied, goal := r'.goal
      lastCommand := r'.lastCommand, refreshAt := r'.refreshAt }

/-- R124, R126, R129, R133, R134, R139: the figures of a settlement's record, its overrun, the episode of WINDOW_LIMITED
and what it hands to the strain outputs. The notice of a full queue may be lost (R199). -/
def Sys2Proof.Claims.recordLaw (s t : State) : Prop :=
  let r := t.record
  let members := s.config.loads.filterMap fun e => match slotGet s.loads e.1, slotGet t.loads e.1 with
    | some a, some b => some (e.2, a, b)
    | _, _ => none
  let told := fun (kind : NoticeKind) (first second : Option Int) =>
    (⟨kind, s.now, .none, first, second⟩ : Notice) ∈ t.notices ∨ s.lost < t.lost ∨ t.lost = 255
  let silent := fun (kind : NoticeKind) => ∀ n ∈ t.notices, n.kind = kind → n ∈ s.notices
  let begins := fun (w : DemandWindow) => r.source = .window ∧ w.limitedReported = false
  r.clock = (if s.clock.isSet = true then some s.clock.reading else none)
    ∧ r.hostHold = (match s.hostOrder with
      | some order => ceilDiv (order.expiry - s.now) 15000
      | none => 0)
    ∧ r.source = (if r.cap = r.shiftCap then .shift
      else if some r.cap = r.hostCap then .curtailHost
      else if some r.cap = r.termCap then .curtailTerminal
      else .window)
    ∧ r.uncontrolled = (members.map fun m => if m.2.1.controlled = true then 0
      else ceilDiv (m.1.rating * m.2.1.assumed.getD 0) 1000).sum
    ∧ r.exemptDemand = (members.map fun m => if m.2.1.controlled = true ∧ m.2.2.exempt = true then
      demandFor m.1 m.2.1.posted else 0).sum
    ∧ r.overrun = t.overrun ∧ r.strain = t.strain
    ∧ (t.overrun = true ↔ r.available < r.exemptDemand)
    ∧ (t.overrun = true → s.overrun = false →
      told .supplyOverrun (some (min r.exemptDemand 65535 : Nat)) (some (min r.available 65535 : Nat)))
    ∧ (t.overrun = false ∨ s.overrun = true → silent .supplyOverrun)
    ∧ (∀ w, s.window = some w → begins w → t.window = some { w with limitedReported := true }
      ∧ told .windowLimited (r.windowCap.map fun c => (c : Int)) (some (min (max 1 (ceilDiv
        ((w.ends - secondNumber s.clock.reading) * 1000 - s.clock.phase) 1000)) 65535 : Nat)))
    ∧ ((∀ w, s.window = some w → ¬ begins w) → t.window = s.window ∧ silent .windowLimited)
    ∧ (∀ n x, functionOf s.config n = .strainOut → slotGet s.terminals n = some x → slotGet t.terminals n
      = some { x with relayClosed := if t.strain = s.strain then x.relayClosed else t.strain })
    ∧ (∀ n, (∀ e ∈ s.config.functions, e.1 = n → e.2 ≠ .relayOut ∧ e.2 ≠ .dimOut ∧ e.2 ≠ .strainOut) →
      slotGet t.terminals n = slotGet s.terminals n)

/-- SETTLEMENT (R120, R121, R124, R129, R132 to R140): the caps, the figures of the record, the effective class and the
exemption of each load, the shares of the classes and the laws of the grants, the restoration, the publication with its
cuts, the overrun, and the strain state, with their notices. The notice of a full queue may be lost (R199). The FROST
exemption reads a field sensor's word as a signed number (`temperatureOf`, log 11). The settlement takes place once its
time has come (log 2). -/
def Obligations.SettlementsKeepTheirLaws : Prop :=
  ∀ s : State, s.powered = true → s.settleAt ≤ s.now → slotWf s.config.loads = true → slotWf s.loads = true →
    ∃ t, exec .settlement s = .next t
      ∧ t.now = s.now ∧ t.settleAt = t.now + s.config.settlementPeriod * 1000
      ∧ t.record.isEmpty = false ∧ t.record.time = t.now ∧ t.record.count = (s.record.count + 1) % 65536
      ∧ t.record.shiftCap = (activeRecord s).cap ∧ t.record.hostCap = s.hostOrder.map CurtailOrder.cap
      ∧ t.record.termCap = s.termOrder
      ∧ t.record.cap ≤ t.record.shiftCap ∧ (∀ c, t.record.hostCap = some c → t.record.cap ≤ c)
      ∧ (∀ c, t.record.termCap = some c → t.record.cap ≤ c) ∧ (∀ c, t.record.windowCap = some c → t.record.cap ≤ c)
      ∧ (t.record.cap = t.record.shiftCap ∨ some t.record.cap = t.record.hostCap
        ∨ some t.record.cap = t.record.termCap ∨ some t.record.cap = t.record.windowCap)
      ∧ t.record.base = (activeRecord s).base
      ∧ t.record.available = t.record.cap - t.record.base - t.record.uncontrolled
      ∧ t.record.remaining = t.record.available - t.record.exemptDemand
      ∧ limitedGrants t ≤ t.record.remaining
      ∧ grantRises s t ≤ s.config.budget.restore
      ∧ windowCapLaw s t.record.windowCap
      ∧ recordLaw s t
      ∧ t = { s with
        settleAt := t.settleAt, record := t.record, loads := t.loads, window := t.window, overrun := t.overrun
        strain := t.strain, notices := t.notices, lost := t.lost, lineA := t.lineA, lineB := t.lineB
        terminals := t.terminals, points := t.points, doors := t.doors, zones := t.zones, presence := t.presence
        fullReported := t.fullReported, evictedDoors := t.evictedDoors }
      ∧ (let r := t.record
        let power1 := r.remaining - r.class0.shares
        let power2 := power1 - r.class1.shares
        let power3 := power2 - r.class2.shares
        let demand := r.class0.demand + r.class1.demand + r.class2.demand + r.class3.demand
        let rise0 := classRise s t 0 r.class0 r.remaining
        let rise1 := classRise s t 1 r.class1 power1
        let rise2 := classRise s t 2 r.class2 power2
        let rise3 := classRise s t 3 r.class3 power3
        let pool := s.config.budget.restore
        classLaw s t 0 r.class0 False r.remaining pool
        ∧ classLaw s t 1 r.class1 (r.class0.state ≠ .full) power1 (pool - rise0)
        ∧ classLaw s t 2 r.class2 (r.class0.state ≠ .full ∨ r.class1.state ≠ .full) power2 (pool - (rise0 + rise1))
        ∧ classLaw s t 3 r.class3 (r.class0.state ≠ .full ∨ r.class1.state ≠ .full ∨ r.class2.state ≠ .full) power3
          (pool - (rise0 + rise1 + rise2))
        ∧ r.poolDrawn = min pool (rise0 + rise1 + rise2 + rise3)
        ∧ ((∀ e ∈ s.config.loads, e.2.cls ≤ 3) →
          (s.strain = false → (t.strain = true ↔ 0 < demand ∧ r.remaining * s.config.budget.strainBegin ≤ demand * 100))
          ∧ (s.strain = true → (t.strain = false ↔ demand * 100 ≤ r.remaining * s.config.budget.strainEnd))
          ∧ (t.strain ≠ s.strain → (⟨if t.strain = true then .strainBegin else .strainEnd, s.now, .none,
              some (min demand 65535 : Nat), some (min r.remaining 65535 : Nat)⟩ : Notice) ∈ t.notices
            ∨ s.lost < t.lost ∨ t.lost = 255)
          ∧ (t.strain = s.strain → ∀ n ∈ t.notices, n.kind = .strainBegin ∨ n.kind = .strainEnd → n ∈ s.notices)))
      ∧ ∀ k d r, slotGet s.config.loads k = some d → slotGet s.loads k = some r →
        ∃ r', slotGet t.loads k = some r' ∧ r'.posted = r.posted ∧ r'.controlled = r.controlled
          ∧ classAt s d r'.effClass ∧ exemptionLaw s d r'.reason
          ∧ (r'.reason = .frost → r.reason ≠ .frost → ∃ v, zoneTemperature s d.zone v
            ∧ ((⟨.frostProtection, s.now, .load k, some (d.zone : Int), some v⟩ : Notice) ∈ t.notices
              ∨ s.lost < t.lost ∨ t.lost = 255))
          ∧ (r'.exempt = true ↔ d.exempt = true ∨ r'.reason ≠ .none)
          ∧ publishedLoad s.now s.config.lighting.minDim d r r'
          ∧ (r.controlled = false → r'.grant = 0)
          ∧ (r.controlled = true → r'.exempt = true → r'.grant = demandFor d r.posted)

/-- R148, R149: the target of a group in RUN and STANDALONE and the source that gave it: the highest of the values that
apply, and the first of the rule's table among equals. -/
def Sys2Proof.Claims.targetLaw (s : State) (z : Nat) (d : ZoneDef) (r : ZoneRec) (target : Nat)
    (source : LightSource) : Prop :=
  let levels := forKind (activeRecord s).levels d.kind
  let scene := match slotGet s.lightOverrides z with
    | some o => o.level
    | none => match r.state with
      | .occupied => levels.occupied
      | .vacant => levels.vacant
      | .dormant => levels.dormant
      | .closed => levels.closed
  let presence := if r.state = .closed ∧ r.intruded = true then s.config.lighting.closedPresence else 0
  let changeover := if d.kind = .staging ∧ s.plan.changeover = true ∧ r.state ≠ .closed then
    (activeRecord s).levels.staging.occupied else 0
  target = max scene (max presence changeover)
    ∧ source = if presence ≤ scene ∧ changeover ≤ scene then
        (if slotGet s.lightOverrides z = none then .scene else .override_)
      else if changeover ≤ presence then .closedPresence else .changeover

/-- LIGHTING_STEP (R147, R148, R149, R152, R154, R155, R157, R158, R160): each group takes its source, target and goal in
the mode that stands, moves toward the goal, and is commanded where R140 asks for it, so that the first step after a
start commands every group, which has had no command yet; an UNCONTROLLED group's command is then of the level it moves to
(log 60). The step takes place once its time has come (log 2). The trimmed target is at most 1000 (log 45). States in which a load shares a terminal with a sensor or door, which only check 3 of R187
rules out, are left without a statement (`loadsApart`). -/
def Obligations.LightingStepsFollowTheMode : Prop :=
  ∀ s : State, s.powered = true → s.stepAt ≤ s.now → slotWf s.config.loads = true → loadsApart s →
    ∃ t, exec .lightingStep s = .next t ∧ t.now = s.now ∧ t.stepAt = t.now + 250
      ∧ t.zones = s.zones ∧ t.climate = s.climate
      ∧ (∀ k d r, slotGet s.config.loads k = some d → d.kind ≠ .light → slotGet s.loads k = some r →
        slotGet t.loads k = some r)
      ∧ ∀ k d r, slotGet s.config.loads k = some d → d.kind = .light → slotGet s.loads k = some r →
        let moved := fun (goal : Nat) =>
          if d.drive = .step then goal
          else
            let a := if r.applied < goal then min goal (r.applied + ceilDiv s.config.lighting.ramp 4)
              else if goal < r.applied then max goal (r.applied - ceilDiv s.config.lighting.fade 4)
              else r.applied
            if 0 < a ∧ a < s.config.lighting.minDim then (if 0 < goal then s.config.lighting.minDim else 0) else a
        let goalFor := fun (demand : Nat) =>
          if d.drive = .step then
            (if 0 < demand ∧ (isLimited r = true → r.grantFraction = 1000) then 1000 else 0)
          else
            let g := if isLimited r = true then min demand r.grantFraction else demand
            if g < s.config.lighting.minDim then 0 else g
        ∃ r', slotGet t.loads k = some r' ∧ r'.grant = r.grant ∧ r'.grantFraction = r.grantFraction
          ∧ r'.controlled = r.controlled ∧ r'.exempt = r.exempt
          ∧ (s.mode = .emergency → r'.posted = 1000 ∧ r'.goal = 1000 ∧ r'.applied = 1000
            ∧ r'.light = some ⟨.emergency, 1000, 1000⟩
            ∧ commandChecked s.now r r')
          ∧ (s.mode = .hold → r'.posted = d.hold ∧ r'.goal = goalFor d.hold ∧ r'.applied = moved (goalFor d.hold)
            ∧ r'.light = some ⟨.hold, d.hold, d.hold⟩ ∧ commandChecked s.now r r')
          ∧ (∀ z zr, s.mode = .run ∨ s.mode = .standalone → slotGet s.config.zones d.zone = some z →
            slotGet s.zones d.zone = some zr →
            ∃ g, r'.light = some g ∧ r'.posted = g.trimmed ∧ r'.goal = goalFor g.trimmed
              ∧ r'.applied = moved (goalFor g.trimmed) ∧ commandChecked s.now r r'
              ∧ targetLaw s d.zone z zr g.target g.source
              ∧ ((daylightOf s.config k).point = none → g.trimmed = g.target)
              ∧ (∀ p q v, (daylightOf s.config k).point = some p → getPoint s p = some q → q.status = .fresh →
                q.value = some v →
                let tl := (daylightOf s.config k).target
                let cut := min 1000 (g.target * (max 0 ((tl : Int) - v)).toNat / tl)
                g.trimmed = if zr.state = .occupied ∧ 0 < g.target ∧ cut < s.config.lighting.minDim then
                  s.config.lighting.minDim else cut)
              ∧ (∀ p, (daylightOf s.config k).point = some p →
                (∀ q v, getPoint s p = some q → q.value = some v → q.status ≠ .fresh) → g.trimmed = g.target))

/-- R169: a heater, a curtain or a fan posts a demand and is driven to the goal that its grant allows. -/
def Sys2Proof.Claims.drivenTo (d : LoadDef) (r r' : LoadRec) (demand : Nat) : Prop :=
  let goal := if d.drive = .step then (if 0 < demand ∧ (isLimited r = true → r.grantFraction = 1000) then 1000 else 0)
    else if isLimited r = true then min demand r.grantFraction else demand
  r'.posted = demand ∧ r'.goal = goal ∧ r'.applied = goal

/-- R163: the setpoint of a zone and its source: the first line of the rule's table that applies. -/
def Sys2Proof.Claims.setpointLaw (s : State) (z : Nat) (d : ZoneDef) (zr : ZoneRec) (c : ClimateRec) (level : Int)
    (source : SetpointSource) : Prop :=
  let warmed := s.plan.precondition = true ∧ ∃ n, nextRecord s = some n ∧ inZones n.openZones z = true
  (∀ o, c.override = some o → level = o.level ∧ source = .override_)
    ∧ (∀ n, c.override = none → warmed → nextRecord s = some n →
      level = forKind n.setpoint d.kind ∧ source = .precondition)
    ∧ (c.override = none → ¬ warmed →
      (zr.state = .closed → level = 50 ∧ source = .closed)
      ∧ (zr.state = .occupied → level = forKind (activeRecord s).setpoint d.kind ∧ source = .occupied)
      ∧ (zr.state = .vacant → level = forKind (activeRecord s).setback d.kind ∧ source = .vacant)
      ∧ (zr.state = .dormant →
        level = max (-400) (forKind (activeRecord s).setback d.kind - forKind (activeRecord s).drop d.kind)
        ∧ source = .dormant))

/-- HEATING_EVALUATION, CURTAIN_STEP (R163, R166, R167, R168, R169, R171, R178, R179): the setpoint and heating
demand of a zone, with a FRESH temperature and without one, and what heaters and curtains post. The evaluation and the
step take place once their time has come (log 2). In HOLD and EMERGENCY the source of a zone shows the mode, and its
setpoint, demand and held demand stay. SENSOR_STALE is raised as a stale episode begins and not again while it stands;
its first value is TEMPERATURE as a name (log 40). A field sensor's word is read as a signed number (`temperatureOf`,
log 11). States in which a load shares a terminal with a sensor or door are left without a statement (`loadsApart`). -/
def Obligations.HeatersAndCurtainsAreDriven : Prop :=
  ∀ s : State, s.powered = true → slotWf s.config.loads = true → slotWf s.config.zones = true → loadsApart s →
    let heatersPost := fun (t : State) (z : Nat) (q : Option Nat) =>
      ∀ k l r, slotGet s.config.loads k = some l → l.zone = z → l.kind = .heater → slotGet s.loads k = some r →
        ∃ r', slotGet t.loads k = some r' ∧ drivenTo l r r'
          (if l.drive = .modulating then q.getD l.fallback else if 500 ≤ q.getD l.fallback then 1000 else 0)
    let isStale := fun (d : ZoneDef) =>
      ∃ p, d.temperature = some p ∧ ∀ q v, getPoint s p = some q → q.value = some v → q.status ≠ .fresh
    (s.heatAt ≤ s.now → ∃ t, exec .heatingEvaluation s = .next t ∧ t.now = s.now ∧ t.heatAt = t.now + 10000
      ∧ (∀ z d zr c p q v, s.mode = .run ∨ s.mode = .standalone → slotGet s.config.zones z = some d →
        slotGet s.zones z = some zr → slotGet s.climate z = some c → d.temperature = some p →
        getPoint s p = some q → q.status = .fresh → q.value = some v →
        ∃ c' h level, slotGet t.climate z = some c' ∧ c'.tset = some level ∧ c'.demand = some h
          ∧ c'.held = some h.q ∧ c'.staleSince = none
          ∧ setpointLaw s z d zr c level c'.source
          ∧ h.base = (if level - temperatureOf p v ≤ 0 then 0
            else min 1000 ((level - temperatureOf p v).toNat * 1000 / s.config.climate.band))
          ∧ h.boost = doorBoost s z
          ∧ h.offset = (match c.stage with
            | 0 => 0
            | 1 => 50
            | 2 => 100
            | 3 => 200
            | _ => 300)
          ∧ h.q = (if -10 < level - temperatureOf p v then min 1000 (h.base + h.boost + h.offset) else h.base)
          ∧ heatersPost t z (some h.q))
      ∧ (∀ z d zr c, s.mode = .run ∨ s.mode = .standalone → slotGet s.config.zones z = some d →
        slotGet s.zones z = some zr → slotGet s.climate z = some c → isStale d →
        let since := c.staleSince.getD s.now
        ∃ c' level, slotGet t.climate z = some c' ∧ c'.tset = some level ∧ setpointLaw s z d zr c level c'.source
          ∧ c'.staleSince = some since ∧ c'.held = c.held
          ∧ (∀ q, c.held = some q → s.now < since + s.config.climate.holdTime * 1000 →
            c'.demand.map HeatDemand.q = some q)
          ∧ (c.held = none ∨ since + s.config.climate.holdTime * 1000 ≤ s.now → c'.demand = none)
          ∧ heatersPost t z (c'.demand.map HeatDemand.q))
      ∧ (∀ z d c, s.mode = .run ∨ s.mode = .standalone → slotGet s.config.zones z = some d → d.temperature = none →
        slotGet s.climate z = some c → ∃ c', slotGet t.climate z = some c' ∧ c'.demand = none ∧ heatersPost t z none)
      ∧ (∀ z d c, slotGet s.config.zones z = some d → slotGet s.climate z = some c → isStale d →
        s.mode = .hold ∨ s.mode = .emergency ∨ slotUsed s.zones z = true →
        (∃ c', slotGet t.climate z = some c' ∧ c'.staleSince = some (c.staleSince.getD s.now))
        ∧ (c.staleSince = none → (⟨.sensorStale, s.now, .zone z, some 0, some 1⟩ : Notice) ∈ t.notices
          ∨ s.lost < t.lost ∨ t.lost = 255)
        ∧ (c.staleSince ≠ none → ∀ n ∈ t.notices, n.kind = .sensorStale → n.subject = .zone z → n ∈ s.notices))
      ∧ (∀ z d, slotGet s.config.zones z = some d → ¬ isStale d → ∀ n ∈ t.notices, n.kind = .sensorStale →
        n.subject = .zone z → n ∈ s.notices)
      ∧ (∀ z d c source, slotGet s.config.zones z = some d → slotGet s.climate z = some c →
        (s.mode = .hold ∧ source = SetpointSource.hold) ∨ (s.mode = .emergency ∧ source = SetpointSource.emergency) →
        (isStale d → slotGet t.climate z
          = some { c with source := source, staleSince := some (c.staleSince.getD s.now) })
        ∧ (∀ p q v, d.temperature = some p → getPoint s p = some q → q.status = .fresh → q.value = some v →
          slotGet t.climate z = some { c with source := source })
        ∧ (d.temperature = none → slotGet t.climate z = some { c with source := source }))
      ∧ (∀ k l r, slotGet s.config.loads k = some l → slotUsed s.config.zones l.zone = true → l.kind = .heater →
        slotGet s.loads k = some r → ∃ r', slotGet t.loads k = some r'
          ∧ (s.mode = .hold → drivenTo l r r' l.hold)
          ∧ (s.mode = .emergency → r'.posted = 0 ∧ r'.goal = 0 ∧ r'.applied = 0)))
    ∧ (s.curtainAt ≤ s.now → ∃ t, exec .curtainStep s = .next t ∧ t.now = s.now ∧ t.curtainAt = t.now + 1000
      ∧ ∀ k l r, slotGet s.config.loads k = some l → l.kind = .curtain → slotGet s.loads k = some r →
        ∃ r', slotGet t.loads k = some r'
          ∧ (s.mode = .hold → drivenTo l r r' l.hold)
          ∧ (s.mode = .emergency → r'.posted = 0 ∧ r'.goal = 0 ∧ r'.applied = 0)
          ∧ (∀ n d, s.mode = .run ∨ s.mode = .standalone → slotGet s.doors n = some d →
            curtainDoors s.config k = [n] → drivenTo l r r' d.request)
          ∧ (s.mode = .run ∨ s.mode = .standalone → curtainDoors s.config k = [] → drivenTo l r r' 0))

/-- R172: the gas ratio of a point, when it is FRESH; that of a value below 0 is 0, the model's choice (log 59). -/
def Sys2Proof.Claims.ratioAt (s : State) (g : GasPoint) : Option Nat :=
  match getPoint s g.point with
  | none => none
  | some q => if q.status = .fresh then
      q.value.map fun v => v.toNat * 1000 / (match g.gas with
        | .co => s.config.climate.coRef
        | .no2 => s.config.climate.no2Ref)
    else none

/-- R173: the stage that a gas index calls for. -/
def Sys2Proof.Claims.calledFor (g : Nat) : Nat :=
  if g < 300 then 0 else if g < 500 then 1 else if g < 750 then 2 else if g < 1000 then 3 else 4

/-- R173: the falling threshold of a stage below purge. -/
def Sys2Proof.Claims.fallsBelow (stage : Nat) : Nat :=
  if stage = 1 then 200 else if stage = 2 then 400 else if stage = 3 then 650 else 0

/-- R173, R174, R175: the rise or the fall of a zone's stage at an evaluation with gas index `g`, from record `a` to
record `b`. `stale` says that a gas point is not FRESH, which keeps the zone from falling below stage 2 (R176). -/
def Sys2Proof.Claims.stageLaw (now : Nat) (stale : Prop) (g : Nat) (a b : ClimateRec) : Prop :=
  let enters := fun (stage : Nat) (dwell clear : Option Nat) =>
    b.stage = stage ∧ b.stageAt = now ∧ b.dwell = dwell ∧ b.purgeClear = clear
  let stays := fun (dwell clear : Option Nat) =>
    b.stage = a.stage ∧ b.stageAt = a.stageAt ∧ b.dwell = dwell ∧ b.purgeClear = clear
  (a.stage < calledFor g → enters (calledFor g) none none)
  ∧ (a.stage = 0 → calledFor g = 0 → stays a.dwell a.purgeClear)
  ∧ (1 ≤ a.stage → a.stage ≤ 3 → calledFor g ≤ a.stage →
    (fallsBelow a.stage ≤ g → stays none a.purgeClear)
    ∧ (g < fallsBelow a.stage → a.dwell = none → stays (some now) a.purgeClear)
    ∧ ∀ since, g < fallsBelow a.stage → a.dwell = some since →
      (now < since + 60000 ∨ (stale ∧ a.stage ≤ 2) → stays a.dwell a.purgeClear)
      ∧ (since + 60000 ≤ now → ¬ (stale ∧ a.stage ≤ 2) →
        enters (a.stage - 1) (if g < fallsBelow (a.stage - 1) then some now else none) a.purgeClear))
  ∧ (a.stage = 4 →
    (900 ≤ g → stays a.dwell none)
    ∧ (g < 900 → a.purgeClear = none → stays a.dwell (some now))
    ∧ ∀ since, g < 900 → a.purgeClear = some since →
      (now < since + 120000 → stays a.dwell a.purgeClear)
      ∧ (since + 120000 ≤ now → enters 3 (if g < 650 then some now else none) none))

/-- VENTILATION_EVALUATION (R169, R172 to R179): the gas index and its stage, with the dwell before a fall and the
clearing of a purge; the floor that a point without a FRESH value sets; the notices of a purge and of a stale point;
and what fans post and are driven to. The ratio of a value below 0 is 0 (log 59). The first value of SENSOR_STALE is GAS
as a name (log 40). The evaluation takes place once its time has come (log 2). States in which a load shares a terminal with a sensor or door are left without a
statement (`loadsApart`). -/
def Obligations.VentilationFollowsTheGas : Prop :=
  ∀ s : State, s.powered = true → s.ventAt ≤ s.now → slotWf s.config.loads = true → slotWf s.config.zones = true →
    loadsApart s → ∃ t, exec .ventilationEvaluation s = .next t ∧ t.now = s.now ∧ t.ventAt = t.now + 5000
      ∧ (∀ z d c, slotGet s.config.zones z = some d → slotGet s.climate z = some c →
        (isStopped s = true → slotGet t.climate z = some c)
        ∧ (isStopped s = false → d.gas = [] → ∃ c', slotGet t.climate z = some c' ∧ c'.gasIndex = 0 ∧ c'.stage = 0
          ∧ c'.gasFresh = 0 ∧ c'.gasStale = false ∧ c'.dwell = none ∧ c'.purgeClear = none)
        ∧ (isStopped s = false → d.gas ≠ [] →
          let fresh := (d.gas.filterMap (ratioAt s)).length
          let index := min ((d.gas.filterMap (ratioAt s)).foldl max 0) 65535
          let told := fun (kind : NoticeKind) (first second : Int) =>
            (⟨kind, s.now, .zone z, some first, some second⟩ : Notice) ∈ t.notices ∨ s.lost < t.lost ∨ t.lost = 255
          ∃ c' j, slotGet t.climate z = some c' ∧ stageLaw s.now (fresh < d.gas.length) index c j
            ∧ c'.gasFresh = fresh ∧ c'.gasIndex = index ∧ c'.gasStale = decide (fresh < d.gas.length)
            ∧ c'.purgeClear = j.purgeClear
            ∧ (fresh = d.gas.length ∨ 2 ≤ j.stage → c'.stage = j.stage ∧ c'.stageAt = j.stageAt ∧ c'.dwell = j.dwell)
            ∧ (fresh < d.gas.length → j.stage < 2 → c'.stage = 2 ∧ c'.stageAt = s.now ∧ c'.dwell = none)
            ∧ (fresh < d.gas.length → 2 ≤ c'.stage)
            ∧ (c.stage ≠ 4 → j.stage = 4 → told .gasPurgeBegin index c.stage)
            ∧ (c.stage = 4 → j.stage ≠ 4 → told .gasPurgeEnd index (min ((s.now - c.stageAt) / 1000) 65535 : Nat))
            ∧ (fresh < d.gas.length → c.gasStale = false → told .sensorStale 1 (d.gas.length - fresh : Nat))
            ∧ ∀ n ∈ t.notices, n.subject = .zone z → n ∈ s.notices
              ∨ (n.kind = .gasPurgeBegin ∧ c.stage ≠ 4 ∧ j.stage = 4)
              ∨ (n.kind = .gasPurgeEnd ∧ c.stage = 4 ∧ j.stage ≠ 4)
              ∨ (n.kind = .sensorStale ∧ fresh < d.gas.length ∧ c.gasStale = false)))
      ∧ ∀ k l r, slotGet s.config.loads k = some l → slotUsed s.config.zones l.zone = true → isFan l.kind = true →
        slotGet s.loads k = some r → ∃ r', slotGet t.loads k = some r'
          ∧ (s.mode = .hold → drivenTo l r r' l.hold)
          ∧ (s.mode = .emergency →
            r'.posted = (if l.kind = .exhaustFan ∧ s.config.climate.vent = .extract then 1000 else 0)
            ∧ r'.goal = r'.posted ∧ r'.applied = r'.posted)
          ∧ ∀ c' zr, s.mode = .run ∨ s.mode = .standalone → slotGet t.climate l.zone = some c' →
            slotGet s.zones l.zone = some zr →
            let rate := match c'.stage with
              | 0 => if zr.state = .occupied then 150 else 100
              | 1 => 350
              | 2 => 600
              | 3 => 850
              | _ => 1000
            drivenTo l r r' (if l.kind = .exhaustFan then rate else rate * s.config.climate.makeUp / 1000)
end

