-- ==== Sys2Proof/Laws/State.lean ====
section
/-! SUPPORT. One lemma per field per named update of the state, true by rfl: a later proof rewrites with them and never
unfolds a record update. -/

namespace Sys2Proof.Machine

/-! ## whenDue -/

/-- A timer whose time has come takes its effect. -/
theorem whenDue_due {t : Nat} {f : State → State} {s : State} (h : t ≤ s.now) : whenDue t f s = f s := if_pos h

/-- The command of a timer whose time has not come leaves the state as it is. -/
theorem whenDue_early {t : Nat} {f : State → State} {s : State} (h : s.now < t) : whenDue t f s = s :=
  if_neg (Nat.not_le.mpr h)

/-- What the state and a timer's effect share, its command shares. -/
theorem whenDue_of {P : State → Prop} {t : Nat} {f : State → State} {s : State} (h : P (f s)) (k : P s) :
    P (whenDue t f s) := by
  unfold whenDue
  split
  · exact h
  · exact k

/-! ## raise -/

@[simp] theorem raise_pending (kind : NoticeKind) (subject : Subject) (first second : Option Int) (s : State) :
    (raise kind subject first second s).pending = s.pending := rfl
@[simp] theorem raise_powered (kind : NoticeKind) (subject : Subject) (first second : Option Int) (s : State) :
    (raise kind subject first second s).powered = s.powered := rfl
@[simp] theorem raise_now (kind : NoticeKind) (subject : Subject) (first second : Option Int) (s : State) :
    (raise kind subject first second s).now = s.now := rfl
@[simp] theorem raise_config (kind : NoticeKind) (subject : Subject) (first second : Option Int) (s : State) :
    (raise kind subject first second s).config = s.config := rfl
@[simp] theorem raise_clock (kind : NoticeKind) (subject : Subject) (first second : Option Int) (s : State) :
    (raise kind subject first second s).clock = s.clock := rfl
@[simp] theorem raise_plan (kind : NoticeKind) (subject : Subject) (first second : Option Int) (s : State) :
    (raise kind subject first second s).plan = s.plan := rfl
@[simp] theorem raise_lineA (kind : NoticeKind) (subject : Subject) (first second : Option Int) (s : State) :
    (raise kind subject first second s).lineA = s.lineA := rfl
@[simp] theorem raise_lineB (kind : NoticeKind) (subject : Subject) (first second : Option Int) (s : State) :
    (raise kind subject first second s).lineB = s.lineB := rfl
@[simp] theorem raise_inputs (kind : NoticeKind) (subject : Subject) (first second : Option Int) (s : State) :
    (raise kind subject first second s).inputs = s.inputs := rfl
@[simp] theorem raise_terminals (kind : NoticeKind) (subject : Subject) (first second : Option Int) (s : State) :
    (raise kind subject first second s).terminals = s.terminals := rfl
@[simp] theorem raise_points (kind : NoticeKind) (subject : Subject) (first second : Option Int) (s : State) :
    (raise kind subject first second s).points = s.points := rfl
@[simp] theorem raise_windows (kind : NoticeKind) (subject : Subject) (first second : Option Int) (s : State) :
    (raise kind subject first second s).windows = s.windows := rfl
@[simp] theorem raise_recent (kind : NoticeKind) (subject : Subject) (first second : Option Int) (s : State) :
    (raise kind subject first second s).recent = s.recent := rfl
@[simp] theorem raise_nextSeq (kind : NoticeKind) (subject : Subject) (first second : Option Int) (s : State) :
    (raise kind subject first second s).nextSeq = s.nextSeq := rfl
@[simp] theorem raise_doors (kind : NoticeKind) (subject : Subject) (first second : Option Int) (s : State) :
    (raise kind subject first second s).doors = s.doors := rfl
@[simp] theorem raise_zones (kind : NoticeKind) (subject : Subject) (first second : Option Int) (s : State) :
    (raise kind subject first second s).zones = s.zones := rfl
@[simp] theorem raise_presence (kind : NoticeKind) (subject : Subject) (first second : Option Int) (s : State) :
    (raise kind subject first second s).presence = s.presence := rfl
@[simp] theorem raise_fullReported (kind : NoticeKind) (subject : Subject) (first second : Option Int) (s : State) :
    (raise kind subject first second s).fullReported = s.fullReported := rfl
@[simp] theorem raise_evictedDoors (kind : NoticeKind) (subject : Subject) (first second : Option Int) (s : State) :
    (raise kind subject first second s).evictedDoors = s.evictedDoors := rfl
@[simp] theorem raise_loads (kind : NoticeKind) (subject : Subject) (first second : Option Int) (s : State) :
    (raise kind subject first second s).loads = s.loads := rfl
@[simp] theorem raise_hostOrder (kind : NoticeKind) (subject : Subject) (first second : Option Int) (s : State) :
    (raise kind subject first second s).hostOrder = s.hostOrder := rfl
@[simp] theorem raise_termOrder (kind : NoticeKind) (subject : Subject) (first second : Option Int) (s : State) :
    (raise kind subject first second s).termOrder = s.termOrder := rfl
@[simp] theorem raise_window (kind : NoticeKind) (subject : Subject) (first second : Option Int) (s : State) :
    (raise kind subject first second s).window = s.window := rfl
@[simp] theorem raise_history (kind : NoticeKind) (subject : Subject) (first second : Option Int) (s : State) :
    (raise kind subject first second s).history = s.history := rfl
@[simp] theorem raise_strain (kind : NoticeKind) (subject : Subject) (first second : Option Int) (s : State) :
    (raise kind subject first second s).strain = s.strain := rfl
@[simp] theorem raise_overrun (kind : NoticeKind) (subject : Subject) (first second : Option Int) (s : State) :
    (raise kind subject first second s).overrun = s.overrun := rfl
@[simp] theorem raise_record (kind : NoticeKind) (subject : Subject) (first second : Option Int) (s : State) :
    (raise kind subject first second s).record = s.record := rfl
@[simp] theorem raise_settleAt (kind : NoticeKind) (subject : Subject) (first second : Option Int) (s : State) :
    (raise kind subject first second s).settleAt = s.settleAt := rfl
@[simp] theorem raise_lightOverrides (kind : NoticeKind) (subject : Subject) (first second : Option Int) (s : State) :
    (raise kind subject first second s).lightOverrides = s.lightOverrides := rfl
@[simp] theorem raise_climate (kind : NoticeKind) (subject : Subject) (first second : Option Int) (s : State) :
    (raise kind subject first second s).climate = s.climate := rfl
@[simp] theorem raise_mode (kind : NoticeKind) (subject : Subject) (first second : Option Int) (s : State) :
    (raise kind subject first second s).mode = s.mode := rfl
@[simp] theorem raise_returnMode (kind : NoticeKind) (subject : Subject) (first second : Option Int) (s : State) :
    (raise kind subject first second s).returnMode = s.returnMode := rfl
@[simp] theorem raise_signal (kind : NoticeKind) (subject : Subject) (first second : Option Int) (s : State) :
    (raise kind subject first second s).signal = s.signal := rfl
@[simp] theorem raise_receiver (kind : NoticeKind) (subject : Subject) (first second : Option Int) (s : State) :
    (raise kind subject first second s).receiver = s.receiver := rfl
@[simp] theorem raise_answering (kind : NoticeKind) (subject : Subject) (first second : Option Int) (s : State) :
    (raise kind subject first second s).answering = s.answering := rfl
@[simp] theorem raise_reply (kind : NoticeKind) (subject : Subject) (first second : Option Int) (s : State) :
    (raise kind subject first second s).reply = s.reply := rfl
@[simp] theorem raise_restartPending (kind : NoticeKind) (subject : Subject) (first second : Option Int) (s : State) :
    (raise kind subject first second s).restartPending = s.restartPending := rfl
@[simp] theorem raise_storePending (kind : NoticeKind) (subject : Subject) (first second : Option Int) (s : State) :
    (raise kind subject first second s).storePending = s.storePending := rfl
@[simp] theorem raise_supervisionAt (kind : NoticeKind) (subject : Subject) (first second : Option Int) (s : State) :
    (raise kind subject first second s).supervisionAt = s.supervisionAt := rfl
@[simp] theorem raise_store (kind : NoticeKind) (subject : Subject) (first second : Option Int) (s : State) :
    (raise kind subject first second s).store = s.store := rfl

/-! ## changePoint -/

@[simp] theorem changePoint_pending (p : PointRef) (f : PointRec → PointRec) (s : State) :
    (changePoint p f s).pending = s.pending := rfl
@[simp] theorem changePoint_powered (p : PointRef) (f : PointRec → PointRec) (s : State) :
    (changePoint p f s).powered = s.powered := rfl
@[simp] theorem changePoint_now (p : PointRef) (f : PointRec → PointRec) (s : State) :
    (changePoint p f s).now = s.now := rfl
@[simp] theorem changePoint_config (p : PointRef) (f : PointRec → PointRec) (s : State) :
    (changePoint p f s).config = s.config := rfl
@[simp] theorem changePoint_clock (p : PointRef) (f : PointRec → PointRec) (s : State) :
    (changePoint p f s).clock = s.clock := rfl
@[simp] theorem changePoint_plan (p : PointRef) (f : PointRec → PointRec) (s : State) :
    (changePoint p f s).plan = s.plan := rfl
@[simp] theorem changePoint_lineA (p : PointRef) (f : PointRec → PointRec) (s : State) :
    (changePoint p f s).lineA = s.lineA := rfl
@[simp] theorem changePoint_lineB (p : PointRef) (f : PointRec → PointRec) (s : State) :
    (changePoint p f s).lineB = s.lineB := rfl
@[simp] theorem changePoint_inputs (p : PointRef) (f : PointRec → PointRec) (s : State) :
    (changePoint p f s).inputs = s.inputs := rfl
@[simp] theorem changePoint_terminals (p : PointRef) (f : PointRec → PointRec) (s : State) :
    (changePoint p f s).terminals = s.terminals := rfl
@[simp] theorem changePoint_points (p : PointRef) (f : PointRec → PointRec) (s : State) :
    (changePoint p f s).points = slotChange f s.points (pointKey p) := rfl
@[simp] theorem changePoint_windows (p : PointRef) (f : PointRec → PointRec) (s : State) :
    (changePoint p f s).windows = s.windows := rfl
@[simp] theorem changePoint_recent (p : PointRef) (f : PointRec → PointRec) (s : State) :
    (changePoint p f s).recent = s.recent := rfl
@[simp] theorem changePoint_nextSeq (p : PointRef) (f : PointRec → PointRec) (s : State) :
    (changePoint p f s).nextSeq = s.nextSeq := rfl
@[simp] theorem changePoint_doors (p : PointRef) (f : PointRec → PointRec) (s : State) :
    (changePoint p f s).doors = s.doors := rfl
@[simp] theorem changePoint_zones (p : PointRef) (f : PointRec → PointRec) (s : State) :
    (changePoint p f s).zones = s.zones := rfl
@[simp] theorem changePoint_presence (p : PointRef) (f : PointRec → PointRec) (s : State) :
    (changePoint p f s).presence = s.presence := rfl
@[simp] theorem changePoint_fullReported (p : PointRef) (f : PointRec → PointRec) (s : State) :
    (changePoint p f s).fullReported = s.fullReported := rfl
@[simp] theorem changePoint_evictedDoors (p : PointRef) (f : PointRec → PointRec) (s : State) :
    (changePoint p f s).evictedDoors = s.evictedDoors := rfl
@[simp] theorem changePoint_loads (p : PointRef) (f : PointRec → PointRec) (s : State) :
    (changePoint p f s).loads = s.loads := rfl
@[simp] theorem changePoint_hostOrder (p : PointRef) (f : PointRec → PointRec) (s : State) :
    (changePoint p f s).hostOrder = s.hostOrder := rfl
@[simp] theorem changePoint_termOrder (p : PointRef) (f : PointRec → PointRec) (s : State) :
    (changePoint p f s).termOrder = s.termOrder := rfl
@[simp] theorem changePoint_window (p : PointRef) (f : PointRec → PointRec) (s : State) :
    (changePoint p f s).window = s.window := rfl
@[simp] theorem changePoint_history (p : PointRef) (f : PointRec → PointRec) (s : State) :
    (changePoint p f s).history = s.history := rfl
@[simp] theorem changePoint_strain (p : PointRef) (f : PointRec → PointRec) (s : State) :
    (changePoint p f s).strain = s.strain := rfl
@[simp] theorem changePoint_overrun (p : PointRef) (f : PointRec → PointRec) (s : State) :
    (changePoint p f s).overrun = s.overrun := rfl
@[simp] theorem changePoint_record (p : PointRef) (f : PointRec → PointRec) (s : State) :
    (changePoint p f s).record = s.record := rfl
@[simp] theorem changePoint_settleAt (p : PointRef) (f : PointRec → PointRec) (s : State) :
    (changePoint p f s).settleAt = s.settleAt := rfl
@[simp] theorem changePoint_lightOverrides (p : PointRef) (f : PointRec → PointRec) (s : State) :
    (changePoint p f s).lightOverrides = s.lightOverrides := rfl
@[simp] theorem changePoint_climate (p : PointRef) (f : PointRec → PointRec) (s : State) :
    (changePoint p f s).climate = s.climate := rfl
@[simp] theorem changePoint_mode (p : PointRef) (f : PointRec → PointRec) (s : State) :
    (changePoint p f s).mode = s.mode := rfl
@[simp] theorem changePoint_returnMode (p : PointRef) (f : PointRec → PointRec) (s : State) :
    (changePoint p f s).returnMode = s.returnMode := rfl
@[simp] theorem changePoint_signal (p : PointRef) (f : PointRec → PointRec) (s : State) :
    (changePoint p f s).signal = s.signal := rfl
@[simp] theorem changePoint_receiver (p : PointRef) (f : PointRec → PointRec) (s : State) :
    (changePoint p f s).receiver = s.receiver := rfl
@[simp] theorem changePoint_answering (p : PointRef) (f : PointRec → PointRec) (s : State) :
    (changePoint p f s).answering = s.answering := rfl
@[simp] theorem changePoint_reply (p : PointRef) (f : PointRec → PointRec) (s : State) :
    (changePoint p f s).reply = s.reply := rfl
@[simp] theorem changePoint_restartPending (p : PointRef) (f : PointRec → PointRec) (s : State) :
    (changePoint p f s).restartPending = s.restartPending := rfl
@[simp] theorem changePoint_storePending (p : PointRef) (f : PointRec → PointRec) (s : State) :
    (changePoint p f s).storePending = s.storePending := rfl
@[simp] theorem changePoint_supervisionAt (p : PointRef) (f : PointRec → PointRec) (s : State) :
    (changePoint p f s).supervisionAt = s.supervisionAt := rfl
@[simp] theorem changePoint_notices (p : PointRef) (f : PointRec → PointRec) (s : State) :
    (changePoint p f s).notices = s.notices := rfl
@[simp] theorem changePoint_lost (p : PointRef) (f : PointRec → PointRec) (s : State) :
    (changePoint p f s).lost = s.lost := rfl
@[simp] theorem changePoint_store (p : PointRef) (f : PointRec → PointRec) (s : State) :
    (changePoint p f s).store = s.store := rfl

/-! ## changeTerminal -/

@[simp] theorem changeTerminal_pending (n : Nat) (f : TermRec → TermRec) (s : State) :
    (changeTerminal n f s).pending = s.pending := rfl
@[simp] theorem changeTerminal_powered (n : Nat) (f : TermRec → TermRec) (s : State) :
    (changeTerminal n f s).powered = s.powered := rfl
@[simp] theorem changeTerminal_now (n : Nat) (f : TermRec → TermRec) (s : State) :
    (changeTerminal n f s).now = s.now := rfl
@[simp] theorem changeTerminal_config (n : Nat) (f : TermRec → TermRec) (s : State) :
    (changeTerminal n f s).config = s.config := rfl
@[simp] theorem changeTerminal_clock (n : Nat) (f : TermRec → TermRec) (s : State) :
    (changeTerminal n f s).clock = s.clock := rfl
@[simp] theorem changeTerminal_plan (n : Nat) (f : TermRec → TermRec) (s : State) :
    (changeTerminal n f s).plan = s.plan := rfl
@[simp] theorem changeTerminal_lineA (n : Nat) (f : TermRec → TermRec) (s : State) :
    (changeTerminal n f s).lineA = s.lineA := rfl
@[simp] theorem changeTerminal_lineB (n : Nat) (f : TermRec → TermRec) (s : State) :
    (changeTerminal n f s).lineB = s.lineB := rfl
@[simp] theorem changeTerminal_inputs (n : Nat) (f : TermRec → TermRec) (s : State) :
    (changeTerminal n f s).inputs = s.inputs := rfl
@[simp] theorem changeTerminal_terminals (n : Nat) (f : TermRec → TermRec) (s : State) :
    (changeTerminal n f s).terminals = slotChange f s.terminals n := rfl
@[simp] theorem changeTerminal_points (n : Nat) (f : TermRec → TermRec) (s : State) :
    (changeTerminal n f s).points = s.points := rfl
@[simp] theorem changeTerminal_windows (n : Nat) (f : TermRec → TermRec) (s : State) :
    (changeTerminal n f s).windows = s.windows := rfl
@[simp] theorem changeTerminal_recent (n : Nat) (f : TermRec → TermRec) (s : State) :
    (changeTerminal n f s).recent = s.recent := rfl
@[simp] theorem changeTerminal_nextSeq (n : Nat) (f : TermRec → TermRec) (s : State) :
    (changeTerminal n f s).nextSeq = s.nextSeq := rfl
@[simp] theorem changeTerminal_doors (n : Nat) (f : TermRec → TermRec) (s : State) :
    (changeTerminal n f s).doors = s.doors := rfl
@[simp] theorem changeTerminal_zones (n : Nat) (f : TermRec → TermRec) (s : State) :
    (changeTerminal n f s).zones = s.zones := rfl
@[simp] theorem changeTerminal_presence (n : Nat) (f : TermRec → TermRec) (s : State) :
    (changeTerminal n f s).presence = s.presence := rfl
@[simp] theorem changeTerminal_fullReported (n : Nat) (f : TermRec → TermRec) (s : State) :
    (changeTerminal n f s).fullReported = s.fullReported := rfl
@[simp] theorem changeTerminal_evictedDoors (n : Nat) (f : TermRec → TermRec) (s : State) :
    (changeTerminal n f s).evictedDoors = s.evictedDoors := rfl
@[simp] theorem changeTerminal_loads (n : Nat) (f : TermRec → TermRec) (s : State) :
    (changeTerminal n f s).loads = s.loads := rfl
@[simp] theorem changeTerminal_hostOrder (n : Nat) (f : TermRec → TermRec) (s : State) :
    (changeTerminal n f s).hostOrder = s.hostOrder := rfl
@[simp] theorem changeTerminal_termOrder (n : Nat) (f : TermRec → TermRec) (s : State) :
    (changeTerminal n f s).termOrder = s.termOrder := rfl
@[simp] theorem changeTerminal_window (n : Nat) (f : TermRec → TermRec) (s : State) :
    (changeTerminal n f s).window = s.window := rfl
@[simp] theorem changeTerminal_history (n : Nat) (f : TermRec → TermRec) (s : State) :
    (changeTerminal n f s).history = s.history := rfl
@[simp] theorem changeTerminal_strain (n : Nat) (f : TermRec → TermRec) (s : State) :
    (changeTerminal n f s).strain = s.strain := rfl
@[simp] theorem changeTerminal_overrun (n : Nat) (f : TermRec → TermRec) (s : State) :
    (changeTerminal n f s).overrun = s.overrun := rfl
@[simp] theorem changeTerminal_record (n : Nat) (f : TermRec → TermRec) (s : State) :
    (changeTerminal n f s).record = s.record := rfl
@[simp] theorem changeTerminal_settleAt (n : Nat) (f : TermRec → TermRec) (s : State) :
    (changeTerminal n f s).settleAt = s.settleAt := rfl
@[simp] theorem changeTerminal_lightOverrides (n : Nat) (f : TermRec → TermRec) (s : State) :
    (changeTerminal n f s).lightOverrides = s.lightOverrides := rfl
@[simp] theorem changeTerminal_climate (n : Nat) (f : TermRec → TermRec) (s : State) :
    (changeTerminal n f s).climate = s.climate := rfl
@[simp] theorem changeTerminal_mode (n : Nat) (f : TermRec → TermRec) (s : State) :
    (changeTerminal n f s).mode = s.mode := rfl
@[simp] theorem changeTerminal_returnMode (n : Nat) (f : TermRec → TermRec) (s : State) :
    (changeTerminal n f s).returnMode = s.returnMode := rfl
@[simp] theorem changeTerminal_signal (n : Nat) (f : TermRec → TermRec) (s : State) :
    (changeTerminal n f s).signal = s.signal := rfl
@[simp] theorem changeTerminal_receiver (n : Nat) (f : TermRec → TermRec) (s : State) :
    (changeTerminal n f s).receiver = s.receiver := rfl
@[simp] theorem changeTerminal_answering (n : Nat) (f : TermRec → TermRec) (s : State) :
    (changeTerminal n f s).answering = s.answering := rfl
@[simp] theorem changeTerminal_reply (n : Nat) (f : TermRec → TermRec) (s : State) :
    (changeTerminal n f s).reply = s.reply := rfl
@[simp] theorem changeTerminal_restartPending (n : Nat) (f : TermRec → TermRec) (s : State) :
    (changeTerminal n f s).restartPending = s.restartPending := rfl
@[simp] theorem changeTerminal_storePending (n : Nat) (f : TermRec → TermRec) (s : State) :
    (changeTerminal n f s).storePending = s.storePending := rfl
@[simp] theorem changeTerminal_supervisionAt (n : Nat) (f : TermRec → TermRec) (s : State) :
    (changeTerminal n f s).supervisionAt = s.supervisionAt := rfl
@[simp] theorem changeTerminal_notices (n : Nat) (f : TermRec → TermRec) (s : State) :
    (changeTerminal n f s).notices = s.notices := rfl
@[simp] theorem changeTerminal_lost (n : Nat) (f : TermRec → TermRec) (s : State) :
    (changeTerminal n f s).lost = s.lost := rfl
@[simp] theorem changeTerminal_store (n : Nat) (f : TermRec → TermRec) (s : State) :
    (changeTerminal n f s).store = s.store := rfl

/-! ## changeDoor -/

@[simp] theorem changeDoor_pending (n : Nat) (f : DoorRec → DoorRec) (s : State) :
    (changeDoor n f s).pending = s.pending := rfl
@[simp] theorem changeDoor_powered (n : Nat) (f : DoorRec → DoorRec) (s : State) :
    (changeDoor n f s).powered = s.powered := rfl
@[simp] theorem changeDoor_now (n : Nat) (f : DoorRec → DoorRec) (s : State) : (changeDoor n f s).now = s.now := rfl
@[simp] theorem changeDoor_config (n : Nat) (f : DoorRec → DoorRec) (s : State) :
    (changeDoor n f s).config = s.config := rfl
@[simp] theorem changeDoor_clock (n : Nat) (f : DoorRec → DoorRec) (s : State) :
    (changeDoor n f s).clock = s.clock := rfl
@[simp] theorem changeDoor_plan (n : Nat) (f : DoorRec → DoorRec) (s : State) :
    (changeDoor n f s).plan = s.plan := rfl
@[simp] theorem changeDoor_lineA (n : Nat) (f : DoorRec → DoorRec) (s : State) :
    (changeDoor n f s).lineA = s.lineA := rfl
@[simp] theorem changeDoor_lineB (n : Nat) (f : DoorRec → DoorRec) (s : State) :
    (changeDoor n f s).lineB = s.lineB := rfl
@[simp] theorem changeDoor_inputs (n : Nat) (f : DoorRec → DoorRec) (s : State) :
    (changeDoor n f s).inputs = s.inputs := rfl
@[simp] theorem changeDoor_terminals (n : Nat) (f : DoorRec → DoorRec) (s : State) :
    (changeDoor n f s).terminals = s.terminals := rfl
@[simp] theorem changeDoor_points (n : Nat) (f : DoorRec → DoorRec) (s : State) :
    (changeDoor n f s).points = s.points := rfl
@[simp] theorem changeDoor_windows (n : Nat) (f : DoorRec → DoorRec) (s : State) :
    (changeDoor n f s).windows = s.windows := rfl
@[simp] theorem changeDoor_recent (n : Nat) (f : DoorRec → DoorRec) (s : State) :
    (changeDoor n f s).recent = s.recent := rfl
@[simp] theorem changeDoor_nextSeq (n : Nat) (f : DoorRec → DoorRec) (s : State) :
    (changeDoor n f s).nextSeq = s.nextSeq := rfl
@[simp] theorem changeDoor_doors (n : Nat) (f : DoorRec → DoorRec) (s : State) :
    (changeDoor n f s).doors = slotChange f s.doors n := rfl
@[simp] theorem changeDoor_zones (n : Nat) (f : DoorRec → DoorRec) (s : State) :
    (changeDoor n f s).zones = s.zones := rfl
@[simp] theorem changeDoor_presence (n : Nat) (f : DoorRec → DoorRec) (s : State) :
    (changeDoor n f s).presence = s.presence := rfl
@[simp] theorem changeDoor_fullReported (n : Nat) (f : DoorRec → DoorRec) (s : State) :
    (changeDoor n f s).fullReported = s.fullReported := rfl
@[simp] theorem changeDoor_evictedDoors (n : Nat) (f : DoorRec → DoorRec) (s : State) :
    (changeDoor n f s).evictedDoors = s.evictedDoors := rfl
@[simp] theorem changeDoor_loads (n : Nat) (f : DoorRec → DoorRec) (s : State) :
    (changeDoor n f s).loads = s.loads := rfl
@[simp] theorem changeDoor_hostOrder (n : Nat) (f : DoorRec → DoorRec) (s : State) :
    (changeDoor n f s).hostOrder = s.hostOrder := rfl
@[simp] theorem changeDoor_termOrder (n : Nat) (f : DoorRec → DoorRec) (s : State) :
    (changeDoor n f s).termOrder = s.termOrder := rfl
@[simp] theorem changeDoor_window (n : Nat) (f : DoorRec → DoorRec) (s : State) :
    (changeDoor n f s).window = s.window := rfl
@[simp] theorem changeDoor_history (n : Nat) (f : DoorRec → DoorRec) (s : State) :
    (changeDoor n f s).history = s.history := rfl
@[simp] theorem changeDoor_strain (n : Nat) (f : DoorRec → DoorRec) (s : State) :
    (changeDoor n f s).strain = s.strain := rfl
@[simp] theorem changeDoor_overrun (n : Nat) (f : DoorRec → DoorRec) (s : State) :
    (changeDoor n f s).overrun = s.overrun := rfl
@[simp] theorem changeDoor_record (n : Nat) (f : DoorRec → DoorRec) (s : State) :
    (changeDoor n f s).record = s.record := rfl
@[simp] theorem changeDoor_settleAt (n : Nat) (f : DoorRec → DoorRec) (s : State) :
    (changeDoor n f s).settleAt = s.settleAt := rfl
@[simp] theorem changeDoor_lightOverrides (n : Nat) (f : DoorRec → DoorRec) (s : State) :
    (changeDoor n f s).lightOverrides = s.lightOverrides := rfl
@[simp] theorem changeDoor_climate (n : Nat) (f : DoorRec → DoorRec) (s : State) :
    (changeDoor n f s).climate = s.climate := rfl
@[simp] theorem changeDoor_mode (n : Nat) (f : DoorRec → DoorRec) (s : State) :
    (changeDoor n f s).mode = s.mode := rfl
@[simp] theorem changeDoor_returnMode (n : Nat) (f : DoorRec → DoorRec) (s : State) :
    (changeDoor n f s).returnMode = s.returnMode := rfl
@[simp] theorem changeDoor_signal (n : Nat) (f : DoorRec → DoorRec) (s : State) :
    (changeDoor n f s).signal = s.signal := rfl
@[simp] theorem changeDoor_receiver (n : Nat) (f : DoorRec → DoorRec) (s : State) :
    (changeDoor n f s).receiver = s.receiver := rfl
@[simp] theorem changeDoor_answering (n : Nat) (f : DoorRec → DoorRec) (s : State) :
    (changeDoor n f s).answering = s.answering := rfl
@[simp] theorem changeDoor_reply (n : Nat) (f : DoorRec → DoorRec) (s : State) :
    (changeDoor n f s).reply = s.reply := rfl
@[simp] theorem changeDoor_restartPending (n : Nat) (f : DoorRec → DoorRec) (s : State) :
    (changeDoor n f s).restartPending = s.restartPending := rfl
@[simp] theorem changeDoor_storePending (n : Nat) (f : DoorRec → DoorRec) (s : State) :
    (changeDoor n f s).storePending = s.storePending := rfl
@[simp] theorem changeDoor_supervisionAt (n : Nat) (f : DoorRec → DoorRec) (s : State) :
    (changeDoor n f s).supervisionAt = s.supervisionAt := rfl
@[simp] theorem changeDoor_notices (n : Nat) (f : DoorRec → DoorRec) (s : State) :
    (changeDoor n f s).notices = s.notices := rfl
@[simp] theorem changeDoor_lost (n : Nat) (f : DoorRec → DoorRec) (s : State) :
    (changeDoor n f s).lost = s.lost := rfl
@[simp] theorem changeDoor_store (n : Nat) (f : DoorRec → DoorRec) (s : State) :
    (changeDoor n f s).store = s.store := rfl

/-! ## changeZone -/

@[simp] theorem changeZone_pending (n : Nat) (f : ZoneRec → ZoneRec) (s : State) :
    (changeZone n f s).pending = s.pending := rfl
@[simp] theorem changeZone_powered (n : Nat) (f : ZoneRec → ZoneRec) (s : State) :
    (changeZone n f s).powered = s.powered := rfl
@[simp] theorem changeZone_now (n : Nat) (f : ZoneRec → ZoneRec) (s : State) : (changeZone n f s).now = s.now := rfl
@[simp] theorem changeZone_config (n : Nat) (f : ZoneRec → ZoneRec) (s : State) :
    (changeZone n f s).config = s.config := rfl
@[simp] theorem changeZone_clock (n : Nat) (f : ZoneRec → ZoneRec) (s : State) :
    (changeZone n f s).clock = s.clock := rfl
@[simp] theorem changeZone_plan (n : Nat) (f : ZoneRec → ZoneRec) (s : State) :
    (changeZone n f s).plan = s.plan := rfl
@[simp] theorem changeZone_lineA (n : Nat) (f : ZoneRec → ZoneRec) (s : State) :
    (changeZone n f s).lineA = s.lineA := rfl
@[simp] theorem changeZone_lineB (n : Nat) (f : ZoneRec → ZoneRec) (s : State) :
    (changeZone n f s).lineB = s.lineB := rfl
@[simp] theorem changeZone_inputs (n : Nat) (f : ZoneRec → ZoneRec) (s : State) :
    (changeZone n f s).inputs = s.inputs := rfl
@[simp] theorem changeZone_terminals (n : Nat) (f : ZoneRec → ZoneRec) (s : State) :
    (changeZone n f s).terminals = s.terminals := rfl
@[simp] theorem changeZone_points (n : Nat) (f : ZoneRec → ZoneRec) (s : State) :
    (changeZone n f s).points = s.points := rfl
@[simp] theorem changeZone_windows (n : Nat) (f : ZoneRec → ZoneRec) (s : State) :
    (changeZone n f s).windows = s.windows := rfl
@[simp] theorem changeZone_recent (n : Nat) (f : ZoneRec → ZoneRec) (s : State) :
    (changeZone n f s).recent = s.recent := rfl
@[simp] theorem changeZone_nextSeq (n : Nat) (f : ZoneRec → ZoneRec) (s : State) :
    (changeZone n f s).nextSeq = s.nextSeq := rfl
@[simp] theorem changeZone_doors (n : Nat) (f : ZoneRec → ZoneRec) (s : State) :
    (changeZone n f s).doors = s.doors := rfl
@[simp] theorem changeZone_zones (n : Nat) (f : ZoneRec → ZoneRec) (s : State) :
    (changeZone n f s).zones = slotChange f s.zones n := rfl
@[simp] theorem changeZone_presence (n : Nat) (f : ZoneRec → ZoneRec) (s : State) :
    (changeZone n f s).presence = s.presence := rfl
@[simp] theorem changeZone_fullReported (n : Nat) (f : ZoneRec → ZoneRec) (s : State) :
    (changeZone n f s).fullReported = s.fullReported := rfl
@[simp] theorem changeZone_evictedDoors (n : Nat) (f : ZoneRec → ZoneRec) (s : State) :
    (changeZone n f s).evictedDoors = s.evictedDoors := rfl
@[simp] theorem changeZone_loads (n : Nat) (f : ZoneRec → ZoneRec) (s : State) :
    (changeZone n f s).loads = s.loads := rfl
@[simp] theorem changeZone_hostOrder (n : Nat) (f : ZoneRec → ZoneRec) (s : State) :
    (changeZone n f s).hostOrder = s.hostOrder := rfl
@[simp] theorem changeZone_termOrder (n : Nat) (f : ZoneRec → ZoneRec) (s : State) :
    (changeZone n f s).termOrder = s.termOrder := rfl
@[simp] theorem changeZone_window (n : Nat) (f : ZoneRec → ZoneRec) (s : State) :
    (changeZone n f s).window = s.window := rfl
@[simp] theorem changeZone_history (n : Nat) (f : ZoneRec → ZoneRec) (s : State) :
    (changeZone n f s).history = s.history := rfl
@[simp] theorem changeZone_strain (n : Nat) (f : ZoneRec → ZoneRec) (s : State) :
    (changeZone n f s).strain = s.strain := rfl
@[simp] theorem changeZone_overrun (n : Nat) (f : ZoneRec → ZoneRec) (s : State) :
    (changeZone n f s).overrun = s.overrun := rfl
@[simp] theorem changeZone_record (n : Nat) (f : ZoneRec → ZoneRec) (s : State) :
    (changeZone n f s).record = s.record := rfl
@[simp] theorem changeZone_settleAt (n : Nat) (f : ZoneRec → ZoneRec) (s : State) :
    (changeZone n f s).settleAt = s.settleAt := rfl
@[simp] theorem changeZone_lightOverrides (n : Nat) (f : ZoneRec → ZoneRec) (s : State) :
    (changeZone n f s).lightOverrides = s.lightOverrides := rfl
@[simp] theorem changeZone_climate (n : Nat) (f : ZoneRec → ZoneRec) (s : State) :
    (changeZone n f s).climate = s.climate := rfl
@[simp] theorem changeZone_mode (n : Nat) (f : ZoneRec → ZoneRec) (s : State) :
    (changeZone n f s).mode = s.mode := rfl
@[simp] theorem changeZone_returnMode (n : Nat) (f : ZoneRec → ZoneRec) (s : State) :
    (changeZone n f s).returnMode = s.returnMode := rfl
@[simp] theorem changeZone_signal (n : Nat) (f : ZoneRec → ZoneRec) (s : State) :
    (changeZone n f s).signal = s.signal := rfl
@[simp] theorem changeZone_receiver (n : Nat) (f : ZoneRec → ZoneRec) (s : State) :
    (changeZone n f s).receiver = s.receiver := rfl
@[simp] theorem changeZone_answering (n : Nat) (f : ZoneRec → ZoneRec) (s : State) :
    (changeZone n f s).answering = s.answering := rfl
@[simp] theorem changeZone_reply (n : Nat) (f : ZoneRec → ZoneRec) (s : State) :
    (changeZone n f s).reply = s.reply := rfl
@[simp] theorem changeZone_restartPending (n : Nat) (f : ZoneRec → ZoneRec) (s : State) :
    (changeZone n f s).restartPending = s.restartPending := rfl
@[simp] theorem changeZone_storePending (n : Nat) (f : ZoneRec → ZoneRec) (s : State) :
    (changeZone n f s).storePending = s.storePending := rfl
@[simp] theorem changeZone_supervisionAt (n : Nat) (f : ZoneRec → ZoneRec) (s : State) :
    (changeZone n f s).supervisionAt = s.supervisionAt := rfl
@[simp] theorem changeZone_notices (n : Nat) (f : ZoneRec → ZoneRec) (s : State) :
    (changeZone n f s).notices = s.notices := rfl
@[simp] theorem changeZone_lost (n : Nat) (f : ZoneRec → ZoneRec) (s : State) :
    (changeZone n f s).lost = s.lost := rfl
@[simp] theorem changeZone_store (n : Nat) (f : ZoneRec → ZoneRec) (s : State) :
    (changeZone n f s).store = s.store := rfl

/-! ## changeLoad -/

@[simp] theorem changeLoad_pending (n : Nat) (f : LoadRec → LoadRec) (s : State) :
    (changeLoad n f s).pending = s.pending := rfl
@[simp] theorem changeLoad_powered (n : Nat) (f : LoadRec → LoadRec) (s : State) :
    (changeLoad n f s).powered = s.powered := rfl
@[simp] theorem changeLoad_now (n : Nat) (f : LoadRec → LoadRec) (s : State) : (changeLoad n f s).now = s.now := rfl
@[simp] theorem changeLoad_config (n : Nat) (f : LoadRec → LoadRec) (s : State) :
    (changeLoad n f s).config = s.config := rfl
@[simp] theorem changeLoad_clock (n : Nat) (f : LoadRec → LoadRec) (s : State) :
    (changeLoad n f s).clock = s.clock := rfl
@[simp] theorem changeLoad_plan (n : Nat) (f : LoadRec → LoadRec) (s : State) :
    (changeLoad n f s).plan = s.plan := rfl
@[simp] theorem changeLoad_lineA (n : Nat) (f : LoadRec → LoadRec) (s : State) :
    (changeLoad n f s).lineA = s.lineA := rfl
@[simp] theorem changeLoad_lineB (n : Nat) (f : LoadRec → LoadRec) (s : State) :
    (changeLoad n f s).lineB = s.lineB := rfl
@[simp] theorem changeLoad_inputs (n : Nat) (f : LoadRec → LoadRec) (s : State) :
    (changeLoad n f s).inputs = s.inputs := rfl
@[simp] theorem changeLoad_terminals (n : Nat) (f : LoadRec → LoadRec) (s : State) :
    (changeLoad n f s).terminals = s.terminals := rfl
@[simp] theorem changeLoad_points (n : Nat) (f : LoadRec → LoadRec) (s : State) :
    (changeLoad n f s).points = s.points := rfl
@[simp] theorem changeLoad_windows (n : Nat) (f : LoadRec → LoadRec) (s : State) :
    (changeLoad n f s).windows = s.windows := rfl
@[simp] theorem changeLoad_recent (n : Nat) (f : LoadRec → LoadRec) (s : State) :
    (changeLoad n f s).recent = s.recent := rfl
@[simp] theorem changeLoad_nextSeq (n : Nat) (f : LoadRec → LoadRec) (s : State) :
    (changeLoad n f s).nextSeq = s.nextSeq := rfl
@[simp] theorem changeLoad_doors (n : Nat) (f : LoadRec → LoadRec) (s : State) :
    (changeLoad n f s).doors = s.doors := rfl
@[simp] theorem changeLoad_zones (n : Nat) (f : LoadRec → LoadRec) (s : State) :
    (changeLoad n f s).zones = s.zones := rfl
@[simp] theorem changeLoad_presence (n : Nat) (f : LoadRec → LoadRec) (s : State) :
    (changeLoad n f s).presence = s.presence := rfl
@[simp] theorem changeLoad_fullReported (n : Nat) (f : LoadRec → LoadRec) (s : State) :
    (changeLoad n f s).fullReported = s.fullReported := rfl
@[simp] theorem changeLoad_evictedDoors (n : Nat) (f : LoadRec → LoadRec) (s : State) :
    (changeLoad n f s).evictedDoors = s.evictedDoors := rfl
@[simp] theorem changeLoad_loads (n : Nat) (f : LoadRec → LoadRec) (s : State) :
    (changeLoad n f s).loads = slotChange f s.loads n := rfl
@[simp] theorem changeLoad_hostOrder (n : Nat) (f : LoadRec → LoadRec) (s : State) :
    (changeLoad n f s).hostOrder = s.hostOrder := rfl
@[simp] theorem changeLoad_termOrder (n : Nat) (f : LoadRec → LoadRec) (s : State) :
    (changeLoad n f s).termOrder = s.termOrder := rfl
@[simp] theorem changeLoad_window (n : Nat) (f : LoadRec → LoadRec) (s : State) :
    (changeLoad n f s).window = s.window := rfl
@[simp] theorem changeLoad_history (n : Nat) (f : LoadRec → LoadRec) (s : State) :
    (changeLoad n f s).history = s.history := rfl
@[simp] theorem changeLoad_strain (n : Nat) (f : LoadRec → LoadRec) (s : State) :
    (changeLoad n f s).strain = s.strain := rfl
@[simp] theorem changeLoad_overrun (n : Nat) (f : LoadRec → LoadRec) (s : State) :
    (changeLoad n f s).overrun = s.overrun := rfl
@[simp] theorem changeLoad_record (n : Nat) (f : LoadRec → LoadRec) (s : State) :
    (changeLoad n f s).record = s.record := rfl
@[simp] theorem changeLoad_settleAt (n : Nat) (f : LoadRec → LoadRec) (s : State) :
    (changeLoad n f s).settleAt = s.settleAt := rfl
@[simp] theorem changeLoad_lightOverrides (n : Nat) (f : LoadRec → LoadRec) (s : State) :
    (changeLoad n f s).lightOverrides = s.lightOverrides := rfl
@[simp] theorem changeLoad_climate (n : Nat) (f : LoadRec → LoadRec) (s : State) :
    (changeLoad n f s).climate = s.climate := rfl
@[simp] theorem changeLoad_mode (n : Nat) (f : LoadRec → LoadRec) (s : State) :
    (changeLoad n f s).mode = s.mode := rfl
@[simp] theorem changeLoad_returnMode (n : Nat) (f : LoadRec → LoadRec) (s : State) :
    (changeLoad n f s).returnMode = s.returnMode := rfl
@[simp] theorem changeLoad_signal (n : Nat) (f : LoadRec → LoadRec) (s : State) :
    (changeLoad n f s).signal = s.signal := rfl
@[simp] theorem changeLoad_receiver (n : Nat) (f : LoadRec → LoadRec) (s : State) :
    (changeLoad n f s).receiver = s.receiver := rfl
@[simp] theorem changeLoad_answering (n : Nat) (f : LoadRec → LoadRec) (s : State) :
    (changeLoad n f s).answering = s.answering := rfl
@[simp] theorem changeLoad_reply (n : Nat) (f : LoadRec → LoadRec) (s : State) :
    (changeLoad n f s).reply = s.reply := rfl
@[simp] theorem changeLoad_restartPending (n : Nat) (f : LoadRec → LoadRec) (s : State) :
    (changeLoad n f s).restartPending = s.restartPending := rfl
@[simp] theorem changeLoad_storePending (n : Nat) (f : LoadRec → LoadRec) (s : State) :
    (changeLoad n f s).storePending = s.storePending := rfl
@[simp] theorem changeLoad_supervisionAt (n : Nat) (f : LoadRec → LoadRec) (s : State) :
    (changeLoad n f s).supervisionAt = s.supervisionAt := rfl
@[simp] theorem changeLoad_notices (n : Nat) (f : LoadRec → LoadRec) (s : State) :
    (changeLoad n f s).notices = s.notices := rfl
@[simp] theorem changeLoad_lost (n : Nat) (f : LoadRec → LoadRec) (s : State) :
    (changeLoad n f s).lost = s.lost := rfl
@[simp] theorem changeLoad_store (n : Nat) (f : LoadRec → LoadRec) (s : State) :
    (changeLoad n f s).store = s.store := rfl

/-! ## changeClimate -/

@[simp] theorem changeClimate_pending (n : Nat) (f : ClimateRec → ClimateRec) (s : State) :
    (changeClimate n f s).pending = s.pending := rfl
@[simp] theorem changeClimate_powered (n : Nat) (f : ClimateRec → ClimateRec) (s : State) :
    (changeClimate n f s).powered = s.powered := rfl
@[simp] theorem changeClimate_now (n : Nat) (f : ClimateRec → ClimateRec) (s : State) :
    (changeClimate n f s).now = s.now := rfl
@[simp] theorem changeClimate_config (n : Nat) (f : ClimateRec → ClimateRec) (s : State) :
    (changeClimate n f s).config = s.config := rfl
@[simp] theorem changeClimate_clock (n : Nat) (f : ClimateRec → ClimateRec) (s : State) :
    (changeClimate n f s).clock = s.clock := rfl
@[simp] theorem changeClimate_plan (n : Nat) (f : ClimateRec → ClimateRec) (s : State) :
    (changeClimate n f s).plan = s.plan := rfl
@[simp] theorem changeClimate_lineA (n : Nat) (f : ClimateRec → ClimateRec) (s : State) :
    (changeClimate n f s).lineA = s.lineA := rfl
@[simp] theorem changeClimate_lineB (n : Nat) (f : ClimateRec → ClimateRec) (s : State) :
    (changeClimate n f s).lineB = s.lineB := rfl
@[simp] theorem changeClimate_inputs (n : Nat) (f : ClimateRec → ClimateRec) (s : State) :
    (changeClimate n f s).inputs = s.inputs := rfl
@[simp] theorem changeClimate_terminals (n : Nat) (f : ClimateRec → ClimateRec) (s : State) :
    (changeClimate n f s).terminals = s.terminals := rfl
@[simp] theorem changeClimate_points (n : Nat) (f : ClimateRec → ClimateRec) (s : State) :
    (changeClimate n f s).points = s.points := rfl
@[simp] theorem changeClimate_windows (n : Nat) (f : ClimateRec → ClimateRec) (s : State) :
    (changeClimate n f s).windows = s.windows := rfl
@[simp] theorem changeClimate_recent (n : Nat) (f : ClimateRec → ClimateRec) (s : State) :
    (changeClimate n f s).recent = s.recent := rfl
@[simp] theorem changeClimate_nextSeq (n : Nat) (f : ClimateRec → ClimateRec) (s : State) :
    (changeClimate n f s).nextSeq = s.nextSeq := rfl
@[simp] theorem changeClimate_doors (n : Nat) (f : ClimateRec → ClimateRec) (s : State) :
    (changeClimate n f s).doors = s.doors := rfl
@[simp] theorem changeClimate_zones (n : Nat) (f : ClimateRec → ClimateRec) (s : State) :
    (changeClimate n f s).zones = s.zones := rfl
@[simp] theorem changeClimate_presence (n : Nat) (f : ClimateRec → ClimateRec) (s : State) :
    (changeClimate n f s).presence = s.presence := rfl
@[simp] theorem changeClimate_fullReported (n : Nat) (f : ClimateRec → ClimateRec) (s : State) :
    (changeClimate n f s).fullReported = s.fullReported := rfl
@[simp] theorem changeClimate_evictedDoors (n : Nat) (f : ClimateRec → ClimateRec) (s : State) :
    (changeClimate n f s).evictedDoors = s.evictedDoors := rfl
@[simp] theorem changeClimate_loads (n : Nat) (f : ClimateRec → ClimateRec) (s : State) :
    (changeClimate n f s).loads = s.loads := rfl
@[simp] theorem changeClimate_hostOrder (n : Nat) (f : ClimateRec → ClimateRec) (s : State) :
    (changeClimate n f s).hostOrder = s.hostOrder := rfl
@[simp] theorem changeClimate_termOrder (n : Nat) (f : ClimateRec → ClimateRec) (s : State) :
    (changeClimate n f s).termOrder = s.termOrder := rfl
@[simp] theorem changeClimate_window (n : Nat) (f : ClimateRec → ClimateRec) (s : State) :
    (changeClimate n f s).window = s.window := rfl
@[simp] theorem changeClimate_history (n : Nat) (f : ClimateRec → ClimateRec) (s : State) :
    (changeClimate n f s).history = s.history := rfl
@[simp] theorem changeClimate_strain (n : Nat) (f : ClimateRec → ClimateRec) (s : State) :
    (changeClimate n f s).strain = s.strain := rfl
@[simp] theorem changeClimate_overrun (n : Nat) (f : ClimateRec → ClimateRec) (s : State) :
    (changeClimate n f s).overrun = s.overrun := rfl
@[simp] theorem changeClimate_record (n : Nat) (f : ClimateRec → ClimateRec) (s : State) :
    (changeClimate n f s).record = s.record := rfl
@[simp] theorem changeClimate_settleAt (n : Nat) (f : ClimateRec → ClimateRec) (s : State) :
    (changeClimate n f s).settleAt = s.settleAt := rfl
@[simp] theorem changeClimate_lightOverrides (n : Nat) (f : ClimateRec → ClimateRec) (s : State) :
    (changeClimate n f s).lightOverrides = s.lightOverrides := rfl
@[simp] theorem changeClimate_climate (n : Nat) (f : ClimateRec → ClimateRec) (s : State) :
    (changeClimate n f s).climate = slotChange f s.climate n := rfl
@[simp] theorem changeClimate_mode (n : Nat) (f : ClimateRec → ClimateRec) (s : State) :
    (changeClimate n f s).mode = s.mode := rfl
@[simp] theorem changeClimate_returnMode (n : Nat) (f : ClimateRec → ClimateRec) (s : State) :
    (changeClimate n f s).returnMode = s.returnMode := rfl
@[simp] theorem changeClimate_signal (n : Nat) (f : ClimateRec → ClimateRec) (s : State) :
    (changeClimate n f s).signal = s.signal := rfl
@[simp] theorem changeClimate_receiver (n : Nat) (f : ClimateRec → ClimateRec) (s : State) :
    (changeClimate n f s).receiver = s.receiver := rfl
@[simp] theorem changeClimate_answering (n : Nat) (f : ClimateRec → ClimateRec) (s : State) :
    (changeClimate n f s).answering = s.answering := rfl
@[simp] theorem changeClimate_reply (n : Nat) (f : ClimateRec → ClimateRec) (s : State) :
    (changeClimate n f s).reply = s.reply := rfl
@[simp] theorem changeClimate_restartPending (n : Nat) (f : ClimateRec → ClimateRec) (s : State) :
    (changeClimate n f s).restartPending = s.restartPending := rfl
@[simp] theorem changeClimate_storePending (n : Nat) (f : ClimateRec → ClimateRec) (s : State) :
    (changeClimate n f s).storePending = s.storePending := rfl
@[simp] theorem changeClimate_supervisionAt (n : Nat) (f : ClimateRec → ClimateRec) (s : State) :
    (changeClimate n f s).supervisionAt = s.supervisionAt := rfl
@[simp] theorem changeClimate_notices (n : Nat) (f : ClimateRec → ClimateRec) (s : State) :
    (changeClimate n f s).notices = s.notices := rfl
@[simp] theorem changeClimate_lost (n : Nat) (f : ClimateRec → ClimateRec) (s : State) :
    (changeClimate n f s).lost = s.lost := rfl
@[simp] theorem changeClimate_store (n : Nat) (f : ClimateRec → ClimateRec) (s : State) :
    (changeClimate n f s).store = s.store := rfl

end Sys2Proof.Machine
end

