-- ==== Sys2Proof/Laws/Tables.lean ====
section
/-! SUPPORT. What the table operations do to a lookup, and that they keep the numbers strictly rising. -/

namespace Sys2Proof.Machine

theorem slotGet_slotSet {α : Type} (table : Table α) (k k' : Nat) (v : α) :
    slotGet (slotSet table k v) k' = if k' = k then some v else slotGet table k' := by
  induction table with
  | nil => by_cases h : k' = k <;> simp [slotSet, slotGet, h]
  | cons e rest ih =>
    obtain ⟨j, w⟩ := e
    simp only [slotSet]
    split
    · by_cases h : k' = k <;> simp [slotGet, h]
    · split
      · rename_i _ h2
        subst h2
        by_cases h : k' = k <;> simp [slotGet, h]
      · rename_i h1 h2
        simp only [slotGet, ih]
        by_cases hj : k' = j
        · subst hj
          simp [Ne.symm h2]
        · simp [hj]

theorem slotGet_mem {α : Type} (table : Table α) (k : Nat) (v : α) (h : slotGet table k = some v) :
    (k, v) ∈ table := by
  induction table with
  | nil => simp [slotGet] at h
  | cons e rest ih =>
    obtain ⟨j, w⟩ := e
    simp only [slotGet] at h
    split at h
    · rename_i hj
      subst hj
      simp only [Option.some.injEq] at h
      simp [h]
    · exact List.mem_cons_of_mem _ (ih h)

/-- In a table whose numbers rise, an entry is what its number looks up. -/
theorem slotGet_of_mem {α : Type} {table : Table α} (hw : slotWf table = true) {k : Nat} {r : α}
    (h : (k, r) ∈ table) : slotGet table k = some r := by
  induction table with
  | nil => cases h
  | cons e rest ih =>
    obtain ⟨j, v⟩ := e
    simp only [slotWf, Bool.and_eq_true, List.all_eq_true, decide_eq_true_eq] at hw
    rcases List.mem_cons.mp h with h | h
    · cases h
      simp [slotGet]
    · have := hw.1 _ h
      simp only [slotGet]
      rw [if_neg (by simp only at this; omega)]
      exact ih hw.2 h

theorem slotGet_slotChange {α : Type} (f : α → α) (table : Table α) (k k' : Nat) :
    slotGet (slotChange f table k) k' = if k' = k then (slotGet table k).map f else slotGet table k' := by
  induction table with
  | nil => simp [slotChange, slotGet]
  | cons e rest ih =>
    obtain ⟨j, w⟩ := e
    simp only [slotChange]
    split
    · rename_i h
      subst h
      by_cases h : k' = k <;> simp [slotGet, h]
    · rename_i h
      simp only [slotGet, ih]
      by_cases hj : k' = j
      · subst hj
        simp [Ne.symm h]
      · simp [hj, h]

theorem slotGet_slotMap {α β : Type} (f : Nat → α → β) (table : Table α) (k : Nat) :
    slotGet (slotMap f table) k = (slotGet table k).map (f k) := by
  induction table with
  | nil => simp [slotMap, slotGet]
  | cons e rest ih =>
    obtain ⟨j, w⟩ := e
    simp only [slotMap, List.map_cons, slotGet] at ih ⊢
    by_cases h : k = j
    · subst h; simp
    · simp [h, ih]

theorem slotChange_length {α : Type} (f : α → α) (table : Table α) (k : Nat) :
    (slotChange f table k).length = table.length := by
  induction table with
  | nil => rfl
  | cons e rest ih =>
    obtain ⟨j, w⟩ := e
    simp only [slotChange]
    split <;> simp [ih]

theorem slotMap_length {α β : Type} (f : Nat → α → β) (table : Table α) :
    (slotMap f table).length = table.length := by simp [slotMap]

theorem slotNumbers_slotChange {α : Type} (f : α → α) (table : Table α) (k : Nat) :
    slotNumbers (slotChange f table k) = slotNumbers table := by
  induction table with
  | nil => rfl
  | cons e rest ih =>
    obtain ⟨j, w⟩ := e
    simp only [slotChange, slotNumbers] at ih ⊢
    split <;> simp [ih]

theorem slotNumbers_slotMap {α β : Type} (f : Nat → α → β) (table : Table α) :
    slotNumbers (slotMap f table) = slotNumbers table := by
  simp [slotNumbers, slotMap]

/-- Every number of a table satisfies `p`. -/
theorem slotSet_numbers {α : Type} (p : Nat → Prop) (table : Table α) (k : Nat) (v : α)
    (h : ∀ e ∈ table, p e.1) (hk : p k) : ∀ e ∈ slotSet table k v, p e.1 := by
  induction table with
  | nil => simpa [slotSet] using hk
  | cons e rest ih =>
    obtain ⟨j, w⟩ := e
    simp only [slotSet]
    simp only [List.mem_cons, forall_eq_or_imp] at h
    split
    · simp only [List.mem_cons, forall_eq_or_imp]
      exact ⟨hk, h.1, h.2⟩
    · split
      · simp only [List.mem_cons, forall_eq_or_imp]
        exact ⟨hk, h.2⟩
      · simp only [List.mem_cons, forall_eq_or_imp]
        exact ⟨h.1, ih h.2⟩

theorem slotWf_slotSet {α : Type} (table : Table α) (k : Nat) (v : α) (h : slotWf table = true) :
    slotWf (slotSet table k v) = true := by
  induction table with
  | nil => simp [slotSet, slotWf]
  | cons e rest ih =>
    obtain ⟨j, w⟩ := e
    simp only [slotWf, Bool.and_eq_true, List.all_eq_true, decide_eq_true_eq] at h
    simp only [slotSet]
    split
    · rename_i hlt
      simp only [slotWf, List.all_cons, Bool.and_eq_true, List.all_eq_true, decide_eq_true_eq]
      exact ⟨⟨hlt, fun e he => Nat.lt_trans hlt (h.1 e he)⟩, h.1, h.2⟩
    · split
      · rename_i _ heq
        subst heq
        simp only [slotWf, Bool.and_eq_true, List.all_eq_true, decide_eq_true_eq]
        exact h
      · rename_i h1 h2
        simp only [slotWf, Bool.and_eq_true, List.all_eq_true, decide_eq_true_eq]
        exact ⟨slotSet_numbers (fun n => j < n) rest k v h.1 (by omega), ih h.2⟩

theorem slotWf_slotMap {α β : Type} (f : Nat → α → β) (table : Table α) :
    slotWf (slotMap f table) = slotWf table := by
  induction table with
  | nil => rfl
  | cons e rest ih =>
    obtain ⟨j, w⟩ := e
    simp only [slotMap, List.map_cons, slotWf, List.all_map] at ih ⊢
    rw [ih]
    rfl

theorem slotFree_sublist {α : Type} (table : Table α) (k : Nat) : (slotFree table k).Sublist table := by
  induction table with
  | nil => exact List.Sublist.slnil
  | cons e rest ih =>
    obtain ⟨j, w⟩ := e
    simp only [slotFree]
    split
    · exact List.sublist_cons_self _ _
    · exact ih.cons_cons _

theorem slotFree_length_le {α : Type} (table : Table α) (k : Nat) : (slotFree table k).length ≤ table.length :=
  (slotFree_sublist table k).length_le

/-- A freed slot is free, and the others keep their records. -/
theorem slotGet_slotFree {α : Type} (table : Table α) (k k' : Nat) (h : slotWf table = true) :
    slotGet (slotFree table k) k' = if k' = k then none else slotGet table k' := by
  induction table with
  | nil => simp [slotFree, slotGet]
  | cons e rest ih =>
    obtain ⟨j, w⟩ := e
    simp only [slotWf, Bool.and_eq_true, List.all_eq_true, decide_eq_true_eq] at h
    have absent : ∀ (r : Table α), (∀ e ∈ r, j < e.1) → slotGet r j = none := by
      intro r
      induction r with
      | nil => intro _; rfl
      | cons e' r' ih' =>
        obtain ⟨i, x⟩ := e'
        intro hr
        simp only [List.mem_cons, forall_eq_or_imp] at hr
        simp only [slotGet]
        rw [if_neg (by omega), ih' hr.2]
    simp only [slotFree]
    split
    · rename_i hk
      subst hk
      by_cases hk' : k' = k
      · subst hk'
        simp [absent rest h.1]
      · simp [slotGet, hk']
    · rename_i hk
      simp only [slotGet, ih h.2]
      by_cases hj : k' = j
      · subst hj
        simp [Ne.symm hk]
      · simp [hj]

/-- A change is decided by what it does to the record that the slot holds. -/
theorem slotChange_eq {α : Type} (f g : α → α) (table : Table α) (k : Nat) (r : α) (hr : slotGet table k = some r)
    (h : f r = g r) : slotChange f table k = slotChange g table k := by
  induction table with
  | nil => rfl
  | cons e rest ih =>
    obtain ⟨j, w⟩ := e
    simp only [slotGet] at hr
    simp only [slotChange]
    split at hr
    · rename_i hj
      subst hj
      simp only [Option.some.injEq] at hr
      subst hr
      simp [h]
    · rename_i hj
      simp [hj, ih hr]

end Sys2Proof.Machine
end

