-- ==== Sys2Proof/Laws/Sides.lean ====
section
/-! SUPPORT. What an operation can change, as relations between the state before and after it. Each relation names
the fields that may change, says that the rest stands, and carries the laws of the changed fields over. -/

namespace Sys2Proof.Machine

/-! ## Loops -/

theorem forEach_related {α : Type} {R : State → State → Prop} (refl : ∀ s, R s s)
    (trans : ∀ {a b c}, R a b → R b c → R a c) (f : α → State → State) (h : ∀ x s, R s (f x s))
    (items : List α) (s : State) : R s (forEach items f s) := by
  induction items generalizing s with
  | nil => exact refl s
  | cons x rest ih => exact trans (h x s) (ih (f x s))

@[simp] theorem forEach_nil {α : Type} (f : α → State → State) (s : State) : forEach [] f s = s := rfl

@[simp] theorem forEach_cons {α : Type} (x : α) (rest : List α) (f : α → State → State) (s : State) :
    forEach (x :: rest) f s = forEach rest f (f x s) := rfl

/-! ## Notices -/

theorem countLost_le (n : Nat) : countLost n ≤ 255 := by simp only [countLost]; omega

theorem pushNotice_bounded (n : Notice) (queue : List Notice) (lost : Nat) (hq : queue.length ≤ 40)
    (hl : lost ≤ 255) : (pushNotice n queue lost).1.length ≤ 40 ∧ (pushNotice n queue lost).2 ≤ 255 := by
  have hc := countLost_le lost
  unfold pushNotice
  split
  · rename_i h
    simp only [Config.noticeQueueLength] at h
    simp only [List.length_append, List.length_singleton]
    omega
  · split
    · exact ⟨hq, hc⟩
    · split
      · exact ⟨hq, hc⟩
      · rename_i h
        have hx : ∃ m ∈ queue, (!isPriority m.kind) = true := by
          simpa only [List.all_eq_true, not_forall, Bool.not_eq_true', Bool.not_eq_true, exists_prop] using h
        obtain ⟨m, hm, hp⟩ := hx
        have := List.length_eraseP_of_mem (p := fun m : Notice => !isPriority m.kind) hm hp
        have hpos := List.length_pos_of_mem hm
        simp only [List.length_append, List.length_singleton, this]
        omega

theorem raise_notices (kind : NoticeKind) (subject : Subject) (a b : Option Int) (s : State)
    (h : noticesBounded s) : noticesBounded (raise kind subject a b s) :=
  pushNotice_bounded _ _ _ h.1 h.2

/-! ## Presence entries, zones, notices -/

/-- What the occupancy unit can change. -/
structure PresenceSide (s t : State) : Prop where
  frame : t = { s with
    presence := t.presence, zones := t.zones, fullReported := t.fullReported, evictedDoors := t.evictedDoors
    notices := t.notices, lost := t.lost }
  notices : noticesBounded s → noticesBounded t
  zoneNumbers : slotNumbers t.zones = slotNumbers s.zones

theorem PresenceSide.refl (s : State) : PresenceSide s s := ⟨rfl, id, rfl⟩

theorem PresenceSide.trans {a b c : State} (h : PresenceSide a b) (k : PresenceSide b c) : PresenceSide a c where
  frame := k.frame.trans (by rw [h.frame])
  notices := k.notices ∘ h.notices
  zoneNumbers := k.zoneNumbers.trans h.zoneNumbers

/-! ## Doors -/

/-- What the door monitor can change. -/
structure DoorSide (s t : State) : Prop where
  frame : t = { s with
    presence := t.presence, zones := t.zones, fullReported := t.fullReported, evictedDoors := t.evictedDoors
    notices := t.notices, lost := t.lost
    doors := t.doors }
  notices : noticesBounded s → noticesBounded t
  zoneNumbers : slotNumbers t.zones = slotNumbers s.zones
  doorNumbers : slotNumbers t.doors = slotNumbers s.doors

theorem DoorSide.refl (s : State) : DoorSide s s := ⟨rfl, id, rfl, rfl⟩

theorem DoorSide.trans {a b c : State} (h : DoorSide a b) (k : DoorSide b c) : DoorSide a c where
  frame := k.frame.trans (by rw [h.frame])
  notices := k.notices ∘ h.notices
  zoneNumbers := k.zoneNumbers.trans h.zoneNumbers
  doorNumbers := k.doorNumbers.trans h.doorNumbers

theorem PresenceSide.door {s t : State} (h : PresenceSide s t) : DoorSide s t where
  frame := by rw [h.frame]
  notices := h.notices
  zoneNumbers := h.zoneNumbers
  doorNumbers := by rw [h.frame]

/-! ## Points -/

/-- What a delivery to the point table can change. -/
structure PointSide (s t : State) : Prop where
  frame : t = { s with
    presence := t.presence, zones := t.zones, fullReported := t.fullReported, evictedDoors := t.evictedDoors
    notices := t.notices, lost := t.lost
    doors := t.doors, points := t.points }
  notices : noticesBounded s → noticesBounded t
  zoneNumbers : slotNumbers t.zones = slotNumbers s.zones
  doorNumbers : slotNumbers t.doors = slotNumbers s.doors

theorem PointSide.refl (s : State) : PointSide s s := ⟨rfl, id, rfl, rfl⟩

theorem PointSide.trans {a b c : State} (h : PointSide a b) (k : PointSide b c) : PointSide a c where
  frame := k.frame.trans (by rw [h.frame])
  notices := k.notices ∘ h.notices
  zoneNumbers := k.zoneNumbers.trans h.zoneNumbers
  doorNumbers := k.doorNumbers.trans h.doorNumbers

theorem DoorSide.point {s t : State} (h : DoorSide s t) : PointSide s t where
  frame := by rw [h.frame]
  notices := h.notices
  zoneNumbers := h.zoneNumbers
  doorNumbers := h.doorNumbers

/-! ## Loads, terminals, lines -/

/-- What a line keeps of another: its laws and its nodes. -/
structure LineKept (a b : Line) : Prop where
  law : lineLaw a → lineLaw b
  nodes : slotNumbers b.nodes = slotNumbers a.nodes

theorem LineKept.refl (a : Line) : LineKept a a := ⟨id, rfl⟩

theorem LineKept.trans {a b c : Line} (h : LineKept a b) (k : LineKept b c) : LineKept a c :=
  ⟨k.law ∘ h.law, k.nodes.trans h.nodes⟩

/-- What commands of loads, reports of contact states and the line controllers can change. -/
structure LoadSide (s t : State) : Prop where
  frame : t = { s with
    presence := t.presence, zones := t.zones, fullReported := t.fullReported, evictedDoors := t.evictedDoors
    notices := t.notices, lost := t.lost
    doors := t.doors, points := t.points, terminals := t.terminals, loads := t.loads
    lineA := t.lineA, lineB := t.lineB }
  notices : noticesBounded s → noticesBounded t
  zoneNumbers : slotNumbers t.zones = slotNumbers s.zones
  doorNumbers : slotNumbers t.doors = slotNumbers s.doors
  loadNumbers : slotNumbers t.loads = slotNumbers s.loads
  lineA : LineKept s.lineA t.lineA
  lineB : LineKept s.lineB t.lineB

theorem LoadSide.refl (s : State) : LoadSide s s := ⟨rfl, id, rfl, rfl, rfl, .refl _, .refl _⟩

theorem LoadSide.trans {a b c : State} (h : LoadSide a b) (k : LoadSide b c) : LoadSide a c where
  frame := k.frame.trans (by rw [h.frame])
  notices := k.notices ∘ h.notices
  zoneNumbers := k.zoneNumbers.trans h.zoneNumbers
  doorNumbers := k.doorNumbers.trans h.doorNumbers
  loadNumbers := k.loadNumbers.trans h.loadNumbers
  lineA := h.lineA.trans k.lineA
  lineB := h.lineB.trans k.lineB

theorem PointSide.load {s t : State} (h : PointSide s t) : LoadSide s t where
  frame := by rw [h.frame]
  notices := h.notices
  zoneNumbers := h.zoneNumbers
  doorNumbers := h.doorNumbers
  loadNumbers := by rw [h.frame]
  lineA := by rw [h.frame]; exact .refl _
  lineB := by rw [h.frame]; exact .refl _

/-! ## Climate -/

/-- What the evaluations of the climate unit can change. -/
structure ComfortSide (s t : State) : Prop where
  frame : t = { s with
    presence := t.presence, zones := t.zones, fullReported := t.fullReported, evictedDoors := t.evictedDoors
    notices := t.notices, lost := t.lost
    doors := t.doors, points := t.points, terminals := t.terminals, loads := t.loads
    lineA := t.lineA, lineB := t.lineB, climate := t.climate }
  notices : noticesBounded s → noticesBounded t
  zoneNumbers : slotNumbers t.zones = slotNumbers s.zones
  doorNumbers : slotNumbers t.doors = slotNumbers s.doors
  loadNumbers : slotNumbers t.loads = slotNumbers s.loads
  climateNumbers : slotNumbers t.climate = slotNumbers s.climate
  lineA : LineKept s.lineA t.lineA
  lineB : LineKept s.lineB t.lineB

theorem ComfortSide.refl (s : State) : ComfortSide s s := ⟨rfl, id, rfl, rfl, rfl, rfl, .refl _, .refl _⟩

theorem ComfortSide.trans {a b c : State} (h : ComfortSide a b) (k : ComfortSide b c) : ComfortSide a c where
  frame := k.frame.trans (by rw [h.frame])
  notices := k.notices ∘ h.notices
  zoneNumbers := k.zoneNumbers.trans h.zoneNumbers
  doorNumbers := k.doorNumbers.trans h.doorNumbers
  loadNumbers := k.loadNumbers.trans h.loadNumbers
  climateNumbers := k.climateNumbers.trans h.climateNumbers
  lineA := h.lineA.trans k.lineA
  lineB := h.lineB.trans k.lineB

theorem LoadSide.comfort {s t : State} (h : LoadSide s t) : ComfortSide s t where
  frame := by rw [h.frame]
  notices := h.notices
  zoneNumbers := h.zoneNumbers
  doorNumbers := h.doorNumbers
  loadNumbers := h.loadNumbers
  climateNumbers := by rw [h.frame]
  lineA := h.lineA
  lineB := h.lineB

/-! ## Everything that an event can change -/

/-- What the blocks behind the lines, the terminals and the timers can change, the running time apart: not the
configuration, the clock, the plan, the store, the host link, the queue of commands. -/
structure FieldSide (s t : State) : Prop where
  frame : t = { s with
    presence := t.presence, zones := t.zones, fullReported := t.fullReported, evictedDoors := t.evictedDoors
    notices := t.notices, lost := t.lost
    doors := t.doors, points := t.points, terminals := t.terminals, loads := t.loads
    lineA := t.lineA, lineB := t.lineB, climate := t.climate, windows := t.windows, recent := t.recent
    nextSeq := t.nextSeq, signal := t.signal, mode := t.mode, returnMode := t.returnMode
    emergencyAt := t.emergencyAt, releaseAt := t.releaseAt, termOrder := t.termOrder, window := t.window
    strain := t.strain, overrun := t.overrun, record := t.record }
  notices : noticesBounded s → noticesBounded t
  zoneNumbers : slotNumbers t.zones = slotNumbers s.zones
  doorNumbers : slotNumbers t.doors = slotNumbers s.doors
  loadNumbers : slotNumbers t.loads = slotNumbers s.loads
  climateNumbers : slotNumbers t.climate = slotNumbers s.climate
  lineA : LineKept s.lineA t.lineA
  lineB : LineKept s.lineB t.lineB
  recent : s.recent.length ≤ 32 → t.recent.length ≤ 32
  nextSeq : s.nextSeq ≤ 65535 → t.nextSeq ≤ 65535
  mode : modeLegal s → modeLegal t

theorem FieldSide.refl (s : State) : FieldSide s s :=
  ⟨rfl, id, rfl, rfl, rfl, rfl, .refl _, .refl _, id, id, id⟩

theorem FieldSide.trans {a b c : State} (h : FieldSide a b) (k : FieldSide b c) : FieldSide a c where
  frame := k.frame.trans (by rw [h.frame])
  notices := k.notices ∘ h.notices
  zoneNumbers := k.zoneNumbers.trans h.zoneNumbers
  doorNumbers := k.doorNumbers.trans h.doorNumbers
  loadNumbers := k.loadNumbers.trans h.loadNumbers
  climateNumbers := k.climateNumbers.trans h.climateNumbers
  lineA := h.lineA.trans k.lineA
  lineB := h.lineB.trans k.lineB
  recent := k.recent ∘ h.recent
  nextSeq := k.nextSeq ∘ h.nextSeq
  mode := k.mode ∘ h.mode

theorem ComfortSide.field {s t : State} (h : ComfortSide s t) : FieldSide s t where
  frame := by rw [h.frame]
  notices := h.notices
  zoneNumbers := h.zoneNumbers
  doorNumbers := h.doorNumbers
  loadNumbers := h.loadNumbers
  climateNumbers := h.climateNumbers
  lineA := h.lineA
  lineB := h.lineB
  recent := by rw [h.frame]; exact id
  nextSeq := by rw [h.frame]; exact id
  mode := by rw [h.frame]; exact id

theorem LoadSide.field {s t : State} (h : LoadSide s t) : FieldSide s t := h.comfort.field

theorem PointSide.field {s t : State} (h : PointSide s t) : FieldSide s t := h.load.field

theorem PresenceSide.point {s t : State} (h : PresenceSide s t) : PointSide s t := h.door.point

theorem DoorSide.load {s t : State} (h : DoorSide s t) : LoadSide s t := h.point.load

end Sys2Proof.Machine
end

