-- ==== Sys2Proof/Laws/Field.lean ====
section
/-! SUPPORT. What each operation of the occupancy unit, the door monitor, the point table, the arbiters and the
loads can change, one lemma for each operation. -/

namespace Sys2Proof.Machine

/-! ## Occupancy -/

theorem raise_pres (kind : NoticeKind) (subject : Subject) (a b : Option Int) (s : State) :
    PresenceSide s (raise kind subject a b s) := ⟨rfl, raise_notices kind subject a b s, rfl⟩

theorem changeZone_pres (z : Nat) (f : ZoneRec → ZoneRec) (s : State) : PresenceSide s (changeZone z f s) :=
  ⟨rfl, id, slotNumbers_slotChange f s.zones z⟩

theorem judgeZone_pres (z : Nat) (s : State) : PresenceSide s (judgeZone z s) := changeZone_pres _ _ _

theorem clearFullReported_pres (s : State) : PresenceSide s (clearFullReported s) := ⟨rfl, id, rfl⟩

theorem setPresence_pres (table : Table PresenceEntry) (s : State) :
    PresenceSide s { s with presence := table } := ⟨rfl, id, rfl⟩

theorem setEntries_pres (table : Table PresenceEntry) (doors : List Nat) (s : State) :
    PresenceSide s { s with presence := table, evictedDoors := doors } := ⟨rfl, id, rfl⟩

theorem removeEntry_pres (slot : Nat) (s : State) : PresenceSide s (removeEntry slot s) := by
  unfold removeEntry
  split
  · exact .refl s
  · exact (setPresence_pres _ s).trans ((clearFullReported_pres _).trans (judgeZone_pres _ _))

theorem makeRoom_pres (z : Nat) (s : State) : PresenceSide s (makeRoom z s) := by
  unfold makeRoom
  split
  · exact .refl s
  · split
    · exact .refl s
    · rename_i slot e _
      have h : PresenceSide s (judgeZone e.zone { s with
          presence := slotFree s.presence slot
          evictedDoors := withEvicted e.source s.evictedDoors }) :=
        (setEntries_pres _ _ s).trans (judgeZone_pres _ _)
      dsimp only
      split
      · exact h
      · exact (h.trans (raise_pres _ _ _ _ _)).trans ⟨rfl, id, rfl⟩

theorem createEntry_pres (e : PresenceEntry) (s : State) : PresenceSide s (createEntry e s) :=
  (makeRoom_pres e.zone s).trans ((setEntries_pres _ _ _).trans (judgeZone_pres _ _))

theorem refreshEntry_pres (z : Nat) (source : PresenceSource) (life : PresenceLife) (s : State) :
    PresenceSide s (refreshEntry z source life s) := by
  unfold refreshEntry
  split
  · exact ⟨rfl, id, rfl⟩
  · exact createEntry_pres _ _

theorem presenceEvent_pres (z : Nat) (source : PointRef) (marked : Bool) (s : State) :
    PresenceSide s (presenceEvent z source marked s) := by
  unfold presenceEvent
  split
  · exact .refl s
  · dsimp only
    split
    · exact (refreshEntry_pres _ _ _ _).trans (changeZone_pres _ _ _)
    · exact refreshEntry_pres _ _ _ _

theorem holdEntry_pres (z door seconds : Nat) (s : State) : PresenceSide s (holdEntry z door seconds s) := by
  unfold holdEntry
  split
  · exact refreshEntry_pres _ _ _ _
  · exact .refl s

theorem releaseEntry_pres (z door ms : Nat) (s : State) : PresenceSide s (releaseEntry z door ms s) := by
  unfold releaseEntry
  split
  · exact ⟨rfl, id, rfl⟩
  · exact .refl s

theorem dropEntry_pres (z : Nat) (source : PresenceSource) (s : State) : PresenceSide s (dropEntry z source s) := by
  unfold dropEntry
  split
  · exact removeEntry_pres _ _
  · exact .refl s

theorem presenceContact_pres (bus : Bus) (addr : Nat) (new : Contact) (s : State) :
    PresenceSide s (presenceContact bus addr new s) := by
  unfold presenceContact
  split
  · exact .refl s
  · exact ⟨rfl, id, rfl⟩

theorem judgeAllZones_pres (s : State) : PresenceSide s (judgeAllZones s) :=
  forEach_related .refl .trans _ judgeZone_pres _ _

theorem flushEntries_pres (p : PresenceEntry → Bool) (s : State) : PresenceSide s (flushEntries p s) :=
  forEach_related .refl .trans _ removeEntry_pres _ _

/-! ## Doors -/

theorem changeDoor_side (d : Nat) (f : DoorRec → DoorRec) (s : State) : DoorSide s (changeDoor d f s) :=
  ⟨rfl, id, rfl, slotNumbers_slotChange f s.doors d⟩

theorem handPresence_pres (d zone : Nat) (old new : DoorState) (s : State) :
    PresenceSide s (handPresence d zone old new s) := by
  unfold handPresence
  dsimp only
  split
  · exact holdEntry_pres _ _ _ _
  · split
    · split
      · exact releaseEntry_pres _ _ _ _
      · split
        · exact releaseEntry_pres _ _ _ _
        · exact .refl s
    · exact .refl s

theorem enterDoorState_side (d : Nat) (new : DoorState) (f : DoorRec → DoorRec) (s : State) :
    DoorSide s (enterDoorState d new f s) := by
  unfold enterDoorState
  split
  · exact (changeDoor_side d _ s).trans (handPresence_pres _ _ _ _ _).door
  · exact .refl s

theorem openTransition_side (d : Nat) (r : DoorRec) (enters : State → State)
    (h : ∀ s, DoorSide s (enters s)) (s : State) : DoorSide s (openTransition d r enters s) := by
  unfold openTransition
  dsimp only
  split
  · split
    · exact changeDoor_side _ _ _
    · exact (changeDoor_side _ _ _).trans ((enterDoorState_side _ _ _ _).trans (raise_pres _ _ _ _ _).door)
  · exact (changeDoor_side _ _ _).trans (h _)

theorem doorOpened_side (d : Nat) (s : State) : DoorSide s (doorOpened d s) := by
  unfold doorOpened
  split
  · exact .refl s
  · split
    · exact openTransition_side _ _ _ (fun s => enterDoorState_side _ _ _ s) _
    · exact changeDoor_side _ _ _
    · exact changeDoor_side _ _ _
    · split
      · exact openTransition_side _ _ _ .refl _
      · exact changeDoor_side _ _ _
    · exact .refl s

theorem doorClosed_side (d : Nat) (s : State) : DoorSide s (doorClosed d s) := by
  unfold doorClosed
  split
  · exact .refl s
  · split
    · exact changeDoor_side _ _ _
    · exact enterDoorState_side _ _ _ _
    · exact enterDoorState_side _ _ _ _
    · exact changeDoor_side _ _ _
    · exact .refl s

theorem refreshHold_pres (d : Nat) (s : State) : PresenceSide s (refreshHold d s) := by
  unfold refreshHold
  split
  · exact holdEntry_pres _ _ _ _
  · exact .refl s

theorem closingValue_side (d : Nat) (s : State) : DoorSide s (closingValue d s) := by
  unfold closingValue
  split
  · exact doorClosed_side d s
  · exact (refreshHold_pres d s).door.trans (doorClosed_side d _)

theorem doorValue_side (d : Nat) (isOpen : Bool) (s : State) : DoorSide s (doorValue d isOpen s) := by
  unfold doorValue
  split
  · exact .refl s
  · split
    · exact enterDoorState_side _ _ _ _
    · exact enterDoorState_side _ _ _ _
    · exact (refreshHold_pres d s).door
    · exact (refreshHold_pres d s).door
    · exact closingValue_side d s
    · exact closingValue_side d s
    · exact .refl s
    · exact doorOpened_side _ _
    · exact doorClosed_side _ _

theorem doorUnknown_side (d : Nat) (cause : UnknownCause) (s : State) : DoorSide s (doorUnknown d cause s) := by
  unfold doorUnknown
  split
  · exact .refl s
  · split
    · exact .refl s
    · exact (enterDoorState_side _ _ _ _).trans (raise_pres _ _ _ _ _).door

theorem doorContact_side (bus : Bus) (addr : Nat) (new : Contact) (s : State) :
    DoorSide s (doorContact bus addr new s) := by
  unfold doorContact
  dsimp only
  split
  · exact .refl s
  all_goals exact forEach_related .refl .trans _ (fun d t => doorUnknown_side d _ t) _ _

theorem becomeHeldOpen_side (d : Nat) (s : State) : DoorSide s (becomeHeldOpen d s) := by
  unfold becomeHeldOpen
  split
  · exact .refl s
  · exact (enterDoorState_side _ _ _ _).trans (raise_pres _ _ _ _ _).door

theorem judgeChatter_side (d : Nat) (w : CountWindow) (value : Option Int) (t : Nat) (s : State) :
    DoorSide s (judgeChatter d w value t s) := by
  unfold judgeChatter
  split
  · exact changeDoor_side _ _ _
  · exact enterDoorState_side _ _ _ _
  · exact enterDoorState_side _ _ _ _
  · exact changeDoor_side _ _ _

/-! ## Points -/

theorem changePoint_side (p : PointRef) (f : PointRec → PointRec) (s : State) : PointSide s (changePoint p f s) :=
  ⟨rfl, id, rfl, rfl⟩

theorem handDoors_side (p : PointRef) (v : Int) (s : State) : DoorSide s (handDoors p v s) := by
  unfold handDoors
  split
  · exact forEach_related .refl .trans _ (fun d t => doorValue_side d _ t) _ _
  · exact .refl s

theorem takeValue_side (p : PointRef) (v : Int) (s : State) : PointSide s (takeValue p v s) :=
  (changePoint_side _ _ _).trans (handDoors_side _ _ _).point

theorem deliverRead_side (p : PointRef) (v : Int) (s : State) : PointSide s (deliverRead p v s) := by
  unfold deliverRead
  split
  · exact .refl s
  · split
    · exact changePoint_side _ _ _
    · exact takeValue_side _ _ _

theorem deliverTerminal_side (t : Nat) (v : Int) (s : State) : PointSide s (deliverTerminal t v s) :=
  (changePoint_side _ _ _).trans (handDoors_side _ _ _).point

theorem writeQueued_side (p : PointRef) (s : State) : PointSide s (writeQueued p s) := changePoint_side _ _ _

theorem writeOk_side (p : PointRef) (v tries : Nat) (s : State) : PointSide s (writeOk p v tries s) := by
  unfold writeOk
  dsimp only
  split
  · exact (changePoint_side _ _ _).trans (takeValue_side _ _ _)
  · exact changePoint_side _ _ _

theorem writeFailed_side (p : PointRef) (tries : Nat) (s : State) : PointSide s (writeFailed p tries s) :=
  changePoint_side _ _ _

theorem markStale_side (p : PointRef) (s : State) : PointSide s (markStale p s) := by
  unfold markStale
  split
  · exact .refl s
  · dsimp only
    split
    · exact (changePoint_side _ _ _).trans
        (forEach_related .refl .trans _ (fun d t => (doorUnknown_side d _ t).point) _ _)
    · exact changePoint_side _ _ _

theorem inContactMark_side (p : PointRef) (s : State) : PointSide s (inContactMark p s) := by
  unfold inContactMark
  split
  · exact markStale_side _ _
  · exact .refl s

theorem contactMark_side (new : Contact) (down : Bool) (p : PointRef) (s : State) :
    PointSide s (contactMark new down p s) := by
  unfold contactMark
  split
  · exact inContactMark_side _ _
  · exact changePoint_side _ _ _
  · exact markStale_side _ _

theorem pointContact_side (bus : Bus) (addr : Nat) (new : Contact) (s : State) :
    PointSide s (pointContact bus addr new s) :=
  forEach_related .refl .trans _ (contactMark_side _ _) _ _

theorem restale_side (p : PointRef) (s : State) : PointSide s (restale p s) := by
  unfold restale
  split
  · exact .refl s
  · split
    · exact markStale_side _ _
    · exact .refl s

theorem oneOffEnded_side (p : PointRef) (s : State) : PointSide s (oneOffEnded p s) := changePoint_side _ _ _

/-! ## Lines -/

/-- A change of one line that keeps its laws. -/
theorem changeLine_side (l : LineId) (f : Line → Line) (h : ∀ line, LineKept line (f line)) (s : State) :
    LoadSide s (changeLine l f s) := by
  cases l
  · exact ⟨rfl, id, rfl, rfl, rfl, h _, .refl _⟩
  · exact ⟨rfl, id, rfl, rfl, rfl, .refl _, h _⟩

/-- A change of one line that keeps the laws of the line that stands there. -/
theorem changeLine_side_of (l : LineId) (f : Line → Line) (s : State) (h : LineKept (getLine s l) (f (getLine s l))) :
    LoadSide s (changeLine l f s) := by
  cases l
  · exact ⟨rfl, id, rfl, rfl, rfl, h, .refl _⟩
  · exact ⟨rfl, id, rfl, rfl, rfl, .refl _, h⟩

/-- The node and point that an entry of a queue is for. -/
def entryKey (e : QueueEntry) : Nat × Nat := (e.node, e.point)

theorem entryFor_iff (node point : Nat) (e : QueueEntry) : entryFor node point e = true ↔ entryKey e = (node, point) := by
  simp [entryFor, entryKey]

theorem joinQueue_single (node point value : Nat) (origin : Origin) (queue : List QueueEntry)
    (h : (queue.map entryKey).Nodup) : ((joinQueue node point value origin queue).map entryKey).Nodup := by
  unfold joinQueue
  split
  · rw [List.map_map]
    have : entryKey ∘ (fun e => if entryFor node point e = true then { e with value := value, tries := 0 } else e)
        = entryKey := by
      funext e
      simp only [Function.comp]
      split <;> rfl
    rw [this]
    exact h
  · rename_i hn
    rw [List.map_append, List.nodup_append]
    refine ⟨h, by simp, ?_⟩
    intro a ha b hb hab
    simp only [List.map_cons, List.map_nil, List.mem_singleton] at hb
    obtain ⟨e, he, rfl⟩ := List.mem_map.mp ha
    apply hn
    rw [List.any_eq_true]
    refine ⟨e, he, (entryFor_iff _ _ _).mpr ?_⟩
    rw [hab, hb]
    rfl

/-- A replacement in place leaves the HOST entries as many as they are. -/
theorem hostEntries_replace (node point value : Nat) (queue : List QueueEntry) :
    hostEntries (queue.map fun e => if entryFor node point e then { e with value := value, tries := 0 } else e)
      = hostEntries queue := by
  unfold hostEntries
  rw [List.countP_map]
  congr 1
  funext e
  simp only [Function.comp]
  split <;> rfl

/-- R35: an INTERNAL write, and a HOST write that is not answered BUSY, leave at most eight HOST entries. -/
theorem joinQueue_hosts (node point value : Nat) (origin : Origin) (queue : List QueueEntry)
    (h : origin = .internal ∨ hostQueueFull node point queue = false) (k : hostEntries queue ≤ 8) :
    hostEntries (joinQueue node point value origin queue) ≤ 8 := by
  unfold joinQueue
  split
  · rw [hostEntries_replace]
    exact k
  · rename_i hn
    simp only [hostQueueFull, hn, Bool.not_false, Bool.true_and, decide_eq_false_iff_not, not_le] at h
    simp only [hostEntries, List.countP_append, List.countP_singleton] at h k ⊢
    rcases h with rfl | h
    · simpa using k
    · split <;> omega

theorem joinQueue_kept (node point value : Nat) (origin : Origin) (line : Line)
    (h : origin = .internal ∨ hostQueueFull node point line.queue = false) :
    LineKept line { line with queue := joinQueue node point value origin line.queue } :=
  ⟨fun k => ⟨k.1, k.2.1, joinQueue_single _ _ _ _ _ k.2.2.1, joinQueue_hosts node point value origin line.queue h k.2.2.2⟩,
    rfl⟩

/-- A line that loses queued writes and one-off reads, and whose error count and nodes stand. -/
structure LineSlims (a b : Line) : Prop where
  errors : b.errors = a.errors
  oneOffs : b.oneOffs.Sublist a.oneOffs
  queue : b.queue.Sublist a.queue
  nodes : slotNumbers b.nodes = slotNumbers a.nodes

theorem LineSlims.refl (a : Line) : LineSlims a a := ⟨rfl, List.Sublist.refl _, List.Sublist.refl _, rfl⟩

theorem LineSlims.kept {a b : Line} (h : LineSlims a b) : LineKept a b :=
  ⟨fun k => ⟨h.errors ▸ k.1, h.oneOffs.length_le.trans k.2.1, k.2.2.1.sublist (h.queue.map _),
    (h.queue.countP_le).trans k.2.2.2⟩, h.nodes⟩

/-- A queue that loses entries keeps one at most for each point, and its HOST entries grow no more. -/
theorem queue_sublist_kept (line : Line) (queue : List QueueEntry) (h : queue.Sublist line.queue) :
    LineKept line { line with queue := queue } :=
  LineSlims.kept ⟨rfl, List.Sublist.refl _, h, rfl⟩

/-- One-off reads that lose members stay within their number. -/
theorem oneOffs_sublist_kept (line : Line) (oneOffs : List NodePoint) (h : oneOffs.Sublist line.oneOffs) :
    LineKept line { line with oneOffs := oneOffs } :=
  LineSlims.kept ⟨rfl, h, List.Sublist.refl _, rfl⟩

theorem queueWrite_side (l : LineId) (node point value : Nat) (origin : Origin) (s : State)
    (h : origin = .internal ∨ hostQueueFull node point (getLine s l).queue = false) :
    LoadSide s (queueWrite l node point value origin s) :=
  (changeLine_side_of l _ s (joinQueue_kept node point value origin _ h)).trans (writeQueued_side _ _).load

theorem takeWork_slims (now : Nat) (cfg : LineCfg) (node : Nat) (work : TxnWork) (line : Line) :
    LineSlims line (takeWork now cfg node work line) := by
  unfold takeWork
  split
  · exact ⟨rfl, List.Sublist.refl _, List.erase_sublist, rfl⟩
  · exact ⟨rfl, List.Sublist.refl _, List.Sublist.refl _, rfl⟩
  · exact ⟨rfl, List.Sublist.refl _, List.Sublist.refl _, slotNumbers_slotChange _ _ _⟩
  · exact ⟨rfl, List.erase_sublist, List.Sublist.refl _, rfl⟩
  · exact ⟨rfl, List.Sublist.refl _, List.Sublist.refl _, rfl⟩

/-- A grant takes work out of a line's lists and adds none. -/
theorem grantLine_slims (now : Nat) (cfg : LineCfg) (line : Line) : LineSlims line (grantLine now cfg line) := by
  unfold grantLine
  split
  · exact .refl _
  · split
    · exact .refl _
    · rename_i node work _
      have h := takeWork_slims now cfg node work line
      exact ⟨h.errors, h.oneOffs, h.queue, h.nodes⟩

theorem grantLine_kept (now : Nat) (cfg : LineCfg) (line : Line) : LineKept line (grantLine now cfg line) :=
  (grantLine_slims now cfg line).kept

theorem grantLines_side (s : State) : LoadSide s (grantLines s) :=
  ⟨rfl, id, rfl, rfl, rfl, grantLine_kept _ _ _, grantLine_kept _ _ _⟩

/-! ## Loads -/

theorem changeTerminal_side (t : Nat) (f : TermRec → TermRec) (s : State) : LoadSide s (changeTerminal t f s) :=
  ⟨rfl, id, rfl, rfl, rfl, .refl _, .refl _⟩

theorem changeLoad_side (k : Nat) (f : LoadRec → LoadRec) (s : State) : LoadSide s (changeLoad k f s) :=
  ⟨rfl, id, rfl, rfl, slotNumbers_slotChange f s.loads k, .refl _, .refl _⟩

theorem driven_side (t v : Nat) (s : State) : PointSide s (driven t v s) :=
  (changePoint_side _ _ _).trans (deliverTerminal_side _ _ _)

theorem driveTerminal_side (t v : Nat) (s : State) : LoadSide s (driveTerminal t v s) := by
  unfold driveTerminal
  split
  · exact (changeTerminal_side _ _ _).trans (driven_side _ _ _).load
  · exact (changeTerminal_side _ _ _).trans (driven_side _ _ _).load
  · exact .refl s

theorem switchStrainOut_side (on : Bool) (t : Nat) (s : State) : LoadSide s (switchStrainOut on t s) :=
  (changeTerminal_side _ _ _).trans (driven_side _ _ _).load

theorem switchStrain_side (on : Bool) (s : State) : LoadSide s (switchStrain on s) :=
  forEach_related .refl .trans _ (switchStrainOut_side on) _ _

theorem issueCommand_side (k : Nat) (s : State) : LoadSide s (issueCommand k s) := by
  unfold issueCommand
  split
  · dsimp only
    split
    · exact (changeLoad_side _ _ _).trans (driveTerminal_side _ _ _)
    · exact (changeLoad_side _ _ _).trans (queueWrite_side _ _ _ _ _ _ (.inl rfl))
  · exact .refl s

theorem checkCommand_side (k : Nat) (s : State) : LoadSide s (checkCommand k s) := by
  unfold checkCommand
  split
  · exact issueCommand_side _ _
  · exact .refl s

theorem enterEmergencyLoad_side (k : Nat) (s : State) : LoadSide s (enterEmergencyLoad k s) := by
  unfold enterEmergencyLoad
  split
  · exact .refl s
  · exact (changeLoad_side _ _ _).trans (checkCommand_side _ _)

theorem changeClimate_side (z : Nat) (f : ClimateRec → ClimateRec) (s : State) :
    ComfortSide s (changeClimate z f s) :=
  ⟨rfl, id, rfl, rfl, rfl, slotNumbers_slotChange f s.climate z, .refl _, .refl _⟩

theorem raise_side (kind : NoticeKind) (subject : Subject) (a b : Option Int) (s : State) :
    LoadSide s (raise kind subject a b s) := (raise_pres kind subject a b s).point.load

theorem stopVentilation_side (z : Nat) (s : State) : ComfortSide s (stopVentilation z s) := by
  unfold stopVentilation
  split
  · exact .refl s
  · dsimp only
    split
    · exact (changeClimate_side _ _ _).trans (raise_side _ _ _ _ _).comfort
    · exact changeClimate_side _ _ _

theorem emergencyStages_side (s : State) : ComfortSide s (emergencyStages s) := by
  unfold emergencyStages
  split
  · exact forEach_related .refl .trans _ stopVentilation_side _ _
  · exact .refl s

theorem handEmergency_side (s : State) : ComfortSide s (handEmergency s) :=
  (forEach_related .refl .trans _ (fun k t => (enterEmergencyLoad_side k t).comfort) _ _).trans
    (emergencyStages_side _)

theorem handVentilation_side (s : State) : ComfortSide s (handVentilation s) :=
  (forEach_related .refl .trans _ (fun k t => (enterEmergencyLoad_side k t).comfort) _ _).trans
    (emergencyStages_side _)

theorem loadTakesContact_side (new : Contact) (k : Nat) (s : State) : LoadSide s (loadTakesContact new k s) := by
  unfold loadTakesContact
  split
  · split
    · exact .refl s
    · split
      · exact changeLoad_side _ _ _
      · exact (changeLoad_side _ _ _).trans (checkCommand_side _ _)
  · exact .refl s

theorem loadContact_side (bus : Bus) (addr : Nat) (new : Contact) (s : State) :
    LoadSide s (loadContact bus addr new s) :=
  forEach_related .refl .trans _ (loadTakesContact_side new) _ _

theorem takeFallback_side (k : Nat) (s : State) : LoadSide s (takeFallback k s) := by
  unfold takeFallback
  split
  · exact .refl s
  · exact changeLoad_side _ _ _

theorem cutLoad_side (k : Nat) (s : State) : LoadSide s (cutLoad k s) := by
  unfold cutLoad
  split
  · dsimp only
    split
    · exact (changeLoad_side _ _ _).trans (checkCommand_side _ _)
    · exact .refl s
  · exact .refl s

/-! ## Contact states -/

theorem reportContact_side (bus : Bus) (addr : Nat) (old : Contact) (s : State) :
    LoadSide s (reportContact bus addr old s) := by
  unfold reportContact
  dsimp only
  split
  · exact .refl s
  · exact (pointContact_side _ _ _ _).load.trans ((doorContact_side _ _ _ _).load.trans
      ((presenceContact_pres _ _ _ _).point.load.trans (loadContact_side _ _ _ _)))

theorem reportLine_side (l : LineId) (before : Line) (s : State) : LoadSide s (reportLine l before s) :=
  forEach_related .refl .trans _ (fun _ t => reportContact_side _ _ _ t) _ _

theorem dropOneOffs_side (l : LineId) (p : NodePoint → Bool) (s : State) : LoadSide s (dropOneOffs l p s) := by
  unfold dropOneOffs
  dsimp only
  exact (changeLine_side l _ (fun line => oneOffs_sublist_kept _ _ List.filter_sublist) s).trans
    (forEach_related .refl .trans _ (fun _ t => (oneOffEnded_side _ t).load) _ _)

theorem leaveLists_side (l : LineId) (addr : Nat) (s : State) : LoadSide s (leaveLists l addr s) :=
  (changeLine_side l _ (fun _ => by exact ⟨id, rfl⟩) s).trans (dropOneOffs_side _ _ _)

theorem abandonedWork_side (l : LineId) (x : Txn) (s : State) : LoadSide s (abandonedWork l x s) := by
  unfold abandonedWork
  split
  · exact .refl s
  · split
    · exact (writeFailed_side _ _ _).load
    · exact (oneOffEnded_side _ _).load
    · exact .refl s

theorem abandon_side (l : LineId) (s : State) : LoadSide s (abandon l s) := by
  unfold abandon
  split
  · exact .refl s
  · exact (changeLine_side l _ (fun _ => by exact ⟨id, rfl⟩) s).trans (abandonedWork_side _ _ _)

theorem emptyLists_side (l : LineId) (s : State) : LoadSide s (emptyLists l s) :=
  (changeLine_side l _ (fun _ => by exact ⟨id, rfl⟩) s).trans (dropOneOffs_side _ _ _)

theorem markLineStale_side (l : LineId) (s : State) : LoadSide s (markLineStale l s) :=
  forEach_related LoadSide.refl LoadSide.trans _
    (fun _ _ => forEach_related LoadSide.refl LoadSide.trans _ (fun p t => (markStale_side p t).load) _ _) _ _

theorem enterLineDown_side (l : LineId) (s : State) : LoadSide s (enterLineDown l s) := by
  unfold enterLineDown
  dsimp only
  exact ((changeLine_side l _ (fun _ => by exact ⟨fun h => ⟨Nat.le_refl _, h.2⟩, rfl⟩) s).trans
    (raise_side _ _ _ _ _)).trans ((abandon_side _ _).trans ((emptyLists_side _ _).trans
      ((markLineStale_side _ _).trans (reportLine_side _ _ _))))

theorem judgeLine_side (l : LineId) (s : State) : LoadSide s (judgeLine l s) := by
  unfold judgeLine
  dsimp only
  split
  · split
    · exact (changeLine_side l _ (fun _ => by exact ⟨id, rfl⟩) s).trans (raise_side _ _ _ _ _)
    · exact .refl s
  · split
    · exact (changeLine_side l _ (fun _ => by exact ⟨id, rfl⟩) s).trans (raise_side _ _ _ _ _)
    · exact .refl s
  · exact .refl s

theorem lineFault_side (l : LineId) (s : State) : LoadSide s (lineFault l s) := by
  unfold lineFault
  split
  · exact .refl s
  · split
    · exact enterLineDown_side _ _
    · rename_i h
      refine (changeLine_side_of l _ s ⟨fun k => ⟨?_, k.2⟩, rfl⟩).trans (judgeLine_side _ _)
      change (getLine s l).errors + 8 ≤ 255
      omega

theorem lineCredit_side (l : LineId) (s : State) : LoadSide s (lineCredit l s) := by
  unfold lineCredit
  split
  · exact .refl s
  · exact (changeLine_side l _ (fun _ => by exact ⟨fun k => ⟨(Nat.sub_le _ _).trans k.1, k.2⟩, rfl⟩) s).trans
      (judgeLine_side _ _)

theorem recoverLine_side (l : LineId) (s : State) : LoadSide s (recoverLine l s) := by
  unfold recoverLine
  dsimp only
  exact ((changeLine_side l _ (fun _ => by exact ⟨fun k => ⟨Nat.zero_le _, k.2⟩, slotNumbers_slotMap (fun _ n => renewNode s.now n) _⟩) s).trans
    (raise_side _ _ _ _ _)).trans (reportLine_side _ _ _)

theorem failQueue_side (l : LineId) (s : State) : LoadSide s (failQueue l s) := by
  unfold failQueue
  exact (changeLine_side l _ (fun _ => queue_sublist_kept _ _ (List.nil_sublist _)) s).trans
    (forEach_related .refl .trans _ (fun _ t => (writeFailed_side _ _ t).load) _ _)

theorem restartLine_side (l : LineId) (s : State) : LoadSide s (restartLine l s) := by
  unfold restartLine
  dsimp only
  have h : LoadSide s (reportLine l (getLine s l) (markLineStale l (changeLine l (fun line => { line with
      state := .ok, errors := 0,
      nodes := slotMap (fun _ n => restartNode s.now n) line.nodes }) (emptyLists l (failQueue l (abandon l s)))))) :=
    (abandon_side _ _).trans ((failQueue_side _ _).trans ((emptyLists_side _ _).trans
      ((changeLine_side l _ (fun _ => by exact ⟨fun k => ⟨Nat.zero_le _, k.2⟩, slotNumbers_slotMap (fun _ n => restartNode s.now n) _⟩) _).trans
        ((markLineStale_side _ _).trans (reportLine_side _ _ _)))))
  split
  · exact h
  · exact h.trans (raise_side _ _ _ _ _)

theorem hearNoise_side (l : LineId) (s : State) : LoadSide s (hearNoise l s) := by
  unfold hearNoise
  dsimp only
  split
  · exact changeLine_side l _ (fun _ => by exact ⟨id, rfl⟩) s
  · exact .refl s
  · split
    · exact .refl s
    · exact (changeLine_side l _ (fun _ => by exact ⟨id, rfl⟩) s).trans (lineFault_side _ _)

theorem endWindow_side (l : LineId) (ends quiet : Nat) (heard : Bool) (s : State) :
    LoadSide s (endWindow l ends quiet heard s) := by
  unfold endWindow
  split
  · exact changeLine_side l _ (fun _ => by exact ⟨id, rfl⟩) s
  · split
    · exact (recoverLine_side _ _).trans (grantLines_side _)
    · exact changeLine_side l _ (fun _ => by exact ⟨id, rfl⟩) s

/-! ## The event filter -/

theorem handAccepted_side (p : PointRef) (kind : EventKind) (s : State) : DoorSide s (handAccepted p kind s) := by
  unfold handAccepted
  split
  · exact forEach_related .refl .trans _ doorOpened_side _ _
  · exact forEach_related .refl .trans _ doorClosed_side _ _
  · exact forEach_related .refl .trans _ (fun z t => (presenceEvent_pres z p false t).door) _ _

theorem alertZone_pres (p : PointRef) (z : Nat) (s : State) : PresenceSide s (alertZone p z s) := by
  unfold alertZone
  dsimp only
  split
  · exact (presenceEvent_pres _ _ _ _).trans (raise_pres _ _ _ _ _)
  · exact presenceEvent_pres _ _ _ _

theorem actOn_side (p : PointRef) (kind : EventKind) (outcome : FilterOutcome) (s : State) :
    DoorSide s (actOn p kind outcome s) := by
  unfold actOn
  split
  · exact handAccepted_side _ _ _
  · exact forEach_related .refl .trans _ (fun z t => (alertZone_pres p z t).door) _ _
  · exact .refl s

theorem logEvent_length (r : EventRec) (recent : List EventRec) (h : recent.length ≤ 32) :
    (logEvent r recent).length ≤ 32 := by
  simp only [logEvent, List.length_drop, List.length_append, List.length_singleton, recentLength]
  omega

theorem takeEvent_side (bus : Bus) (addr : Nat) (e : FieldEvent) (s : State) :
    FieldSide s (takeEvent bus addr e s) := by
  unfold takeEvent
  dsimp only
  refine .trans ?_ (actOn_side _ _ _ _).load.field
  exact ⟨rfl, id, rfl, rfl, rfl, rfl, .refl _, .refl _, logEvent_length _ _,
    fun _ => by change (s.nextSeq + 1) % 65536 ≤ 65535; omega, id⟩

/-! ## Transactions -/

theorem nodeNotice_side (l : LineId) (addr : Nat) (old new : NodeRec) (s : State) :
    LoadSide s (nodeNotice l addr old new s) := by
  unfold nodeNotice
  split
  · exact .refl s
  · split
    · exact raise_side _ _ _ _ _
    · exact raise_side _ _ _ _ _
    · exact raise_side _ _ _ _ _
    · exact .refl s

theorem nodeLists_side (l : LineId) (addr : Nat) (old new : NodeRec) (s : State) :
    LoadSide s (nodeLists l addr old new s) := by
  unfold nodeLists
  split
  · exact .refl s
  · split
    · exact leaveLists_side _ _ _
    · exact changeLine_side l _ (fun _ => by exact ⟨id, rfl⟩) s
    · exact .refl s

theorem applyToNode_side (l : LineId) (addr : Nat) (work : TxnWork) (outcome : TxnOutcome)
    (reply : Option GoodReply) (s : State) : LoadSide s (applyToNode l addr work outcome reply s) := by
  unfold applyToNode
  split
  · exact .refl s
  · dsimp only
    exact (changeLine_side l _ (fun _ => by exact ⟨id, slotNumbers_slotChange _ _ _⟩) s).trans
      ((nodeNotice_side _ _ _ _ _).trans ((nodeLists_side _ _ _ _ _).trans (reportContact_side _ _ _ _)))

theorem returnEntry_single (e : QueueEntry) (queue : List QueueEntry) (h : (queue.map entryKey).Nodup) :
    ((returnEntry e queue).map entryKey).Nodup := by
  unfold returnEntry
  split
  · exact h
  · rename_i hn
    rw [List.map_cons, List.nodup_cons]
    refine ⟨?_, h⟩
    intro hm
    obtain ⟨x, hx, hk⟩ := List.mem_map.mp hm
    apply hn
    rw [List.any_eq_true]
    exact ⟨x, hx, (entryFor_iff _ _ _).mpr hk⟩

/-- An INTERNAL entry that comes back leaves the HOST entries as many as they are. -/
theorem returnEntry_internal (e : QueueEntry) (queue : List QueueEntry) (h : e.origin = .internal) :
    hostEntries (returnEntry e queue) = hostEntries queue := by
  unfold returnEntry
  split
  · rfl
  · simp [hostEntries, h]

/-- The laws of a line that takes a failed write back and grants, where the write is INTERNAL or the HOST entries
are eight at most after the grant. -/
theorem returned_granted_kept (now : Nat) (cfg : LineCfg) (e : QueueEntry) (line : Line)
    (h : e.origin = .internal
      ∨ hostEntries (grantLine now cfg { line with queue := returnEntry e line.queue }).queue ≤ 8) :
    LineKept line (grantLine now cfg { line with queue := returnEntry e line.queue }) := by
  have g := grantLine_slims now cfg { line with queue := returnEntry e line.queue }
  refine ⟨fun k => ⟨g.errors.le.trans k.1, g.oneOffs.length_le.trans k.2.1,
    (returnEntry_single e line.queue k.2.2.1).sublist (g.queue.map _), ?_⟩, g.nodes⟩
  rcases h with h | h
  · exact (g.queue.countP_le).trans ((returnEntry_internal e line.queue h).le.trans k.2.2.2)
  · exact h

/-- R36: the write that comes back, and the grant that follows it. -/
theorem returnWrite_granted_side (l : LineId) (e : QueueEntry) (s : State) :
    LoadSide s (grantLines (returnWrite l e s)) := by
  unfold returnWrite
  dsimp only
  split
  · rename_i h
    cases l
    · exact ⟨rfl, id, rfl, rfl, rfl, returned_granted_kept _ _ e s.lineA h, grantLine_kept _ _ _⟩
    · exact ⟨rfl, id, rfl, rfl, rfl, grantLine_kept _ _ _, returned_granted_kept _ _ e s.lineB h⟩
  · exact (writeFailed_side _ _ _).load.trans (grantLines_side _)

theorem freeLine_side (l : LineId) (returning : Option QueueEntry) (s : State) :
    LoadSide s (freeLine l returning s) := by
  unfold freeLine
  split
  · exact grantLines_side _
  · exact returnWrite_granted_side _ _ _

theorem writeResult_side (l : LineId) (e : QueueEntry) (outcome : TxnOutcome) (s : State) :
    LoadSide s (writeResult l e outcome s) := by
  unfold writeResult
  split
  · exact (writeOk_side _ _ _ _).load
  · split
    · exact .refl s
    · exact (writeFailed_side _ _ _).load

theorem deliverValues_side (bus : Bus) (addr first : Nat) (vs : List Nat) (s : State) :
    PointSide s (deliverValues bus addr first vs s) := by
  induction vs generalizing first s with
  | nil => exact .refl s
  | cons v rest ih => exact (deliverRead_side _ _ _).trans (ih _ _)

theorem deliverContent_side (l : LineId) (addr : Nat) (work : TxnWork) (content : ReplyContent) (s : State) :
    FieldSide s (deliverContent l addr work content s) := by
  unfold deliverContent
  split
  · exact (deliverValues_side _ _ _ _ _).field
  · exact forEach_related .refl .trans _ (takeEvent_side _ _) _ _
  · exact .refl s

theorem fetchAfter_kept (addr waiting : Nat) (line : Line) : LineKept line (fetchAfter addr waiting line) := by
  unfold fetchAfter
  split
  · exact .refl _
  · split
    · exact ⟨id, rfl⟩
    · split
      · exact .refl _
      · exact ⟨id, rfl⟩

theorem deliver_side (l : LineId) (x : Txn) (outcome : TxnOutcome) (reply : Option GoodReply) (s : State) :
    FieldSide s (deliver l x outcome reply s) := by
  have h1 : FieldSide s (match x.work with | .writePoint e => writeResult l e outcome s | _ => s) := by
    split
    · exact (writeResult_side _ _ _ _).field
    · exact .refl s
  have h2 : ∀ t, FieldSide t (match reply with
      | some g => deliverContent l x.node x.work g.content (changeLine l (fetchAfter x.node g.waiting) t)
      | none => t) := by
    intro t
    split
    · exact (changeLine_side l _ (fetchAfter_kept _ _) t).field.trans (deliverContent_side _ _ _ _ _)
    · exact .refl t
  unfold deliver
  dsimp only
  split
  · exact (h1.trans (h2 _)).trans (oneOffEnded_side _ _).field
  · exact h1.trans (h2 _)

theorem scoreLine_side (l : LineId) (outcome : TxnOutcome) (s : State) : LoadSide s (scoreLine l outcome s) := by
  unfold scoreLine
  split
  · exact lineFault_side _ _
  · exact .refl s
  · exact lineCredit_side _ _

theorem endTransaction_side (l : LineId) (x : Txn) (outcome : TxnOutcome) (reply : Option GoodReply) (s : State) :
    FieldSide s (endTransaction l x outcome reply s) := by
  have h : LoadSide s (changeLine l (fun line => { line with inFlight := none, noiseCounted := false }) s) :=
    changeLine_side l _ (fun _ => by exact ⟨id, rfl⟩) s
  unfold endTransaction
  dsimp only
  split
  · exact (h.trans (grantLines_side _)).field
  · exact h.field.trans ((applyToNode_side _ _ _ _ _ _).field.trans ((deliver_side _ _ _ _ _).trans
      ((scoreLine_side _ _ _).trans (freeLine_side _ _ _)).field))

end Sys2Proof.Machine
end

