-- ==== Sys2Proof/Laws/Idle.lean ====
section
/-! SUPPORT. What the idle step's lists of due commands hold. -/

namespace Sys2Proof.Machine

@[simp] theorem mem_commandIf (p : Bool) (i c : Instr) : c ∈ commandIf p i ↔ p = true ∧ c = i := by
  cases p <;> simp [commandIf]

theorem isDue_iff (now : Nat) (t : Option Nat) : isDue now t = true ↔ ∃ x, t = some x ∧ x ≤ now := by
  cases t <;> simp [isDue]

theorem mem_slotsWhere {α : Type} (p : α → Bool) (table : Table α) (k : Nat) :
    k ∈ slotsWhere p table ↔ ∃ r, (k, r) ∈ table ∧ p r = true := by
  simp [slotsWhere, slotNumbers]

/-- The commands of a table's timers are those of the entries whose time has come. -/
theorem mem_dueIn {α : Type} (now : Nat) (time : α → Option Nat) (command : Nat → Instr) (table : Table α) (c : Instr) :
    c ∈ dueIn now time command table ↔ ∃ k r t, (k, r) ∈ table ∧ time r = some t ∧ t ≤ now ∧ c = command k := by
  simp only [dueIn, List.mem_map, mem_slotsWhere, isDue_iff]
  constructor
  · rintro ⟨k, ⟨r, h, t, ht, hle⟩, rfl⟩
    exact ⟨k, r, t, h, ht, hle, rfl⟩
  · rintro ⟨k, r, t, h, ht, hle, rfl⟩
    exact ⟨k, ⟨r, h, t, ht, hle⟩, rfl⟩

end Sys2Proof.Machine
end

