-- ==== Sys2Proof/Laws/Units.lean ====
section
/-! SUPPORT. What each operation of the mode controller, the terminal block, the budget unit, the lighting unit and
the climate unit can change, one lemma for each operation. -/

namespace Sys2Proof.Machine

/-! ## Modes -/

/-- A change of the mode controller's own fields that keeps the mode legal. -/
theorem modeFields_side (s : State) (mode : Mode) (returnMode : Option Mode) (releaseAt emergencyAt : Option Nat)
    (signal : Bool) (h : modeLegal s → modeLegal { s with mode := mode, returnMode := returnMode }) :
    FieldSide s { s with
      mode := mode, returnMode := returnMode, releaseAt := releaseAt, emergencyAt := emergencyAt, signal := signal } :=
  ⟨rfl, id, rfl, rfl, rfl, rfl, .refl _, .refl _, id, id, h⟩

theorem raise_field (kind : NoticeKind) (subject : Subject) (a b : Option Int) (s : State) :
    FieldSide s (raise kind subject a b s) := (raise_side kind subject a b s).field

theorem enterEmergency_side (t : Nat) (s : State) (h : s.mode ≠ .start ∧ s.mode ≠ .emergency) :
    FieldSide s (enterEmergency t s) := by
  unfold enterEmergency
  dsimp only
  have h1 : FieldSide s { s with returnMode := some s.mode, emergencyAt := some s.now, mode := .emergency } := by
    refine modeFields_side s .emergency (some s.mode) s.releaseAt (some s.now) s.signal fun _ => ?_
    refine ⟨by simp, by simp, ?_, ?_⟩
    · intro k
      exact h.2 (Option.some.inj k)
    · intro k
      exact h.1 (Option.some.inj k)
  have h2 : FieldSide s { raise .emergencyBegin (.terminal t) (some s.mode.ctorIdx) none
      { { s with returnMode := some s.mode, emergencyAt := some s.now } with mode := .emergency } with
        mode := .emergency } :=
    h1.trans (raise_field .emergencyBegin (.terminal t) (some s.mode.ctorIdx) none _)
  exact h2.trans ((raise_field _ _ _ _ _).trans (handEmergency_side _).field)

theorem signalActive_side (t : Nat) (s : State) : FieldSide s (signalActive t s) := by
  unfold signalActive
  split
  · exact modeFields_side s s.mode s.returnMode none s.emergencyAt s.signal id
  · exact .refl s
  · rename_i h1 h2
    exact enterEmergency_side t s ⟨fun h => h2 h, fun h => h1 h⟩

theorem signalInactive_side (s : State) : FieldSide s (signalInactive s) := by
  unfold signalInactive
  split
  · exact modeFields_side s s.mode s.returnMode _ s.emergencyAt s.signal id
  · exact .refl s

theorem leaveEmergency_side (s : State) : FieldSide s (leaveEmergency s) := by
  unfold leaveEmergency
  dsimp only
  have h1 : FieldSide s { s with mode := s.returnMode.getD .hold, returnMode := none, releaseAt := none } := by
    refine modeFields_side s _ none none s.emergencyAt s.signal fun h => ?_
    obtain ⟨_, _, h3, h4⟩ := h
    refine ⟨?_, ?_, by simp, by simp⟩
    · show s.returnMode.getD .hold ≠ .start
      cases hr : s.returnMode with
      | none => simp
      | some m => rw [hr] at h4; simpa using h4
    · show s.returnMode.getD .hold = .emergency ↔ (none : Option Mode).isSome
      cases hr : s.returnMode with
      | none => simp
      | some m => rw [hr] at h3; simpa using h3
  exact (h1.trans (raise_field .emergencyEnd .none _ _ _)).trans
    ((modeFields_side _ _ _ _ none _ id).trans (raise_field _ _ _ _ _))

theorem takeTerminalOrder_side (order : Option Nat) (s : State) : FieldSide s (takeTerminalOrder order s) := by
  have h : FieldSide s { s with termOrder := order } := ⟨rfl, id, rfl, rfl, rfl, rfl, .refl _, .refl _, id, id, id⟩
  unfold takeTerminalOrder
  dsimp only
  split
  · exact h.trans (raise_field _ _ _ _ _)
  · exact h.trans (raise_field _ _ _ _ _)
  · exact h

/-! ## Terminals -/

theorem handSignal_side (t : Nat) (s : State) : FieldSide s (handSignal t s) := by
  unfold handSignal
  dsimp only
  split
  · exact .refl s
  · split
    · exact (modeFields_side s s.mode s.returnMode s.releaseAt s.emergencyAt true id).trans (signalActive_side _ _)
    · exact (modeFields_side s s.mode s.returnMode s.releaseAt s.emergencyAt false id).trans (signalInactive_side _)

theorem handOrder_side (s : State) : FieldSide s (handOrder s) := by
  unfold handOrder
  split
  · exact .refl s
  · exact takeTerminalOrder_side _ _

theorem levelRule_side (t : Nat) (f : TermFunction) (first closed : Bool) (s : State) :
    FieldSide s (levelRule t f first closed s) := by
  unfold levelRule
  split
  · split
    · exact .refl s
    · exact takeEvent_side _ _ _ _
  · split
    · exact .refl s
    · exact takeEvent_side _ _ _ _
  · exact handSignal_side _ _
  · exact handOrder_side _
  · exact (changeTerminal_side _ _ _).field
  · exact .refl s

theorem takeLevel_side (t : Nat) (f : TermFunction) (first closed : Bool) (s : State) :
    FieldSide s (takeLevel t f first closed s) :=
  (changeTerminal_side _ _ _).field.trans ((deliverTerminal_side _ _ _).field.trans (levelRule_side _ _ _ _ _))

theorem addEnergy_side (e : Nat) (s : State) : FieldSide s (addEnergy e s) :=
  ⟨rfl, id, rfl, rfl, rfl, rfl, .refl _, .refl _, id, id, id⟩

theorem setPower_side (t power : Nat) (s : State) : LoadSide s (setPower t power s) := by
  unfold setPower
  split
  · exact .refl s
  · exact (changeTerminal_side _ _ _).trans (deliverTerminal_side _ _ _).load

theorem acceptPulse_side (t weight : Nat) (s : State) : FieldSide s (acceptPulse t weight s) := by
  unfold acceptPulse
  dsimp only
  split
  · exact (addEnergy_side _ _).trans (changeTerminal_side _ _ _).field
  · exact (addEnergy_side _ _).trans ((changeTerminal_side _ _ _).field.trans
      ((setPower_side _ _ _).field.trans (changeTerminal_side _ _ _).field))

theorem takePulse_side (t : Nat) (s : State) : FieldSide s (takePulse t s) := by
  unfold takePulse
  split
  · split
    · exact .refl s
    · exact acceptPulse_side _ _ _
  · exact .refl s

theorem convert_side (t : Nat) (s : State) : PointSide s (convert t s) := by
  unfold convert
  split
  · exact deliverTerminal_side _ _ _
  · exact .refl s

theorem firstDelivery_side (t : Nat) (f : TermFunction) (s : State) : LoadSide s (firstDelivery t f s) := by
  unfold firstDelivery
  split
  · exact (deliverTerminal_side _ _ _).load
  · split
    · exact switchStrainOut_side _ _ _
    · exact .refl s
  · exact .refl s

theorem setTerminals_side (table : Table TermRec) (s : State) : LoadSide s { s with terminals := table } :=
  ⟨rfl, id, rfl, rfl, rfl, .refl _, .refl _⟩

theorem startFunction_side (t : Nat) (s : State) : LoadSide s (startFunction t s) :=
  (setTerminals_side _ s).trans (firstDelivery_side _ _ _)

/-! ## Settlement -/

theorem publishAll_side (ws : List LoadWork) (s : State) : LoadSide s (publishAll ws s) :=
  forEach_related .refl .trans _ (fun _ t => changeLoad_side _ _ t) _ _

theorem noteFrost_side (w : LoadWork) (s : State) : LoadSide s (noteFrost w s) := by
  unfold noteFrost
  split
  · split
    · exact raise_side _ _ _ _ _
    · exact .refl s
  · exact .refl s

/-- A change of the budget unit's own figures. -/
theorem budgetFields_side (s : State) (window : Option DemandWindow) (strain overrun : Bool) (record : SettlementRec) :
    FieldSide s { s with window := window, strain := strain, overrun := overrun, record := record } :=
  ⟨rfl, id, rfl, rfl, rfl, rfl, .refl _, .refl _, id, id, id⟩

theorem noteWindow_side (x : Settled) (s : State) : FieldSide s (noteWindow x s) := by
  unfold noteWindow
  split
  · exact .refl s
  · split
    · exact (budgetFields_side s _ s.strain s.overrun s.record).trans (raise_field _ _ _ _ _)
    · exact .refl s

theorem noteOverrun_side (x : Settled) (s : State) : FieldSide s (noteOverrun x s) := by
  unfold noteOverrun
  dsimp only
  split
  · exact (budgetFields_side s s.window s.strain _ s.record).trans (raise_field _ _ _ _ _)
  · exact budgetFields_side s s.window s.strain _ s.record

theorem noteStrain_side (x : Settled) (s : State) : FieldSide s (noteStrain x s) := by
  unfold noteStrain
  dsimp only
  split
  · exact .refl s
  · exact (budgetFields_side s s.window _ s.overrun s.record).trans
      ((raise_field _ _ _ _ _).trans (switchStrain_side _ _).field)

theorem performSettlement_side (s : State) : FieldSide s (performSettlement s) := by
  unfold performSettlement
  dsimp only
  have h1 : FieldSide s (forEach (settle s).loads noteFrost s) :=
    (forEach_related .refl .trans _ noteFrost_side _ _ : LoadSide s _).field
  have h2 := h1.trans ((noteWindow_side (settle s) _).trans (noteOverrun_side (settle s) _))
  have h3 := h2.trans ((publishAll_side (settle s).loads _).field.trans
    (forEach_related LoadSide.refl LoadSide.trans _ cutLoad_side ((settle s).loads.map LoadWork.number) _).field)
  exact (h3.trans (noteStrain_side (settle s) _)).trans (budgetFields_side _ _ _ _ _)

/-! ## Lighting -/

theorem writeStep_side (k : Nat) (d : LoadDef) (source : LightSource) (target trimmed : Nat) (s : State) :
    LoadSide s (writeStep k d source target trimmed s) := (changeLoad_side _ _ _).trans (checkCommand_side _ _)

theorem groupStep_side (k : Nat) (s : State) : LoadSide s (groupStep k s) := by
  unfold groupStep
  split
  · exact .refl s
  · split
    · exact (changeLoad_side _ _ _).trans (checkCommand_side _ _)
    · exact writeStep_side _ _ _ _ _ _
    · unfold planStep
      split
      · exact .refl s
      · exact writeStep_side _ _ _ _ _ _

/-! ## Climate -/

theorem driveLoad_side (k demand : Nat) (s : State) : LoadSide s (driveLoad k demand s) := by
  unfold driveLoad
  split
  · exact .refl s
  · exact (changeLoad_side _ _ _).trans (checkCommand_side _ _)

theorem postFixed_side (k : Nat) (s : State) : LoadSide s (postFixed k s) := by
  unfold postFixed
  split
  · exact .refl s
  · split
    · exact (changeLoad_side _ _ _).trans (checkCommand_side _ _)
    · exact driveLoad_side _ _ _

theorem noteStale_side (z : Nat) (s : State) : ComfortSide s (noteStale z s) := by
  unfold noteStale
  split
  · exact (changeClimate_side _ _ _).trans (raise_side _ _ _ _ _).comfort
  · exact .refl s

theorem workHeat_side (z : Nat) (d : ZoneDef) (s : State) : ComfortSide s (workHeat z d s) := by
  unfold workHeat
  split
  · dsimp only
    split
    · exact (changeClimate_side _ _ _).trans (changeClimate_side _ _ _)
    · exact (changeClimate_side _ _ _).trans ((noteStale_side _ _).trans (changeClimate_side _ _ _))
  · exact changeClimate_side _ _ _

theorem watchHeat_side (z : Nat) (d : ZoneDef) (source : SetpointSource) (s : State) :
    ComfortSide s (watchHeat z d source s) := by
  unfold watchHeat
  dsimp only
  split
  · exact (changeClimate_side _ _ _).trans (noteStale_side _ _)
  · exact changeClimate_side _ _ _

theorem driveHeater_side (z k : Nat) (s : State) : LoadSide s (driveHeater z k s) := by
  unfold driveHeater
  split
  · exact .refl s
  · exact driveLoad_side _ _ _

theorem heatZone_side (z : Nat) (s : State) : ComfortSide s (heatZone z s) := by
  unfold heatZone
  split
  · exact .refl s
  · dsimp only
    split
    · exact (watchHeat_side _ _ _ _).trans (forEach_related LoadSide.refl LoadSide.trans _ postFixed_side _ _).comfort
    · exact (watchHeat_side _ _ _ _).trans (forEach_related LoadSide.refl LoadSide.trans _ postFixed_side _ _).comfort
    · exact (workHeat_side _ _ _).trans
        (forEach_related LoadSide.refl LoadSide.trans _ (driveHeater_side _) _ _).comfort

theorem stepCurtain_side (k : Nat) (s : State) : LoadSide s (stepCurtain k s) := by
  unfold stepCurtain
  split
  · exact postFixed_side _ _
  · exact postFixed_side _ _
  · exact driveLoad_side _ _ _

theorem notePurge_side (z now : Nat) (old new : ClimateRec) (s : State) : LoadSide s (notePurge z now old new s) := by
  unfold notePurge
  split
  · exact raise_side _ _ _ _ _
  · split
    · exact raise_side _ _ _ _ _
    · exact .refl s

theorem noteGasStale_side (z count : Nat) (old : ClimateRec) (s : State) :
    LoadSide s (noteGasStale z count old s) := by
  unfold noteGasStale
  split
  · exact .refl s
  · exact raise_side _ _ _ _ _

theorem ventilate_side (z : Nat) (d : ZoneDef) (s : State) : ComfortSide s (ventilate z d s) := by
  unfold ventilate
  split
  · exact .refl s
  · dsimp only
    split
    · exact (changeClimate_side _ _ _).trans ((notePurge_side _ _ _ _ _).comfort.trans
        ((changeClimate_side _ _ _).trans (noteGasStale_side _ _ _ _).comfort))
    · exact (changeClimate_side _ _ _).trans ((notePurge_side _ _ _ _ _).comfort.trans (changeClimate_side _ _ _))

theorem driveFan_side (z k : Nat) (s : State) : LoadSide s (driveFan z k s) := by
  unfold driveFan
  split
  · exact driveLoad_side _ _ _
  · exact .refl s

theorem ventZone_side (z : Nat) (s : State) : ComfortSide s (ventZone z s) := by
  unfold ventZone
  split
  · exact .refl s
  · rename_i d _
    dsimp only
    have h : ComfortSide s (if isStopped s then s else if d.gas.isEmpty then noGas z s else ventilate z d s) := by
      split
      · exact .refl s
      · split
        · exact changeClimate_side _ _ _
        · exact ventilate_side _ _ _
    split
    · exact h.trans (forEach_related LoadSide.refl LoadSide.trans _ postFixed_side _ _).comfort
    · exact h.trans (forEach_related LoadSide.refl LoadSide.trans _ postFixed_side _ _).comfort
    · exact h.trans (forEach_related LoadSide.refl LoadSide.trans _ (driveFan_side _) _ _).comfort

end Sys2Proof.Machine
end

