-- ==== Sys2Proof/Laws/Keeps.lean ====
section
/-! SUPPORT. Every event keeps the queue of commands and the laws of the device (Safety.lean). -/

namespace Sys2Proof.Machine

/-- What every command keeps: the queue, and each law of the device that held before. -/
structure Keeps (s t : State) : Prop where
  pending : t.pending = s.pending
  notices : noticesBounded s → noticesBounded t
  counters : countersBounded s → countersBounded t
  lists : listsBounded s → listsBounded t
  lines : linesLawful s → linesLawful t
  mode : modeLegal s → modeLegal t
  records : recordsMatch s → recordsMatch t

theorem Keeps.refl (s : State) : Keeps s s := ⟨rfl, id, id, id, id, id, id⟩

theorem Keeps.trans {a b c : State} (h : Keeps a b) (k : Keeps b c) : Keeps a c :=
  ⟨k.pending.trans h.pending, k.notices ∘ h.notices, k.counters ∘ h.counters, k.lists ∘ h.lists,
    k.lines ∘ h.lines, k.mode ∘ h.mode, k.records ∘ h.records⟩

theorem FieldSide.keeps {s t : State} (h : FieldSide s t) : Keeps s t where
  pending := by rw [h.frame]
  notices := h.notices
  counters := fun k => by
    have e := h.nextSeq k.2.2
    refine ⟨?_, ?_, e⟩
    · rw [h.frame]; exact k.1
    · rw [h.frame]; exact k.2.1
  lists := fun k => ⟨h.recent k.1, by rw [h.frame]; exact k.2⟩
  lines := fun k => ⟨h.lineA.law k.1, h.lineB.law k.2⟩
  mode := h.mode
  records := fun k => by
    obtain ⟨h1, h2, h3, h4, h5, h6⟩ := k
    have e : t.config = s.config := by rw [h.frame]
    exact ⟨by rw [h.doorNumbers, h1, e], by rw [h.zoneNumbers, h2, e], by rw [h.climateNumbers, h3, e],
      by rw [h.loadNumbers, h4, e], by rw [h.lineA.nodes, h5, e], by rw [h.lineB.nodes, h6, e]⟩

theorem LoadSide.keeps {s t : State} (h : LoadSide s t) : Keeps s t := h.field.keeps

theorem PresenceSide.keeps {s t : State} (h : PresenceSide s t) : Keeps s t := h.point.field.keeps

/-- A timer's command keeps what its effect keeps. -/
theorem whenDue_keeps {t : Nat} {f : State → State} {s : State} (h : Keeps s (f s)) : Keeps s (whenDue t f s) :=
  whenDue_of h (.refl s)

/-- The times of the periodic timers are under no law. -/
theorem timers_keeps (s : State) (settleAt stepAt heatAt ventAt curtainAt : Nat) : Keeps s { s with
    settleAt := settleAt, stepAt := stepAt, heatAt := heatAt, ventAt := ventAt, curtainAt := curtainAt } :=
  ⟨rfl, id, id, id, id, id, id⟩

/-- A command's effect under main power keeps what the effect keeps. -/
theorem whenPowered_keeps (f : State → State) (s : State) (h : Keeps s (f s)) :
    ∃ t, whenPowered f s = .next t ∧ Keeps s t := by
  refine ⟨_, rfl, ?_⟩
  split
  · exact h
  · exact .refl s

/-! ## What a request's owner keeps -/

/-- What no owner of a request touches. -/
structure LinkKept (s t : State) : Prop where
  powered : t.powered = s.powered
  now : t.now = s.now
  inputs : t.inputs = s.inputs
  lastStart : t.lastStart = s.lastStart
  restartRequested : t.restartRequested = s.restartRequested
  receiver : t.receiver = s.receiver
  answering : t.answering = s.answering
  frameErrors : t.frameErrors = s.frameErrors
  earlyFrames : t.earlyFrames = s.earlyFrames

theorem LinkKept.refl (s : State) : LinkKept s s := ⟨rfl, rfl, rfl, rfl, rfl, rfl, rfl, rfl, rfl⟩

theorem LinkKept.trans {a b c : State} (h : LinkKept a b) (k : LinkKept b c) : LinkKept a c :=
  ⟨k.powered.trans h.powered, k.now.trans h.now, k.inputs.trans h.inputs, k.lastStart.trans h.lastStart,
    k.restartRequested.trans h.restartRequested, k.receiver.trans h.receiver, k.answering.trans h.answering,
    k.frameErrors.trans h.frameErrors, k.earlyFrames.trans h.earlyFrames⟩

theorem FieldSide.link {s t : State} (h : FieldSide s t) : LinkKept s t := by
  rw [h.frame]
  exact ⟨rfl, rfl, rfl, rfl, rfl, rfl, rfl, rfl, rfl⟩

/-- What the handling of a request, and an evaluation of the plan, keep. -/
structure Handled (s t : State) : Prop where
  keeps : Keeps s t
  link : LinkKept s t

theorem Handled.refl (s : State) : Handled s s := ⟨.refl s, .refl s⟩

theorem Handled.trans {a b c : State} (h : Handled a b) (k : Handled b c) : Handled a c :=
  ⟨h.keeps.trans k.keeps, h.link.trans k.link⟩

theorem FieldSide.handled {s t : State} (h : FieldSide s t) : Handled s t := ⟨h.keeps, h.link⟩

theorem LoadSide.handled {s t : State} (h : LoadSide s t) : Handled s t := h.field.handled

theorem PresenceSide.handled {s t : State} (h : PresenceSide s t) : Handled s t := h.point.field.handled

/-! ## Plan, clock and demand window -/

theorem raise_handled (kind : NoticeKind) (subject : Subject) (a b : Option Int) (s : State) :
    Handled s (raise kind subject a b s) := (raise_field kind subject a b s).handled

theorem endShiftOverrides_handled (s : State) : Handled s (endShiftOverrides s) := by
  refine ⟨⟨rfl, id, id, id, id, id, fun h => ?_⟩, ⟨rfl, rfl, rfl, rfl, rfl, rfl, rfl, rfl, rfl⟩⟩
  obtain ⟨h1, h2, h3, h4⟩ := h
  refine ⟨h1, h2, ?_, h4⟩
  simp only [endShiftOverrides, slotNumbers_slotMap]
  exact h3

theorem evaluate_handled (cause : EvaluationCause) (s : State) : Handled s (evaluate cause s) := by
  have h1 : ∀ new, Handled s (notePrecondition cause s.plan new s) := by
    intro new
    unfold notePrecondition
    split
    · exact raise_handled _ _ _ _ _
    · exact .refl s
  have h2 : ∀ old new u, Handled u (noteShiftChange cause old new u) := by
    intro old new u
    unfold noteShiftChange
    split
    · exact (endShiftOverrides_handled _).trans (raise_handled _ _ _ _ _)
    · exact .refl u
  have h3 : ∀ u p, Handled u { u with plan := p } := fun u p => ⟨⟨rfl, id, id, id, id, id, id⟩,
    ⟨rfl, rfl, rfl, rfl, rfl, rfl, rfl, rfl, rfl⟩⟩
  unfold evaluate
  dsimp only
  exact (h1 _).trans ((h2 s.plan _ _).trans ((h3 _ _).trans (judgeAllZones_pres _).handled))

theorem logWindow_length (w : ClosedWindow) (history : List ClosedWindow) (h : history.length ≤ 8) :
    (logWindow w history).length ≤ 8 := by
  simp only [logWindow, List.length_drop, List.length_append, List.length_singleton, historyLength]
  omega

theorem closeWindow_handled (second : Nat) (outOfTurn : Bool) (s : State) : Handled s (closeWindow second outOfTurn s) := by
  unfold closeWindow
  split
  · exact .refl s
  · exact ⟨⟨rfl, id, id, fun h => ⟨h.1, logWindow_length _ _ h.2⟩, id, id, id⟩,
    ⟨rfl, rfl, rfl, rfl, rfl, rfl, rfl, rfl, rfl⟩⟩

theorem openWindow_handled (isPartial : Bool) (s : State) : Handled s (openWindow isPartial s) :=
  ⟨⟨rfl, id, id, id, id, id, id⟩,
    ⟨rfl, rfl, rfl, rfl, rfl, rfl, rfl, rfl, rfl⟩⟩

theorem realignWindow_handled (now : Nat) (s : State) : Handled s (realignWindow now s) :=
  (closeWindow_handled _ _ _).trans (openWindow_handled _ _)

theorem rollWindow_handled (s : State) : Handled s (rollWindow s) := by
  unfold rollWindow
  split
  · exact (closeWindow_handled _ _ _).trans (openWindow_handled _ _)
  · exact .refl s

theorem setClockField_handled (c : Clock) (s : State) : Handled s { s with clock := c } := ⟨⟨rfl, id, id, id, id, id, id⟩,
    ⟨rfl, rfl, rfl, rfl, rfl, rfl, rfl, rfl, rfl⟩⟩

theorem tick_handled (s : State) : Handled s (tick s) := by
  unfold tick
  split
  · unfold clockRangeEnd
    dsimp only
    exact (setClockField_handled _ s).trans ((raise_handled _ _ _ _ _).trans
      ((evaluate_handled _ _).trans (closeWindow_handled _ _ _)))
  · rename_i r _
    dsimp only
    split
    · exact (setClockField_handled _ s).trans ((evaluate_handled _ _).trans (rollWindow_handled _))
    · exact (setClockField_handled _ s).trans (rollWindow_handled _)

/-! ## Starts -/

theorem slotNumbers_slotSet {α : Type} (table : Table α) (k : Nat) (v w : α) :
    slotNumbers (slotSet table k v) = slotNumbers (slotSet table k w) := by
  induction table with
  | nil => rfl
  | cons e rest ih =>
    obtain ⟨j, u⟩ := e
    simp only [slotSet]
    split
    · rfl
    · split
      · rfl
      · simpa [slotNumbers] using ih

/-- The numbers after a slot is set depend on the numbers before. -/
theorem slotNumbers_slotSet_congr {α β : Type} (a : Table α) (b : Table β) (k : Nat) (v : α) (w : β)
    (h : slotNumbers a = slotNumbers b) : slotNumbers (slotSet a k v) = slotNumbers (slotSet b k w) := by
  induction a generalizing b with
  | nil =>
    cases b with
    | nil => rfl
    | cons e rest => simp [slotNumbers] at h
  | cons e rest ih =>
    cases b with
    | nil => simp [slotNumbers] at h
    | cons e' rest' =>
      obtain ⟨j, u⟩ := e
      obtain ⟨j', u'⟩ := e'
      simp only [slotNumbers, List.map_cons, List.cons.injEq] at h
      obtain ⟨rfl, h⟩ := h
      simp only [slotSet]
      split
      · simp [slotNumbers, h]
      · split
        · simp [slotNumbers, h]
        · simpa [slotNumbers] using ih rest' h

/-- The numbers after a slot is freed depend on the numbers before. -/
theorem slotNumbers_slotFree_congr {α β : Type} (a : Table α) (b : Table β) (k : Nat)
    (h : slotNumbers a = slotNumbers b) : slotNumbers (slotFree a k) = slotNumbers (slotFree b k) := by
  induction a generalizing b with
  | nil =>
    cases b with
    | nil => rfl
    | cons e rest => simp [slotNumbers] at h
  | cons e rest ih =>
    cases b with
    | nil => simp [slotNumbers] at h
    | cons e' rest' =>
      obtain ⟨j, u⟩ := e
      obtain ⟨j', u'⟩ := e'
      simp only [slotNumbers, List.map_cons, List.cons.injEq] at h
      obtain ⟨rfl, h⟩ := h
      simp only [slotFree]
      split
      · exact h
      · simpa [slotNumbers] using ih rest' h

/-- Everything that the laws of the device ask of a start's blocks, the mode apart. -/
structure Started (s t : State) : Prop where
  pending : t.pending = s.pending
  notices : noticesBounded t
  counters : countersBounded t
  lists : listsBounded t
  lines : linesLawful t
  records : recordsMatch t

theorem startBlocks_started (c : RunningConfig) (s : State) : Started s (startBlocks c s) where
  pending := rfl
  notices := ⟨Nat.zero_le _, Nat.zero_le _⟩
  counters := ⟨Nat.zero_le _, Nat.zero_le _, Nat.zero_le _⟩
  lists := ⟨Nat.zero_le _, Nat.zero_le _⟩
  lines := ⟨⟨Nat.zero_le _, Nat.zero_le _, ⟨List.nodup_nil, Nat.zero_le 8⟩⟩, ⟨Nat.zero_le _, Nat.zero_le _, ⟨List.nodup_nil, Nat.zero_le 8⟩⟩⟩
  records := by
    refine ⟨?_, ?_, ?_, ?_, ?_, ?_⟩ <;> simp only [startBlocks, startLine, slotNumbers_slotMap]

/-- What a start sets beside its blocks is under no law. -/
theorem Started.fields {s t : State} (h : Started s t) (clock : Clock) (store : Store) (last : LastStart) :
    Started s { t with clock := clock, store := store, lastStart := last } :=
  ⟨h.pending, h.notices, h.counters, h.lists, h.lines, h.records⟩

theorem startFunctions_side (s : State) : LoadSide s (startFunctions s) :=
  forEach_related .refl .trans _ startFunction_side _ _

theorem endStart_keeps (mode : Mode) (cause : ModeCause) (report : Bool) (s : State)
    (hm : mode = .hold ∨ mode = .standalone) (hs : s.returnMode = none) :
    Keeps { s with mode := mode } (endStart mode cause report s) ∧ modeLegal { s with mode := mode } := by
  have h1 : Keeps { s with mode := mode } (changeMode mode cause s) :=
    (raise_handled .modeChanged (.mode mode) (some s.mode.ctorIdx) (some cause.ctorIdx) { s with mode := mode }).keeps
  have h2 : ∀ u, Keeps u (noteClock report u) := by
    intro u
    unfold noteClock
    split
    · exact (raise_handled _ _ _ _ _).keeps
    · exact .refl u
  have h3 : ∀ u, Keeps u (startWindow u) := by
    intro u
    unfold startWindow
    split
    · exact (openWindow_handled _ _).keeps
    · exact .refl u
  refine ⟨?_, ?_⟩
  · exact h1.trans ((h2 _).trans ((evaluate_handled _ _).keeps.trans ((h3 _).trans
      ((startFunctions_side _).keeps.trans (grantLines_side _).keeps))))
  · refine ⟨?_, ?_, ?_, ?_⟩
    all_goals
      simp only [hs]
      rcases hm with rfl | rfl <;> simp

/-- A start's blocks through the end of START keep the laws. -/
theorem start_keeps (mode : Mode) (cause : ModeCause) (report : Bool) (s t : State) (h : Started s t)
    (hm : mode = .hold ∨ mode = .standalone) (hr : t.returnMode = none) :
    Keeps s (endStart mode cause report t) := by
  obtain ⟨k, hl⟩ := endStart_keeps mode cause report t hm hr
  exact ⟨k.pending.trans h.pending, fun _ => k.notices h.notices, fun _ => k.counters h.counters,
    fun _ => k.lists h.lists, fun _ => k.lines h.lines, fun _ => k.mode hl, fun _ => k.records h.records⟩

theorem coldStart_keeps (cause : StartCause) (s : State) : Keeps s (coldStart cause s) := by
  unfold coldStart
  dsimp only
  refine start_keeps _ _ _ s _ ((startBlocks_started _ s).fields _ _ _) ?_ rfl
  · split
    · exact .inr rfl
    · exact .inl rfl

theorem warmRestart_keeps (s : State) : Keeps s (warmRestart s) := by
  unfold warmRestart
  exact start_keeps _ _ _ s _ ((startBlocks_started s.config s).fields (startBlocks s.config s).clock
    (startBlocks s.config s).store .hostRestart) (.inr rfl) rfl

end Sys2Proof.Machine
end

