-- ==== Sys2Proof/Laws/Requests.lean ====
section
/-! SUPPORT. What the owner of each request can do (R192): it keeps the laws of the device and the link's own
fields, and what it refuses it leaves as it was. One lemma for each request. -/

namespace Sys2Proof.Machine

/-- What an owner may answer from `s`. -/
structure Owned (s : State) (r : Served) : Prop where
  handled : Handled s r.state
  refused : r.status ≠ .ok → r.status ≠ .accepted → r.state = s
  body : r.status ≠ .ok → r.status ≠ .badConfig → r.body = []

theorem refuse_owned (status : Status) (s : State) : Owned s (refuse status s) :=
  ⟨.refl s, fun _ _ => rfl, fun _ _ => rfl⟩

theorem answer_owned (body : List Byte) {s t : State} (h : Handled s t) : Owned s (answer body t) :=
  ⟨h, fun k => absurd rfl k, fun k => absurd rfl k⟩

theorem done_owned {s t : State} (h : Handled s t) : Owned s (done t) := answer_owned [] h

theorem accepted_owned {s t : State} (h : Handled s t) : Owned s ⟨.accepted, [], t⟩ :=
  ⟨h, fun _ k => absurd rfl k, fun _ _ => rfl⟩

theorem read_owned (body : List Byte) (s : State) : Owned s (answer body s) := answer_owned body (.refl s)

/-! ## The link's own requests and the mode requests -/

theorem changeMode_handled (mode : Mode) (cause : ModeCause) (s : State) (h1 : s.mode ≠ .emergency)
    (h2 : mode ≠ .start) (h3 : mode ≠ .emergency) : Handled s (changeMode mode cause s) := by
  have h : Handled s { s with mode := mode } := by
    refine (modeFields_side s mode s.returnMode s.releaseAt s.emergencyAt s.signal ?_).handled
    rintro ⟨_, k, _, _⟩
    have hn : s.returnMode = none := by
      cases hr : s.returnMode with
      | none => rfl
      | some m => rw [hr] at k; exact absurd (k.mpr rfl) h1
    refine ⟨h2, ?_, ?_, ?_⟩ <;> simp [hn, h3]
  exact h.trans (raise_handled .modeChanged (.mode mode) (some s.mode.ctorIdx) (some cause.ctorIdx)
    { s with mode := mode })

theorem handleEnterHold_owned (s : State) : Owned s (handleEnterHold s) := by
  unfold handleEnterHold
  split
  · exact refuse_owned _ _
  · exact done_owned (.refl s)
  · rename_i h _
    exact done_owned (changeMode_handled _ _ _ h (by simp) (by simp))

theorem handleEnterRun_owned (s : State) : Owned s (handleEnterRun s) := by
  unfold handleEnterRun
  split
  · exact refuse_owned _ _
  · rename_i h
    split
    · exact ⟨.refl s, fun _ _ => rfl, fun _ k => absurd rfl k⟩
    · exact done_owned (changeMode_handled _ _ _ (by simp [h]) (by simp) (by simp))
  · exact done_owned (.refl s)

theorem handleRestart_owned (s : State) : Owned s (handleRestart s) :=
  done_owned ⟨⟨rfl, id, id, id, id, id, id⟩, ⟨rfl, rfl, rfl, rfl, rfl, rfl, rfl, rfl, rfl⟩⟩

theorem handleStoreSettings_owned (s : State) : Owned s (handleStoreSettings s) :=
  accepted_owned ⟨⟨rfl, id, id, id, id, id, id⟩, ⟨rfl, rfl, rfl, rfl, rfl, rfl, rfl, rfl, rfl⟩⟩

theorem handleCollect_owned (count : Nat) (s : State) : Owned s (handleCollect count s) := by
  unfold handleCollect
  split
  · refine answer_owned _ ⟨⟨rfl, fun h => ⟨?_, Nat.zero_le _⟩, id, id, id, id, id⟩,
      ⟨rfl, rfl, rfl, rfl, rfl, rfl, rfl, rfl, rfl⟩⟩
    have := h.1
    simp only [List.length_drop]
    omega
  · exact refuse_owned _ _

/-! ## The plan unit -/

/-- A configuration that has the same doors, zones, loads and nodes as another. -/
structure SameItems (c d : RunningConfig) : Prop where
  doors : slotNumbers d.doors = slotNumbers c.doors
  zones : slotNumbers d.zones = slotNumbers c.zones
  loads : slotNumbers d.loads = slotNumbers c.loads
  nodesA : slotNumbers d.lineA.nodes = slotNumbers c.lineA.nodes
  nodesB : slotNumbers d.lineB.nodes = slotNumbers c.lineB.nodes

theorem SameItems.refl (c : RunningConfig) : SameItems c c := ⟨rfl, rfl, rfl, rfl, rfl⟩

theorem setConfig_handled (c : RunningConfig) (s : State) (h : SameItems s.config c) :
    Handled s { s with config := c } := by
  refine ⟨⟨rfl, id, id, id, id, id, ?_⟩, ⟨rfl, rfl, rfl, rfl, rfl, rfl, rfl, rfl, rfl⟩⟩
  rintro ⟨h1, h2, h3, h4, h5, h6⟩
  exact ⟨h1.trans h.doors.symm, h2.trans h.zones.symm, h3.trans h.zones.symm, h4.trans h.loads.symm,
    h5.trans h.nodesA.symm, h6.trans h.nodesB.symm⟩

theorem editPlan_handled (c : RunningConfig) (s : State) (h : SameItems s.config c) : Handled s (editPlan c s) :=
  (setConfig_handled c s h).trans (evaluate_handled _ _)

theorem setClock_handled (f : ClockFields) (s : State) : Handled s (setClock f s) := by
  have h := (setClockField_handled ⟨true, readingOf f.date f.hour f.minute f.second, 0⟩ s).trans
    (evaluate_handled .edit _)
  refine h.trans (.trans ?_ (openWindow_handled true _))
  split
  · exact closeWindow_handled _ _ _
  · exact .refl _

theorem handleSetClock_owned (f : ClockFields) (s : State) : Owned s (handleSetClock f s) := by
  unfold handleSetClock
  split
  · exact done_owned (setClock_handled _ _)
  · exact refuse_owned _ _

theorem putShift_same (c : RunningConfig) (index : Nat) (r : ShiftRecord) : SameItems c (putShift c index r) := by
  unfold putShift
  split <;> exact ⟨rfl, rfl, rfl, rfl, rfl⟩

theorem handleWriteShift_owned (op : Nat × RawShift) (s : State) : Owned s (handleWriteShift op s) := by
  unfold handleWriteShift
  dsimp only
  split
  · exact refuse_owned _ _
  · split
    · exact refuse_owned _ _
    · split
      · exact refuse_owned _ _
      · exact done_owned (editPlan_handled _ _ (putShift_same _ _ _))

theorem handleReadShift_owned (index : Nat) (s : State) : Owned s (handleReadShift index s) := by
  unfold handleReadShift
  split
  · exact refuse_owned _ _
  · exact read_owned _ _

theorem handleDeleteShift_owned (index : Nat) (s : State) : Owned s (handleDeleteShift index s) := by
  unfold handleDeleteShift
  split
  · exact refuse_owned _ _
  · split
    · exact refuse_owned _ _
    · split
      · exact refuse_owned _ _
      · refine done_owned ?_
        have h : ∀ p, Handled s { s with plan := p } := fun p =>
          ⟨⟨rfl, id, id, id, id, id, id⟩, ⟨rfl, rfl, rfl, rfl, rfl, rfl, rfl, rfl, rfl⟩⟩
        exact (h _).trans (editPlan_handled _ _ ⟨rfl, rfl, rfl, rfl, rfl⟩)

theorem handleWriteException_owned (op : Nat × Nat × Nat) (s : State) : Owned s (handleWriteException op s) := by
  unfold handleWriteException
  split
  · split
    · exact refuse_owned _ _
    · split
      · exact refuse_owned _ _
      · exact answer_owned _ (editPlan_handled _ _ ⟨rfl, rfl, rfl, rfl, rfl⟩)
  · exact refuse_owned _ _

theorem handleDeleteException_owned (op : Nat × Nat) (s : State) : Owned s (handleDeleteException op s) := by
  unfold handleDeleteException
  split
  · exact refuse_owned _ _
  · split
    · exact refuse_owned _ _
    · exact done_owned (editPlan_handled _ _ ⟨rfl, rfl, rfl, rfl, rfl⟩)

/-! ## Zones -/

theorem endPurge_side (z : Nat) (s : State) : LoadSide s (endPurge z s) := by
  unfold endPurge
  split
  · exact .refl s
  · split
    · exact raise_side _ _ _ _ _
    · exact .refl s

/-- A zone's definition and records take their slots together. -/
theorem setZone_handled (z : Nat) (d : ZoneDef) (r : ZoneRec) (c : ClimateRec) (s : State) :
    Handled s { s with
      config := { s.config with zones := slotSet s.config.zones z d }
      zones := slotSet s.zones z r
      climate := slotSet s.climate z c } := by
  refine ⟨⟨rfl, id, id, id, id, id, ?_⟩, ⟨rfl, rfl, rfl, rfl, rfl, rfl, rfl, rfl, rfl⟩⟩
  rintro ⟨h1, h2, h3, h4⟩
  exact ⟨h1, slotNumbers_slotSet_congr _ _ _ _ _ h2, slotNumbers_slotSet_congr _ _ _ _ _ h3, h4⟩

theorem createZone_handled (z : Nat) (d : ZoneDef) (s : State) : Handled s (createZone z d s) :=
  (setZone_handled z d startZone (freshClimate s.now d) s).trans (judgeZone_pres _ _).handled

theorem replaceZone_handled (z : Nat) (old d : ZoneDef) (s : State) : Handled s (replaceZone z old d s) := by
  have h : ∀ u : State, Handled u { u with
      config := { u.config with
        zones := slotChange (fun _ => { d with aging := old.aging, dormancy := old.dormancy }) u.config.zones z }
      climate := slotChange (fun _ => freshClimate u.now d) u.climate z } := by
    intro u
    refine ⟨⟨rfl, id, id, id, id, id, ?_⟩, ⟨rfl, rfl, rfl, rfl, rfl, rfl, rfl, rfl, rfl⟩⟩
    rintro ⟨h1, h2, h3, h4⟩
    exact ⟨h1, h2.trans (slotNumbers_slotChange _ _ _).symm,
      ((slotNumbers_slotChange _ _ _).trans h3).trans (slotNumbers_slotChange _ _ _).symm, h4⟩
  unfold replaceZone
  dsimp only
  exact (endPurge_side z s).handled.trans ((h _).trans
    ((forEach_related PresenceSide.refl PresenceSide.trans _ removeEntry_pres _ _).handled.trans
      ((judgeZone_pres _ _).handled.trans (changeZone_pres _ _ _).handled)))

theorem putZone_handled (z : Nat) (d : ZoneDef) (s : State) : Handled s (putZone z d s) := by
  unfold putZone
  split
  · exact createZone_handled _ _ _
  · exact replaceZone_handled _ _ _ _

theorem removeZone_handled (z : Nat) (s : State) : Handled s (removeZone z s) := by
  unfold removeZone
  dsimp only
  refine (endPurge_side z s).handled.trans (.trans ?_ (clearFullReported_pres _).handled)
  refine ⟨⟨rfl, id, id, id, id, id, ?_⟩, ⟨rfl, rfl, rfl, rfl, rfl, rfl, rfl, rfl, rfl⟩⟩
  rintro ⟨h1, h2, h3, h4⟩
  exact ⟨h1, slotNumbers_slotFree_congr _ _ _ h2, slotNumbers_slotFree_congr _ _ _ h3, h4⟩

theorem handleDefineZone_owned (op : Action RawZone Nat) (s : State) : Owned s (handleDefineZone op s) := by
  unfold handleDefineZone
  split
  · exact refuse_owned _ _
  · split
    · exact refuse_owned _ _
    · split
      · exact refuse_owned _ _
      · exact done_owned (putZone_handled _ _ _)
  · split
    · exact refuse_owned _ _
    · split
      · exact refuse_owned _ _
      · split
        · exact refuse_owned _ _
        · exact done_owned (removeZone_handled _ _)

/-! ## Doors -/

theorem dropDoorEntry_pres (door : Nat) (s : State) : PresenceSide s (dropDoorEntry door s) := by
  have h : PresenceSide s { s with evictedDoors := s.evictedDoors.filter fun d => d != door } := ⟨rfl, id, rfl⟩
  unfold dropDoorEntry
  dsimp only
  split
  · exact h
  · exact h.trans (dropEntry_pres _ _ _)

theorem putDoor_handled (door : Nat) (d : DoorDef) (s : State) : Handled s (putDoor door d s) := by
  unfold putDoor
  dsimp only
  refine (dropDoorEntry_pres door s).handled.trans ?_
  refine ⟨⟨rfl, id, id, id, id, id, ?_⟩, ⟨rfl, rfl, rfl, rfl, rfl, rfl, rfl, rfl, rfl⟩⟩
  rintro ⟨h1, h2⟩
  exact ⟨slotNumbers_slotSet_congr _ _ _ _ _ h1, h2⟩

theorem removeDoor_handled (door : Nat) (s : State) : Handled s (removeDoor door s) := by
  unfold removeDoor
  dsimp only
  refine (dropDoorEntry_pres door s).handled.trans ?_
  refine ⟨⟨rfl, id, id, id, id, id, ?_⟩, ⟨rfl, rfl, rfl, rfl, rfl, rfl, rfl, rfl, rfl⟩⟩
  rintro ⟨h1, h2⟩
  exact ⟨slotNumbers_slotFree_congr _ _ _ h1, h2⟩

theorem handleDefineDoor_owned (op : Action RawDoor Nat) (s : State) : Owned s (handleDefineDoor op s) := by
  unfold handleDefineDoor
  split
  · exact refuse_owned _ _
  · split
    · exact refuse_owned _ _
    · split
      · exact refuse_owned _ _
      · split
        · exact refuse_owned _ _
        · exact done_owned (putDoor_handled _ _ _)
  · split
    · exact refuse_owned _ _
    · split
      · exact refuse_owned _ _
      · exact done_owned (removeDoor_handled _ _)

/-! ## Loads -/

theorem leaveOutput_side (binding : Option PointRef) (s : State) : LoadSide s (leaveOutput binding s) := by
  unfold leaveOutput
  split
  · exact .refl s
  · split
    · exact changeTerminal_side _ _ _
    · exact .refl s

theorem putLoad_handled (k : Nat) (d : LoadDef) (s : State) : Handled s (putLoad k d s) := by
  refine .trans ?_ (leaveOutput_side _ _).handled
  refine ⟨⟨rfl, id, id, id, id, id, ?_⟩, ⟨rfl, rfl, rfl, rfl, rfl, rfl, rfl, rfl, rfl⟩⟩
  rintro ⟨h1, h2, h3, h4, h5⟩
  exact ⟨h1, h2, h3, slotNumbers_slotSet_congr _ _ _ _ _ h4, h5⟩

theorem removeLoad_handled (k : Nat) (s : State) : Handled s (removeLoad k s) := by
  refine .trans ?_ (leaveOutput_side _ _).handled
  refine ⟨⟨rfl, id, id, id, id, id, ?_⟩, ⟨rfl, rfl, rfl, rfl, rfl, rfl, rfl, rfl, rfl⟩⟩
  rintro ⟨h1, h2, h3, h4, h5⟩
  exact ⟨h1, h2, h3, slotNumbers_slotFree_congr _ _ _ h4, h5⟩

theorem handleDefineLoad_owned (op : Action RawLoad Nat) (s : State) : Owned s (handleDefineLoad op s) := by
  unfold handleDefineLoad
  split
  · exact refuse_owned _ _
  · split
    · exact refuse_owned _ _
    · split
      · exact refuse_owned _ _
      · split
        · exact refuse_owned _ _
        · exact done_owned (putLoad_handled _ _ _)
  · split
    · exact refuse_owned _ _
    · split
      · exact refuse_owned _ _
      · split
        · exact refuse_owned _ _
        · exact done_owned (removeLoad_handled _ _)

/-! ## Nodes and scan entries -/

theorem cutNodeWork_kept (addr : Nat) (drop : QueueEntry → Bool) (line : Line) :
    LineKept line (cutNodeWork addr drop line) :=
  LineSlims.kept ⟨rfl, List.filter_sublist, List.filter_sublist, rfl⟩

/-- A node's definition and record take their slots together, and its points and storm window are renewed. -/
theorem setNode_handled (l : LineId) (addr : Nat) (d : NodeDef) (n : NodeRec) (drop : QueueEntry → Bool)
    (points : Table PointRec) (windows : Table CountWindow) (s : State) :
    Handled s { changeLine l (fun line => { cutNodeWork addr drop line with nodes := slotSet line.nodes addr n }) s with
      config := setLineCfg s.config l { lineCfg s.config l with nodes := slotSet (lineCfg s.config l).nodes addr d }
      points := points
      windows := windows } := by
  cases l
  · refine ⟨⟨rfl, id, id, id, fun h => ⟨(cutNodeWork_kept addr drop _).law h.1, h.2⟩, id, ?_⟩,
      ⟨rfl, rfl, rfl, rfl, rfl, rfl, rfl, rfl, rfl⟩⟩
    rintro ⟨h1, h2, h3, h4, h5, h6⟩
    exact ⟨h1, h2, h3, h4, slotNumbers_slotSet_congr _ _ _ _ _ h5, h6⟩
  · refine ⟨⟨rfl, id, id, id, fun h => ⟨h.1, (cutNodeWork_kept addr drop _).law h.2⟩, id, ?_⟩,
      ⟨rfl, rfl, rfl, rfl, rfl, rfl, rfl, rfl, rfl⟩⟩
    rintro ⟨h1, h2, h3, h4, h5, h6⟩
    exact ⟨h1, h2, h3, h4, h5, slotNumbers_slotSet_congr _ _ _ _ _ h6⟩

theorem changeLine_config (l : LineId) (f : Line → Line) (s : State) : (changeLine l f s).config = s.config := by
  cases l <;> rfl

theorem putNode_handled (l : LineId) (addr : Nat) (d : NodeDef) (s : State) : Handled s (putNode l addr d s) := by
  unfold putNode
  dsimp only
  rw [changeLine_config]
  exact (setNode_handled l addr d (freshNode s.now) _ _ _ s).trans (reportContact_side _ _ _ _).handled

theorem removeNode_handled (l : LineId) (addr : Nat) (s : State) : Handled s (removeNode l addr s) := by
  cases l
  · refine ⟨⟨rfl, id, id, id, fun h => ⟨(cutNodeWork_kept addr (fun _ => true) _).law h.1, h.2⟩, id, ?_⟩,
      ⟨rfl, rfl, rfl, rfl, rfl, rfl, rfl, rfl, rfl⟩⟩
    rintro ⟨h1, h2, h3, h4, h5, h6⟩
    exact ⟨h1, h2, h3, h4, slotNumbers_slotFree_congr _ _ _ h5, h6⟩
  · refine ⟨⟨rfl, id, id, id, fun h => ⟨h.1, (cutNodeWork_kept addr (fun _ => true) _).law h.2⟩, id, ?_⟩,
      ⟨rfl, rfl, rfl, rfl, rfl, rfl, rfl, rfl, rfl⟩⟩
    rintro ⟨h1, h2, h3, h4, h5, h6⟩
    exact ⟨h1, h2, h3, h4, h5, slotNumbers_slotFree_congr _ _ _ h6⟩

theorem handleDefineNode_owned (op : Action RawNode (Nat × Nat)) (s : State) : Owned s (handleDefineNode op s) := by
  unfold handleDefineNode
  split
  · exact refuse_owned _ _
  · split
    · split
      · exact refuse_owned _ _
      · exact done_owned ((putNode_handled _ _ _ _).trans (grantLines_side _).handled)
    · exact refuse_owned _ _
  · split
    · split
      · exact refuse_owned _ _
      · split
        · exact refuse_owned _ _
        · exact done_owned ((removeNode_handled _ _ _).trans (grantLines_side _).handled)
    · exact refuse_owned _ _

theorem setLineCfg_same (c : RunningConfig) (l : LineId) (d : LineCfg) (h : d.nodes = (lineCfg c l).nodes) :
    SameItems c (setLineCfg c l d) := by
  cases l
  · exact ⟨rfl, rfl, rfl, congrArg slotNumbers h, rfl⟩
  · exact ⟨rfl, rfl, rfl, rfl, congrArg slotNumbers h⟩

theorem restaleNode_side (l : LineId) (addr : Nat) (s : State) : LoadSide s (restaleNode l addr s) :=
  (forEach_related PointSide.refl PointSide.trans _ restale_side _ _).load

/-- A line's times and its configuration change together. -/
theorem setScan_handled (l : LineId) (scan : Table ScanTime → Table ScanTime) (entries : List ScanDef) (s : State) :
    Handled s { changeLine l (fun line => { line with scan := scan line.scan }) s with
      config := setLineCfg s.config l { lineCfg s.config l with scan := entries } } := by
  cases l
  · exact ⟨⟨rfl, id, id, id, id, id, id⟩, ⟨rfl, rfl, rfl, rfl, rfl, rfl, rfl, rfl, rfl⟩⟩
  · exact ⟨⟨rfl, id, id, id, id, id, id⟩, ⟨rfl, rfl, rfl, rfl, rfl, rfl, rfl, rfl, rfl⟩⟩

theorem addScan_handled (l : LineId) (e : ScanDef) (s : State) : Handled s (addScan l e s) := by
  unfold addScan
  dsimp only
  rw [changeLine_config]
  exact (setScan_handled l (fun t => slotSet t (scanKey e.node e.first) ⟨none, s.now⟩) _ s).trans
    (restaleNode_side _ _ _).handled

theorem removeScan_handled (l : LineId) (node first : Nat) (s : State) : Handled s (removeScan l node first s) := by
  unfold removeScan
  dsimp only
  rw [changeLine_config]
  exact (setScan_handled l (fun t => slotFree t (scanKey node first)) _ s).trans (restaleNode_side _ _ _).handled

theorem addChecked_owned (l : LineId) (r : RawScan) (s : State) : Owned s (addChecked l r s) := by
  unfold addChecked
  split
  · exact refuse_owned _ _
  · exact refuse_owned _ _
  · split
    · exact refuse_owned _ _
    · split
      · exact refuse_owned _ _
      · split
        · exact refuse_owned _ _
        · exact done_owned ((addScan_handled _ _ _).trans (grantLines_side _).handled)

theorem handleDefineScan_owned (op : Action RawScan (Nat × Nat × Nat)) (s : State) :
    Owned s (handleDefineScan op s) := by
  unfold handleDefineScan
  split
  · exact refuse_owned _ _
  · split
    · exact refuse_owned _ _
    · exact addChecked_owned _ _ _
  · split
    · exact refuse_owned _ _
    · split
      · exact done_owned ((removeScan_handled _ _ _ _).trans (grantLines_side _).handled)
      · exact refuse_owned _ _

/-! ## Terminal functions, line parameters, filter tests -/

theorem putFunction_handled (t : Nat) (f : TermFunction) (s : State) : Handled s (putFunction t f s) := by
  unfold putFunction
  split
  · unfold changeParameters
    exact (setConfig_handled { s.config with functions := slotSet s.config.functions t f } s
      ⟨rfl, rfl, rfl, rfl, rfl⟩).trans (handOrder_side _).handled
  · unfold changeFunction
    dsimp only
    have h : Handled s { s with
        config := { s.config with functions := slotSet s.config.functions t f }
        terminals := slotSet s.terminals t idleTerminal } :=
      (setConfig_handled { s.config with functions := slotSet s.config.functions t f } s
        ⟨rfl, rfl, rfl, rfl, rfl⟩).trans (setTerminals_side _ _).handled
    exact h.trans ((handSignal_side _ _).handled.trans ((handOrder_side _).handled.trans
      ((changePoint_side _ _ _).field.handled.trans (startFunction_side _ _).handled)))

theorem handleSetFunction_owned (op : Nat × RawFunction) (s : State) : Owned s (handleSetFunction op s) := by
  unfold handleSetFunction
  split
  · exact refuse_owned _ _
  · split
    · exact refuse_owned _ _
    · split
      · exact refuse_owned _ _
      · exact done_owned (putFunction_handled _ _ _)

theorem handleLineParameters_owned (op : Nat × Nat × Nat) (s : State) : Owned s (handleLineParameters op s) := by
  unfold handleLineParameters
  split
  · split
    · exact done_owned (setConfig_handled _ _ (setLineCfg_same _ _ _ rfl))
    · exact refuse_owned _ _
  · exact refuse_owned _ _

theorem handleFilter_owned (op : List Nat × Nat × Nat) (s : State) : Owned s (handleFilter op s) := by
  unfold handleFilter
  split
  · exact refuse_owned _ _
  · exact done_owned (setConfig_handled _ _ ⟨rfl, rfl, rfl, rfl, rfl⟩)

/-! ## Parameter groups -/

theorem catchHeldOpen_side (d : Nat) (s : State) : DoorSide s (catchHeldOpen d s) := by
  unfold catchHeldOpen
  split
  · exact .refl s
  · split
    · exact becomeHeldOpen_side _ _
    · exact .refl s

theorem handleDoorParams_owned (p : DoorParams) (s : State) : Owned s (handleDoorParams p s) := by
  unfold handleDoorParams
  split
  · exact done_owned ((setConfig_handled { s.config with doorParams := p } s ⟨rfl, rfl, rfl, rfl, rfl⟩).trans
      (forEach_related DoorSide.refl DoorSide.trans _ catchHeldOpen_side _ _).load.handled)
  · exact refuse_owned _ _

theorem handleOccupancy_owned (f : OccupancyFields) (s : State) : Owned s (handleOccupancy f s) := by
  unfold handleOccupancy
  split
  · exact refuse_owned _ _
  · split
    · exact refuse_owned _ _
    · unfold putOccupancy
      dsimp only
      exact done_owned ((setConfig_handled { s.config with
        zones := slotChange (fun d => { d with aging := f.aging, dormancy := f.dormancy / 10 * 10 })
          s.config.zones f.zone } s ⟨rfl, slotNumbers_slotChange _ _ _, rfl, rfl, rfl⟩).trans
          (changeZone_pres _ _ _).handled)

theorem handleLighting_owned (p : LightingParams) (s : State) : Owned s (handleLighting p s) := by
  unfold handleLighting
  split
  · exact done_owned (setConfig_handled _ _ ⟨rfl, rfl, rfl, rfl, rfl⟩)
  · exact refuse_owned _ _

theorem handleDaylight_owned (r : RawDaylight) (s : State) : Owned s (handleDaylight r s) := by
  unfold handleDaylight
  split
  · exact refuse_owned _ _
  · split
    · exact refuse_owned _ _
    · split
      · exact refuse_owned _ _
      · exact done_owned (setConfig_handled _ _ ⟨rfl, rfl, rfl, rfl, rfl⟩)

theorem handleClimate_owned (r : RawClimate) (s : State) : Owned s (handleClimate r s) := by
  unfold handleClimate
  split
  · exact refuse_owned _ _
  · rename_i p _
    unfold putClimate
    dsimp only
    have h := setConfig_handled { s.config with climate := p } s ⟨rfl, rfl, rfl, rfl, rfl⟩
    split
    · exact done_owned (h.trans ((handVentilation_side _).field.handled.trans (grantLines_side _).handled))
    · exact done_owned h

theorem catchNodeHold_side (k : Nat) (s : State) : LoadSide s (catchNodeHold k s) := by
  unfold catchNodeHold
  split
  · exact .refl s
  · split
    · exact takeFallback_side _ _
    · exact .refl s

theorem changeWindowLength_handled (old : Nat) (s : State) : Handled s (changeWindowLength old s) := by
  unfold changeWindowLength
  split
  · exact realignWindow_handled _ _
  · exact .refl s

theorem handleBudget_owned (p : BudgetParams) (s : State) : Owned s (handleBudget p s) := by
  unfold handleBudget
  split
  · unfold putBudget
    dsimp only
    exact done_owned ((setConfig_handled
      { s.config with budget := { p with windowLength := p.windowLength / 60 * 60 } } s ⟨rfl, rfl, rfl, rfl, rfl⟩).trans
      ((forEach_related LoadSide.refl LoadSide.trans _ catchNodeHold_side _ _).handled.trans
        (changeWindowLength_handled _ _)))
  · exact refuse_owned _ _

theorem handleSettlementPeriod_owned (period : Nat) (s : State) : Owned s (handleSettlementPeriod period s) := by
  unfold handleSettlementPeriod
  split
  · exact done_owned (setConfig_handled _ _ ⟨rfl, rfl, rfl, rfl, rfl⟩)
  · exact refuse_owned _ _

theorem handleHostLink_owned (p : Nat × Nat) (s : State) : Owned s (handleHostLink p s) := by
  unfold handleHostLink
  split
  · exact done_owned (setConfig_handled _ _ ⟨rfl, rfl, rfl, rfl, rfl⟩)
  · exact refuse_owned _ _

theorem handleReadParameters_owned (r : RawRead) (s : State) : Owned s (handleReadParameters r s) := by
  unfold handleReadParameters
  split
  all_goals try exact read_owned _ _
  · unfold readOccupancy
    split
    · exact refuse_owned _ _
    · split
      · exact refuse_owned _ _
      · exact read_owned _ _
  · unfold readDaylight
    split
    · exact refuse_owned _ _
    · split
      · exact refuse_owned _ _
      · split
        · exact refuse_owned _ _
        · exact read_owned _ _
  · exact refuse_owned _ _

/-! ## Operation -/

theorem handleLightOverride_owned (f : OverrideFields) (s : State) : Owned s (handleLightOverride f s) := by
  unfold handleLightOverride
  split
  · exact refuse_owned _ _
  · split
    · exact refuse_owned _ _
    · refine answer_owned _ ?_
      unfold placeLight
      split <;> exact ⟨⟨rfl, id, id, id, id, id, id⟩, ⟨rfl, rfl, rfl, rfl, rfl, rfl, rfl, rfl, rfl⟩⟩

theorem handleSetpointOverride_owned (f : OverrideFields) (s : State) : Owned s (handleSetpointOverride f s) := by
  unfold handleSetpointOverride
  split
  · exact refuse_owned _ _
  · split
    · exact refuse_owned _ _
    · exact answer_owned _ (changeClimate_side _ _ _).field.handled

theorem setOrder_handled (order : Option CurtailOrder) (s : State) : Handled s { s with hostOrder := order } :=
  ⟨⟨rfl, id, id, id, id, id, id⟩, ⟨rfl, rfl, rfl, rfl, rfl, rfl, rfl, rfl, rfl⟩⟩

theorem endHostOrder_handled (order : CurtailOrder) (s : State) : Handled s (endHostOrder order s) :=
  (setOrder_handled none s).trans (raise_handled _ _ _ _ _)

theorem handleCurtail_owned (op : Nat × Nat) (s : State) : Owned s (handleCurtail op s) := by
  unfold handleCurtail
  split
  · exact refuse_owned _ _
  · dsimp only
    refine answer_owned _ ?_
    split
    · unfold releaseOrder
      split
      · exact .refl s
      · exact endHostOrder_handled _ _
    · exact (setOrder_handled _ s).trans (raise_handled _ _ _ _ _)

theorem withZone_owned (z : Nat) (s : State) (f : Served) (h : Owned s f) : Owned s (withZone z s f) := by
  unfold withZone
  split
  · exact refuse_owned _ _
  · split
    · exact refuse_owned _ _
    · exact h

theorem handlePin_owned (z : Nat) (s : State) : Owned s (handlePin z s) := by
  refine withZone_owned _ _ _ (done_owned ?_)
  split
  · exact .refl s
  · exact (setConfig_handled { s.config with pins := s.config.pins ++ [z] } s ⟨rfl, rfl, rfl, rfl, rfl⟩).trans
      (createEntry_pres _ _).handled

theorem handleUnpin_owned (z : Nat) (s : State) : Owned s (handleUnpin z s) := by
  refine withZone_owned _ _ _ ?_
  split
  · exact done_owned ((setConfig_handled { s.config with pins := s.config.pins.filter fun p => p != z } s
      ⟨rfl, rfl, rfl, rfl, rfl⟩).trans (dropEntry_pres _ _ _).handled)
  · exact refuse_owned _ _

theorem handleFlush_owned (z : Nat) (s : State) : Owned s (handleFlush z s) := by
  unfold handleFlush
  split
  · exact done_owned (flushEntries_pres _ _).handled
  · exact withZone_owned _ _ _ (done_owned (flushEntries_pres _ _).handled)

theorem serviceOn_side (l : LineId) (addr : Nat) (n : NodeRec) (s : State) : LoadSide s (serviceOn l addr n s) := by
  unfold serviceOn
  split
  · exact .refl s
  · dsimp only
    exact (changeLine_side l _ (fun _ => by exact ⟨id, slotNumbers_slotChange _ _ _⟩) s).trans
      (reportContact_side _ _ _ _)

theorem serviceOff_side (l : LineId) (addr : Nat) (n : NodeRec) (s : State) : LoadSide s (serviceOff l addr n s) := by
  unfold serviceOff
  split
  · exact .refl s
  · dsimp only
    exact (changeLine_side l _ (fun _ => by exact ⟨id, slotNumbers_slotChange _ _ _⟩) s).trans
      ((leaveLists_side _ _ _).trans (reportContact_side _ _ _ _))

theorem handleService_owned (op : Nat × Nat × Nat) (s : State) : Owned s (handleService op s) := by
  unfold handleService
  split
  · split
    · exact refuse_owned _ _
    · refine done_owned (LoadSide.handled ?_)
      split
      · exact (serviceOn_side _ _ _ _).trans (grantLines_side _)
      · exact (serviceOff_side _ _ _ _).trans (grantLines_side _)
  · exact refuse_owned _ _

theorem handleLineRestart_owned (line : Nat) (s : State) : Owned s (handleLineRestart line s) := by
  unfold handleLineRestart
  split
  · exact refuse_owned _ _
  · exact done_owned ((restartLine_side _ _).trans (grantLines_side _)).handled

theorem withPoint_owned (r : RawPoint) (s : State) (f : PointRef → Served) (h : ∀ p, Owned s (f p)) :
    Owned s (withPoint r s f) := by
  unfold withPoint
  split
  · exact refuse_owned _ _
  · split
    · exact h _
    · exact refuse_owned _ _

theorem handleWritePoint_owned (op : RawPoint × Nat) (s : State) : Owned s (handleWritePoint op s) := by
  refine withPoint_owned _ _ _ fun p => ?_
  unfold writeHost
  split
  · exact refuse_owned _ _
  · split
    · exact refuse_owned _ _
    · split
      · exact refuse_owned _ _
      · rename_i h
        exact accepted_owned ((queueWrite_side _ _ _ _ _ _ (.inr (Bool.eq_false_iff.mpr h))).trans (grantLines_side _)).handled

theorem takeOneOff_side (l : LineId) (p : PointRef) (s : State) (h : (getLine s l).oneOffs.length < 16) :
    LoadSide s (takeOneOff l p s) := by
  have hl : LineKept (getLine s l)
      { getLine s l with oneOffs := (getLine s l).oneOffs ++ [⟨p.addr, p.point⟩] } := by
    refine ⟨fun k => ⟨k.1, ?_, k.2.2⟩, rfl⟩
    simp only [List.length_append, List.length_singleton]
    omega
  exact (changeLine_side_of l (fun line => { line with oneOffs := line.oneOffs ++ [⟨p.addr, p.point⟩] }) s hl).trans
    ((changePoint_side _ _ _).load.trans (grantLines_side _))

theorem handleFetchPoint_owned (r : RawPoint) (s : State) : Owned s (handleFetchPoint r s) := by
  refine withPoint_owned _ _ _ fun p => ?_
  unfold fetchHost
  split
  · exact accepted_owned (.refl s)
  · unfold offerOneOff
    dsimp only
    split
    · exact refuse_owned _ _
    · split
      · exact accepted_owned (.refl s)
      · split
        · exact refuse_owned _ _
        · rename_i h
          refine accepted_owned (takeOneOff_side _ _ _ ?_).handled
          simp only [oneOffLength] at h
          omega

/-! ## Reading -/

theorem handleReadZone_owned (z : Nat) (s : State) : Owned s (handleReadZone z s) := by
  unfold handleReadZone
  split
  · exact refuse_owned _ _
  · split
    · exact read_owned _ _
    · exact refuse_owned _ _

theorem handleReadDoor_owned (d : Nat) (s : State) : Owned s (handleReadDoor d s) := by
  unfold handleReadDoor
  split
  · exact refuse_owned _ _
  · split
    · exact read_owned _ _
    · exact refuse_owned _ _

theorem handleReadLoad_owned (k : Nat) (s : State) : Owned s (handleReadLoad k s) := by
  unfold handleReadLoad
  split
  · exact refuse_owned _ _
  · split
    · exact read_owned _ _
    · exact refuse_owned _ _

theorem handleReadNode_owned (op : Nat × Nat) (s : State) : Owned s (handleReadNode op s) := by
  unfold handleReadNode
  split
  · split
    · exact read_owned _ _
    · exact refuse_owned _ _
  · exact refuse_owned _ _

theorem handleReadLine_owned (line : Nat) (s : State) : Owned s (handleReadLine line s) := by
  unfold handleReadLine
  split
  · exact refuse_owned _ _
  · exact read_owned _ _

theorem handleReadPoint_owned (f : ReadPointFields) (s : State) : Owned s (handleReadPoint f s) := by
  unfold handleReadPoint
  split
  · exact refuse_owned _ _
  · split
    · exact read_owned _ _
    · exact refuse_owned _ _

theorem handleReadPresence_owned (z : Nat) (s : State) : Owned s (handleReadPresence z s) := by
  unfold handleReadPresence
  split
  · exact read_owned _ _
  · exact withZone_owned _ _ _ (read_owned _ _)

theorem handleReadEvents_owned (count : Nat) (s : State) : Owned s (handleReadEvents count s) := by
  unfold handleReadEvents
  split
  · exact read_owned _ _
  · exact refuse_owned _ _

end Sys2Proof.Machine
end

