-- ==== Sys2Proof/Laws/Link.lean ====
section
/-! SUPPORT. The host link: what serving a request does (R192, R198), and how the readers of a body take what the
encodings of R193 write. -/

namespace Sys2Proof.Machine

/-! ## Serving -/

/-! ## The receiver -/

/-- A receiver that hunts has nothing to discard. -/
theorem settleFrame_hunting (s : State) (h : s.receiver = .hunting) : settleFrame s = s := by
  simp [settleFrame, withFrame, h]

/-- R191, R192: with the receiver hunting, a request is discarded as too long or as early, or it is taken. -/
theorem serve_hunting (code : Nat) (cls : RequestClass) (holdOnly : Bool) (body : List Byte)
    (handler : Option (State → Served)) (s : State) (hp : s.powered = true) (hr : s.receiver = .hunting) :
    serve code cls holdOnly body handler s
      = .next (endFrame s.answering body (fun t => finishRequest code cls (checkRequest cls holdOnly handler t)) s) := by
  simp [serve, whenPowered, hp, settleFrame_hunting s hr, receiveRequest, hr]

/-- R192: a request that begins while the link is not answering goes through the checks. -/
theorem serve_taken (code : Nat) (cls : RequestClass) (holdOnly : Bool) (body : List Byte)
    (handler : Option (State → Served)) (s : State) (hp : s.powered = true) (ha : s.answering = false)
    (hr : s.receiver = .hunting) (hn : body.length ≤ 1024) :
    serve code cls holdOnly body handler s
      = .next (finishRequest code cls (checkRequest cls holdOnly handler s)) := by
  have hl : ¬ Config.hostBodyLimit < body.length := by simp only [Config.hostBodyLimit]; omega
  rw [serve_hunting _ _ _ _ _ _ hp hr, endFrame, if_neg hl, ha, if_neg Bool.false_ne_true]

/-- R192: a request that begins while the link is answering is discarded. -/
theorem serve_early (code : Nat) (cls : RequestClass) (holdOnly : Bool) (body : List Byte)
    (handler : Option (State → Served)) (s : State) (hp : s.powered = true) (ha : s.answering = true)
    (hr : s.receiver = .hunting) (hn : body.length ≤ 1024) :
    serve code cls holdOnly body handler s = .next (discardEarly s) := by
  have hl : ¬ Config.hostBodyLimit < body.length := by simp only [Config.hostBodyLimit]; omega
  rw [serve_hunting _ _ _ _ _ _ hp hr, endFrame, if_neg hl, ha, if_pos rfl]

theorem serve_unpowered (code : Nat) (cls : RequestClass) (holdOnly : Bool) (body : List Byte)
    (handler : Option (State → Served)) (s : State) (hp : s.powered = false) :
    serve code cls holdOnly body handler s = .next s := by
  simp [serve, whenPowered, hp]

/-! ## The checks -/

/-- R192: a request of the right length, in a mode that takes it, with no store write in its way, reaches its
owner. -/
theorem checkRequest_owner (cls : RequestClass) (holdOnly : Bool) (handle : State → Served) (s : State)
    (hm : holdOnly = true → s.mode = .hold) (hb : waitsForStore cls = true → isStoring s = false) :
    checkRequest cls holdOnly (some handle) s = handle s := by
  have h1 : (holdOnly && s.mode != .hold) = false := by
    cases holdOnly
    · rfl
    · simp [hm rfl]
  have h2 : (waitsForStore cls && isStoring s) = false := by
    cases hc : waitsForStore cls
    · rfl
    · simp [hb hc]
  simp [checkRequest, h1, h2]

theorem checkRequest_owned (cls : RequestClass) (holdOnly : Bool) (handler : Option (State → Served)) (s : State)
    (h : ∀ handle, handler = some handle → Owned s (handle s)) : Owned s (checkRequest cls holdOnly handler s) := by
  unfold checkRequest
  split
  · exact refuse_owned _ _
  · split
    · exact refuse_owned _ _
    · split
      · exact refuse_owned _ _
      · exact h _ rfl

theorem followHost_keeps (code : Nat) (s : State) : Keeps s (followHost code s) := by
  unfold followHost
  split
  · rename_i h
    split
    · exact .refl s
    · exact (changeMode_handled _ _ _ (by simp [h]) (by simp) (by simp)).keeps
  · rename_i h
    split
    · refine (modeFields_side s s.mode (some .run) s.releaseAt s.emergencyAt s.signal ?_).keeps
      rintro ⟨h1, _, _, _⟩
      exact ⟨h1, by simp [h], by simp, by simp⟩
    · exact .refl s
  · exact .refl s

theorem finishRequest_keeps (code : Nat) (cls : RequestClass) (r : Served) :
    Keeps r.state (finishRequest code cls r) := by
  have h1 : Keeps r.state { r.state with store := { r.state.store with
      changed := changedAfter cls r.status r.state.store.changed } } := ⟨rfl, id, id, id, id, id, id⟩
  have h2 : ∀ u : State, Keeps u { superviseRequest u with
      receiver := .hunting, answering := true, reply := some ⟨code, r.status, r.body⟩ } :=
    fun u => ⟨rfl, id, id, id, id, id, id⟩
  exact h1.trans ((followHost_keeps code _).trans (h2 _))

theorem discardEarly_keeps (s : State) : Keeps s (discardEarly s) :=
  ⟨rfl, id, fun h => ⟨h.1, by simp only [discardEarly]; omega, h.2.2⟩, id, id, id, id⟩

theorem discardFrame_keeps (s : State) : Keeps s (discardFrame s) :=
  ⟨rfl, id, fun h => ⟨by simp only [discardFrame]; omega, h.2⟩, id, id, id, id⟩

theorem withFrame_keeps (act : HostFrame → State → State) (h : ∀ f s, Keeps s (act f s)) (s : State) :
    Keeps s (withFrame act s) := by
  unfold withFrame
  split
  · exact .refl s
  · exact h _ s

theorem discardEnded_keeps (f : HostFrame) (s : State) : Keeps s (discardEnded f s) := by
  unfold discardEnded
  split
  · exact .refl s
  · exact discardFrame_keeps s
  · split
    · exact discardEarly_keeps s
    · exact .refl s

theorem discardLate_keeps (f : HostFrame) (s : State) : Keeps s (discardLate f s) := by
  unfold discardLate
  split
  · exact discardFrame_keeps s
  · exact .refl s

theorem settleFrame_keeps (s : State) : Keeps s (settleFrame s) :=
  (withFrame_keeps _ discardEnded_keeps s).trans (withFrame_keeps _ discardLate_keeps _)

theorem setReceiver_keeps (r : Receiver) (s : State) : Keeps s { s with receiver := r } :=
  ⟨rfl, id, id, id, id, id, id⟩

theorem receiveByte_keeps (b : LinkByte) (s : State) : Keeps s (receiveByte b s) := by
  refine (settleFrame_keeps s).trans ?_
  unfold receiveByte
  dsimp only
  split
  · unfold huntByte
    split
    · exact setReceiver_keeps _ _
    · exact .refl _
  · unfold growFrame
    split
    · exact setReceiver_keeps _ _
    · exact .refl _

theorem receiveBytes_keeps (bytes : List LinkByte) (s : State) : Keeps s (forEach bytes receiveByte s) :=
  forEach_related .refl .trans _ receiveByte_keeps _ _

theorem endFrame_keeps (early : Bool) (body : List Byte) (take : State → State) (s : State)
    (h : ∀ s, Keeps s (take s)) : Keeps s (endFrame early body take s) := by
  unfold endFrame
  split
  · exact discardFrame_keeps s
  · split
    · exact discardEarly_keeps s
    · exact h s

theorem receiveRequest_keeps (code : Nat) (body : List Byte) (take : State → State) (s : State)
    (h : ∀ s, Keeps s (take s)) : Keeps s (receiveRequest code body take s) := by
  unfold receiveRequest
  split
  · exact endFrame_keeps _ _ _ _ h
  · split
    · exact (setReceiver_keeps _ _).trans (endFrame_keeps _ _ _ _ h)
    · exact .refl s

/-- Serving a request keeps the laws of the device. -/
theorem serve_keeps (code : Nat) (cls : RequestClass) (holdOnly : Bool) (body : List Byte)
    (handler : Option (State → Served)) (s : State)
    (h : ∀ handle, handler = some handle → ∀ s, Owned s (handle s)) :
    ∃ t, serve code cls holdOnly body handler s = .next t ∧ Keeps s t := by
  refine whenPowered_keeps _ s ((settleFrame_keeps s).trans (receiveRequest_keeps _ _ _ _ fun t => ?_))
  exact (checkRequest_owned _ _ _ _ fun handle he => h handle he t).handled.keeps.trans (finishRequest_keeps _ _ _)

/-! ## What the end of a request leaves alone -/

theorem followHost_frame (code : Nat) (s : State) : ∃ mode returnMode notices lost,
    followHost code s = { s with mode := mode, returnMode := returnMode, notices := notices, lost := lost } := by
  unfold followHost
  split
  · split
    · exact ⟨s.mode, s.returnMode, s.notices, s.lost, rfl⟩
    · exact ⟨_, _, _, _, rfl⟩
  · split
    · exact ⟨_, _, _, _, rfl⟩
    · exact ⟨s.mode, s.returnMode, s.notices, s.lost, rfl⟩
  · exact ⟨s.mode, s.returnMode, s.notices, s.lost, rfl⟩

/-- The end of a request changes the link's own fields, the supervision timer, the changed flag, and what the mode
controller does with a valid request. -/
theorem finishRequest_frame (code : Nat) (cls : RequestClass) (r : Served) : ∃ mode returnMode notices lost at_,
    finishRequest code cls r = { r.state with
      mode := mode, returnMode := returnMode, notices := notices, lost := lost, supervisionAt := at_
      store := { r.state.store with changed := changedAfter cls r.status r.state.store.changed }
      receiver := .hunting, answering := true, reply := some ⟨code, r.status, r.body⟩ } := by
  obtain ⟨m, rm, ns, l, h⟩ := followHost_frame code { r.state with store := { r.state.store with
      changed := changedAfter cls r.status r.state.store.changed } }
  refine ⟨m, rm, ns, l, (superviseRequest (followHost code { r.state with store := { r.state.store with
      changed := changedAfter cls r.status r.state.store.changed } })).supervisionAt, ?_⟩
  unfold finishRequest superviseRequest
  dsimp only
  rw [h]

/-! ## Readers (R193) -/

theorem byteOf_toNat (n : Nat) (h : n < 256) : (byteOf n).toNat = n := by
  simp only [byteOf, BitVec.toNat_ofNat]
  omega

theorem takeByte_byteOf (n : Nat) (rest : List Byte) (h : n < 256) : takeByte (byteOf n :: rest) = some (n, rest) := by
  simp [takeByte, byteOf_toNat n h]

theorem takeWord_wordBytes (n : Nat) (rest : List Byte) (h : n < 65536) :
    takeWord (wordBytes n ++ rest) = some (n, rest) := by
  have h1 : (byteOf (n / 256)).toNat = n / 256 := byteOf_toNat _ (by omega)
  have h2 : (byteOf n).toNat = n % 256 := by simp only [byteOf, BitVec.toNat_ofNat]
  simp only [takeWord, wordBytes, List.cons_append, List.nil_append]
  change some ((byteOf (n / 256)).toNat * 256 + (byteOf n).toNat, rest) = some (n, rest)
  rw [h1, h2]
  congr 2
  omega

theorem takeSigned_signedBytes (i : Int) (rest : List Byte) (h1 : -32768 ≤ i) (h2 : i < 32768) :
    takeSigned (signedBytes i ++ rest) = some (i, rest) := by
  have hn : (BitVec.ofInt 16 i).toNat < 65536 := (BitVec.ofInt 16 i).isLt
  have hw := takeWord_wordBytes _ rest hn
  have hs : signedOf (BitVec.ofInt 16 i).toNat = i := by
    simp only [BitVec.toNat_ofInt, signedOf]
    split <;> omega
  simp only [takeSigned, signedBytes]
  change (takeWord (wordBytes (BitVec.ofInt 16 i).toNat ++ rest)).bind (fun x => some (signedOf x.1, x.2)) = _
  rw [hw, Option.bind_some, hs]

end Sys2Proof.Machine
end

