-- ==== Sys2Proof/Laws/Readers.lean ====
section
/-! SUPPORT. The readers of a body, one law for each way in which they are put together (R193), and the request that
reaches its owner. -/

namespace Sys2Proof.Machine

/-! ## A request that reaches its owner -/

/-- A request whose frame is not early, of the right length, in a mode that takes it and with no store write in its
way, is answered as its owner answers. -/
theorem serve_owner (code : Nat) (cls : RequestClass) (holdOnly : Bool) (body : List Byte) (handle : State → Served)
    (s : State) (hp : s.powered = true) (ha : s.answering = false)
    (hr : s.receiver = .hunting) (hn : body.length ≤ 1024)
    (hm : holdOnly = true → s.mode = .hold) (hb : waitsForStore cls = true → isStoring s = false) :
    serve code cls holdOnly body (some handle) s = .next (finishRequest code cls (handle s)) := by
  rw [serve_taken _ _ _ _ _ _ hp ha hr hn, checkRequest_owner _ _ _ _ hm hb]

/-- No store write is in progress. -/
theorem isStoring_false (s : State) (h1 : s.store.state ≠ .writing) (h2 : s.storePending = false) :
    isStoring s = false := by simp [isStoring, h1, h2]

/-! ## Readers -/

theorem reader_bind {α β : Type} (r : Reader α) (f : α → Reader β) (body : List Byte) :
    (r >>= f) body = (r body).bind fun p => f p.1 p.2 := rfl

theorem reader_pure {α : Type} (x : α) (body : List Byte) : (pure x : Reader α) body = some (x, body) := rfl

theorem takeByte_cons (b : Byte) (rest : List Byte) : takeByte (b :: rest) = some (b.toNat, rest) := rfl

theorem takeWord_end (n : Nat) (h : n < 65536) : takeWord (wordBytes n) = some (n, []) := by
  simpa using takeWord_wordBytes n [] h

theorem takeSigned_end (i : Int) (h1 : -32768 ≤ i) (h2 : i < 32768) : takeSigned (signedBytes i) = some (i, []) := by
  simpa using takeSigned_signedBytes i [] h1 h2

theorem readWhole_eq {α : Type} (r : Reader α) (body : List Byte) (x : α) (h : r body = some (x, [])) :
    readWhole r body = some x := by simp [readWhole, h]

/-- Items written one after another are read one after another. -/
theorem takeMany_encoded {α β : Type} (item : Reader α) (encode : β → List Byte) (f : β → α) (xs : List β)
    (rest : List Byte) (h : ∀ x ∈ xs, ∀ rest, item (encode x ++ rest) = some (f x, rest)) :
    takeMany item xs.length (xs.flatMap encode ++ rest) = some (xs.map f, rest) := by
  induction xs with
  | nil => rfl
  | cons x xs ih =>
    simp only [List.length_cons, takeMany, List.flatMap_cons, List.append_assoc, reader_bind, reader_pure]
    rw [h x (by simp), Option.bind_some, ih fun y hy => h y (by simp [hy]), Option.bind_some]
    rfl

/-- R193: a list is read from its count and its items. -/
theorem takeList_listBytes {α β : Type} (item : Reader α) (encode : β → List Byte) (f : β → α) (xs : List β)
    (rest : List Byte) (hl : xs.length < 256)
    (h : ∀ x ∈ xs, ∀ rest, item (encode x ++ rest) = some (f x, rest)) :
    takeList item (listBytes encode xs ++ rest) = some (xs.map f, rest) := by
  simp only [takeList, listBytes, List.cons_append, reader_bind, takeByte_cons, Option.bind_some, byteOf_toNat _ hl]
  exact takeMany_encoded item encode f xs rest h

/-- A point of a body. -/
def rawPoint (p : PointRef) : RawPoint := ⟨p.bus.ctorIdx, p.addr, p.point⟩

theorem takePoint_pointBytes (p : PointRef) (rest : List Byte) (h : pointInRange p = true) :
    takePoint (pointBytes p ++ rest) = some (rawPoint p, rest) := by
  obtain ⟨bus, addr, point⟩ := p
  have h1 : bus.ctorIdx < 256 := by cases bus <;> decide
  have h2 : addr < 256 ∧ point < 256 := by
    cases bus <;> simp [pointInRange] at h <;> omega
  simp only [takePoint, pointBytes, List.cons_append, List.nil_append, reader_bind, reader_pure, takeByte_cons,
    Option.bind_some, byteOf_toNat _ h1, byteOf_toNat _ h2.1, byteOf_toNat _ h2.2, rawPoint]

theorem takePoint_none (rest : List Byte) :
    takePoint ([0xFF, 0xFF, 0xFF] ++ rest) = some (noPoint, rest) := rfl

theorem pointOfRaw_rawPoint (p : PointRef) (h : pointInRange p = true) : pointOfRaw (rawPoint p) = some p := by
  obtain ⟨bus, addr, point⟩ := p
  have hb : busOfByte bus.ctorIdx = some bus := by cases bus <;> rfl
  simp only [pointOfRaw, rawPoint, hb, Option.bind_some, h, if_true]

theorem rawPoint_ne_none (p : PointRef) : rawPoint p ≠ noPoint := by
  obtain ⟨bus, addr, point⟩ := p
  intro h
  have h1 : bus.ctorIdx = 255 := congrArg RawPoint.line h
  cases bus <;> exact absurd h1 (by decide)

theorem busOfByte_ctorIdx (bus : Bus) : busOfByte bus.ctorIdx = some bus := by cases bus <;> rfl

theorem lineOfByte_ctorIdx (l : LineId) : lineOfByte l.ctorIdx = some l := by cases l <;> rfl

theorem flagOf_flagByte (b : Bool) : flagOf (flagByte b).toNat = some b := by cases b <;> rfl

end Sys2Proof.Machine
end

