-- ==== Sys2Proof/Tests/Slice0.lean ====
section
/-! SUPPORT. The model's own tests: ill-formed commands that the check refuses, words and steps worked out from the
spec, and for each statement with hypotheses states and operands that meet them. -/

namespace Sys2Proof.Tests

open Sys2Proof.Machine Sys2Proof.Claims

-- One test after another: tests evaluated side by side would each hold a thread's memory.
set_option Elab.async false

/-! ## Helpers -/

/-- The state after a command, its reply sent. -/
def ran (c : Instr) (s : State) : State :=
  match exec c s with
  | .next t => { t with answering := false }
  | _ => s

/-- The state after some commands. -/
def after (cs : List Instr) (s : State) : State := cs.foldl (fun s c => ran c s) s

/-- The command is answered with this code, status and body. -/
def replies (c : Instr) (s : State) (r : Reply) : Bool :=
  match exec c s with
  | .next t => decide (t.reply = some r)
  | _ => false

/-- The next state passes a test. -/
def leads (c : Instr) (s : State) (p : State → Bool) : Bool :=
  match exec c s with
  | .next t => p t
  | _ => false

/-- Node A.3 with a scan entry. -/
def wired : State := after [.defineNode [0, 0, 3, 0xFF, 16], .defineScanEntry [0, 0, 3, 0, 8, 0]] State.reset

/-- Two zones: Z1 with a temperature, a gas and a presence point, Z2 with none. -/
def zoned : State := after
  [.defineZone [0, 1, 0, 0, 3, 0, 1, 0, 3, 1, 0, 1, 0, 3, 2], .defineZone [0, 2, 2, 0xFF, 0xFF, 0xFF, 0, 0]] wired

/-- Five loads: a light, a heater, a curtain and an exhaust fan on node A.3, and a light on T.0.14. -/
def loaded : State := after
  [.setTerminalFunction [15, 10],
    .defineLoad ([0, 1, 0, 1, 0, 3, 8] ++ wordBytes 500 ++ [1, 0xFF, 0, 0xFF, 0xFF, 0xFF, 0xFF]),
    .defineLoad ([0, 2, 1, 1, 0, 3, 9] ++ wordBytes 2000 ++ [0, 0xFF, 0, 0xFF, 0xFF, 0xFF, 0xFF]),
    .defineLoad ([0, 3, 2, 1, 0, 3, 10] ++ wordBytes 40 ++ [0, 0xFF, 0, 0xFF, 0xFF, 0xFF, 0xFF]),
    .defineLoad ([0, 4, 3, 1, 0, 3, 11] ++ wordBytes 800 ++ [1, 0xFF, 0, 0xFF, 0xFF, 0xFF, 0xFF]),
    .defineLoad ([0, 5, 0, 2, 2, 0, 14] ++ wordBytes 100 ++ [1, 0xFF, 0, 0xFF, 0xFF, 0xFF, 0xFF])] zoned

/-- A door of Z1 with a curtain, and its neighbour Z2. -/
def doored : State := after [.defineDoor ([0, 1, 0, 3, 3, 1, 1, 2, 3] ++ wordBytes 300)] loaded


/-! ## Well-formedness: what the check takes, and an ill-formed command for each of its tests -/

/-- A body longer than a frame can carry. -/
def longBody : List Byte := List.replicate 1025 0

theorem test_unknownRequest_wellFormed :
    (Instr.unknownRequest ⟨0x29, []⟩).wellFormed = true ∧ (Instr.unknownRequest ⟨0x28, []⟩).wellFormed = false
    ∧ (Instr.unknownRequest ⟨0x29, longBody⟩).wellFormed = false := by decide +kernel

theorem test_bodies_wellFormed_first : ([
    .identify longBody, .enterHold longBody, .enterRun longBody, .restart longBody, .storeSettings longBody,
    .setClock longBody, .readClock longBody, .writeShift longBody, .readShift longBody, .deleteShift longBody,
    .writeException longBody, .deleteException longBody, .readPlanState longBody, .defineZone longBody,
    .defineDoor longBody, .defineLoad longBody, .defineNode longBody, .defineScanEntry longBody,
    .setTerminalFunction longBody, .setLineParameters longBody, .setFilterTests longBody,
    .readParameters longBody, .lightOverride longBody, .setpointOverride longBody, .curtail longBody,
    .pinPresence longBody, .unpinPresence longBody, .flushPresence longBody, .setNodeService longBody,
    .lineRestart longBody, .writePoint longBody, .fetchPoint longBody, .readZone longBody, .readDoor longBody,
    .readLoad longBody, .readSettlement longBody, .readWindows longBody, .readNode longBody,
    .readLine longBody, .readPoint longBody, .readPresence longBody, .readEvents longBody,
    .collectNotices longBody] : List Instr).all (fun c => !c.wellFormed) = true := by
  decide +kernel

theorem test_groups_wellFormed : ([
    .setParametersDoor longBody, .setParametersOccupancy longBody, .setParametersLighting longBody,
    .setParametersDaylight longBody, .setParametersClimate longBody, .setParametersBudget longBody,
    .setParametersSettlement longBody, .setParametersHostLink (.group longBody),
    .setParametersHostLink (.noSuchGroup 8 longBody),
    .setParametersHostLink (.noSuchGroup 7 [])] : List Instr).all (fun c => !c.wellFormed) = true
    ∧ (Instr.setParametersDoor (List.replicate 1023 0)).wellFormed = true
    ∧ (Instr.setParametersDoor (List.replicate 1024 0)).wellFormed = false := by
  decide +kernel

theorem test_replySilence_wellFormed :
    (Instr.replySilence .a [] false).wellFormed = false
    ∧ (Instr.replySilence .a (List.replicate 41 0) false).wellFormed = false
    ∧ (Instr.replySilence .a (List.replicate 40 0) false).wellFormed = true := by decide

theorem test_events_ill_formed : ([
    .probeTimerExpires .a 0, .probeTimerExpires .a 32, .scanPeriodExpires .a 0 0, .scanPeriodExpires .b 3 16,
    .stalenessTimerExpires ⟨.a, 0, 0⟩, .stalenessTimerExpires ⟨.t, 1, 0⟩, .stalenessTimerExpires ⟨.b, 3, 16⟩,
    .terminalInputChange 0 true, .terminalInputChange 17 true, .debounceTimerExpires 11,
    .restartTimerExpires 8, .terminalRepeatDelivery 11, .analogConversion 4 0, .analogConversion 11 0,
    .meterPulse 3, .meterZeroTimerExpires 0, .heldOpenTimerExpires 49, .chatterTimerExpires 0,
    .curtainRunOnExpires 49, .presenceLifeExpires 97, .dormancyTimerExpires 13, .nodeHoldTimerExpires 65,
    .commandRefreshExpires 0, .lightOverrideExpires 13, .setpointOverrideExpires 0] : List Instr).all
      (fun c => !c.wellFormed) = true := by decide

theorem test_events_well_formed : ([
    .coldStart (.powerOn true), .warmRestart, .clockTick, .identify [], .probeTimerExpires .a 31,
    .scanPeriodExpires .b 31 15, .stalenessTimerExpires ⟨.t, 0, 15⟩, .stalenessTimerExpires ⟨.a, 31, 15⟩,
    .terminalInputChange 16 true, .debounceTimerExpires 10, .restartTimerExpires 7, .terminalRepeatDelivery 10,
    .analogConversion 5 0, .meterPulse 2, .meterZeroTimerExpires 1, .heldOpenTimerExpires 48,
    .chatterTimerExpires 1, .curtainRunOnExpires 48, .presenceLifeExpires 96, .dormancyTimerExpires 12,
    .nodeHoldTimerExpires 64, .commandRefreshExpires 64, .lightOverrideExpires 12, .setpointOverrideExpires 1] :
    List Instr).all Instr.wellFormed = true := by decide

/-! ## Words worked out from the spec -/

/-- R24: the check word of a reply of two values, and the words with it. -/
theorem test_check_word : checkWord [0x1A02, 0x0003, 0x8C40, 0x7F31] = 0xDA88
    ∧ checkPasses [0x1A02, 0x0003, 0x8C40, 0x7F31, 0xDA88] = true := by decide

/-- R191: the check value of the frame that asks IDENTIFY. -/
theorem test_frame_crc : crc [0x00, 0x00, 0x01] = 0xDCBD := by decide +kernel

/-- R22, R203: the request frame of each function. -/
theorem test_request_frames :
    requestWords 3 .probe = [0x0301]
    ∧ requestWords 3 (.readPoints 2 5 false) = [0x0302, 2, 5]
    ∧ requestWords 31 (.writePoint ⟨31, 15, 1000, .host, 0⟩) = [0x1F03, 15, 1000]
    ∧ requestWords 1 .fetchEvents = [0x0104, 4] := by decide

/-- R1: the calendar into a leap day, out of February, and at its end. -/
theorem test_calendar :
    nextReading ⟨⟨28, 2, 2024⟩, 2, 23, 59, 59⟩ = some ⟨⟨29, 2, 2024⟩, 3, 0, 0, 0⟩
    ∧ nextReading ⟨⟨28, 2, 2023⟩, 1, 23, 59, 59⟩ = some ⟨⟨1, 3, 2023⟩, 2, 0, 0, 0⟩
    ∧ nextReading ⟨⟨31, 12, 2099⟩, 3, 23, 59, 59⟩ = none := by decide

/-! ## Every hypothesis can be met -/

/-- The part in a mode, right after reset. -/
def inMode (m : Mode) : State := { State.reset with mode := m }

/-- The part answering, with a frame in hand, writing its store, or without main power. -/
def answeringNow : State := { State.reset with answering := true }
def collecting (early : Bool) (bytes : List Byte) : State :=
  { State.reset with receiver := .collecting ⟨early, bytes, false, 0⟩ }
def writingNow : State := { State.reset with store := ⟨.writing, factoryConfig, some 0, true⟩ }
def unpowered : State := { State.reset with powered := false }

/-- A step from the state answers a next state. -/
def stepsOn (s : State) : Bool :=
  match step s with
  | .next _ => true
  | _ => false

theorem test_meets_StepRunsFrontCommand :
    ({ State.reset with pending := [.clockTick, .startByte] } : State).pending = .clockTick :: [.startByte] := rfl

theorem test_meets_IdleStepPassesOneMillisecond :
    State.reset.pending = [] ∧ State.reset.powered = true ∧ unpowered.pending = [] ∧ unpowered.powered = false := by
  decide

/-- A part with timers of lines, terminals and zones, the tables of them in order. -/
def ticking : State :=
  let s := after [.setTerminalFunction (2 :: functionBytes .digitalIn),
    .setTerminalFunction (9 :: functionBytes (.analogIn .co 0 300))] zoned
  { s with
    now := 899999, clock := { s.clock with isSet := true, phase := 998 }, restartPending := true
    terminals := slotChange (fun r => { r with debounceAt := some 900001 }) s.terminals 2
    lineA := { s.lineA with nodes := slotChange (fun n => { n with probeDue := some 900000 }) s.lineA.nodes 3 } }

/-- What the idle step queues of timers due, not yet due, and due before, which a probe alone misses (log 1). -/
theorem test_meets_timersRaised :
    let queue := fun (s : State) => match step s with
      | .next t => t.pending
      | _ => []
    let late : State := { ticking with now := 900000 }
    ticking.pending = [] ∧ timersOrdered ticking = true ∧ dueTime ticking (.dormancyTimerExpires 2) = some 900000
    ∧ (Instr.dormancyTimerExpires 2).wellFormed = true
    ∧ ([.dormancyTimerExpires 2, .probeTimerExpires .a 3, .warmRestart, .settlement, .analogConversion 9 0,
      .terminalRepeatDelivery 2] : List Instr).all (queue ticking).contains = true
    ∧ ([.debounceTimerExpires 2, .clockTick, .storeWriteBegin, .coldStart .restartInput] : List Instr).any
      (queue ticking).contains = false
    ∧ ([.dormancyTimerExpires 2, .debounceTimerExpires 2] : List Instr).all (queue late).contains = true
    ∧ (queue late).contains (.probeTimerExpires .a 3) = false
    ∧ (queue { ticking with clock := { ticking.clock with phase := 999 } }).contains .clockTick = true := by
  decide +kernel

theorem test_meets_EveryCommandIsAnswered :
    unpowered.powered = false ∧ (∀ held, Instr.settlement ≠ .coldStart (.powerOn held))
    ∧ Instr.settlement ≠ .clockTick ∧ Instr.settlement ≠ .mainPowerLoss
    ∧ (∀ t closed, Instr.settlement ≠ .terminalInputChange t closed)
    ∧ (∀ t mv, Instr.settlement ≠ .analogConversion t mv) ∧ (∀ t, Instr.settlement ≠ .meterPulse t)
    ∧ dueTime State.reset .settlement = some 2000 ∧ ({ State.reset with now := 1999 } : State).now < 2000 := by
  refine ⟨rfl, ?_, ?_, ?_, ?_, ?_, ?_, rfl, by decide⟩ <;> intros <;> simp

theorem test_meets_EveryStepKeepsTheBounds :
    noticesBounded doored ∧ countersBounded doored ∧ listsBounded doored ∧ stepsOn doored = true := by
  unfold noticesBounded countersBounded listsBounded
  decide +kernel

theorem test_meets_EveryStepKeepsLinesLawful : linesLawful wired ∧ stepsOn wired = true := by
  unfold linesLawful lineLaw
  decide +kernel

/-- Z1 with its host's entry. -/
def pinned : State := ran (.pinPresence [1]) zoned

theorem test_meets_EveryStepKeepsPresenceLawful :
    presenceLawful pinned ∧ pinned.presence = [(1, ⟨1, .host, .pinned⟩)] ∧ stepsOn pinned = true := by
  unfold presenceLawful zonesNumbered
  decide +kernel

/-- The zones' law over the entries of the table, which the kernel can go through. -/
theorem test_zones_of_pinned :
    (∀ e ∈ pinned.zones, (e.2.state = .closed ↔ inZones pinned.plan.openZones e.1 = false)
      ∧ (e.2.state = .occupied ↔ inZones pinned.plan.openZones e.1 = true ∧ hasEntry pinned e.1 = true)
      ∧ (e.2.intruded = true → e.2.state = .closed ∧ hasDynamic pinned e.1 = true))
    ∧ pinned.zones.map (fun e => e.2.state) = [.occupied, .vacant] ∧ stepsOn pinned = true := by
  decide +kernel

theorem test_meets_EveryStepKeepsZonesLawful :
    (recordsMatch pinned ∧ presenceLawful pinned ∧ zonesLawful pinned) ∧ stepsOn pinned = true :=
  ⟨⟨by unfold recordsMatch; decide +kernel, test_meets_EveryStepKeepsPresenceLawful.1,
    fun z r h => test_zones_of_pinned.1 (z, r) (slotGet_mem _ _ _ h)⟩, test_zones_of_pinned.2.2⟩

/-- The loads' law over the entries of both tables. -/
theorem test_loads_of_loaded :
    slotWf loaded.config.loads = true ∧ slotWf loaded.store.copy.loads = true
    ∧ (∀ e ∈ loaded.config.loads, ∀ r ∈ loaded.loads, e.1 = r.1 →
      loadLaw loaded.mode loaded.config.climate.vent e.2 r.2)
    ∧ loaded.loads.length = 5 ∧ stepsOn loaded = true := by
  unfold loadLaw
  decide +kernel

theorem test_meets_EveryStepKeepsLoadsLawful : loadsLawful loaded ∧ stepsOn loaded = true :=
  ⟨⟨test_loads_of_loaded.1, test_loads_of_loaded.2.1, fun k d r hd hr =>
    test_loads_of_loaded.2.2.1 (k, d) (slotGet_mem _ _ _ hd) (k, r) (slotGet_mem _ _ _ hr) rfl⟩,
    test_loads_of_loaded.2.2.2.2⟩

theorem test_meets_EveryStepKeepsModeLegal :
    modeLegal doored ∧ modeLegal { State.reset with mode := .emergency, returnMode := some .run }
      ∧ stepsOn doored = true := by
  unfold modeLegal
  decide +kernel

theorem test_meets_EveryStepKeepsRecordsMatched : recordsMatch doored ∧ stepsOn doored = true := by
  unfold recordsMatch
  decide +kernel

theorem test_meets_FieldEventsKeepTheHostSide : isFieldEvent (.replySilence .a [] false) = true := rfl

theorem test_meets_RequestsAreDiscardedOrAnswered :
    requestCode (.identify []) = some 0x01 ∧ requestCode (.unknownRequest ⟨0xFF, []⟩) = some 0xFF
    ∧ answeringNow.powered = true ∧ answeringNow.answering = true ∧ answeringNow.receiver = .hunting
    ∧ canTake State.reset ∧ (requestBody (.identify [])).length ≤ 1024
    ∧ 1024 < (requestBody (.identify longBody)).length := by
  decide +kernel

/-- The judgement of bytes in hand. -/
def judged (bytes : List Byte) : FrameJudgement := judgeFrame ⟨false, bytes, false, 0⟩

/-- R191: the bytes of IDENTIFY's frame after its start byte, one by one; with a wrong CRC, too long, and with a framing
error. -/
theorem test_frames_judged :
    frameTail 0x01 [] = [0, 0, 1, 0xDC, 0xBD]
    ∧ ((List.range 5).all fun n => judged ((frameTail 0x01 []).take n) == .growing) = true
    ∧ judged [0, 0, 1, 0xDC, 0xBD] = .whole 0x01 [] ∧ judged [0, 0, 1, 0xDC, 0xBC] = .failed
    ∧ judged [4, 1] = .failed ∧ judged [4, 0] = .growing
    ∧ judgeFrame ⟨false, [0], true, 0⟩ = .failed := by
  decide +kernel

/-- The cases of a frame in hand: lacking bytes, in time and not; failed; whole, and early; and of IDENTIFY, or not. -/
theorem test_meets_frames_in_hand :
    isGrowing 20 ⟨false, [0, 0], false, 0⟩ ∧ isBrokenOff 21 ⟨false, [0, 0], false, 0⟩
    ∧ judgeFrame ⟨true, [4, 1], false, 0⟩ = .failed ∧ isWhole ⟨true, [0, 0, 1, 0xDC, 0xBD], false, 0⟩
    ∧ [0, 0] <+: frameTail 0x01 (requestBody (.identify [])) ∧ ¬ [0, 1] <+: frameTail 0x01 (requestBody (.identify []))
    ∧ [4, 1] <+: frameTail 0x01 (requestBody (.identify longBody))
    ∧ requestOf 0x01 [] = .identify [] ∧ (collecting true [0, 0]).answering = false :=
  ⟨by decide, by decide, by decide +kernel, ⟨0x01, [], by decide +kernel⟩, by decide +kernel, by decide +kernel,
    by decide +kernel, rfl, rfl⟩

/-- R191, R192: what becomes of a frame in hand when its request's command comes, or another's. -/
theorem test_requests_end_frames :
    let ends := fun (c : Instr) (s t : State) => leads c s fun u => decide (u = t)
    replies (.identify []) (collecting false [0, 0]) ⟨0x01, .ok, identifyBody State.reset⟩ = true
    ∧ ends (.identify []) (collecting false [0, 1]) (collecting false [0, 1])
    ∧ ends (.identify []) (collecting true [0, 0]) { State.reset with earlyFrames := 1 }
    ∧ ends (.identify longBody) State.reset { State.reset with frameErrors := 1 } := by
  decide +kernel

theorem test_meets_RefusedRequestsChangeNothing :
    requestCode (.enterHold [0]) = some 0x02 ∧ canTake State.reset
    ∧ replies (.enterHold [0]) State.reset ⟨0x02, .badLength, []⟩ = true := by
  decide +kernel

theorem test_meets_RequestEndMovesModeAndSupervision :
    ([Mode.start, .hold, .run, .standalone, .emergency].map fun m => (inMode m).mode)
      = [.start, .hold, .run, .standalone, .emergency] := by decide

theorem test_meets_LinkEventsMoveTheReceiver :
    State.reset.powered = true ∧ State.reset.receiver = .hunting ∧ (collecting true [4, 1]).powered = true
    ∧ (collecting true [4, 1]).receiver = .collecting ⟨true, [4, 1], false, 0⟩ := by decide

/-- R191: a frame whose CRC does not agree, sent byte by byte, and what idle steps queue of a frame in hand. -/
theorem test_frames_end :
    let sent := fun (bytes : List Byte) => Instr.hostFrameDiscarded (bytes.map fun b => ⟨b, false⟩)
    let queued := fun (s : State) => match step s with
      | .next t => t.pending
      | _ => []
    (ran (sent [0xA5, 0, 0, 1, 0xDC, 0xBC]) State.reset = { State.reset with frameErrors := 1 })
    ∧ (ran (sent [0xA5, 0, 0, 1, 0xDC, 0xBD]) State.reset = collecting false [0, 0, 1, 0xDC, 0xBD])
    ∧ (queued (collecting false [0, 0, 1, 0xDC, 0xBD])).contains (.identify []) = true
    ∧ (queued (collecting true [0, 0, 1, 0xDC, 0xBD])).contains (.hostFrameDiscarded []) = true
    ∧ (queued { collecting true [0] with now := 19 }).contains .hostByteTimeout = false
    ∧ (queued { collecting true [0] with now := 20 }).contains .hostByteTimeout = true := by
  decide +kernel

theorem test_meets_RequestsAreCheckedInOrder :
    canTake State.reset ∧ catalogue.contains (0x29 : Byte).toNat = false
    ∧ requestCode (.defineZone [1, 12]) = some 0x20 ∧ rightLength (.defineZone [1, 12])
    ∧ ¬ rightLength (.defineZone [1]) ∧ ¬ rightLength (.defineZone [0, 1, 0, 0xFF, 0xFF, 0xFF, 1, 0])
    ∧ rightLength (.defineZone [0, 1, 0, 0xFF, 0xFF, 0xFF, 1, 0, 3, 1, 0, 0])
    ∧ isHoldOnly (.defineZone [1, 12]) = true ∧ canTake (inMode .run)
    ∧ (inMode .run).mode ≠ .hold ∧ waitsForWrite (.restart []) = true ∧ requestCode (.restart []) = some 0x04
    ∧ isHoldOnly (.restart []) = false ∧ rightLength (.restart []) ∧ canTake writingNow
    ∧ writingNow.store.state = .writing := by
  simp only [rightLength, actionLength]
  decide

/-- The configuration of `doored` with an unused terminal bound: ENTER RUN names it. -/
def badly : State := { doored with
  config := { doored.config with functions := slotSet doored.config.functions 15 .unused } }

/-- The configuration of `zoned` with some lights on nodes A.3 and A.4, all of them defined. -/
def lights (n : Nat) (zone : Nat → Nat) : RunningConfig := { zoned.config with
  lineA := { zoned.config.lineA with nodes := [(3, ⟨none, 16⟩), (4, ⟨none, 16⟩)] }
  loads := (List.range n).map fun i =>
    (i + 1, ⟨.light, zone i, ⟨.a, 3 + (i + 3) / 16, (i + 3) % 16⟩, 100, .step, 0, false, 0, 0⟩) }

/-- What the six checks say of a configuration that fails each, and of one that stands just inside it. -/
theorem test_meets_checksName :
    let named := fun (c : RunningConfig) => (firstBadItem c).map fun b => (b.check, b.kind, b.number)
    named { doored.config with lineA := { doored.config.lineA with nodes := [] } } = some (1, .load, 1)
    ∧ named badly.config = some (2, .load, 5)
    ∧ named { lights 2 fun _ => 1 with
      zones := slotChange (fun d => { d with temperature := some ⟨.a, 3, 4⟩ }) zoned.config.zones 1 }
      = some (3, .zone, 1)
    ∧ named (lights 24 fun i => i / 2 + 1) = none ∧ named (lights 25 fun i => i / 3 + 1) = some (4, .line, 0)
    ∧ named (lights 4 fun _ => 12) = none ∧ named (lights 5 fun _ => 12) = some (5, .zone, 12)
    ∧ named { doored.config with zones := slotFree doored.config.zones 1 } = some (6, .door, 1) := by
  decide +kernel

theorem test_meets_ModeRequestsFollowTheirTable :
    canTake (inMode .run) ∧ (inMode .run).mode = .run ∧ (inMode .standalone).mode = .standalone
    ∧ (inMode .emergency).mode = .emergency ∧ canTake doored ∧ doored.mode = .hold
    ∧ firstBadItem doored.config = none ∧ badly.mode = .hold ∧ (firstBadItem badly.config).isSome = true := by
  decide +kernel

/-- Notices that fill the queue: one of a kind that gives way, behind and before priority notices. -/
def fullOf (kinds : List NoticeKind) : State :=
  { State.reset with notices := kinds.map fun k => ⟨k, 0, .none, none, none⟩ }

theorem test_meets_NoticesAreQueuedAndCollected :
    canTake State.reset ∧ State.reset.notices.length < 40
    ∧ (fullOf (List.replicate 40 .emergencyBegin)).notices.length = 40
    ∧ isPriority .emergencyBegin = true ∧ isPriority .clockUnset = false
    ∧ (∀ m ∈ (fullOf (List.replicate 40 .emergencyBegin)).notices, isPriority m.kind = true)
    ∧ (fullOf (.emergencyBegin :: .clockUnset :: List.replicate 38 .emergencyBegin)).notices
      = [⟨.emergencyBegin, 0, .none, none, none⟩] ++ ⟨.clockUnset, 0, .none, none, none⟩
        :: List.replicate 38 ⟨.emergencyBegin, 0, .none, none, none⟩
    ∧ (let marked := fun (s : State) => { s with config := { s.config with watermark := 20 } }
      attentionLine (marked (fullOf (List.replicate 20 .clockUnset))) = true
        ∧ attentionLine (marked (fullOf (List.replicate 19 .clockUnset))) = false
        ∧ attentionLine (marked (fullOf [.lineDown])) = true) := by decide

theorem test_meets_StartsLoadTheirConfiguration :
    (StartCause.powerOn true = .restartInput → False)
    ∧ ({ State.reset with restartRequested := true } : State).restartRequested = true
    ∧ State.reset.powered = true ∧ State.reset.store.state ≠ .writing ∧ State.reset.store.state ≠ .valid
    ∧ State.reset.storePending = false ∧ State.reset.restartRequested = false ∧ unpowered.powered = false
    ∧ writingNow.store.state = .writing ∧ ({ State.reset with storePending := true } : State).storePending = true
    ∧ ({ State.reset with store := ⟨.valid, factoryConfig, none, false⟩ } : State).store.state = .valid
    ∧ canConfigure State.reset
    ∧ ({ State.reset with restartPending := true } : State).restartPending = true
    ∧ State.reset.restartPending = false ∧ State.reset.answering = false
    ∧ ({ answeringNow with restartPending := true } : State).answering = true := by decide

/-- R2, R184: a power-on with an UNSET clock raises CLOCK_UNSET, a start by the restart input none (log 26). -/
theorem test_meets_unset_clock :
    let kinds := fun (cause : StartCause) =>
      (ran (.coldStart cause) { State.reset with restartRequested := true }).notices.map Notice.kind
    kinds (.powerOn true) = [.modeChanged, .clockUnset] ∧ kinds .restartInput = [.modeChanged]
    ∧ State.reset.clock.isSet = false := by
  decide +kernel

theorem test_meets_StoreWritesRunToTheirEnd :
    canConfigure State.reset ∧ ({ State.reset with storePending := true } : State).storePending = true
    ∧ ({ State.reset with storePending := true } : State).answering = false
    ∧ writingNow.powered = true ∧ writingNow.store.state = .writing ∧ writingNow.store.writingSince = some 0 := by
  decide

/-- The clock SET to a Tuesday morning. -/
def timed : State := ran (.setClock (dateBytes ⟨5, 3, 2024⟩ ++ [8, 30, 59])) State.reset

theorem test_meets_SetClockSetsTheReading :
    canTake State.reset ∧ dateValid ⟨29, 2, 2024⟩ = true ∧ dateValid ⟨31, 12, 2099⟩ = true
    ∧ replies (.setClock (dateBytes ⟨31, 12, 2099⟩ ++ [23, 59, 59])) State.reset ⟨0x10, .ok, []⟩ = true
    ∧ State.reset.clock.isSet = false ∧ timed.clock.isSet = true ∧ timed.window.isSome = true ∧ timed.history = []
    ∧ ((ran (.setClock (dateBytes ⟨6, 3, 2024⟩ ++ [8, 0, 0])) timed).history.map fun w => (w.length, w.isPartial))
      = [(0, true)] := by
  decide +kernel

/-- `timed` at another reading of its day. -/
def timedAt (h m sec : Nat) : State := { timed with clock := ⟨true, ⟨⟨5, 3, 2024⟩, 1, h, m, sec⟩, 0⟩ }

theorem test_meets_ClockTicksAdvanceASecond :
    let ended := fun (s : State) => (nextReading s.clock.reading).map fun r =>
      (r.second, s.window.map fun w => decide (w.ends ≤ secondNumber r))
    let last : State := { timed with clock := ⟨true, ⟨⟨31, 12, 2099⟩, 3, 23, 59, 59⟩, 0⟩ }
    State.reset.clock.isSet = false ∧ timed.clock.isSet = true ∧ timed.powered = true
    ∧ ended (timedAt 8 30 59) = some (0, some false) ∧ ended (timedAt 8 31 0) = some (1, some false)
    ∧ ended (timedAt 8 44 59) = some (0, some true) ∧ ended (timedAt 8 45 0) = some (1, some true)
    ∧ nextReading last.clock.reading = none ∧ last.window.isSome = true ∧ State.reset.window = none := by
  decide +kernel

/-- R1: past the last second of 2099 the clock is UNSET, which CLOCK_UNSET tells, and SHIFT_CHANGED when a shift ends. -/
theorem test_calendar_ends :
    let last := fun (active : Nat) => { timed with
      clock := ⟨true, ⟨⟨31, 12, 2099⟩, 3, 23, 59, 59⟩, 0⟩, plan := { timed.plan with active := active } }
    let told := fun (t : State) => (t.notices.drop timed.notices.length).map Notice.kind
    (leads .clockTick (last 0) fun t => !t.clock.isSet && t.window.isNone && told t == [.clockUnset])
    ∧ (leads .clockTick (last 1) fun t => t.plan.active == 0 && told t == [.clockUnset, .shiftChanged]) := by
  decide +kernel

/-- R1: the last second of days, months and years, and of the calendar. -/
theorem test_meets_calendarLaw :
    let last := fun (d m y : Nat) => (nextReading ⟨⟨d, m, y⟩, 6, 23, 59, 59⟩).map Reading.date
    nextReading ⟨⟨5, 3, 2024⟩, 1, 8, 59, 58⟩ = some ⟨⟨5, 3, 2024⟩, 1, 8, 59, 59⟩
    ∧ nextReading ⟨⟨5, 3, 2024⟩, 1, 8, 58, 59⟩ = some ⟨⟨5, 3, 2024⟩, 1, 8, 59, 0⟩
    ∧ nextReading ⟨⟨5, 3, 2024⟩, 1, 22, 59, 59⟩ = some ⟨⟨5, 3, 2024⟩, 1, 23, 0, 0⟩
    ∧ nextReading ⟨⟨5, 3, 2024⟩, 6, 23, 59, 59⟩ = some ⟨⟨6, 3, 2024⟩, 0, 0, 0, 0⟩
    ∧ last 29 2 2024 = some ⟨1, 3, 2024⟩ ∧ last 28 2 2024 = some ⟨29, 2, 2024⟩ ∧ last 28 2 2099 = some ⟨1, 3, 2099⟩
    ∧ last 30 4 2024 = some ⟨1, 5, 2024⟩ ∧ last 30 1 2024 = some ⟨31, 1, 2024⟩ ∧ last 31 1 2024 = some ⟨1, 2, 2024⟩
    ∧ last 31 12 2098 = some ⟨1, 1, 2099⟩ ∧ last 31 12 2099 = none
    ∧ dateValid ⟨29, 2, 2023⟩ = false ∧ dateValid ⟨29, 2, 2024⟩ = true ∧ dateValid ⟨31, 4, 2024⟩ = false := by
  decide

/-- A timed record S1 for every day, from midnight. -/
def s1 : ShiftRecord := { factoryConfig.shift0 with weekdays := 0x7F, openZones := 1, lead := 180, changeover := 60 }

/-- `timed` with S1 and the exceptions of two days. -/
def planned : State := after
  [.writeShift (1 :: shiftBytes true s1), .writeException [5, 3, 0xFF], .writeException [6, 3, 1]] timed

theorem test_meets_EvaluationsPublishThePlan :
    State.reset.clock.isSet = false ∧ planned.clock.isSet = true
    ∧ exceptionOn planned.config ⟨5, 3, 2024⟩ = some .closedDay
    ∧ exceptionOn planned.config ⟨6, 3, 2024⟩ = some (.record 1)
    ∧ exceptionOn planned.config ⟨7, 3, 2024⟩ = none ∧ startInstances planned.config ≠ []
    ∧ startInstances timed.config = []
    ∧ EvaluationCause.edit ≠ .start
    ∧ planned.plan.active ≠ (planAfter .edit { planned with
      clock := ⟨true, ⟨⟨6, 3, 2024⟩, 2, 8, 0, 0⟩, 0⟩ }).active
    ∧ (∀ e ∈ planned.config.shifts, e.2.startMinute ≤ 1439) := by
  decide +kernel

/-- R13, R14, R15: the start of S1 at midnight, seen from the edge of its lead and of its changeover. -/
theorem test_candidates_of_planned :
    let planAt := fun (day h m : Nat) => planAfter .boundary { planned with
      clock := ⟨true, ⟨⟨day, 3, 2024⟩, (dayNumber ⟨day, 3, 2024⟩ + 5) % 7, h, m, 0⟩, 0⟩ }
    (planAt 10 21 0).next = some ⟨1, ⟨⟨11, 3, 2024⟩, 0⟩⟩ ∧ (planAt 10 21 0).precondition = true
    ∧ (planAt 10 20 59).precondition = false ∧ (planAt 10 0 59).changeover = true
    ∧ (planAt 10 1 0).changeover = false ∧ (planAt 4 12 0).next = some ⟨0, ⟨⟨5, 3, 2024⟩, 0⟩⟩
    ∧ (planAfter .edit timed).next = none := by
  decide +kernel

/-- S1 from midnight, then S2 from noon on, in its changeover. -/
def changing : State := after
  [.writeShift (1 :: shiftBytes true s1), .writeShift (2 :: shiftBytes true { s1 with startMinute := 720 }),
    .setClock (dateBytes ⟨5, 3, 2024⟩ ++ [11, 59, 59]), .clockTick] State.reset

theorem test_meets_EffectiveZonesFollowTheChangeover :
    (planAfter .boundary State.reset).changeover = false ∧ (planAfter .boundary State.reset).previous = none
    ∧ (planAfter .boundary changing).changeover = true ∧ (planAfter .boundary changing).previous = some 1 := by
  decide +kernel

theorem test_meets_WriteShiftTakesTheRecordOfItsBytes :
    canConfigure timed ∧ startsCollide timed.config 16 s1 = false ∧ recordFits true s1 ∧ recordFits false s1 := by
  refine ⟨by decide +kernel, by decide +kernel, ?_, ?_⟩ <;>
    refine ⟨by decide, by decide, by decide, by decide, ?_, ?_, by decide⟩ <;> intro k <;> cases k <;> decide

theorem test_meets_PlanEditsAreEvaluatedBeforeTheReply :
    canConfigure timed ∧ canConfigure planned ∧ slotUsed changing.config.shifts 1 = true ∧ canConfigure changing
    ∧ (∀ e ∈ changing.config.exceptions, e.2.replacement ≠ .record 1)
    ∧ exceptionDateValid 29 2 = true ∧ timed.config.exceptions = []
    ∧ slotUsed planned.config.shifts 1 = true ∧ (exceptionSlot planned.config 6 3).isSome = true := by
  decide +kernel

/-- A zone's definition with every list at its longest. -/
def wideZone : ZoneDef where
  kind := .canopy
  temperature := some ⟨.a, 3, 0⟩
  gas := [⟨⟨.a, 3, 1⟩, .co⟩, ⟨⟨.b, 31, 15⟩, .no2⟩, ⟨⟨.t, 0, 4⟩, .co⟩]
  presence := (List.range 8).map fun i => ⟨.a, 4, i⟩
  aging := 0
  dormancy := 0

/-- R51, R83, R115, R119: a warm restart of `planned` with the definitions of `doored`, its pin and a meter. -/
def restarting : State := { planned with
  restartPending := true
  config := { planned.config with
    zones := doored.config.zones, doors := doored.config.doors, loads := doored.config.loads, pins := [1]
    lineA := doored.config.lineA
    functions := slotChange (fun _ => .meterPulse 10) doored.config.functions 1 } }

theorem test_started_parts :
    let started := fun (p : State → Bool) => leads .warmRestart restarting p
    (started fun t => t.zones == [(1, ⟨.occupied, false, none, none⟩), (2, ⟨.vacant, false, some 0, some 900000⟩)]
      && t.presence == [(1, ⟨1, .host, .pinned⟩)])
    ∧ (started fun t => t.notices.map Notice.kind == [.modeChanged] && t.mode == .standalone)
    ∧ (started fun t => (slotGet t.terminals 1) == some (startedTerminal (.meterPulse 10))
      && (getPoint t ⟨.t, 0, 0⟩).any (fun q => q.status == .fresh) && !(slotUsed t.points (pointKey ⟨.b, 3, 0⟩)))
    ∧ (started fun t => (getPoint t ⟨.a, 3, 15⟩).any (fun q => q.status == .neverRead)
      && t.lineA.inFlight.any fun x => x.work == .probe)
    ∧ startNotices .hold .coldDefaults true restarting.plan
      = [⟨.modeChanged, 0, .mode .hold, some 0, some 1⟩, ⟨.clockUnset, 0, .none, none, none⟩]
    ∧ (startNotices .standalone .warm false { restarting.plan with
      precondition := true, next := some ⟨1, ⟨⟨5, 3, 2024⟩, 0⟩⟩ }).map Notice.kind
        = [.modeChanged, .preconditionBegin] := by
  decide +kernel

/-- `doored` with a sensor's entry in Z1 and Z2, the door's entry, and Z1 at a stage. -/
def peopled (stage : Nat) : State := { doored with
  now := 5000
  presence := [(1, ⟨1, .sensor ⟨.a, 3, 2⟩, .running 9000⟩), (2, ⟨1, .door 1, .held 60⟩)]
  zones := slotChange (fun r => { r with state := .occupied, vacantSince := none, dormancyAt := none }) doored.zones 1
  climate := slotChange (fun c => { c with stage := stage, gasIndex := 1200 }) doored.climate 1 }

/-- R99, R100: a redefinition drops the entry of a point that it does not list, ends a purge, and keeps the state of a
zone that goes on; the entries of others stay. -/
theorem test_meets_redefinitions :
    let bare : ZoneDef := { wideZone with presence := [] }
    lostSensor 1 bare ⟨1, .sensor ⟨.a, 3, 2⟩, .running 9000⟩ = true
    ∧ lostSensor 2 bare ⟨1, .sensor ⟨.a, 3, 2⟩, .running 9000⟩ = false
    ∧ lostSensor 1 wideZone ⟨1, .sensor ⟨.a, 4, 2⟩, .running 9000⟩ = false
    ∧ lostSensor 1 bare ⟨1, .door 1, .held 60⟩ = false
    ∧ slotWf (peopled 4).presence = true ∧ canDefine (peopled 4)
    ∧ (slotGet (peopled 4).config.zones 1).isSome = true ∧ inZones (peopled 4).plan.openZones 1 = true
    ∧ ((purgeEnded 1 (peopled 4)).notices.getLast? = some ⟨.gasPurgeEnd, 5000, .zone 1, some 1200, some 5⟩)
    ∧ (purgeEnded 1 (peopled 3)).notices = (peopled 3).notices
    ∧ ((slotGet (peopled 0).zones 1).map ZoneRec.state = some .occupied)
    ∧ ((slotGet doored.zones 1).map ZoneRec.state = some .vacant) := by
  decide +kernel

/-- R85: the entry of a door goes with its definition, the one of another source stays. -/
theorem test_meets_dropped_entry :
    (peopled 0).presence = [(1, ⟨1, .sensor ⟨.a, 3, 2⟩, .running 9000⟩)] ++ (2, ⟨1, .door 1, .held 60⟩) :: []
    ∧ ((slotGet (peopled 0).config.doors 1).map DoorDef.zone = some 1)
    ∧ (dropDoorEntry 1 (peopled 0)).presence = [(1, ⟨1, .sensor ⟨.a, 3, 2⟩, .running 9000⟩)]
    ∧ (dropDoorEntry 1 doored).presence = doored.presence ∧ slotGet doored.config.doors 2 = none := by
  decide +kernel

theorem test_meets_ZoneDefinitionsTakeAndFreeTheirSlot :
    canDefine zoned ∧ isZone 12 ∧ isZone 1 ∧ (∀ p ∈ zonePoints wideZone, isPoint p) ∧ (zonePoints wideZone).Nodup
    ∧ slotGet zoned.config.zones 12 = none ∧ (slotGet zoned.config.zones 1).isSome = true
    ∧ slotUsed zoned.config.zones 2 = true ∧ zoneNamed zoned.config 2 = false
    ∧ canDefine doored ∧ slotUsed doored.config.zones 2 = true ∧ zoneNamed doored.config 2 = true
    ∧ slotUsed zoned.config.zones 3 = false := by
  decide +kernel

theorem test_meets_DoorDefinitionsTakeAndFreeTheirSlot :
    canDefine loaded ∧ isPoint ⟨.t, 0, 15⟩ ∧ isZone 12 ∧ ([1, 2, 3, 4] : List Nat).Nodup
    ∧ (∀ z ∈ ([1, 2, 3, 4] : List Nat), isZone z) ∧ 12 ∉ ([1, 2, 3, 4] : List Nat)
    ∧ ((slotGet loaded.config.loads 3).any fun l => l.kind == .curtain) = true
    ∧ (∀ e ∈ loaded.config.doors, e.1 ≠ 48 → e.2.curtain ≠ some 3)
    ∧ canDefine doored ∧ slotUsed doored.config.doors 1 = true := by
  decide +kernel

theorem test_meets_LoadDefinitionsTakeAndFreeTheirSlot :
    canDefine zoned ∧ (slotGet zoned.config.zones 2).isSome = true ∧ isPoint ⟨.b, 31, 15⟩
    ∧ (∀ e ∈ zoned.config.doors, e.2.curtain ≠ some 64) ∧ canDefine loaded
    ∧ slotUsed loaded.config.loads 5 = true ∧ (∀ e ∈ loaded.config.doors, e.2.curtain ≠ some 5)
    ∧ (let s : State := { loaded with
        terminals := slotChange (fun r => { r with dimMillivolts := 500 }) loaded.terminals 15 }
      let dimAfter := fun (c : RunningConfig) => (slotGet (terminalsLeft s 5 c) 15).map TermRec.dimMillivolts
      dimAfter s.config = some 500 ∧ dimAfter { s.config with loads := slotFree s.config.loads 5 } = some 0) := by
  decide +kernel

/-- R119: a load is CONTROLLED on a terminal and on a node not yet heard of, and not on one that is not defined. -/
theorem test_meets_new_loads :
    contactOf zoned .t 0 = .inContact ∧ contactOf zoned .a 3 = .unconfirmed ∧ contactOf zoned .b 31 = .unreachable
    ∧ defaultTable ∧ (slotGet loaded.config.loads 2).map LoadDef.kind = some .heater
    ∧ (slotGet loaded.config.loads 1).map LoadDef.kind = some .light ∧ slotGet loaded.config.loads 64 = none := by
  refine ⟨by decide +kernel, by decide +kernel, by decide +kernel, ?_, by decide +kernel, by decide +kernel,
    by decide +kernel⟩
  refine ⟨fun z => ?_, by decide, by decide, by decide, by decide, by decide, by decide⟩
  cases z <;> decide

theorem test_meets_LineDefinitionsTakeAndFreeTheirSlot :
    canDefine wired ∧ refersBeyond wired.config .a 3 8 = false ∧ refersBeyond wired.config .b 31 1 = false
    ∧ slotUsed wired.config.lineA.nodes 3 = true ∧ isReferred (after
      [.defineNode [0, 1, 31, 0xFF, 1]] wired).config .b 31 = false
    ∧ slotUsed (after [.defineNode [0, 1, 31, 0xFF, 1]] wired).config.lineB.nodes 31 = true
    ∧ slotUsed wired.config.lineB.nodes 31 = false
    ∧ (slotGet wired.config.lineA.nodes 3).isSome = true ∧ wired.config.lineA.scan.any (isEntry 3 8) = false
    ∧ wired.config.lineA.scan.any (isEntry 3 0) = true ∧ wired.config.lineA.scan.length < 48 := by
  decide +kernel

theorem test_meets_TerminalFunctionsStartAfresh :
    canDefine State.reset ∧ isAllowed 1 (.meterPulse 1000) = true ∧ isAllowed 5 (.curtailIn 65535) = true
    ∧ isAllowed 10 (.analogIn .lux (-4000) 4000) = true ∧ scaleFits (-4000) = true ∧ scaleFits 4000 = true
    ∧ isBound State.reset.config (terminalPoint 1) = false
    ∧ sameFunction (functionOf State.reset.config 1) (.meterPulse 1000) = false
    ∧ sameFunction (functionOf State.reset.config 1) .unused = true := by
  decide +kernel

/-- The part in HOLD after a function for a terminal, with some parts of its state set before. -/
def reassigned (t : Nat) (old new : TermFunction) (f : State → State) (p : State → Bool) : Bool :=
  let s := f (ran (.setTerminalFunction (byteOf t :: functionBytes old)) State.reset)
  leads (.setTerminalFunction (byteOf t :: functionBytes new)) s p

/-- R54, R61, R62, R65: the end of an emergency input and of a curtail input, a new cap, and the start of a meter and of a
strain output. -/
theorem test_function_changes :
    let levels := fun (t : Nat) (closed : Bool) (s : State) => { s with
      terminals := slotChange (fun r => { r with debounced := some closed }) s.terminals t }
    let point := fun (t : Nat) (u : State) (status : PointStatus) (v : Option Int) =>
      (getPoint u (terminalPoint t)).any fun q => q.status == status && q.value == v
    reassigned 3 .emergencyIn .unused (fun s => { levels 3 false s with signal := true })
      (fun u => !u.signal && u.mode == .hold && point 3 u .neverRead none)
    ∧ reassigned 5 (.curtailIn 900) .unused (fun s => { levels 5 true s with termOrder := some 900 })
      (fun u => u.termOrder == none)
    ∧ reassigned 5 (.curtailIn 900) (.curtailIn 700) (fun s => { levels 5 true s with termOrder := some 900 })
      (fun u => u.termOrder == some 700 && (getTerminal u 5).debounced == some true)
    ∧ reassigned 1 .unused (.meterPulse 10) id (fun u => point 1 u .fresh (some 0))
    ∧ reassigned 11 .unused .strainOut (fun s => { s with strain := true })
      (fun u => (getTerminal u 11).relayClosed && point 11 u .fresh (some 1))
    ∧ reassigned 11 .unused .strainOut id (fun u => !(getTerminal u 11).relayClosed && point 11 u .neverRead none) := by
  decide +kernel

theorem test_meets_SettingsAreTakenWhole :
    canDefine loaded ∧ canConfigure loaded
    ∧ ((slotGet loaded.config.loads 1).any fun d => d.kind == .light) = true ∧ isPoint ⟨.t, 0, 9⟩ := by
  decide +kernel

theorem test_meets_ActingParameterGroupsTakeEffectAtOnce :
    canConfigure zoned ∧ (slotGet zoned.config.zones 2).isSome = true
    ∧ ((slotGet zoned.zones 2).any fun r => r.state == .vacant && r.vacantSince.isSome) = true
    ∧ ({ inMode .emergency with config := { factoryConfig with
      climate := { factoryConfig.climate with vent := .extract } } } : State).config.climate.vent = .extract
    ∧ canConfigure (inMode .emergency) ∧ canConfigure timed ∧ timed.clock.isSet = true
    ∧ timed.config.budget.windowLength ≠ 3600 := by
  decide +kernel

/-- R86, R142, R180: a door that a shorter held-open time leaves late, and one at the very time; a load whose node hold
lies in the past, and one at its expiry; fans that are commanded and a fan whose command stands; a window to realign. -/
theorem test_meets_changes_at_once :
    let late : State := { doored with
      now := 40000, doors := slotChange (fun r => { r with state := .open_, openSince := some 9999 }) doored.doors 1 }
    let burning : State := { loaded with mode := .emergency }
    let waiting : State := { loaded with
      now := 60001
      loads := slotChange (fun r => { r with holdRunning := true, unreachableSince := some 0, controlled := false })
        loaded.loads 2 }
    let climate := fun (vent : EmergencyVent) => { burning.config.climate with vent := vent }
    canConfigure late ∧ slotWf late.doors = true ∧ 9999 + 30 * 1000 < late.now ∧ ¬ 10000 + 30 * 1000 < late.now
    ∧ ((slotGet (putDoorParams ⟨30, 12, 20, 120⟩ late).doors 1).map DoorRec.state = some .heldOpen)
    ∧ canConfigure burning ∧ burning.config.climate.vent = .extract ∧ slotWf burning.config.loads = true
    ∧ ((slotGet (putClimate (climate .stop) burning).loads 4).map LoadRec.lastCommand = some (some 0))
    ∧ ((slotGet burning.loads 4).map LoadRec.refreshAt = some 0)
    ∧ canConfigure waiting ∧ 0 + 60 * 1000 < waiting.now ∧ ¬ 0 + 61 * 1000 < waiting.now
    ∧ ((slotGet (putBudget { waiting.config.budget with nodeHold := 60 } waiting).loads 2).map LoadRec.holdRunning
      = some false)
    ∧ ((slotGet (putBudget { waiting.config.budget with nodeHold := 61 } waiting).loads 2).map LoadRec.holdRunning
      = some true)
    ∧ timed.window.isSome = true ∧ ({ timed with window := none } : State).window = none := by
  decide +kernel

theorem test_meets_ReadingsOfThePartAndItsRecordsChangeNothing :
    canTake doored ∧ (shiftRecord doored.config 0).isSome = true ∧ shiftRecord doored.config 255 = none
    ∧ ([slotUsed doored.config.zones 1, slotUsed doored.zones 1, slotUsed doored.climate 1,
      slotUsed doored.config.doors 1, slotUsed doored.doors 1, slotUsed doored.config.loads 5,
      slotUsed doored.loads 5, slotUsed doored.config.lineA.nodes 3, slotUsed doored.lineA.nodes 3].all id) = true
    ∧ slotGet doored.config.zones 12 = none := by
  decide +kernel

theorem test_meets_ReadingsOfListsAndParametersChangeNothing :
    canTake loaded ∧ isPoint ⟨.a, 3, 0⟩
    ∧ ((List.range 16).all fun i => pointDefined loaded.config ⟨.a, 3, i⟩) = true
    ∧ ((List.range 16).all fun i => pointDefined loaded.config ⟨.t, 0, i⟩) = true
    ∧ slotUsed loaded.config.zones 1 = true
    ∧ ((slotGet loaded.config.loads 5).any fun d => d.kind == .light) = true := by
  decide +kernel

/-- R82, log 47: the records that READ EVENTS sends beside 54 storm windows and beside 55, and its longest body. -/
theorem test_events_beside_windows :
    let stormy := fun (n : Nat) => { State.reset with
      windows := (List.range n).map fun i => (i + 1, ⟨0, 1⟩)
      recent := List.replicate 32
        ⟨0, 0, ⟨.a, 3, 2⟩, .presence, 0, 1, 0, ⟨false, false, false, false, false, false⟩, .accepted⟩ }
    let sends := fun (n asked : Nat) => match exec (.readEvents [byteOf asked]) (stormy n) with
      | .next t => t.reply.map fun r => (r.body.head?, r.body.length)
      | _ => none
    sends 54 32 = some (some 32, 1019) ∧ sends 55 32 = some (some 31, 1009) ∧ sends 0 1 = some (some 1, 29)
    ∧ (sends 63 32).any (fun x => decide (x.2 ≤ 1024)) = true := by
  decide +kernel

/-- R131, R193: the open window takes the same number of bytes whether there is one or not. -/
theorem test_open_window_length :
    timed.window.isSome = true ∧ (openWindowBytes timed).length = (openWindowBytes State.reset).length := by
  decide +kernel

/-- `zoned` with an override of each kind in Z1. -/
def overridden : State := after
  [.lightOverride ([1] ++ wordBytes 1000 ++ [240]),
    .setpointOverride ([1] ++ signedBytes (-400) ++ wordBytes 480)] zoned

theorem test_meets_OverridesArePlacedClearedAndExpire :
    isZone 1 ∧ canTake zoned ∧ slotUsed zoned.config.zones 1 = true ∧ overridden.powered = true
    ∧ slotGet overridden.lightOverrides 1 = some ⟨1000, some 14400000⟩
    ∧ 28800000 ≤ ({ overridden with now := 28800000 } : State).now
    ∧ (slotGet overridden.climate 1).map (fun r => r.override) = some (some ⟨-400, some 28800000⟩) := by
  decide +kernel

theorem test_meets_HostCurtailBeginsAndEnds :
    canTake State.reset ∧ State.reset.hostOrder = none
    ∧ (ran (.curtail (wordBytes 65535 ++ wordBytes 5760)) State.reset).hostOrder = some ⟨65535, 86400000⟩
    ∧ canTake (ran (.curtail (wordBytes 65535 ++ wordBytes 5760)) State.reset)
    ∧ ({ State.reset with now := 86399999 } : State).now < 86400000
    ∧ 86400000 ≤ ({ State.reset with now := 86400000 } : State).now := by
  decide +kernel

/-- R150, R164: a reply gives the override that stood and the one that stands, in whole minutes rounded up. -/
theorem test_override_replies :
    replies (.lightOverride ([1] ++ wordBytes 40 ++ [0])) { overridden with now := 1 }
      ⟨0x30, .ok, wordBytes 1000 ++ [240] ++ [0xFF, 0xFF, 0]⟩ = true
    ∧ replies (.lightOverride ([1] ++ wordBytes 40 ++ [255])) { overridden with now := 60000 }
      ⟨0x30, .ok, wordBytes 1000 ++ [239] ++ wordBytes 40 ++ [0xFF]⟩ = true
    ∧ replies (.setpointOverride ([1] ++ signedBytes 215 ++ wordBytes 1)) { overridden with now := 1 }
      ⟨0x31, .ok, signedBytes (-400) ++ wordBytes 480 ++ signedBytes 215 ++ wordBytes 1⟩ = true := by
  decide +kernel

theorem test_meets_TerminalOrderReplacesTheHeldOne :
    State.reset.termOrder = none ∧ ({ State.reset with termOrder := some 1500 } : State).termOrder.isSome = true
    ∧ canTake State.reset
    ∧ ({ State.reset with termOrder := some 1500, hostOrder := some ⟨9, 1⟩ } : State).hostOrder = some ⟨9, 1⟩ := by
  decide

theorem test_meets_PresenceRequestsPlaceAndRemoveEntries :
    slotWf zoned.presence = true ∧ canConfigure zoned ∧ slotUsed zoned.config.zones 2 = true
    ∧ (slotGet zoned.zones 2).isSome = true ∧ entrySlot zoned 2 .host = none
    ∧ slotWf pinned.presence = true ∧ canConfigure pinned ∧ slotUsed pinned.config.zones 1 = true
    ∧ entrySlot pinned 1 .host = some 1 ∧ canTake pinned := by
  decide +kernel

/-- Node A.3 in SERVICE. -/
def served : State := ran (.setNodeService [0, 3, 0]) wired

theorem test_meets_ServiceAndRestartMoveNodes :
    canTake wired ∧ ((slotGet wired.lineA.nodes 3).any fun n => n.state == .unprobed) = true
    ∧ canTake served ∧ ((slotGet served.lineA.nodes 3).any fun n => n.state == .service) = true := by
  decide +kernel

/-- Line A of `loaded` in WARN, with a write in flight, one queued, and a one-off read; its points FRESH. -/
def restartable : State := { loaded with
  points := loaded.points.map fun e => (e.1, { e.2 with value := some 5, status := .fresh })
  lineA := { loaded.lineA with
    state := .warn, errors := 100
    inFlight := some ⟨3, .writePoint ⟨3, 12, 7, .host, 1⟩, .waiting 20, false⟩
    queue := [⟨3, 13, 1, .host, 2⟩], oneOffs := [⟨3, 14⟩] } }

/-- R49: LINE RESTART fails the writes, ends the reads, and readmits the loads of points that were not reached. -/
theorem test_meets_lineRestarted :
    let v := restartLine .a restartable
    canTake restartable ∧ slotWf restartable.config.loads = true
    ∧ restartable.lineA.queue = [] ++ ⟨3, 13, 1, .host, 2⟩ :: []
    ∧ (restartable.config.loads.all fun e => pointKey e.2.binding != pointKey ⟨.a, 3, 13⟩) = true
    ∧ ((getPoint v ⟨.a, 3, 13⟩).map fun q => (q.lastWrite, q.tries)) = some (.failed, 2)
    ∧ ((getPoint v ⟨.a, 3, 12⟩).map fun q => (q.lastWrite, q.tries)) = some (.failed, 2)
    ∧ ((getPoint v ⟨.a, 3, 14⟩).map fun q => (q.oneOffWaiting, q.status)) = some (false, .stale)
    ∧ v.lineA.queue = [] ∧ v.lineA.inFlight = none ∧ pointDefined restartable.config ⟨.a, 3, 14⟩ = true
    ∧ (v.notices.any fun n => n.kind == .lineOk) = true ∧ restartable.lineA.state ≠ .ok
    ∧ wired.lineA.state = .ok := by
  decide +kernel

/-- A queue that holds as many HOST writes as it may, and sixteen one-off reads. -/
def crowded : State := { served with lineA := { served.lineA with
  queue := (List.range 8).map fun i => ⟨3, i, 0, .host, 0⟩
  oneOffs := (List.range 16).map fun i => ⟨3, i⟩ } }

theorem test_meets_PointRequestsQueueTheirWork :
    canTake doored ∧ pointDefined doored.config ⟨.a, 3, 8⟩ = true ∧ isBound doored.config ⟨.a, 3, 8⟩ = true
    ∧ isBound doored.config ⟨.a, 3, 15⟩ = false ∧ isBound doored.config ⟨.t, 0, 0⟩ = false
    ∧ pointDefined doored.config ⟨.t, 0, 0⟩ = true
    ∧ hostQueueFull 3 15 doored.lineA.queue = false ∧ canTake crowded
    ∧ hostQueueFull 3 15 crowded.lineA.queue = true ∧ isBound crowded.config ⟨.a, 3, 15⟩ = false
    ∧ hostQueueFull 3 15 (crowded.lineA.queue.drop 1) = false ∧ hostQueueFull 3 0 crowded.lineA.queue = false
    ∧ nodeWorked doored.lineA 3 = false ∧ isDown served.lineA = false ∧ nodeWorked served.lineA 3 = true
    ∧ served.lineA.oneOffs = [] ∧ ((crowded.lineA.oneOffs.drop 1).length = 15 ∧ crowded.lineA.oneOffs.length = 16)
    ∧ crowded.lineA.oneOffs.contains ⟨3, 15⟩ = true
    ∧ (crowded.lineA.queue.map fun e => (e.node, e.point)).Nodup
    ∧ crowded.lineA.queue = [⟨3, 0, 0, .host, 0⟩] ++ ⟨3, 1, 0, .host, 0⟩ :: crowded.lineA.queue.drop 2 := by
  decide +kernel

/-- EMERGENCY from RUN, begun at 0, its release running. -/
def releasing : State := { State.reset with
  mode := .emergency, returnMode := some .run, emergencyAt := some 0, releaseAt := some 30000
  supervisionAt := some 60000 }

theorem test_meets_ModeTimersExpire :
    ({ inMode .run with supervisionAt := some 60000 } : State).mode = .run
    ∧ releasing.powered = true ∧ releasing.mode = .emergency ∧ releasing.returnMode = some .run
    ∧ releasing.supervisionAt = some 60000 ∧ releasing.releaseAt = some 30000 ∧ releasing.emergencyAt = some 0
    ∧ State.reset.supervisionAt = none ∧ State.reset.releaseAt = none
    ∧ releasing.now < 30000 ∧ 60000 ≤ ({ releasing with now := 60000 } : State).now := by decide

/-- Line A of the part after reset, in a state and with an error count. -/
def lineIs (state : LineState) (errors : Nat) : State :=
  { State.reset with lineA := { State.reset.lineA with state := state, errors := errors } }

theorem test_meets_LineEventsMoveTheLine :
    (getLine (lineIs (.down (.resting 10000)) 255) .a).state = .down (.resting 10000)
    ∧ (getLine (lineIs (.down (.listening 50 31 true)) 255) .a).state = .down (.listening 50 31 true)
    ∧ (getLine (lineIs (.down (.listening 50 30 false)) 255) .a).state = .down (.listening 50 30 false) ∧ 30 + 1 < 32
    ∧ (getLine (lineIs (.down (.listening 50 31 false)) 255) .a).state = .down (.listening 50 31 false) ∧ 32 ≤ 31 + 1
    ∧ isDown (getLine (lineIs .ok 87) .a) = false ∧ (getLine (lineIs .ok 87) .a).inFlight = none
    ∧ (getLine (lineIs .ok 87) .a).noiseCounted = false ∧ 87 + 8 < 96 ∧ 96 ≤ 88 + 8 ∧ 247 + 8 ≤ 255 ∧ 255 < 248 + 8
    ∧ (lineIs .ok 88).powered = true ∧ (getLine (lineIs .warn 88) .a).state = .warn
    ∧ 10000 ≤ ({ lineIs (.down (.resting 10000)) 255 with now := 10000 } : State).now
    ∧ (getLine wired .a).inFlight.isSome = true ∧ isDown (getLine wired .a) = false := by
  decide +kernel

theorem test_meets_NodeScoresAndStatesFollowOutcomes :
    TxnWork.fetchEvents ≠ .probe ∧ TxnOutcome.noReply ≠ .good ∧ NodeState.online ≠ .silent
    ∧ (nodeAfter 0 .fetchEvents .noReply none ⟨.degraded, 36, 0, 0, none, none, none, none, none⟩).state = .silent
    ∧ (nodeAfter 0 .probe .good none ⟨.silent, 40, 2, 0, none, none, none, none, some 0⟩).state = .online
    ∧ (nodeAfter 0 .probe .good none ⟨.silent, 40, 1, 0, none, none, none, none, some 0⟩).state = .silent := by
  decide

/-- Line A with a transaction to node 3 in flight. -/
def flying (work : TxnWork) (phase : TxnPhase) (voided : Bool) : State :=
  { served with lineA := { served.lineA with inFlight := some ⟨3, work, phase, voided⟩ } }

/-- R34, R75, log 38: a read of a point is taken while an earlier one is in flight, and a third while one is in the list is
not; the end of the first leaves the second, which then flies. -/
theorem test_second_one_off :
    let fetch : Instr := .fetchPoint [0, 3, 15]
    let one := flying (.readPoints 15 1 true) .collecting false
    let two := ran fetch one
    one.lineA.oneOffs = [] ∧ replies fetch one ⟨0x39, .accepted, []⟩ = true ∧ two.lineA.oneOffs = [⟨3, 15⟩]
    ∧ two.lineA.inFlight = one.lineA.inFlight
    ∧ (getPoint two ⟨.a, 3, 15⟩).map (fun q => (q.oneOffWaiting, q.status)) = some (true, .pending)
    ∧ (ran fetch two).lineA = two.lineA
    ∧ (leads (.replyCutoff .a) two fun t => t.lineA.oneOffs == [] && t.lineA.inFlight.any (fun x =>
        x.work == .readPoints 15 1 true)
      && (getPoint t ⟨.a, 3, 15⟩).any fun q => !q.oneOffWaiting && q.status == .neverRead) = true := by
  decide +kernel

theorem test_meets_TransactionsEndWithTheirOutcome :
    served.powered = true ∧ isDown served.lineA = false ∧ (slotGet served.lineA.nodes 3).isSome = true
    ∧ (slotGet served.config.lineA.nodes 3).isSome = true
    ∧ (flying .fetchEvents (.waiting 20) true).lineA.inFlight = some ⟨3, .fetchEvents, .waiting 20, true⟩
    ∧ 20 ≤ ({ flying .fetchEvents (.waiting 20) true with now := 20 } : State).now
    ∧ (flying (.writePoint ⟨3, 15, 1, .host, 1⟩) (.waiting 20) false).lineA.inFlight
      = some ⟨3, .writePoint ⟨3, 15, 1, .host, 1⟩, .waiting 20, false⟩
    ∧ (getPoint served ⟨.a, 3, 15⟩).isSome = true ∧ served.lineA.queue.any (entryFor 3 15) = false
    ∧ (flying (.writePoint ⟨3, 15, 1, .host, 2⟩) .collecting false).lineA.inFlight
      = some ⟨3, .writePoint ⟨3, 15, 1, .host, 2⟩, .collecting, false⟩ := by
  decide +kernel

/-- A write in flight to node 3 at its second try, beside `n` queued HOST writes, the last of them
to a point of node 3. -/
def returningTo (state : NodeState) (origin : Origin) (n : Nat) (point : Nat) : State :=
  { served with lineA := { served.lineA with
    inFlight := some ⟨3, .writePoint ⟨3, 15, 9, origin, 1⟩, .collecting, false⟩
    queue := (List.range n).map fun i => ⟨if i + 1 = n then 3 else 4, if i + 1 = n then point else i, 7, .host, 0⟩
    nodes := slotChange (fun r => { r with state := state, score := 40 }) served.lineA.nodes 3 } }

/-- R35, R36, log 36: a failed write comes back beside seven HOST entries and, of INTERNAL origin, beside eight; a HOST
one beside eight flies while its node is worked and ends as FAILED otherwise; a newer entry for its point stands. -/
theorem test_meets_returning_writes :
    let ends := fun (s : State) (p : Line → Bool) (w : WriteStatus) => leads (.replyCutoff .a) s fun t =>
      p t.lineA && (getPoint t ⟨.a, 3, 15⟩).any fun r => r.lastWrite == w
    let waits := fun (origin : Origin) (l : Line) => decide (⟨3, 15, 9, origin, 2⟩ ∈ l.queue) && l.inFlight.isNone
    let flies := fun (l : Line) => l.inFlight.any fun x => x.work == .writePoint ⟨3, 15, 9, .host, 2⟩
    ends (returningTo .silent .host 7 0) (waits .host) .none
    ∧ ends (returningTo .silent .internal 8 0) (waits .internal) .none
    ∧ ends (returningTo .silent .host 8 0) (fun l => hostEntries l.queue == 8 && !waits .host l) .failed
    ∧ ends (returningTo .service .host 8 0) (fun l => hostEntries l.queue == 8 && flies l) .none
    ∧ (leads (.replyCutoff .a) (returningTo .silent .host 8 15) fun t =>
      decide (⟨3, 15, 7, .host, 0⟩ ∈ t.lineA.queue)) := by
  decide +kernel

/-- R40, R42, R46: the notice of a node that changes its state, and of a line; none where neither changes. -/
theorem test_transaction_notices :
    let ended := fun (work : TxnWork) (score errors : Nat) (state : NodeState) => { flying work .collecting false with
      lineA := { (flying work .collecting false).lineA with
        errors := errors
        nodes := slotChange (fun r => { r with state := state, score := score }) served.lineA.nodes 3 } }
    let tells := fun (c : Instr) (s : State) (notices : List Notice) => leads c s fun t =>
      t.notices.drop s.notices.length == notices
    tells (.replyCutoff .a) (ended .fetchEvents 14 0 .online)
      [⟨.nodeDegraded, 0, .node .a 3, some 16, some NodeState.online.ctorIdx⟩]
    ∧ tells (.replyCutoff .a) (ended .fetchEvents 13 0 .online) []
    ∧ tells (.replyCutoff .a) (ended .fetchEvents 0 88 .service) [⟨.lineWarn, 0, .line .a, some 96, none⟩]
    ∧ tells (.replyCutoff .a) (ended .fetchEvents 0 87 .service) []
    ∧ (leads (.replyCutoff .a) (ended .fetchEvents 0 248 .service) fun t =>
      (t.notices.drop served.notices.length).head? == some ⟨.lineDown, 0, .line .a, some 255, none⟩) := by
  decide +kernel

/-- R27, R31, R75: a good reply brings values or events, and the node's place in the fetch list. -/
theorem test_meets_good_replies :
    let reading := { flying (.readPoints 7 2 true) .collecting false with config := loaded.config }
    let fetching := flying .fetchEvents .collecting false
    let values := bytesOf (checked [0x0302, 0x0004, 0x0011, 0x0022])
    let events := bytesOf (checked [0x0304, 0x0000, 0x0001, 0x0002, 0x0003, 0x0000, 0x0001])
    let d : NodeDef := ⟨none, 16⟩
    judgeReply d 3 (.readPoints 7 2 true) values false = (.good, some ⟨4, .values [0x11, 0x22]⟩)
    ∧ judgeReply d 3 .fetchEvents events false = (.good, some ⟨0, .events [⟨2, .presence, 0, 1⟩]⟩)
    ∧ slotGet reading.config.lineA.nodes 3 = some d
    ∧ (leads (.replySilence .a values false) reading fun t =>
      ((getPoint t ⟨.a, 3, 7⟩).map fun q => (q.value, q.status)) == some (some 0x11, .service)
        && (getPoint t ⟨.a, 3, 8⟩).map PointRec.readback == some (some 0x22)
        && (decide (t.lineA.fetch = [3]) || t.lineA.inFlight.any fun x => x.work == .fetchEvents))
    ∧ (leads (.replySilence .a events false) fetching fun t => t.recent.length == 1 && t.lineA.fetch == [])
    ∧ isOutput reading.config ⟨.a, 3, 7⟩ = false ∧ isOutput reading.config ⟨.a, 3, 8⟩ = true
    ∧ contactOf reading .a 3 = .inService := by
  decide +kernel

/-- Line A of `served`, free, with some work waiting. -/
def waitingLine (queue : List QueueEntry) (fetch : List Nat) (probe : Option Nat) (oneOffs : List NodePoint) : Line :=
  { served.lineA with
    inFlight := none, queue := queue, fetch := fetch, oneOffs := oneOffs
    nodes := slotSet (slotChange (fun n => { n with probeDue := none }) served.lineA.nodes 3) 4
      ⟨.silent, 40, 0, 0, none, none, none, none, probe⟩ }

theorem test_meets_TheArbiterGrantsInOrder :
    let line := waitingLine [⟨4, 0, 0, .host, 0⟩, ⟨3, 0, 0, .host, 0⟩] [3] (some 5) [⟨3, 1⟩]
    isDown line = false ∧ line.inFlight = none ∧ nodeWorked line 4 = false ∧ nodeWorked line 3 = true
    ∧ fetchHead (waitingLine [⟨4, 0, 0, .host, 0⟩] [] none []) = none
    ∧ (waitingLine [] [] (some 5) []).nodes.any (fun e => e.1 == 4 && e.2.probeDue == some 5) = true
    ∧ slotWf (waitingLine [] [] (some 5) []).nodes = true
    ∧ (∀ e ∈ (waitingLine [] [] none []).nodes, e.2.probeDue = none)
    ∧ oneOffHead (waitingLine [] [] none []) = none
    ∧ (served.config.lineA.scan.all fun e => scanDue 0 (waitingLine [] [] none []) e
      && nodeWorked (waitingLine [] [] none []) e.node) = true
    ∧ ((slotGet wired.lineA.nodes 3).any fun n => n.state == .unprobed) = true
    ∧ ((slotGet served.lineA.scan (scanKey 3 0)).any fun t => decide (t.due ≤ 100000)) = true
    ∧ served.powered = true := by
  decide +kernel

theorem test_meets_CheckWordsProtectFrames :
    checkPasses [0x1A02, 0x0003, 0x8C00, 0x7F31, 0xDA88] = false
    ∧ checkPasses [0x1A02, 0x0003, 0x8C40, 0x7F31, 0xDA88] = true ∧ wordSum [0, 0] = 0
    ∧ foldedSum (65535 * 3) = 65535 ∧ foldedSum 65536 = 1 := by decide

theorem test_meets_RepliesAreReadAsTheyWereSent :
    ([65535, 0] : List Nat).length = 2 ∧ (∀ v ∈ ([65535, 0] : List Nat), v ≤ 65535)
    ∧ ([⟨15, .presence, 65535, 1⟩] : List FieldEvent).length ≤ 4 ∧ (7 : Nat) ≤ 254
    ∧ (∀ k, (⟨some 7, 16⟩ : NodeDef).kind = some k → k = 7) := by
  refine ⟨rfl, by decide, by decide, by decide, ?_⟩
  intro k h
  simp only [Option.some.injEq] at h
  exact h.symm

/-- `doored` with a value on the point of the door's contact. -/
def valued (v : Int) (status : PointStatus) : State := { doored with
  points := slotChange (fun r => { r with value := some v, status := status, time := some 0 }) doored.points
    (pointKey ⟨.a, 3, 3⟩) }

/-- `valued` with line A free at 248 errors, its nodes in a state, and the light of node A.3 at 700. -/
def falling (node : NodeState) : State := { valued 0 .fresh with
  doors := slotChange (fun r => { r with state := .closed }) doored.doors 1
  loads := slotChange (fun r => { r with applied := 700, controlled := true }) doored.loads 1
  lineA := { doored.lineA with
    state := .warn, errors := 248, inFlight := none, noiseCounted := false, oneOffs := [⟨3, 4⟩], fetch := [3]
    nodes := doored.lineA.nodes.map fun e => (e.1, { e.2 with state := node }) } }

/-- R46, R47, R94, R122: a line that falls takes its points, doors and loads with it, LINE_DOWN before DOOR_UNKNOWN. -/
theorem test_line_falls :
    (leads (.idleNoise .a) (falling .online) fun t =>
      t.lineA.state == .down (.resting 10000) && t.lineA.errors == 255 && t.lineA.oneOffs == [] && t.lineA.fetch == []
        && (getPoint t ⟨.a, 3, 3⟩).any (fun q => q.status == .stale && q.value == some 0)
        && (getPoint t ⟨.a, 3, 4⟩).any (fun q => q.status == .neverRead)
        && (slotGet t.doors 1).any (fun r => r.state == .unknown)
        && (slotGet t.loads 1).any (fun r => !r.controlled && r.assumed == some 700 && r.holdRunning)
        && (t.notices.drop doored.notices.length).map Notice.kind == [.lineDown, .doorUnknown]) = true
    ∧ contactOf (falling .online) .a 3 = .inContact ∧ contactOf (falling .silent) .a 3 = .unreachable
    ∧ (255 : Nat) < (falling .online).lineA.errors + 8 := by
  decide +kernel

/-- R48, R123: a line that recovers probes its nodes afresh, keeps SERVICE with its scan due, and readmits loads. -/
theorem test_line_recovers :
    let down := fun (node : NodeState) => { falling node with
      now := 9000
      loads := slotChange (fun r => { r with controlled := false, assumed := some 0 }) doored.loads 1
      lineA := { (falling node).lineA with state := .down (.listening 9000 31 false), errors := 255 } }
    let told := fun (t : State) => (t.notices.drop doored.notices.length).map Notice.kind
    (leads (.listenWindowEnd .a) (down .silent) fun t => t.lineA.state == .ok && told t == [.lineOk, .doorUnknown]
      && (slotGet t.lineA.nodes 3).any (fun n => n.state == .unprobed && n.entered == some 9000)
      && (slotGet t.loads 1).any (fun r => r.controlled)) = true
    ∧ (leads (.listenWindowEnd .a) (down .service) fun t => told t == [.lineOk]
      && (slotGet t.lineA.nodes 3).any (fun n => n.state == .service && n.score == 0)) = true
    ∧ slotWf (down .silent).config.loads = true := by
  decide +kernel

theorem test_meets_PointsTakeValuesAndGoStale :
    ((getPoint (valued 1 .fresh) ⟨.a, 3, 3⟩).any fun r => r.status == .fresh && r.time == some 0) = true
    ∧ (scanPeriod doored.config ⟨.a, 3, 3⟩).isSome = true ∧ isOutput doored.config ⟨.a, 3, 3⟩ = false
    ∧ isOutput doored.config ⟨.a, 3, 8⟩ = true ∧ (getPoint doored ⟨.a, 3, 8⟩).isSome = true
    ∧ contactOf served .a 3 = .inService ∧ (getPoint served ⟨.a, 3, 3⟩).isSome = true
    ∧ contactOf wired .a 3 = .unconfirmed ∧ (getPoint wired ⟨.a, 3, 3⟩).isSome = true
    ∧ (scanPeriod doored.config ⟨.a, 3, 3⟩).map (fun period => max (3 * period) 2000) = some 2000
    ∧ contactOf State.reset .t 0 = .inContact ∧ (getPoint State.reset ⟨.t, 0, 0⟩).isSome = true
    ∧ terminalPoint 16 = ⟨.t, 0, 15⟩ ∧ doored.powered = true := by
  decide +kernel

/-- R44, R70: a node put into SERVICE and taken out of it, its FRESH point, one never read, and the door between. -/
theorem test_contact_reaches_points :
    let s := falling .online
    let away := reportContact .a 3 .unconfirmed (falling .silent)
    let serving := reportContact .a 3 .inContact (falling .service)
    let back := reportContact .a 3 .inService { falling .online with points := serving.points, doors := serving.doors }
    let status := fun (t : State) (point : Nat) => (getPoint t ⟨.a, 3, point⟩).map PointRec.status
    slotWf s.config.loads = true ∧ pointCount s.config .a 3 = some 16 ∧ reportContact .a 3 .inContact s = s
    ∧ status away 3 = some .stale ∧ status away 4 = some .neverRead
    ∧ (slotGet away.doors 1).map DoorRec.state = some .unknown
    ∧ status serving 3 = some .service ∧ status serving 4 = some .neverRead ∧ status back 3 = some .stale
    ∧ (getPoint back ⟨.a, 3, 3⟩).bind PointRec.value = some 0 := by
  decide +kernel

/-- R38, R44, R67, R77: a node redefined with its contact state changed and unchanged, and what goes with it. -/
theorem test_meets_node_definitions :
    let redefined : State → State := ran (.defineNode [0, 0, 3, 0xFF, 8])
    contactOf served .a 3 = .inService ∧ contactOf wired .a 3 = .unconfirmed ∧ isDown served.lineA = false
    ∧ contactOf wired .b 31 = .unreachable ∧ canDefine served
    ∧ (slotGet (redefined served).lineA.nodes 3).map (fun n => (n.state, n.entered)) = some (.unprobed, none)
    ∧ ((redefined served).points.filter fun e => e.1 / 16 == nodeKey .a 3).length = 8
    ∧ (redefined { served with windows := [(3, ⟨0, 7⟩)] }).windows = []
    ∧ (lineWithout .a 3 8 crowded).queue = crowded.lineA.queue ∧ (lineWithout .a 3 8 crowded).oneOffs = []
    ∧ (lineWithout .a 3 7 crowded).queue.length = 7 ∧ (lineWithout .a 3 0 crowded).queue = [] := by
  decide +kernel

/-- R69: a point is late against its scan period one millisecond past the age limit. -/
theorem test_meets_restaled :
    let late := fun (now : Nat) => restale ⟨.a, 3, 3⟩ { valued 1 .fresh with now := now }
    ((getPoint (late 2001) ⟨.a, 3, 3⟩).map PointRec.status) = some .stale
    ∧ ((getPoint (late 2000) ⟨.a, 3, 3⟩).map PointRec.status) = some .fresh := by
  decide +kernel

theorem test_meets_TheFilterTakesEveryEvent :
    let outcomeOf := fun (s : State) (addr : Nat) (e : FieldEvent) =>
      (takeEvent .a addr e s).recent.map fun r => r.outcome
    outcomeOf doored 3 ⟨3, .doorOpened, 0, 1⟩ = [.accepted] ∧ outcomeOf doored 3 ⟨3, .doorClosed, 0, 0⟩ = [.accepted]
    ∧ outcomeOf doored 3 ⟨2, .presence, 50, 1⟩ = [.accepted]
    ∧ outcomeOf doored 3 ⟨2, .presence, 51, 1⟩ = [.rejectedStale]
    ∧ outcomeOf doored 3 ⟨3, .doorClosed, 0, 1⟩ = [.rejectedIntegrity]
    ∧ outcomeOf served 3 ⟨3, .doorClosed, 0, 0⟩ = [.acceptedService]
    ∧ outcomeOf doored 3 ⟨15, .doorClosed, 0, 0⟩ = [.rejectedUnbound]
    ∧ outcomeOf doored 9 ⟨0, .presence, 0, 1⟩ = [.rejectedIntegrity]
    ∧ (([⟨0, .presence, 0, 1⟩, ⟨1, .presence, 0, 1⟩, ⟨2, .doorOpened, 0, 1⟩, ⟨3, .presence, 0, 1⟩,
      ⟨8, .presence, 0, 1⟩] : List FieldEvent).map (outcomeOf doored 3)) = List.replicate 5 [.rejectedIntegrity]
    ∧ outcomeOf { doored with zones := slotChange (fun r => { r with state := .closed }) doored.zones 1 } 3
      ⟨2, .presence, 0, 1⟩ = [.acceptedAlert]
    ∧ (alertZone ⟨.a, 3, 2⟩ 1 { doored with zones := slotChange (fun r => { r with state := .closed }) doored.zones 1
      }).notices.getLast? = some ⟨.closedZonePresence, 0, .zone 1, some 3, some 2⟩
    ∧ (alertZone ⟨.a, 3, 2⟩ 1 doored).notices = doored.notices := by
  decide +kernel

/-- The part after reset with a function for a terminal, and a record and a contact of that terminal. -/
def terminalIs (t : Nat) (f : TermFunction) (closed : Bool) (g : TermRec → TermRec) : State :=
  let s := ran (.setTerminalFunction (byteOf t :: functionBytes f)) State.reset
  { s with
    terminals := slotChange g s.terminals t
    inputs := slotChange (fun p => { p with closed := closed }) s.inputs t }

/-- The terminal stands so. -/
def stands (t : Nat) (s : State) (f : TermFunction) (closed : Bool) (p : TermRec → Bool) : Bool :=
  s.powered && functionOf s.config t == f && (slotGet s.inputs t).any (fun x => x.closed == closed)
    && (slotGet s.terminals t).any p

/-- A debounce timer that runs, beside a debounced level. -/
def settling (level : Option Bool) (r : TermRec) : TermRec := { r with debounced := level, debounceAt := some 50 }

theorem test_meets_TerminalInputsAreDebouncedAndDelivered :
    stands 2 (terminalIs 2 .digitalIn true (settling (some true))) .digitalIn true
      (fun r => r.debounceAt == some 50 && r.debounced == some true && r.repeatAt == some 100) = true
    ∧ stands 2 (terminalIs 2 .digitalIn true (settling none)) .digitalIn true (fun r => r.debounced != some true) = true
    ∧ stands 6 (terminalIs 6 .doorContact false (settling (some true))) .doorContact false
      (fun r => r.debounced == some true) = true
    ∧ stands 8 (terminalIs 8 .presenceIn true (settling (some false))) .presenceIn true
      (fun r => r.debounced == some false) = true
    ∧ stands 7 (terminalIs 7 .restartIn true fun r => { settling (some false) r with
        armed := true, restartAt := some 2000 }) .restartIn true (fun r => r.armed && r.restartAt == some 2000) = true
    ∧ stands 3 (terminalIs 3 .emergencyIn false (settling none)) .emergencyIn false
      (fun r => r.debounced == none) = true
    ∧ (terminalIs 3 .emergencyIn false (settling none)).signal = false
    ∧ (terminalIs 3 .emergencyIn false (settling none)).mode = .hold
    ∧ stands 5 (terminalIs 5 (.curtailIn 65535) true (settling (some false))) (.curtailIn 65535) true
      (fun r => r.debounceAt == some 50) = true
    ∧ stands 1 (terminalIs 1 (.meterPulse 1) true id) (.meterPulse 1) true (fun r => r.repeatAt.isSome) = true
    ∧ stands 5 (terminalIs 5 (.analogIn .temperature (-400) 1000) true id) (.analogIn .temperature (-400) 1000) true
      (fun r => r.convertAt.isSome && r.debounceAt.isNone && r.restartAt.isNone) = true
    ∧ isContactInput .digitalIn = true ∧ (50 : Nat) ≤ ({ State.reset with now := 50 } : State).now := by
  decide +kernel

/-- R59, log 6: changes at terminals that are no contact inputs, and without main power, move the pin; the closing of a
METER_PULSE terminal is its pulse. -/
theorem test_meets_pin_changes :
    let moved := fun (t : Nat) (closed : Bool) (s : State) => leads (.terminalInputChange t closed) s fun u =>
      u == { s with inputs := slotChange (fun p => { p with closed := closed }) s.inputs t }
    moved 1 false (terminalIs 1 (.meterPulse 1) true id)
    ∧ (leads (.terminalInputChange 1 true) (terminalIs 1 (.meterPulse 1) false id) fun t =>
      (getTerminal t 1).lastPulse == some 0)
    ∧ moved 11 true (terminalIs 11 .relayOut false id) ∧ moved 2 true (terminalIs 2 .unused false id)
    ∧ moved 2 true { terminalIs 2 .digitalIn false id with powered := false } := by
  decide +kernel

/-- R62: the terminal order of two active CURTAIL_IN terminals is the lower cap; there is none once both are open. -/
theorem test_meets_curtailLaw :
    let orders := fun (a b : Option Bool) => terminalOrder
      (let s := ran (.setTerminalFunction (6 :: functionBytes (.curtailIn 900)))
        (terminalIs 5 (.curtailIn 1500) false fun r => { r with debounced := a })
      { s with terminals := slotChange (fun r => { r with debounced := b }) s.terminals 6 })
    orders (some true) (some true) = some 900 ∧ orders (some true) (some false) = some 1500
    ∧ orders (some false) none = none := by
  decide +kernel

/-- T3 and T4 as emergency inputs: T3 open, or closed again, and T4 in a level of its own. -/
def alarmed (closed : Bool) (other : Option Bool) (mode : Mode) : State :=
  let s := ran (.setTerminalFunction (4 :: functionBytes .emergencyIn))
    (terminalIs 3 .emergencyIn closed (settling (some (!closed))))
  { s with
    now := 50, signal := true, mode := mode, returnMode := if mode = .emergency then some .run else none
    terminals := slotChange (fun r => { r with debounced := other }) s.terminals 4 }

/-- R190: the last emergency input that closes ends the signal, and in EMERGENCY starts the release timer; one that
opens again stops it. -/
theorem test_meets_emergency_inputs :
    (leads (.debounceTimerExpires 3) (alarmed true (some true) .emergency) fun t =>
      !t.signal && t.releaseAt == some 30050)
    ∧ (leads (.debounceTimerExpires 3) (alarmed true (some false) .emergency) fun t => t.signal && t.releaseAt == none)
    ∧ (leads (.debounceTimerExpires 3) (alarmed true none .run) fun t => !t.signal && t.releaseAt == none)
    ∧ (leads (.debounceTimerExpires 3) { alarmed false none .emergency with
      signal := false, releaseAt := some 9000 } fun t => t.signal && t.releaseAt == none)
    ∧ stands 3 (alarmed true none .run) .emergencyIn true (fun r => r.debounced == some false) = true := by
  decide +kernel

/-- R158, R179, R189: the entry into EMERGENCY of a part with a zone in purge: its notices, its loads, and its stages. -/
theorem test_emergency_entry :
    let s : State := ran (.setTerminalFunction (3 :: functionBytes .emergencyIn)) doored
    let opened := fun (vent : EmergencyVent) => { s with
      now := 50
      config := { s.config with climate := { s.config.climate with vent := vent } }
      climate := slotChange (fun c => { c with stage := 4 }) s.climate 1
      terminals := slotChange (settling (some true)) s.terminals 3
      inputs := slotChange (fun p => { p with closed := false }) s.inputs 3 }
    let told := fun (t : State) => (t.notices.drop s.notices.length).map Notice.kind
    let at_ := fun (t : State) (k f : Nat) (exempt : Bool) => (slotGet t.loads k).any fun r =>
      r.applied == f && r.posted == f && r.exempt == exempt && r.lastCommand == some f && r.refreshAt == 30050
    s.signal = false ∧ s.mode = .hold
    ∧ (leads (.debounceTimerExpires 3) (opened .stop) fun t => t.mode == .emergency && t.emergencyAt == some 50
      && told t == [.emergencyBegin, .modeChanged, .gasPurgeEnd]
      && at_ t 1 1000 true && at_ t 2 0 false && at_ t 3 0 false && at_ t 4 0 false && at_ t 5 1000 true
      && (slotGet t.climate 1).any (fun c => c.stage == 0))
    ∧ (leads (.debounceTimerExpires 3) (opened .extract) fun t => told t == [.emergencyBegin, .modeChanged]
      && at_ t 4 1000 true && (slotGet t.climate 1).any (fun c => c.stage == 4)) := by
  decide +kernel

/-- R57 and section 3.4.1: the scaled values of the worked examples. -/
theorem test_scaling_examples :
    let gives := fun (f : TermFunction) (mv v : Int) =>
      leads (.analogConversion 9 mv) { terminalIs 9 f false id with now := 100 } fun t =>
        ((getPoint t (terminalPoint 9)).bind fun p => p.value) == some v
    gives (.analogIn .temperature (-400) 1000) 5000 100 ∧ gives (.analogIn .co 0 300) 4550 136
    ∧ gives (.analogIn .lux 0 3000) 8000 2000 := by
  decide +kernel

theorem test_meets_MeterPulsesGiveEnergyAndPower :
    let s := terminalIs 1 (.meterPulse 1000) false fun r => { r with lastPulse := some 0, zeroAt := some 60000 }
    stands 1 (terminalIs 1 (.meterPulse 1000) false id) (.meterPulse 1000) false
      (fun r => r.lastPulse == none && r.zeroAt == none && r.power == 0) = true
    ∧ stands 1 s (.meterPulse 1000) false (fun r => r.lastPulse == some 0 && r.zeroAt == some 60000) = true
    ∧ ({ s with now := 19 } : State).now < 0 + 20 ∧ 0 + 20 ≤ ({ s with now := 20 } : State).now
    ∧ 60000 ≤ ({ s with now := 60000 } : State).now ∧ functionOf s.config 2 = .unused
    ∧ (getPoint s (terminalPoint 1)).isSome = true := by
  decide +kernel

/-- `doored` with its door in a state, with a chatter window. -/
def doorIs (state : DoorState) (count : Nat) (value : Int) : State := { valued value .fresh with
  doors := slotChange (fun r => { r with
    state := state, openSince := some 0, window := some ⟨0, count⟩, runOn := some 20000 }) doored.doors 1 }

theorem test_meets_DoorsFollowEventsAndTimers :
    ((slotGet doored.config.doors 1).any fun d => d.curtain == some 3 && decide (2 ∈ d.neighbours)) = true
    ∧ ((slotGet (doorIs .closed 11 0).doors 1).any fun r => r.state == .closed && r.window == some ⟨0, 11⟩) = true
    ∧ doored.config.doorParams.chatterLimit = 12 ∧ doored.config.doorParams.runOn ≠ 0
    ∧ ((slotGet (doorIs .closed 12 0).doors 1).any fun r => r.window == some ⟨0, 12⟩) = true
    ∧ ((slotGet (doorIs .open_ 0 0).doors 1).any fun r => r.state == .open_ && r.openSince == some 0) = true
    ∧ ((slotGet doored.doors 1).any fun r => r.state == .unknown) = true
    ∧ ((slotGet (doorIs .chattering 3 0).doors 1).any fun r => r.state == .chattering) = true
    ∧ ((getPoint (doorIs .chattering 2 0) ⟨.a, 3, 3⟩).bind PointRec.value) = some 0
    ∧ ((getPoint (doorIs .chattering 2 1) ⟨.a, 3, 3⟩).bind PointRec.value) = some 1
    ∧ ((getPoint doored ⟨.a, 3, 3⟩).bind PointRec.value) = none
    ∧ 0 + doored.config.doorParams.heldOpen * 1000 ≤ 300000 ∧ 0 + 60000 ≤ 300000 := by
  decide +kernel

/-- R89, R95, R104: what a value makes of a door in each state; the value that closes a door brings an entry that was
flushed back, to run on, and one that was evicted not. -/
theorem test_meets_door_values :
    let becomes := fun (state : DoorState) (active : Bool) =>
      (slotGet (doorValue 1 active (doorIs state 0 0)).doors 1).map DoorRec.state
    let entries := fun (state : DoorState) (active : Bool) =>
      (doorValue 1 active (doorIs state 0 0)).presence.map fun e => e.2.life
    ([DoorState.closed, .open_, .heldOpen, .chattering].map fun d => (becomes d true, becomes d false))
      = [(some .open_, some .closed), (some .open_, some .closed), (some .heldOpen, some .closed),
        (some .chattering, some .chattering)]
    ∧ entries .open_ true = [.held 120] ∧ entries .open_ false = [.running 120000]
    ∧ entries .heldOpen false = [.running 120000] ∧ entries .closed false = [] ∧ entries .closed true = [.held 120]
    ∧ (doorValue 1 false { doorIs .open_ 0 0 with evictedDoors := [1] }).presence = []
    ∧ (doorValue 1 true { doorIs .open_ 0 0 with evictedDoors := [1] }).evictedDoors = [] := by
  decide +kernel

/-- R91, R93, R94: a CHATTERING door's opening while its level is closed and while it is open, the end of its window
behind many openings, behind few and without a value, and the curtain of a door that becomes UNKNOWN. -/
theorem test_meets_chatter_and_unknown :
    let levelled := fun (level : Option Bool) => { doorIs .chattering 2 0 with
      doors := slotChange (fun r => { r with level := level, window := some ⟨0, 2⟩, request := 1000, runOn := none })
        (doorIs .chattering 2 0).doors 1 }
    let door := fun (s : State) (p : DoorRec → Bool) => (slotGet s.doors 1).any p
    let ended := fun (s : State) (p : DoorRec → Bool) =>
      leads (.chatterTimerExpires 1) { s with now := 60000 } fun t => door t p
    door (doorOpened 1 (levelled (some false))) (fun r => r.window == some ⟨0, 3⟩)
    ∧ door (doorOpened 1 (levelled (some true))) (fun r => r.window == some ⟨0, 2⟩)
    ∧ ended (doorIs .chattering 3 0) (fun r => r.state == .chattering && r.window == some ⟨60000, 0⟩)
    ∧ ended (doorIs .chattering 2 0) (fun r => r.state == .closed && r.window.isNone)
    ∧ ended (doorIs .chattering 2 1) (fun r => r.state == .open_ && r.openSince == some 60000)
    ∧ ended (doorIs .closed 2 0) (fun r => r.state == .closed && r.window.isNone)
    ∧ door (doorUnknown 1 .unreachable (levelled none)) (fun r => r.state == .unknown && r.runOn == some 20000)
    ∧ door (doorUnknown 1 .unreachable doored) (fun r => r.state == .unknown && r.runOn.isNone) := by
  decide +kernel

/-- `zoned` with a running entry in Z2. -/
def visited : State := { zoned with presence := [(96, ⟨2, .door 1, .running 120000⟩)] }

/-- `doored` with every slot of the presence table taken: pins, and door entries that run on. -/
def crammed (reported : Bool) : State := { doored with
  fullReported := reported
  presence := (List.range' 1 96).map fun n => (n, if n ≤ 2 then ⟨n, .host, .pinned⟩
    else ⟨1 + n % 2, .door (n / 2), .running (200000 - n)⟩) }

/-- R103 to R106, R112: entries made, refreshed, held, released, displaced and aged fast. -/
theorem test_presence_moves :
    let one : State := { doored with
      presence := [(1, ⟨1, .sensor ⟨.a, 3, 2⟩, .running 5000⟩), (2, ⟨1, .door 1, .held 300⟩)] }
    (presenceEvent 1 ⟨.a, 3, 2⟩ false doored).presence = [(1, ⟨1, .sensor ⟨.a, 3, 2⟩, .running 300000⟩)]
    ∧ (presenceEvent 1 ⟨.a, 3, 2⟩ false one).presence.head? = some (1, ⟨1, .sensor ⟨.a, 3, 2⟩, .running 300000⟩)
    ∧ entrySlot doored 1 (.sensor ⟨.a, 3, 2⟩) = none ∧ entrySlot one 1 (.sensor ⟨.a, 3, 2⟩) = some 1
    ∧ (holdEntry 2 1 60 doored).presence = [(1, ⟨2, .door 1, .held 60⟩)]
    ∧ (holdEntry 1 1 60 one).presence.getLast? = some (2, ⟨1, .door 1, .held 60⟩)
    ∧ slotUsed doored.config.zones 3 = false ∧ entrySlot one 2 (.door 1) = none
    ∧ (releaseEntry 1 1 60 one).presence.getLast? = some (2, ⟨1, .door 1, .running 60⟩)
    ∧ (presenceContact .a 3 .unreachable one).presence
      = [(1, ⟨1, .sensor ⟨.a, 3, 2⟩, .running 2000⟩), (2, ⟨1, .door 1, .running 2000⟩)]
    ∧ (presenceContact .b 3 .unreachable one).presence = one.presence := by
  decide +kernel

theorem test_meets_full_table :
    slotWf (crammed false).presence = true ∧ slotNumbers (crammed false).presence = List.range' 1 96
    ∧ slotGet (createEntry ⟨2, .host, .pinned⟩ (crammed false)).presence 96 = some ⟨2, .host, .pinned⟩
    ∧ (createEntry ⟨2, .host, .pinned⟩ (crammed false)).fullReported = true
    ∧ (createEntry ⟨2, .host, .pinned⟩ (crammed false)).evictedDoors = [48]
    ∧ (createEntry ⟨2, .door 48, .held 60⟩ (crammed false)).evictedDoors = []
    ∧ (dropDoorEntry 1 { doored with evictedDoors := [1, 2] }).evictedDoors = [2]
    ∧ (createEntry ⟨2, .host, .pinned⟩ (crammed true)).notices = (crammed true).notices
    ∧ (createEntry ⟨2, .host, .pinned⟩ (crammed false)).notices.length = (crammed false).notices.length + 1 := by
  decide +kernel

theorem test_meets_ZonesAreJudgedAndGoDormant :
    inZones zoned.plan.openZones 2 = true ∧ hasEntry zoned 2 = false ∧ hasEntry visited 2 = true
    ∧ ((slotGet zoned.zones 2).any fun r => r.state == .vacant && r.dormancyAt == some 900000) = true
    ∧ (slotGet zoned.config.zones 2).isSome = true
    ∧ inZones ({ zoned with plan := { zoned.plan with openZones := 1 } } : State).plan.openZones 2 = false
    ∧ slotGet visited.presence 96 = some ⟨2, .door 1, .running 120000⟩ ∧ visited.powered = true
    ∧ slotWf visited.presence = true ∧ visited.now < 120000
    ∧ slotGet (crammed false).presence 1 = some ⟨1, .host, .pinned⟩
    ∧ 900000 ≤ ({ zoned with now := 900000 } : State).now
    ∧ ((slotGet pinned.zones 1).any fun r => r.dormancyAt == none) = true := by
  decide +kernel

/-- `loaded` with one of its loads changed. -/
def loadIs (k : Nat) (f : LoadRec → LoadRec) : State := { loaded with loads := slotChange f loaded.loads k }

theorem test_meets_LoadsFollowTheirNodesAndTimers :
    ((slotGet (loadIs 2 fun r => { r with
      holdRunning := true, unreachableSince := some 0, controlled := false }).loads 2).any fun r =>
        r.holdRunning && r.unreachableSince == some 0 && !r.controlled) = true
    ∧ 0 + loaded.config.budget.nodeHold * 1000 ≤ 600000
    ∧ ((slotGet loaded.loads 5).any fun r => decide (r.refreshAt ≤ 0)) = true
    ∧ ((slotGet (loadIs 5 fun r => { r with refreshAt := 30000 }).loads 5).any fun r =>
      decide (loaded.now < r.refreshAt)) = true
    ∧ ((slotGet loaded.loads 2).any fun r => !r.holdRunning && r.controlled) = true
    ∧ ((slotGet loaded.config.loads 2).any fun d => d.binding.bus == busOf .a) = true
    ∧ ((slotGet loaded.config.loads 5).any fun d => d.binding == terminalPoint 15) = true
    ∧ functionOf loaded.config 15 = .dimOut ∧ doorsAt loaded.config (terminalPoint 15) = []
    ∧ (getPoint loaded (terminalPoint 15)).isSome = true ∧ loaded.powered = true
    ∧ isControlledIn .unreachable = false ∧ isControlledIn .inContact = true := by
  decide +kernel

/-- `loaded` at a settlement, each load posting all it can under this shift cap. -/
def strained (cap : Nat) (strain : Bool) : State := { loaded with
  now := 2000, strain := strain
  config := { loaded.config with shift0 := { loaded.config.shift0 with cap := cap, base := 0 } }
  loads := loaded.loads.map fun e => (e.1, { e.2 with posted := 1000, controlled := true }) }

/-- R135, R138: the classes in FULL, PRO_RATA and ZERO, the shares of each, and the strain state at its two edges. -/
theorem test_classes_and_strain :
    let law := fun (s : State) => leads .settlement s fun t =>
      t.record.class0.state == .full && t.record.class1.state == .full && t.record.class2.state == .proRata
        && t.record.class3.state == .zero && t.strain && t.notices.any (fun n => n.kind == .strainBegin)
    law (strained 2500 false)
    ∧ (leads .settlement (strained 3440 false) fun t => t.strain)
    ∧ (leads .settlement (strained 3441 false) fun t => !t.strain)
    ∧ (leads .settlement (strained 4047 true) fun t => t.strain)
    ∧ (leads .settlement (strained 4048 true) fun t => !t.strain && t.notices.any fun n => n.kind == .strainEnd) := by
  decide +kernel

/-- R136: rising loads take the restoration pool class by class and within a class by load number. -/
theorem test_restoration_order :
    let s := strained 2500 false
    let base : State := { s with
      config := { s.config with
        shift0 := { s.config.shift0 with cap := 60000 }
        budget := { s.config.budget with restore := 600 }
        loads := s.config.loads.map fun e => (e.1, { e.2 with cls := if e.1 = 5 then 0 else 1 }) } }
    let granted := fun (k g : Nat) => leads .settlement base fun t => (slotGet t.loads k).any fun r => r.grant == g
    granted 5 100 ∧ granted 1 500 ∧ granted 2 0 ∧ granted 3 0 := by
  decide +kernel

/-- R129: a meter, an allowance, and a window half gone. -/
def allowed : State :=
  let s := ran (.setTerminalFunction (1 :: functionBytes (.meterPulse 1000))) timed
  { s with config := { s.config with shift0 := { s.config.shift0 with windowLimit := 100 } } }

theorem test_meets_windowCapLaw :
    (activeRecord allowed).windowLimit = 100 ∧ allowed.clock.isSet = true ∧ allowed.window.isSome = true
    ∧ functionOf allowed.config 1 = .meterPulse 1000
    ∧ (leads .settlement { allowed with now := 2000 } fun t => t.record.windowCap == some 100)
    ∧ (activeRecord loaded).windowLimit = 0 := by
  decide +kernel

theorem test_meets_SettlementsKeepTheirLaws :
    loaded.powered = true ∧ slotWf loaded.config.loads = true ∧ slotWf loaded.loads = true
    ∧ loaded.settleAt ≤ (strained 0 false).now ∧ (∀ e ∈ loaded.config.loads, e.2.cls ≤ 3)
    ∧ ((slotGet loaded.config.loads 1).isSome && (slotGet loaded.loads 1).isSome) = true := by
  decide +kernel

/-- R126, R129, R134, R137: the figures of the host's order, an overrun, a window that limits, and a load that a
publication cuts: with a new command, and with one that stands. -/
theorem test_meets_recordLaw :
    let full : State := { strained 2500 false with
      loads := (strained 2500 false).loads.map fun e => (e.1, { e.2 with
        applied := 300, lastCommand := some 0, refreshAt := if e.1 = 1 then 2000 else 9000 }) }
    let ordered : State := { full with hostOrder := some ⟨300, 17001⟩ }
    let overrun : State := { full with
      config := { full.config with
        shift0 := { full.config.shift0 with cap := 50 }
        loads := slotChange (fun d => { d with exempt := true }) full.config.loads 1 } }
    (leads .settlement ordered fun t => t.record.hostHold == 2 && t.record.source == .curtailHost)
    ∧ (leads .settlement overrun fun t => t.overrun && t.notices.any fun n => n.kind == .supplyOverrun)
    ∧ (leads .settlement full fun t => !t.overrun && t.record.source == .shift)
    ∧ (leads .settlement { allowed with now := 2000 } fun t => t.record.source == .window
      && t.window.any DemandWindow.limitedReported && t.notices.any fun n => n.kind == .windowLimited)
    ∧ (leads .settlement full fun t => (slotGet t.loads 2).any fun r =>
      r.applied == 0 && r.lastCommand == some 0 && r.refreshAt == 9000)
    ∧ (leads .settlement full fun t => (slotGet t.loads 1).any fun r =>
      r.applied == 0 && r.lastCommand == some 0 && r.refreshAt == 32000) := by
  decide +kernel

/-- `strained` with the occupancy state, the temperature and the stage of Z1, and its precondition. -/
def exempting (zone : Occupancy) (warm : Bool) (value : Int) (stage : Nat) : State :=
  let s := strained 2500 false
  { s with
    zones := slotChange (fun r => { r with state := zone }) s.zones 1
    climate := slotChange (fun c => { c with stage := stage }) s.climate 1
    points := slotChange (fun r => { r with value := some value, status := .fresh }) s.points
      (pointKey ⟨.a, 3, 0⟩)
    plan := { s.plan with precondition := warm, next := some ⟨0, ⟨⟨5, 3, 2024⟩, 0⟩⟩ } }

/-- R120, R121: the effective class of a light, and the line of the exemption table that a light, a heater and an
exhaust fan take. -/
theorem test_meets_classes_and_exemptions :
    let at_ := fun (s : State) (k : Nat) (p : LoadRec → Bool) =>
      leads .settlement s fun t => (slotGet t.loads k).any p
    let is_ := fun (s : State) (k : Nat) (reason : ExemptReason) => at_ s k fun r => r.reason == reason
    let told := fun (s : State) => leads .settlement s fun t => t.notices.any fun n => n.kind == .frostProtection
    at_ (exempting .closed false 100 0) 1 (fun r => r.effClass == 3)
    ∧ at_ (exempting .closed true 100 0) 1 (fun r => r.effClass == 1)
    ∧ at_ (exempting .vacant false 100 0) 1 (fun r => r.effClass == 1)
    ∧ is_ { exempting .vacant false 49 4 with mode := .emergency } 1 .emergency
    ∧ is_ (exempting .vacant false 49 4) 2 .frost ∧ is_ (exempting .vacant false 50 4) 2 .none
    ∧ is_ (exempting .vacant false 49 4) 4 .purge ∧ is_ (exempting .vacant false 49 3) 4 .none
    ∧ told (exempting .vacant false 49 0) ∧ !told (exempting .vacant false 50 0) := by
  decide +kernel

/-- No load of `doored` shares its terminal with a sensor, over the entries of its tables. -/
theorem test_doored_apart :
    (doored.config.loads.all fun e => e.2.binding.bus != .t || (
      let q := terminalPoint (e.2.binding.point + 1)
      decide (doorsAt doored.config q = [])
        && doored.config.zones.all (fun z => z.2.temperature.all (fun p => pointKey p != pointKey q)
          && z.2.gas.all fun g => pointKey g.point != pointKey q)
        && doored.config.daylight.all fun x => x.2.point.all fun p => pointKey p != pointKey q)) = true := by
  decide +kernel

theorem test_meets_loadsApart : loadsApart doored := by
  intro e he hb
  have h := List.all_eq_true.mp test_doored_apart e he
  simp only [hb, bne_self_eq_false, Bool.false_or, Bool.and_eq_true, decide_eq_true_eq, List.all_eq_true] at h
  refine ⟨h.1.1, fun z hz => ⟨fun p hp => ?_, fun g hg => ?_⟩, fun x hx p hp => ?_⟩
  · have := (h.1.2 z hz).1
    simpa [hp] using this
  · simpa using (h.1.2 z hz).2 g hg
  · have := h.2 x hx
    simpa [hp] using this

/-- Every zone's and load's tables are in order in `doored`. -/
theorem test_doored_tables :
    doored.powered = true ∧ slotWf doored.config.loads = true ∧ slotWf doored.config.zones = true
    ∧ ((slotGet doored.config.zones 1).any fun d => d.temperature == some ⟨.a, 3, 0⟩ && !d.gas.isEmpty) = true
    ∧ ((slotGet doored.config.zones 2).any fun d => d.gas.isEmpty) = true
    ∧ ([slotUsed doored.zones 1, slotUsed doored.climate 1].all id) = true := by
  decide +kernel

theorem test_meets_LightingStepsFollowTheMode :
    doored.powered = true ∧ slotWf doored.config.loads = true ∧ loadsApart doored
    ∧ ((slotGet doored.config.loads 1).any fun d => d.kind == .light && d.drive == .modulating) = true
    ∧ ((slotGet doored.config.loads 2).any fun d => d.kind != .light) = true
    ∧ slotUsed doored.loads 1 = true ∧ doored.mode = .hold ∧ (inMode .emergency).mode = .emergency
    ∧ ({ doored with mode := .run } : State).mode = .run ∧ slotUsed doored.config.zones 1 = true
    ∧ doored.stepAt ≤ 10000 ∧ doored.heatAt ≤ 10000 ∧ doored.ventAt ≤ 10000 ∧ doored.curtainAt ≤ 10000
    ∧ (daylightOf (ran (.setParametersDaylight ([1, 0, 3, 5] ++ wordBytes 500)) doored).config 1).point
      = some ⟨.a, 3, 5⟩ ∧ (daylightOf doored.config 1).point = none :=
  ⟨test_doored_tables.1, test_doored_tables.2.1, test_meets_loadsApart, by decide +kernel, by decide +kernel,
    by decide +kernel, by decide +kernel, rfl, rfl, by decide +kernel, by decide +kernel, by decide +kernel,
    by decide +kernel, by decide +kernel, by decide +kernel, by decide +kernel⟩

/-- R119, R160, log 51: in HOLD a start's light waits for the first step, which commands it, and a heater does not. -/
theorem test_first_step_commands :
    let queued := fun (s : State) (c : Instr) => match step { s with pending := [] } with
      | .next t => t.pending.contains c
      | _ => false
    let s := ran .warmRestart { doored with restartPending := true }
    let at_ := fun (now : Nat) => { s with now := now }
    s.restartPending = false ∧ s.stepAt = 250
    ∧ queued (at_ 248) (.commandRefreshExpires 1) = false ∧ queued (at_ 248) (.commandRefreshExpires 2) = true
    ∧ queued (at_ 248) .lightingStep = false ∧ queued (at_ 249) .lightingStep = true
    ∧ (leads .lightingStep { at_ 250 with mode := .hold } fun t => (slotGet t.loads 1).any fun r =>
      r.lastCommand == some 0 && r.refreshAt == 30250) = true
    ∧ queued { at_ 250 with stepAt := 500 } (.commandRefreshExpires 1) = true := by
  decide +kernel

/-- R154, R155, R160, log 60: the first step in HOLD commands a group on a node that is not defined at the level it moves
to, the minimum dim level. -/
theorem test_first_step_uncontrolled :
    (leads .lightingStep { doored with
      stepAt := 0, loads := slotChange (fun r => { r with controlled := false, lastCommand := none }) doored.loads 1 }
      fun t => (slotGet t.loads 1).any fun r => r.lastCommand == some 100 && r.goal == 500) = true := by
  decide +kernel

/-- `doored` in RUN at a lighting step, with levels of its shift, and Z1 of STAGING kind in a state. -/
def lit (state : Occupancy) (intruded : Bool) (changeover : Bool) (f : State → State) : State :=
  let level : Levels := ⟨600, 300, 100, 50⟩
  f { doored with
    mode := .run, now := 1000
    config := { doored.config with
      zones := slotChange (fun d => { d with kind := .staging }) doored.config.zones 1
      shift0 := { doored.config.shift0 with levels := ⟨level, level, level, level⟩ }
      lighting := { doored.config.lighting with closedPresence := 200 } }
    zones := slotChange (fun r => { r with state := state, intruded := intruded }) doored.zones 1
    plan := { doored.plan with changeover := changeover } }

/-- R148, R149: the target of a light and its source. -/
theorem test_meets_targetLaw :
    let source := fun (s : State) => match exec .lightingStep s with
      | .next t => ((slotGet t.loads 1).bind LoadRec.light).map fun g => (g.target, g.source)
      | _ => none
    let overrides := fun (s : State) => { s with lightOverrides := [(1, ⟨40, none⟩)] }
    source (lit .occupied false true id) = some (600, .scene)
    ∧ source (lit .vacant false true id) = some (600, .changeover)
    ∧ source (lit .dormant false false id) = some (100, .scene)
    ∧ source (lit .closed true false id) = some (200, .closedPresence)
    ∧ source (lit .closed false true id) = some (50, .scene)
    ∧ source (lit .vacant false false overrides) = some (40, .override_)
    ∧ source (lit .closed true false overrides) = some (200, .closedPresence) := by
  decide +kernel

/-- R152: a daylight point that has no FRESH value leaves the target whole. -/
theorem test_meets_daylight :
    let trimmed := fun (status : PointStatus) => match exec .lightingStep (lit .vacant false false fun s => { s with
        config := { s.config with daylight := [(1, ⟨some ⟨.a, 3, 5⟩, 500⟩)] }
        points := slotChange (fun r => { r with value := some 250, status := status }) s.points
          (pointKey ⟨.a, 3, 5⟩) }) with
      | .next t => ((slotGet t.loads 1).bind LoadRec.light).map fun g => (g.target, g.trimmed)
      | _ => none
    trimmed .fresh = some (300, 150) ∧ trimmed .stale = some (300, 300) := by
  decide +kernel

/-- `doored` in RUN at a heating evaluation, with Z1 in a state and its temperature not FRESH since a time. -/
def chilled (state : Occupancy) (held : Option Nat) (since : Option Nat) (warm : Bool) : State := { doored with
  mode := .run, now := 400000
  zones := slotChange (fun r => { r with state := state }) doored.zones 1
  climate := slotChange (fun c => { c with held := held, staleSince := since }) doored.climate 1
  plan := { doored.plan with precondition := warm, next := some ⟨0, ⟨⟨5, 3, 2024⟩, 0⟩⟩ } }

/-- R163, R167: the setpoints of a DORMANT zone and of a precondition, and the demand of a stale temperature before
and at the end of its holding. -/
theorem test_meets_setpoints_and_holding :
    let ends := fun (s : State) (p : ClimateRec → Bool) =>
      leads .heatingEvaluation s fun t => (slotGet t.climate 1).any p
    ends (chilled .dormant (some 333) (some 100001) false) (fun c => c.source == .dormant
      && c.demand.map HeatDemand.q == some 333)
    ∧ ends (chilled .dormant (some 333) (some 100000) false) (fun c => c.demand.isNone)
    ∧ ends (chilled .vacant none none true) (fun c => c.source == .precondition && c.staleSince == some 400000)
    ∧ doored.config.climate.holdTime = 300
    ∧ (leads .heatingEvaluation (chilled .vacant none none true) fun t =>
      t.notices.any fun n => n.kind == .sensorStale) := by
  decide +kernel

/-- R167: a stale episode that stands raises SENSOR_STALE no second time. -/
theorem test_stale_raised_once :
    (leads .heatingEvaluation (chilled .vacant none (some 100001) false) fun t =>
      t.notices == (chilled .vacant none (some 100001) false).notices) = true := by
  decide +kernel

/-- R178, R179: the source shows the mode, and the setpoint stays. -/
theorem test_meets_idle_climate :
    let shown := fun (mode : Mode) (source : SetpointSource) =>
      leads .heatingEvaluation { doored with
        mode := mode, now := 400000, climate := slotChange (fun c => { c with tset := some 180 }) doored.climate 1 }
        fun t => (slotGet t.climate 1).any fun c => c.source == source && c.tset == some 180
    shown .hold .hold ∧ shown .emergency .emergency := by
  decide +kernel

theorem test_meets_HeatersAndCurtainsAreDriven :
    doored.powered = true ∧ slotWf doored.config.loads = true ∧ slotWf doored.config.zones = true
    ∧ loadsApart doored
    ∧ ((getPoint ({ doored with points := slotChange (fun r => { r with
      value := some 150, status := .fresh }) doored.points (pointKey ⟨.a, 3, 0⟩) } : State) ⟨.a, 3, 0⟩).any
        fun q => q.status == .fresh && q.value == some 150) = true
    ∧ ((slotGet doored.config.loads 2).any fun l => l.kind == .heater && l.zone == 1) = true
    ∧ ((slotGet doored.config.loads 3).any fun l => l.kind == .curtain) = true
    ∧ curtainDoors doored.config 3 = [1] ∧ slotUsed doored.doors 1 = true ∧ curtainDoors loaded.config 3 = [] :=
  ⟨test_doored_tables.1, test_doored_tables.2.1, test_doored_tables.2.2.1, test_meets_loadsApart, by decide +kernel,
    by decide +kernel, by decide +kernel, by decide +kernel, by decide +kernel, by decide +kernel⟩

theorem test_meets_VentilationFollowsTheGas :
    doored.powered = true ∧ slotWf doored.config.loads = true ∧ slotWf doored.config.zones = true
    ∧ loadsApart doored ∧ isStopped doored = false
    ∧ isStopped ({ inMode .emergency with config := { factoryConfig with
      climate := { factoryConfig.climate with vent := .stop } } } : State) = true
    ∧ ((slotGet doored.config.loads 4).any fun l => isFan l.kind) = true ∧ slotUsed doored.loads 4 = true :=
  ⟨test_doored_tables.1, test_doored_tables.2.1, test_doored_tables.2.2.1, test_meets_loadsApart, by decide +kernel,
    by decide +kernel, by decide +kernel, by decide +kernel⟩

/-- `doored` in RUN at a ventilation evaluation, Z1's gas at this value of a reference of 100, and its record. -/
def gassed (value : Int) (status : PointStatus) (f : ClimateRec → ClimateRec) : State := { doored with
  mode := .run, now := 500000
  config := { doored.config with climate := { doored.config.climate with coRef := 100 } }
  points := slotChange (fun r => { r with value := some value, status := status }) doored.points
    (pointKey ⟨.a, 3, 1⟩)
  climate := slotChange f doored.climate 1 }

/-- R172 to R176: the rise and the fall of a stage at their edges, a value below 0 (log 59), the floor of a stale point,
and the notices. -/
theorem test_meets_stageLaw :
    let ends := fun (s : State) (p : ClimateRec → Bool) (kinds : List NoticeKind) =>
      leads .ventilationEvaluation s fun t => (slotGet t.climate 1).any p
        && (t.notices.drop doored.notices.length).map Notice.kind == kinds
    let stage := fun (n : Nat) (dwell : Option Nat) (c : ClimateRec) =>
      { c with stage := n, stageAt := 7, dwell := dwell, gasStale := false }
    let purging := fun (clear : Option Nat) (c : ClimateRec) => { c with stage := 4, stageAt := 7, purgeClear := clear }
    ends (gassed 29 .fresh (stage 0 none)) (fun c => c.stage == 0 && c.stageAt == 7) []
    ∧ ends (gassed 30 .fresh (stage 0 none)) (fun c => c.stage == 1 && c.stageAt == 500000) []
    ∧ ends (gassed 100 .fresh (stage 0 none)) (fun c => c.stage == 4) [.gasPurgeBegin]
    ∧ ends (gassed 20 .fresh (stage 1 none)) (fun c => c.stage == 1 && c.dwell == none) []
    ∧ ends (gassed 19 .fresh (stage 1 none)) (fun c => c.stage == 1 && c.dwell == some 500000) []
    ∧ ends (gassed 19 .fresh (stage 1 (some 440001))) (fun c => c.stage == 1 && c.dwell == some 440001) []
    ∧ ends (gassed 19 .fresh (stage 3 (some 440000))) (fun c => c.stage == 2 && c.dwell == some 500000) []
    ∧ ends (gassed 90 .fresh (purging (some 1))) (fun c => c.stage == 4 && c.purgeClear == none) []
    ∧ ends (gassed 89 .fresh (purging none)) (fun c => c.stage == 4 && c.purgeClear == some 500000) []
    ∧ ends (gassed 89 .fresh (purging (some 380001))) (fun c => c.stage == 4) []
    ∧ ends (gassed 65 .fresh (purging (some 380000))) (fun c => c.stage == 3 && c.dwell == none) [.gasPurgeEnd]
    ∧ ends (gassed (-5) .fresh (stage 0 none)) (fun c => c.stage == 0 && c.gasIndex == 0) []
    ∧ ends (gassed 0 .stale (stage 0 none)) (fun c => c.stage == 2 && c.gasStale && c.gasIndex == 0)
      [.sensorStale] := by
  decide +kernel

end Sys2Proof.Tests
end

/-! SUPPORT and PROOFS. The effective open-zone set (R16) by the changeover flag and the previous record, and the plan
state that an evaluation leaves in place. -/

namespace Sys2Proof.Machine

/-! ## The set by its two arguments (R16) -/

@[simp] theorem effectiveZones_of_no_changeover (c : RunningConfig) (active : Nat) (previous : Option Nat) :
    effectiveZones c active false previous = openZonesOf c active := rfl

@[simp] theorem effectiveZones_of_no_previous (c : RunningConfig) (active : Nat) (changeover : Bool) :
    effectiveZones c active changeover none = openZonesOf c active := by
  cases changeover <;> rfl

@[simp] theorem effectiveZones_of_changeover (c : RunningConfig) (active n : Nat) :
    effectiveZones c active true (some n) = openZonesOf c active ||| openZonesOf c n := rfl

/-! ## The plan state of an evaluation (R11) -/

/-- The set takes from the new plan state its active record, its changeover flag and its previous record; the
precondition flag and the next record do not enter it. -/
theorem planAfter_openZones (cause : EvaluationCause) (s : State) :
    (planAfter cause s).openZones = effectiveZones s.config (planAfter cause s).active
      (planAfter cause s).changeover (planAfter cause s).previous := rfl

/-- Judging the zones leaves the plan state as it is published. -/
@[simp] theorem judgeAllZones_plan (s : State) : (judgeAllZones s).plan = s.plan := by
  rw [(judgeAllZones_pres s).frame]

@[simp] theorem evaluate_plan (cause : EvaluationCause) (s : State) :
    (evaluate cause s).plan = planAfter cause s :=
  judgeAllZones_plan _

end Sys2Proof.Machine

namespace Sys2Proof.Proofs

open Sys2Proof.Machine

/-- Settles O25: the evaluation publishes `planAfter`, whose open-zone set is `effectiveZones` of its own active record,
changeover flag and previous record; each clause is one case of R16. -/
theorem effectiveZonesFollowTheChangeover : Obligations.EffectiveZonesFollowTheChangeover := by
  intro cause s
  refine ⟨evaluate_plan cause s, fun noChangeover => ?_, fun noPrevious => ?_, fun n changeover previous => ?_⟩
  · rw [planAfter_openZones, noChangeover, effectiveZones_of_no_changeover]
  · rw [planAfter_openZones, noPrevious, effectiveZones_of_no_previous]
  · rw [planAfter_openZones, changeover, previous, effectiveZones_of_changeover]

end Sys2Proof.Proofs

/-! SUPPORT and PROOFS. The check word of a field line frame (R24): the sum with end-around carry as one sum modulo
65535, the receiver's test, and the reply that fails it. -/

namespace Sys2Proof.Machine

/-! ## Addition with end-around carry (R24) -/

/-- Taking the carry off 2^16 and adding it back takes 65535 off the sum, and one carry is enough. -/
theorem addEndAround_toNat (a b : Word16) :
    (addEndAround a b).toNat =
      if 65535 < a.toNat + b.toNat then a.toNat + b.toNat - 65535 else a.toNat + b.toNat := by
  have ha := a.isLt
  have hb := b.isLt
  by_cases carry : 65535 < a.toNat + b.toNat
  · simp only [addEndAround, carry, if_true, BitVec.toNat_ofNat]; omega
  · simp only [addEndAround, carry, if_false, BitVec.toNat_ofNat]; omega

@[simp] theorem wordSum_append_singleton (words : List Word16) (w : Word16) :
    wordSum (words ++ [w]) = addEndAround (wordSum words) w := by
  simp [wordSum]

/-! ## The check word and the receiver's test (R24) -/

theorem checkWord_toNat (words : List Word16) : (checkWord words).toNat = 65535 - (wordSum words).toNat := by
  simp [checkWord]

theorem checkPasses_iff (words : List Word16) : checkPasses words = true ↔ (wordSum words).toNat = 65535 := by
  simp [checkPasses, ← BitVec.toNat_inj]

end Sys2Proof.Machine

namespace Sys2Proof.Claims

open Sys2Proof.Machine

/-! ## The sum of a whole frame (R24) -/

/-- One more word added with end-around carry to a folded sum is the folded sum with that word in it. -/
theorem addEndAround_toNat_of_foldedSum {a : Word16} {n : Nat} (h : a.toNat = foldedSum n) (w : Word16) :
    (addEndAround a w).toNat = foldedSum (n + w.toNat) := by
  have hw := w.isLt
  rw [addEndAround_toNat, h]
  unfold foldedSum
  split_ifs <;> omega

theorem wordSum_toNat (words : List Word16) :
    (wordSum words).toNat = foldedSum (words.map BitVec.toNat).sum := by
  induction words using List.reverseRecOn with
  | nil => rfl
  | append_singleton words w ih => simpa using addEndAround_toNat_of_foldedSum ih w

/-- A word and its ones' complement sum to 0xFFFF without a carry. -/
@[simp] theorem checkPasses_checked (words : List Word16) : checkPasses (checked words) = true := by
  have hsum := (wordSum words).isLt
  rw [checkPasses_iff, checked, wordSum_append_singleton, addEndAround_toNat, checkWord_toNat]
  split <;> omega

/-! ## The bytes of a frame (R22) -/

@[simp] theorem bytesOf_cons (w : Word16) (words : List Word16) :
    bytesOf (w :: words) = BitVec.ofNat 8 (w.toNat / 256) :: BitVec.ofNat 8 w.toNat :: bytesOf words := rfl

@[simp] theorem bytesOf_length (words : List Word16) : (bytesOf words).length = 2 * words.length := by
  induction words with
  | nil => rfl
  | cons w words ih => simp only [bytesOf_cons, List.length_cons, ih]; omega

/-- The two bytes of a word, most significant first, make the word. -/
theorem append_bytes_of_word (w : Word16) :
    (BitVec.ofNat 8 (w.toNat / 256) ++ BitVec.ofNat 8 w.toNat : Word16) = w := by
  have hw := w.isLt
  apply BitVec.eq_of_toNat_eq
  rw [BitVec.toNat_append, ← Nat.shiftLeft_add_eq_or_of_lt (BitVec.isLt _), Nat.shiftLeft_eq,
    BitVec.toNat_ofNat, BitVec.toNat_ofNat]
  omega

@[simp] theorem wordsOf_bytesOf (words : List Word16) : wordsOf (bytesOf words) = some words := by
  induction words with
  | nil => rfl
  | cons w words ih => rw [bytesOf_cons, wordsOf, ih, Option.map_some, append_bytes_of_word]

/-! ## The judgement of whole words (R26) -/

/-- A reply of whole words that stays below the cutoff of R25 is judged by its check word first. -/
theorem judgeReply_of_check_fails (d : NodeDef) (node : Nat) (work : TxnWork) {words : List Word16}
    (short : words.length ≤ 20) (fails : checkPasses words = false) :
    judgeReply d node work (bytesOf words) false = (.badCheck, none) := by
  have uncut : 2 * words.length < cutoffBytes := by unfold cutoffBytes; omega
  simp [judgeReply, uncut, fails]

end Sys2Proof.Claims

namespace Sys2Proof.Proofs

open Sys2Proof.Machine Sys2Proof.Claims

/-- Settles O48: the clauses on the sum rest on `wordSum_toNat`, by induction on the words from the last; a request
frame is `checked` of its words by definition. -/
theorem checkWordsProtectFrames : Obligations.CheckWordsProtectFrames := by
  intro words
  refine ⟨wordSum_toNat words, ?checkWord, ?test, checkPasses_checked words, fun _ _ => rfl,
    fun d node work => judgeReply_of_check_fails d node work⟩
  case checkWord => rw [checkWord_toNat, wordSum_toNat]
  case test => rw [checkPasses_iff, wordSum_toNat]

end Sys2Proof.Proofs

/-! SUPPORT and PROOFS. The terminal curtail order (R127): a hand-off by what is held and what is handed, CURTAIL on its
way to the budget unit, and the effective cap against each order's cap. -/

namespace Sys2Proof.Machine

/-! ## A hand-off (R127) -/

/-- The order becomes present. -/
theorem takeTerminalOrder_of_begins {s : State} (absent : s.termOrder = none) (cap : Nat) :
    takeTerminalOrder (some cap) s
      = raise .curtailBegin (.order true) (quantity cap) none { s with termOrder := some cap } := by
  simp only [takeTerminalOrder, absent]

/-- The order becomes absent. -/
theorem takeTerminalOrder_of_ends {s : State} {cap : Nat} (present : s.termOrder = some cap) :
    takeTerminalOrder none s = raise .curtailEnd (.order true) none none { s with termOrder := none } := by
  simp only [takeTerminalOrder, present]

/-- The order stays present, with this cap or another, or stays absent. -/
theorem takeTerminalOrder_of_isSome_eq {s : State} {order : Option Nat}
    (same : s.termOrder.isSome = order.isSome) : takeTerminalOrder order s = { s with termOrder := order } := by
  cases held : s.termOrder with
  | none =>
    obtain rfl : order = none := by simpa [held] using same.symm
    simp only [takeTerminalOrder, held]
  | some cap =>
    obtain ⟨other, rfl⟩ : ∃ other, order = some other := Option.isSome_iff_exists.mp (by simp [← same, held])
    simp only [takeTerminalOrder, held]

/-! ## CURTAIL (R125, R193) -/

theorem byteOf_congr {m n : Nat} (same : m % 256 = n % 256) : byteOf m = byteOf n :=
  BitVec.eq_of_toNat_eq (by simpa only [byteOf, BitVec.toNat_ofNat] using same)

/-- A word keeps the low 16 bits of its number. -/
theorem wordBytes_mod (n : Nat) : wordBytes (n % 65536) = wordBytes n := by
  have high : byteOf (n % 65536 / 256) = byteOf (n / 256) := byteOf_congr (by omega)
  have low : byteOf (n % 65536) = byteOf n := byteOf_congr (by omega)
  rw [wordBytes, wordBytes, high, low]

/-- CURTAIL's body is read as its two words. -/
theorem takeCurtail_wordBytes (cap hold : Nat) :
    takeCurtail (wordBytes cap ++ wordBytes hold) = some ((cap % 65536, hold % 65536), []) := by
  have bound (n : Nat) : n % 65536 < 65536 := Nat.mod_lt _ (by decide)
  rw [← wordBytes_mod cap, ← wordBytes_mod hold, takeCurtail, reader_bind, takeWord_wordBytes _ _ (bound cap),
    Option.bind_some, reader_bind, takeWord_end _ (bound hold), Option.bind_some, reader_pure]

/-- CURTAIL is served as `execCurtail` says. -/
theorem exec_curtail (body : List Byte) (s : State) : exec (.curtail body) s = execCurtail body s := rfl

/-- A release answers with the state of the order that stood and the one that stands. -/
theorem handleCurtail_release (cap : Nat) (s : State) :
    handleCurtail (cap, 0) s = answer (orderState s :: orderBytes (releaseOrder s)) (releaseOrder s) := rfl

/-- A release ends the host's order alone. -/
@[simp] theorem releaseOrder_termOrder (s : State) : (releaseOrder s).termOrder = s.termOrder := by
  cases held : s.hostOrder with
  | none => simp only [releaseOrder, held]
  | some order => simp only [releaseOrder, held, endHostOrder, raise_termOrder]

/-! ## The effective cap (R124) -/

theorem capMin_le (a : Nat) (b : Option Nat) : capMin a b ≤ a := Nat.min_le_left _ _

theorem capMin_some_le (a b : Nat) : capMin a (some b) ≤ b := Nat.min_le_right _ _

/-- The effective cap is at most the cap of a host order that exists. -/
theorem effectiveCap_le_host {c : Caps} {cap : Nat} (host : c.host = some cap) : effectiveCap c ≤ cap :=
  calc effectiveCap c
    _ ≤ capMin (capMin c.shift c.host) c.terminal := capMin_le _ _
    _ ≤ capMin c.shift c.host := capMin_le _ _
    _ ≤ cap := host ▸ capMin_some_le _ _

/-- The effective cap is at most the cap of a terminal order that is present. -/
theorem effectiveCap_le_terminal {c : Caps} {cap : Nat} (terminal : c.terminal = some cap) : effectiveCap c ≤ cap :=
  calc effectiveCap c
    _ ≤ capMin (capMin c.shift c.host) c.terminal := capMin_le _ _
    _ ≤ cap := terminal ▸ capMin_some_le _ _

end Sys2Proof.Machine

namespace Sys2Proof.Claims

open Sys2Proof.Machine

/-- A CURTAIL that can be taken is answered as its owner answers the cap and the hold of its body. -/
theorem exec_curtail_taken {s : State} (ready : canTake s) (cap hold : Nat) :
    exec (.curtail (wordBytes cap ++ wordBytes hold)) s
      = .next (finishRequest 0x32 .plain (handleCurtail (cap % 65536, hold % 65536) s)) := by
  obtain ⟨powered, quiet, hunting⟩ := ready
  rw [exec_curtail, execCurtail, readWhole_eq _ _ _ (takeCurtail_wordBytes cap hold), Option.map_some,
    serve_owner _ _ _ _ _ _ powered quiet hunting]
  · simp [wordBytes]
  · nofun
  · nofun

/-- R127: CURTAIL with a hold of 0 is answered OK and leaves the terminal order as it is. -/
theorem exec_curtail_release {s : State} (ready : canTake s) (cap : Nat) :
    exec (.curtail (wordBytes cap ++ [0, 0])) s
      = taken 0x32 .plain .ok (orderState s :: orderBytes (releaseOrder s)) (releaseOrder s) := by
  have zero : ([0, 0] : List Byte) = wordBytes 0 := rfl
  rw [zero, exec_curtail_taken ready, Nat.zero_mod, handleCurtail_release, taken, answer]

end Sys2Proof.Claims

namespace Sys2Proof.Proofs

open Sys2Proof.Machine Sys2Proof.Claims

/-- Settles O39: a hand-off by whether an order is held and whether one is handed; CURTAIL with a hold of 0 reaches
`releaseOrder`, which changes the host's order alone; the effective cap is a minimum that both caps enter. -/
theorem terminalOrderReplacesTheHeldOne : Obligations.TerminalOrderReplacesTheHeldOne := by
  intro s order
  refine ⟨?begins, ?ends, takeTerminalOrder_of_isSome_eq, ?curtail, ?caps⟩
  case begins =>
    rintro cap absent rfl
    exact takeTerminalOrder_of_begins absent cap
  case ends =>
    rintro cap present rfl
    exact takeTerminalOrder_of_ends present
  case curtail =>
    rintro cap _ ready rfl
    exact ⟨_, _, _, exec_curtail_release ready cap, releaseOrder_termOrder s⟩
  case caps =>
    intro host cap hostHeld terminalHeld
    have hostCap : (capsOf s).host = some host.cap := by rw [capsOf, hostHeld, Option.map_some]
    exact ⟨effectiveCap_le_host hostCap, effectiveCap_le_terminal terminalHeld⟩

end Sys2Proof.Proofs


/-! SUPPORT and PROOFS. What every command does, by kind: a request is served (R192) by an owner that keeps the laws, an
event of the field side changes nothing of the host side, and every other command keeps the laws. The invariants that a
step keeps (`Keeps`) and the frame of the field events follow. -/

namespace Sys2Proof.Claims

open Sys2Proof.Machine

/-! ## Requests (R192, R194) -/

/-- A reader's operand leads to the owner that takes it. -/
theorem owned_of_map {α : Type} (operand : Option α) (owner : α → State → Served)
    (h : ∀ x s, Owned s (owner x s)) (handle : State → Served) (k : operand.map owner = some handle) (s : State) :
    Owned s (handle s) := by
  obtain ⟨x, -, rfl⟩ := Option.map_eq_some_iff.mp k
  exact h x s

theorem hostLinkHandler_owned (body : HostLinkBody) (handle : State → Served)
    (k : hostLinkHandler body = some handle) (s : State) : Owned s (handle s) := by
  cases body with
  | group bytes => exact owned_of_map _ _ handleHostLink_owned handle k s
  | noSuchGroup code bytes =>
    cases k
    exact refuse_owned _ s
  | noGroup => cases k

/-- A command is a request that is served under its code, on its own body, by an owner that keeps what an owner has to
keep. -/
def IsServed (c : Instr) (code : Nat) : Prop :=
  ∃ cls holdOnly handler, (∀ s, exec c s = serve code cls holdOnly (requestBody c) handler s)
    ∧ ∀ handle, handler = some handle → ∀ s, Owned s (handle s)

/-- A request whose operand is read from its body, and handed to an owner. -/
theorem isServed_of_owner {α : Type} {c : Instr} {code : Nat} {cls : RequestClass} {holdOnly : Bool}
    {operand : Option α} (owner : α → State → Served)
    (he : ∀ s, exec c s = serve code cls holdOnly (requestBody c) (operand.map owner) s)
    (h : ∀ x s, Owned s (owner x s)) : IsServed c code :=
  ⟨cls, holdOnly, operand.map owner, he, owned_of_map operand owner h⟩

/-- Every request is served under its code by its owner (R194). -/
theorem exec_request {c : Instr} {code : Nat} (h : requestCode c = some code) : IsServed c code := by
  cases c with
  | unknownRequest r =>
    cases h
    refine ⟨_, _, _, fun _ => rfl, fun handle k s => ?_⟩
    cases k
    exact refuse_owned _ s
  | identify b => cases h; exact isServed_of_owner _ (fun _ => rfl) (fun _ _ => read_owned _ _)
  | enterHold b => cases h; exact isServed_of_owner _ (fun _ => rfl) (fun _ => handleEnterHold_owned)
  | enterRun b => cases h; exact isServed_of_owner _ (fun _ => rfl) (fun _ => handleEnterRun_owned)
  | restart b => cases h; exact isServed_of_owner _ (fun _ => rfl) (fun _ => handleRestart_owned)
  | storeSettings b => cases h; exact isServed_of_owner _ (fun _ => rfl) (fun _ => handleStoreSettings_owned)
  | setClock b => cases h; exact isServed_of_owner _ (fun _ => rfl) handleSetClock_owned
  | readClock b => cases h; exact isServed_of_owner _ (fun _ => rfl) (fun _ _ => read_owned _ _)
  | writeShift b => cases h; exact isServed_of_owner _ (fun _ => rfl) handleWriteShift_owned
  | readShift b => cases h; exact isServed_of_owner _ (fun _ => rfl) handleReadShift_owned
  | deleteShift b => cases h; exact isServed_of_owner _ (fun _ => rfl) handleDeleteShift_owned
  | writeException b => cases h; exact isServed_of_owner _ (fun _ => rfl) handleWriteException_owned
  | deleteException b => cases h; exact isServed_of_owner _ (fun _ => rfl) handleDeleteException_owned
  | readPlanState b => cases h; exact isServed_of_owner _ (fun _ => rfl) (fun _ _ => read_owned _ _)
  | defineZone b => cases h; exact isServed_of_owner _ (fun _ => rfl) handleDefineZone_owned
  | defineDoor b => cases h; exact isServed_of_owner _ (fun _ => rfl) handleDefineDoor_owned
  | defineLoad b => cases h; exact isServed_of_owner _ (fun _ => rfl) handleDefineLoad_owned
  | defineNode b => cases h; exact isServed_of_owner _ (fun _ => rfl) handleDefineNode_owned
  | defineScanEntry b => cases h; exact isServed_of_owner _ (fun _ => rfl) handleDefineScan_owned
  | setTerminalFunction b => cases h; exact isServed_of_owner _ (fun _ => rfl) handleSetFunction_owned
  | setLineParameters b => cases h; exact isServed_of_owner _ (fun _ => rfl) handleLineParameters_owned
  | setFilterTests b => cases h; exact isServed_of_owner _ (fun _ => rfl) handleFilter_owned
  | setParametersDoor b => cases h; exact isServed_of_owner _ (fun _ => rfl) handleDoorParams_owned
  | setParametersOccupancy b => cases h; exact isServed_of_owner _ (fun _ => rfl) handleOccupancy_owned
  | setParametersLighting b => cases h; exact isServed_of_owner _ (fun _ => rfl) handleLighting_owned
  | setParametersDaylight b => cases h; exact isServed_of_owner _ (fun _ => rfl) handleDaylight_owned
  | setParametersClimate b => cases h; exact isServed_of_owner _ (fun _ => rfl) handleClimate_owned
  | setParametersBudget b => cases h; exact isServed_of_owner _ (fun _ => rfl) handleBudget_owned
  | setParametersSettlement b => cases h; exact isServed_of_owner _ (fun _ => rfl) handleSettlementPeriod_owned
  | setParametersHostLink b => cases h; cases b <;> exact ⟨_, _, _, fun _ => rfl, hostLinkHandler_owned _⟩
  | lightOverride b => cases h; exact isServed_of_owner _ (fun _ => rfl) handleLightOverride_owned
  | setpointOverride b => cases h; exact isServed_of_owner _ (fun _ => rfl) handleSetpointOverride_owned
  | curtail b => cases h; exact isServed_of_owner _ (fun _ => rfl) handleCurtail_owned
  | pinPresence b => cases h; exact isServed_of_owner _ (fun _ => rfl) handlePin_owned
  | unpinPresence b => cases h; exact isServed_of_owner _ (fun _ => rfl) handleUnpin_owned
  | flushPresence b => cases h; exact isServed_of_owner _ (fun _ => rfl) handleFlush_owned
  | setNodeService b => cases h; exact isServed_of_owner _ (fun _ => rfl) handleService_owned
  | lineRestart b => cases h; exact isServed_of_owner _ (fun _ => rfl) handleLineRestart_owned
  | writePoint b => cases h; exact isServed_of_owner _ (fun _ => rfl) handleWritePoint_owned
  | fetchPoint b => cases h; exact isServed_of_owner _ (fun _ => rfl) handleFetchPoint_owned
  | readZone b => cases h; exact isServed_of_owner _ (fun _ => rfl) handleReadZone_owned
  | readDoor b => cases h; exact isServed_of_owner _ (fun _ => rfl) handleReadDoor_owned
  | readLoad b => cases h; exact isServed_of_owner _ (fun _ => rfl) handleReadLoad_owned
  | readSettlement b => cases h; exact isServed_of_owner _ (fun _ => rfl) (fun _ _ => read_owned _ _)
  | readWindows b => cases h; exact isServed_of_owner _ (fun _ => rfl) (fun _ _ => read_owned _ _)
  | readNode b => cases h; exact isServed_of_owner _ (fun _ => rfl) handleReadNode_owned
  | readLine b => cases h; exact isServed_of_owner _ (fun _ => rfl) handleReadLine_owned
  | readPoint b => cases h; exact isServed_of_owner _ (fun _ => rfl) handleReadPoint_owned
  | readPresence b => cases h; exact isServed_of_owner _ (fun _ => rfl) handleReadPresence_owned
  | readEvents b => cases h; exact isServed_of_owner _ (fun _ => rfl) handleReadEvents_owned
  | collectNotices b => cases h; exact isServed_of_owner _ (fun _ => rfl) handleCollect_owned
  | readParameters b => cases h; exact isServed_of_owner _ (fun _ => rfl) handleReadParameters_owned
  | _ => cases h

theorem exec_request_keeps {c : Instr} {code : Nat} (h : requestCode c = some code) (s : State) :
    ∃ t, exec c s = .next t ∧ Keeps s t := by
  obtain ⟨cls, holdOnly, handler, served, owned⟩ := exec_request h
  rw [served]
  exact serve_keeps _ _ _ _ _ _ owned

/-! ## Events of the field side -/

/-- What an event of the field side does: it keeps the laws, and leaves the host side alone. -/
structure EventSide (s t : State) : Prop where
  keeps : Keeps s t
  host : HostSideKept s t

theorem HostSideKept.refl (s : State) : HostSideKept s s := by constructor <;> rfl

theorem HostSideKept.trans {a b c : State} (h : HostSideKept a b) (k : HostSideKept b c) : HostSideKept a c where
  pending := k.pending.trans h.pending
  powered := k.powered.trans h.powered
  config := k.config.trans h.config
  clock := k.clock.trans h.clock
  plan := k.plan.trans h.plan
  inputs := k.inputs.trans h.inputs
  hostOrder := k.hostOrder.trans h.hostOrder
  history := k.history.trans h.history
  lightOverrides := k.lightOverrides.trans h.lightOverrides
  lastStart := k.lastStart.trans h.lastStart
  restartRequested := k.restartRequested.trans h.restartRequested
  receiver := k.receiver.trans h.receiver
  answering := k.answering.trans h.answering
  reply := k.reply.trans h.reply
  frameErrors := k.frameErrors.trans h.frameErrors
  earlyFrames := k.earlyFrames.trans h.earlyFrames
  restartPending := k.restartPending.trans h.restartPending
  storePending := k.storePending.trans h.storePending
  supervisionAt := k.supervisionAt.trans h.supervisionAt
  store := k.store.trans h.store

theorem EventSide.refl (s : State) : EventSide s s := ⟨.refl s, .refl s⟩

theorem EventSide.trans {a b c : State} (h : EventSide a b) (k : EventSide b c) : EventSide a c :=
  ⟨h.keeps.trans k.keeps, h.host.trans k.host⟩

end Sys2Proof.Claims

namespace Sys2Proof.Machine

open Sys2Proof.Claims

theorem FieldSide.host {s t : State} (h : FieldSide s t) : HostSideKept s t := by
  rw [h.frame]
  constructor <;> rfl

theorem FieldSide.event {s t : State} (h : FieldSide s t) : EventSide s t := ⟨h.keeps, h.host⟩

theorem ComfortSide.event {s t : State} (h : ComfortSide s t) : EventSide s t := h.field.event

theorem LoadSide.event {s t : State} (h : LoadSide s t) : EventSide s t := h.field.event

theorem PointSide.event {s t : State} (h : PointSide s t) : EventSide s t := h.field.event

theorem DoorSide.event {s t : State} (h : DoorSide s t) : EventSide s t := h.point.event

theorem PresenceSide.event {s t : State} (h : PresenceSide s t) : EventSide s t := h.point.event

theorem timers_event (s : State) (settleAt stepAt heatAt ventAt curtainAt : Nat) : EventSide s { s with
    settleAt := settleAt, stepAt := stepAt, heatAt := heatAt, ventAt := ventAt, curtainAt := curtainAt } :=
  ⟨timers_keeps s _ _ _ _ _, by constructor <;> rfl⟩

theorem whenDue_event {t : Nat} {f : State → State} {s : State} (h : EventSide s (f s)) :
    EventSide s (whenDue t f s) :=
  whenDue_of h (.refl s)

theorem whenPowered_event {f : State → State} {s : State} (h : EventSide s (f s)) :
    ∃ t, whenPowered f s = .next t ∧ EventSide s t := by
  refine ⟨_, rfl, ?_⟩
  split
  · exact h
  · exact .refl s

/-! ## What the remaining effects of the field side can change -/

theorem settleLevel_side (t : Nat) (s : State) : FieldSide s (settleLevel t s) := by
  have stopped := (changeTerminal_side t (fun x => { x with debounceAt := none }) s).field
  have taken : ∀ first closed, FieldSide s (grantLines (takeLevel t (functionOf s.config t) first closed
      (changeTerminal t (fun x => { x with debounceAt := none }) s))) :=
    fun first closed => stopped.trans ((takeLevel_side t _ first closed _).trans (grantLines_side _).field)
  unfold settleLevel
  dsimp only
  split
  · exact taken _ _
  · split
    · exact stopped
    · exact taken _ _

theorem repeatDelivery_side (t e : Nat) (s : State) : LoadSide s (repeatDelivery t e s) := by
  unfold repeatDelivery
  dsimp only
  split
  · exact changeTerminal_side _ _ _
  · exact (changeTerminal_side _ _ _).trans (deliverTerminal_side _ _ _).load

theorem endCounting_side (d : Nat) (cfg : DoorDef) (state : DoorState) (w : CountWindow) (s : State) :
    DoorSide s (endCounting d cfg state w s) := by
  unfold endCounting
  split
  · exact judgeChatter_side _ _ _ _ _
  · exact changeDoor_side _ _ _

/-! ## The field events (R25 to R48, R55 to R60, R87 to R94, R105, R110, R122, R132, R140, R147, R161, R190) -/

theorem replyTimeout_event (l : LineId) (s : State) : ∃ t, execReplyTimeout l s = .next t ∧ EventSide s t := by
  refine whenPowered_event ?_
  split
  · exact .refl s
  · split
    · exact whenDue_event (endTransaction_side _ _ _ _ _).event
    · exact .refl s

theorem firstReplyCharacter_event (l : LineId) (s : State) :
    ∃ t, execFirstReplyCharacter l s = .next t ∧ EventSide s t := by
  refine whenPowered_event ?_
  split
  · exact (hearNoise_side _ _).event
  · exact (changeLine_side l _ (fun _ => by exact ⟨id, rfl⟩) s).event

theorem replySilence_event (l : LineId) (bytes : List Byte) (framingError : Bool) (s : State) :
    ∃ t, execReplySilence l bytes framingError s = .next t ∧ EventSide s t := by
  refine whenPowered_event ?_
  split
  · exact (hearNoise_side _ _).event
  · exact (endTransaction_side _ _ _ _ _).event

theorem replyCutoff_event (l : LineId) (s : State) : ∃ t, execReplyCutoff l s = .next t ∧ EventSide s t := by
  refine whenPowered_event ?_
  split
  · exact (hearNoise_side _ _).event
  · exact (endTransaction_side _ _ _ _ _).event

theorem lineRestEnd_event (l : LineId) (s : State) : ∃ t, execLineRestEnd l s = .next t ∧ EventSide s t := by
  refine whenPowered_event ?_
  split
  · exact whenDue_event (changeLine_side l _ (fun _ => by exact ⟨id, rfl⟩) s).event
  · exact .refl s

theorem listenWindowEnd_event (l : LineId) (s : State) :
    ∃ t, execListenWindowEnd l s = .next t ∧ EventSide s t := by
  refine whenPowered_event ?_
  split
  · exact whenDue_event (endWindow_side _ _ _ _ _).event
  · exact .refl s

theorem probeTimer_event (l : LineId) (addr : Nat) (s : State) :
    ∃ t, execProbeTimerExpires l addr s = .next t ∧ EventSide s t := by
  refine whenPowered_event ?_
  split
  · exact .refl s
  · exact whenDue_event (grantLines_side s).event

theorem scanPeriod_event (l : LineId) (addr first : Nat) (s : State) :
    ∃ t, execScanPeriodExpires l addr first s = .next t ∧ EventSide s t := by
  refine whenPowered_event ?_
  split
  · exact .refl s
  · exact whenDue_event (grantLines_side s).event

theorem staleness_event (p : PointRef) (s : State) :
    ∃ t, execStalenessTimerExpires p s = .next t ∧ EventSide s t := by
  refine whenPowered_event ?_
  split
  · exact .refl s
  · exact whenDue_event (markStale_side p s).event

theorem debounce_event (t : Nat) (s : State) : ∃ u, execDebounceTimerExpires t s = .next u ∧ EventSide s u := by
  refine whenPowered_event ?_
  unfold debounceExpiry
  split
  · exact .refl s
  · exact whenDue_event (settleLevel_side t s).event

theorem repeat_event (t : Nat) (s : State) : ∃ u, execTerminalRepeatDelivery t s = .next u ∧ EventSide s u := by
  refine whenPowered_event ?_
  split
  · exact .refl s
  · exact whenDue_event (repeatDelivery_side _ _ _).event

theorem meterZero_event (t : Nat) (s : State) : ∃ u, execMeterZeroTimerExpires t s = .next u ∧ EventSide s u := by
  refine whenPowered_event ?_
  split
  · exact .refl s
  · exact whenDue_event ((changeTerminal_side _ _ _).trans (setPower_side _ _ _)).event

theorem heldOpen_event (d : Nat) (s : State) : ∃ t, execHeldOpenTimerExpires d s = .next t ∧ EventSide s t := by
  refine whenPowered_event ?_
  split
  · exact .refl s
  · exact whenDue_event (becomeHeldOpen_side _ _).event

theorem chatter_event (d : Nat) (s : State) : ∃ t, execChatterTimerExpires d s = .next t ∧ EventSide s t := by
  refine whenPowered_event ?_
  unfold chatterExpiry
  split
  · split
    · exact .refl s
    · exact whenDue_event (endCounting_side _ _ _ _ _).event
  · exact .refl s

theorem runOn_event (d : Nat) (s : State) : ∃ t, execCurtainRunOnExpires d s = .next t ∧ EventSide s t := by
  refine whenPowered_event ?_
  unfold runOnExpiry
  split
  · exact .refl s
  · exact whenDue_event (changeDoor_side _ _ _).event

theorem presenceLife_event (n : Nat) (s : State) : ∃ t, execPresenceLifeExpires n s = .next t ∧ EventSide s t := by
  refine whenPowered_event ?_
  split
  · exact whenDue_event (removeEntry_pres _ _).event
  · exact .refl s

theorem dormancy_event (z : Nat) (s : State) : ∃ t, execDormancyTimerExpires z s = .next t ∧ EventSide s t := by
  refine whenPowered_event ?_
  split
  · exact .refl s
  · exact whenDue_event (changeZone_pres _ _ _).event

theorem nodeHold_event (k : Nat) (s : State) : ∃ t, execNodeHoldTimerExpires k s = .next t ∧ EventSide s t := by
  refine whenPowered_event ?_
  split
  · exact .refl s
  · exact whenDue_event (takeFallback_side _ _).event

theorem commandRefresh_event (k : Nat) (s : State) :
    ∃ t, execCommandRefreshExpires k s = .next t ∧ EventSide s t := by
  refine whenPowered_event ?_
  split
  · exact .refl s
  · exact whenDue_event ((issueCommand_side _ _).trans (grantLines_side _)).event

theorem settlement_event (s : State) : ∃ t, execSettlement s = .next t ∧ EventSide s t := by
  refine whenPowered_event (whenDue_event ?_)
  have worked := (performSettlement_side s).event
  exact worked.trans ((timers_event _ _ _ _ _ _).trans (grantLines_side _).event)

theorem lightingStep_event (s : State) : ∃ t, execLightingStep s = .next t ∧ EventSide s t := by
  have timers := timers_event s s.settleAt (s.now + Config.lightingStepMs) s.heatAt s.ventAt s.curtainAt
  refine whenPowered_event (whenDue_event (timers.trans ?_))
  exact ((forEach_related LoadSide.refl LoadSide.trans _ groupStep_side _ _).trans (grantLines_side _)).event

theorem heatingEvaluation_event (s : State) : ∃ t, execHeatingEvaluation s = .next t ∧ EventSide s t := by
  have timers := timers_event s s.settleAt s.stepAt (s.now + Config.heatingMs) s.ventAt s.curtainAt
  refine whenPowered_event (whenDue_event (timers.trans ?_))
  have zones := forEach_related ComfortSide.refl ComfortSide.trans _ heatZone_side (slotNumbers s.config.zones)
  exact ((zones _).trans (grantLines_side _).comfort).event

theorem ventilationEvaluation_event (s : State) : ∃ t, execVentilationEvaluation s = .next t ∧ EventSide s t := by
  have timers := timers_event s s.settleAt s.stepAt s.heatAt (s.now + Config.ventilationMs) s.curtainAt
  refine whenPowered_event (whenDue_event (timers.trans ?_))
  have zones := forEach_related ComfortSide.refl ComfortSide.trans _ ventZone_side (slotNumbers s.config.zones)
  exact ((zones _).trans (grantLines_side _).comfort).event

theorem curtainStep_event (s : State) : ∃ t, execCurtainStep s = .next t ∧ EventSide s t := by
  have timers := timers_event s s.settleAt s.stepAt s.heatAt s.ventAt (s.now + Config.curtainMs)
  refine whenPowered_event (whenDue_event (timers.trans ?_))
  exact ((forEach_related LoadSide.refl LoadSide.trans _ stepCurtain_side _ _).trans (grantLines_side _)).event

theorem setpointOverride_event (z : Nat) (s : State) :
    ∃ t, execSetpointOverrideExpires z s = .next t ∧ EventSide s t := by
  refine whenPowered_event ?_
  split
  · exact .refl s
  · exact whenDue_event (changeClimate_side _ _ _).event

theorem release_event (s : State) : ∃ t, execReleaseTimerExpires s = .next t ∧ EventSide s t := by
  refine whenPowered_event ?_
  split
  · exact .refl s
  · exact whenDue_event (leaveEmergency_side s).event

end Sys2Proof.Machine

namespace Sys2Proof.Claims

open Sys2Proof.Machine

/-- Every event of the field side is answered by a state that keeps the laws and the host side. -/
theorem exec_fieldEvent {c : Instr} (h : isFieldEvent c = true) (s : State) :
    ∃ t, exec c s = .next t ∧ EventSide s t := by
  cases c with
  | releaseTimerExpires => exact release_event s
  | replyTimeout l => exact replyTimeout_event l s
  | replySilence l bytes framingError => exact replySilence_event l bytes framingError s
  | replyCutoff l => exact replyCutoff_event l s
  | idleNoise l => exact whenPowered_event (hearNoise_side l s).event
  | lineRestEnd l => exact lineRestEnd_event l s
  | listenWindowEnd l => exact listenWindowEnd_event l s
  | probeTimerExpires l addr => exact probeTimer_event l addr s
  | scanPeriodExpires l addr first => exact scanPeriod_event l addr first s
  | stalenessTimerExpires p => exact staleness_event p s
  | debounceTimerExpires t => exact debounce_event t s
  | terminalRepeatDelivery t => exact repeat_event t s
  | meterZeroTimerExpires t => exact meterZero_event t s
  | heldOpenTimerExpires d => exact heldOpen_event d s
  | chatterTimerExpires d => exact chatter_event d s
  | curtainRunOnExpires d => exact runOn_event d s
  | presenceLifeExpires n => exact presenceLife_event n s
  | dormancyTimerExpires z => exact dormancy_event z s
  | nodeHoldTimerExpires k => exact nodeHold_event k s
  | settlement => exact settlement_event s
  | commandRefreshExpires k => exact commandRefresh_event k s
  | lightingStep => exact lightingStep_event s
  | heatingEvaluation => exact heatingEvaluation_event s
  | ventilationEvaluation => exact ventilationEvaluation_event s
  | curtainStep => exact curtainStep_event s
  | setpointOverrideExpires z => exact setpointOverride_event z s
  | firstReplyCharacter l => exact firstReplyCharacter_event l s
  | _ => cases h

end Sys2Proof.Claims

namespace Sys2Proof.Machine

/-! ## The other commands: starts, clock, store, wiring, link, and the host's timers -/

theorem setPin_keeps (t : Nat) (f : InputPin → InputPin) (s : State) : Keeps s (setPin t f s) :=
  ⟨rfl, id, id, id, id, id, id⟩

theorem setStore_keeps (store : Store) (pending powered : Bool) (s : State) :
    Keeps s { s with store := store, storePending := pending, powered := powered } :=
  ⟨rfl, id, id, id, id, id, id⟩

theorem setAnswering_keeps (b : Bool) (s : State) : Keeps s { s with answering := b } :=
  ⟨rfl, id, id, id, id, id, id⟩

theorem setClockField_keeps (c : Clock) (s : State) : Keeps s { s with clock := c } := (setClockField_handled c s).keeps

theorem setRestartRequested_keeps (b : Bool) (s : State) : Keeps s { s with restartRequested := b } :=
  ⟨rfl, id, id, id, id, id, id⟩

theorem rawChange_keeps (t : Nat) (closed : Bool) (s : State) : Keeps s (rawChange t closed s) := by
  have wired := setPin_keeps t (fun p => { p with closed := closed }) s
  unfold rawChange
  dsimp only
  split
  · exact .refl s
  · split
    · exact wired
    · split
      · exact wired.trans (changeTerminal_side _ _ _).keeps
      · split
        · exact wired.trans (takePulse_side _ _).keeps
        · exact wired

theorem conversion_keeps (t : Nat) (s : State) : Keeps s (conversion t s) := by
  unfold conversion
  split
  · exact .refl s
  · exact whenDue_keeps ((changeTerminal_side _ _ _).keeps.trans (convert_side _ _).load.keeps)

theorem coldStartCommand_keeps (cause : StartCause) (s : State) :
    ∃ t, execColdStart cause s = .next t ∧ Keeps s t := by
  refine ⟨_, rfl, ?_⟩
  cases cause with
  | powerOn held => exact coldStart_keeps _ s
  | restartInput =>
    dsimp only
    split
    · exact coldStart_keeps _ s
    · exact .refl s

theorem warmRestartCommand_keeps (s : State) : ∃ t, execWarmRestart s = .next t ∧ Keeps s t := by
  refine whenPowered_keeps _ s ?_
  split
  · exact warmRestart_keeps s
  · exact .refl s

theorem clockTick_keeps (s : State) : ∃ t, execClockTick s = .next t ∧ Keeps s t := by
  refine ⟨_, rfl, ?_⟩
  split
  · exact .refl s
  · split
    · exact (tick_handled s).keeps
    · exact setClockField_keeps _ s

theorem storeWriteBegin_keeps (s : State) : ∃ t, execStoreWriteBegin s = .next t ∧ Keeps s t := by
  refine whenPowered_keeps _ s ?_
  split
  · exact setStore_keeps _ _ _ s
  · exact .refl s

theorem endWrite_keeps (agrees : Bool) (s : State) : Keeps s (endWrite agrees s) := by
  unfold endWrite
  split
  · exact (setStore_keeps _ s.storePending s.powered s).trans (raise_handled _ _ _ _ _).keeps
  · exact (setStore_keeps _ s.storePending s.powered s).trans (raise_handled _ _ _ _ _).keeps

theorem storeWriteEnd_keeps (agrees : Bool) (s : State) :
    ∃ t, execStoreWriteEnd agrees s = .next t ∧ Keeps s t := by
  refine whenPowered_keeps _ s ?_
  split
  · exact whenDue_keeps (endWrite_keeps agrees s)
  · exact .refl s

theorem mainPowerLoss_keeps (s : State) : ∃ t, execMainPowerLoss s = .next t ∧ Keeps s t :=
  ⟨_, rfl, setStore_keeps _ s.storePending false s⟩

theorem analogConversion_keeps (t : Nat) (mv : Int) (s : State) :
    ∃ u, execAnalogConversion t mv s = .next u ∧ Keeps s u := by
  have wired := setPin_keeps t (fun p => { p with millivolts := mv }) s
  refine ⟨_, rfl, ?_⟩
  split
  · exact wired.trans (conversion_keeps t _)
  · exact wired

theorem meterPulse_keeps (t : Nat) (s : State) : ∃ u, execMeterPulse t s = .next u ∧ Keeps s u := by
  have wired := setPin_keeps t (fun p => { p with closed := true }) s
  refine ⟨_, rfl, ?_⟩
  dsimp only
  split
  · split
    · exact wired.trans (takePulse_side _ _).keeps
    · exact wired
  · exact rawChange_keeps t true s

theorem restartTimer_keeps (t : Nat) (s : State) : ∃ u, execRestartTimerExpires t s = .next u ∧ Keeps s u := by
  refine whenPowered_keeps _ s ?_
  split
  · exact .refl s
  · exact whenDue_keeps ((changeTerminal_side _ _ _).keeps.trans (setRestartRequested_keeps true _))

theorem hostCurtail_keeps (s : State) : ∃ t, execHostCurtailExpires s = .next t ∧ Keeps s t := by
  refine whenPowered_keeps _ s ?_
  split
  · exact .refl s
  · exact whenDue_keeps (endHostOrder_handled _ s).keeps

theorem lightOverrideExpires_keeps (z : Nat) (s : State) :
    ∃ t, execLightOverrideExpires z s = .next t ∧ Keeps s t := by
  refine whenPowered_keeps _ s ?_
  split
  · exact .refl s
  · exact whenDue_keeps ⟨rfl, id, id, id, id, id, id⟩

theorem loseSupervision_keeps (s : State) : Keeps s (loseSupervision s) := by
  have stopped : ∀ u : State, Keeps u { u with supervisionAt := none } := fun u => ⟨rfl, id, id, id, id, id, id⟩
  unfold loseSupervision
  split
  · rename_i running
    refine (stopped s).trans (changeMode_handled _ _ _ ?_ ?_ ?_).keeps
    · simp [running]
    · decide
    · decide
  · split
    · rename_i held
      refine ⟨rfl, id, id, id, id, fun legal => ?_, id⟩
      obtain ⟨started, -, -, -⟩ := legal
      exact ⟨started, by simp [held.1], by simp, by simp⟩
    · exact stopped s

theorem supervisionTimer_keeps (s : State) : ∃ t, execSupervisionTimerExpires s = .next t ∧ Keeps s t := by
  refine whenPowered_keeps _ s ?_
  split
  · exact .refl s
  · exact whenDue_keeps (loseSupervision_keeps s)

end Sys2Proof.Machine

namespace Sys2Proof.Claims

open Sys2Proof.Machine

/-- Every command is answered, and keeps the queue and the laws. -/
theorem exec_keeps (c : Instr) (s : State) : ∃ t, exec c s = .next t ∧ Keeps s t := by
  by_cases isEvent : isFieldEvent c = true
  · obtain ⟨t, answered, side⟩ := exec_fieldEvent isEvent s
    exact ⟨t, answered, side.keeps⟩
  cases request : requestCode c with
  | some code => exact exec_request_keeps request s
  | none =>
    cases c with
    | coldStart cause => exact coldStartCommand_keeps cause s
    | warmRestart => exact warmRestartCommand_keeps s
    | clockTick => exact clockTick_keeps s
    | hostFrameDiscarded bytes =>
      have discard := withFrame_keeps _ discardEnded_keeps (forEach bytes receiveByte s)
      exact whenPowered_keeps (fun s => withFrame discardEnded (forEach bytes receiveByte s)) s
        ((receiveBytes_keeps bytes s).trans discard)
    | hostByteTimeout => exact whenPowered_keeps _ s (withFrame_keeps _ discardLate_keeps s)
    | storeWriteBegin => exact storeWriteBegin_keeps s
    | storeWriteEnd agrees => exact storeWriteEnd_keeps agrees s
    | supervisionTimerExpires => exact supervisionTimer_keeps s
    | hostCurtailExpires => exact hostCurtail_keeps s
    | lightOverrideExpires z => exact lightOverrideExpires_keeps z s
    | terminalInputChange t closed => exact ⟨_, rfl, rawChange_keeps t closed s⟩
    | restartTimerExpires t => exact restartTimer_keeps t s
    | analogConversion t mv => exact analogConversion_keeps t mv s
    | meterPulse t => exact meterPulse_keeps t s
    | mainPowerLoss => exact mainPowerLoss_keeps s
    | startByte => exact whenPowered_keeps _ s (receiveByte_keeps _ s)
    | replySent => exact whenPowered_keeps (fun s => { s with answering := false }) s (setAnswering_keeps false s)
    | _ => simp_all [isFieldEvent, requestCode]

/-! ## Steps -/

theorem step_idle {s : State} (h : s.pending = []) : step s = .next (idle s) := by
  unfold step
  rw [h]

theorem step_front {s : State} {c : Instr} {rest : List Instr} (h : s.pending = c :: rest) :
    step s = exec c { s with pending := rest } := by
  unfold step
  rw [h]

/-- A law that the idle step, the taking of a command off the queue and every command keep is kept by every step. -/
theorem keptByStep_of_exec {inv : State → Prop} (idles : ∀ s, inv s → inv (idle s))
    (taking : ∀ (s : State) (rest : List Instr), inv s → inv { s with pending := rest })
    (commands : ∀ c s t, exec c s = .next t → inv s → inv t) : KeptByStep inv := by
  intro s t holds next
  cases queue : s.pending with
  | nil =>
    rw [step_idle queue] at next
    cases next
    exact idles s holds
  | cons c rest =>
    rw [step_front queue] at next
    exact commands c _ t next (taking s rest holds)

/-- The laws that `Keeps` carries over do not speak of the queue, the running time or the clock. -/
theorem keptByStep_of_keeps {inv : State → Prop} (idles : ∀ s, inv s → inv (idle s))
    (taking : ∀ (s : State) (rest : List Instr), inv s → inv { s with pending := rest })
    (kept : ∀ s t, Keeps s t → inv s → inv t) : KeptByStep inv := by
  refine keptByStep_of_exec idles taking fun c s t next holds => ?_
  obtain ⟨u, answered, keeps⟩ := exec_keeps c s
  rw [answered] at next
  cases next
  exact kept s _ keeps holds

end Sys2Proof.Claims

namespace Sys2Proof.Proofs

open Sys2Proof.Machine Sys2Proof.Claims

/-- Settles O5: each bound is a field of `Keeps`. -/
theorem everyStepKeepsTheBounds : Obligations.EveryStepKeepsTheBounds :=
  ⟨keptByStep_of_keeps (fun _ h => h) (fun _ _ h => h) fun _ _ k => k.notices,
    keptByStep_of_keeps (fun _ h => h) (fun _ _ h => h) fun _ _ k => k.counters,
    keptByStep_of_keeps (fun _ h => h) (fun _ _ h => h) fun _ _ k => k.lists⟩

/-- Settles O6: the law of the lines is a field of `Keeps`. -/
theorem everyStepKeepsLinesLawful : Obligations.EveryStepKeepsLinesLawful :=
  keptByStep_of_keeps (fun _ h => h) (fun _ _ h => h) fun _ _ k => k.lines

/-- Settles O10: the law of the mode is a field of `Keeps`. -/
theorem everyStepKeepsModeLegal : Obligations.EveryStepKeepsModeLegal :=
  keptByStep_of_keeps (fun _ h => h) (fun _ _ h => h) fun _ _ k => k.mode

/-- Settles O11: the match of records and definitions is a field of `Keeps`. -/
theorem everyStepKeepsRecordsMatched : Obligations.EveryStepKeepsRecordsMatched :=
  keptByStep_of_keeps (fun _ h => h) (fun _ _ h => h) fun _ _ k => k.records

/-- Settles O12, by the side of each field event. -/
theorem fieldEventsKeepTheHostSide : Obligations.FieldEventsKeepTheHostSide := by
  intro c s isEvent
  obtain ⟨t, answered, side⟩ := exec_fieldEvent isEvent s
  exact ⟨t, answered, side.host⟩

/-- Settles O1. -/
theorem stepRunsFrontCommand : Obligations.StepRunsFrontCommand := fun _ _ _ h => step_front h

end Sys2Proof.Proofs


/-! SUPPORT and PROOFS. Every command in every state (O3), and the host link: what becomes of a request's frame,
what the end of a request does, what the receiver does with bytes, and the checks in order. -/

namespace Sys2Proof.Claims

open Sys2Proof.Machine

/-! ## Without main power (log 6), and before a timer's time (log 2) -/

theorem whenPowered_on {f : State → State} {s : State} (h : s.powered = true) : whenPowered f s = .next (f s) := by
  unfold whenPowered
  rw [if_pos h]

theorem whenPowered_off {f : State → State} {s : State} (h : s.powered = false) : whenPowered f s = .next s := by
  unfold whenPowered
  rw [if_neg (by simp [h])]

/-- Under main power a command has its effect. -/
theorem powered_on {s t : State} (h : s.powered = true) :
    (Host.Outcome.next (if s.powered = true then t else s) : Result) = .next t := by
  rw [if_pos h]

/-- An effect that leaves the state as it is does so with main power and without. -/
theorem powered_still {s t : State} (h : t = s) :
    (Host.Outcome.next (if s.powered = true then t else s) : Result) = .next s := by
  rw [h, ite_self]

theorem exec_unpowered {c : Instr} {s : State} (off : s.powered = false)
    (returns : ∀ held, c ≠ .coldStart (.powerOn held)) (ticks : c ≠ .clockTick) (loss : c ≠ .mainPowerLoss)
    (wires : ∀ t closed, c ≠ .terminalInputChange t closed) (volts : ∀ t mv, c ≠ .analogConversion t mv)
    (pulses : ∀ t, c ≠ .meterPulse t) : exec c s = .next s := by
  cases request : requestCode c with
  | some code =>
    obtain ⟨cls, holdOnly, handler, served, -⟩ := exec_request request
    rw [served]
    exact serve_unpowered _ _ _ _ _ _ off
  | none =>
    cases c with
    | coldStart cause =>
      cases cause with
      | powerOn held => exact absurd rfl (returns held)
      | restartInput =>
        have waits : restartInputReady s = false := by simp [restartInputReady, off]
        simp [exec, execColdStart, waits]
    | clockTick => exact absurd rfl ticks
    | mainPowerLoss => exact absurd rfl loss
    | terminalInputChange t closed => exact absurd rfl (wires t closed)
    | analogConversion t mv => exact absurd rfl (volts t mv)
    | meterPulse t => exact absurd rfl (pulses t)
    | _ => cases request <;> exact congrArg Host.Outcome.next (if_neg (ne_true_of_eq_false off))

/-- A timer's command before its time, timer by timer of `dueTime`. -/
theorem exec_early {c : Instr} {s : State} {t : Nat} (h : dueTime s c = some t) (early : s.now < t) :
    exec c s = .next s := by
  have still : ∀ f : State → State, whenDue t f s = s := fun f => whenDue_early early
  cases c with
  | settlement => cases h; exact powered_still (whenDue_early early)
  | lightingStep => cases h; exact powered_still (whenDue_early early)
  | heatingEvaluation => cases h; exact powered_still (whenDue_early early)
  | ventilationEvaluation => cases h; exact powered_still (whenDue_early early)
  | curtainStep => cases h; exact powered_still (whenDue_early early)
  | supervisionTimerExpires =>
    have stands : s.supervisionAt = some t := h
    exact powered_still (by simp only [stands, still])
  | releaseTimerExpires =>
    have stands : s.releaseAt = some t := h
    exact powered_still (by simp only [stands, still])
  | hostCurtailExpires =>
    obtain ⟨order, stands, rfl⟩ := Option.map_eq_some_iff.mp h
    exact powered_still (by simp only [stands, still])
  | lightOverrideExpires z =>
    have stands : (slotGet s.lightOverrides z).bind LightOverride.expiry = some t := h
    exact powered_still (by simp only [stands, still])
  | setpointOverrideExpires z =>
    have stands : ((slotGet s.climate z).bind ClimateRec.override).bind SetpointOverride.expiry = some t := h
    exact powered_still (by simp only [stands, still])
  | presenceLifeExpires n =>
    refine powered_still ?_
    simp only [dueTime] at h
    split at h
    · rename_i e stands
      cases h
      simp only [stands, still]
    · cases h
  | dormancyTimerExpires z =>
    have stands : (slotGet s.zones z).bind ZoneRec.dormancyAt = some t := h
    exact powered_still (by simp only [stands, still])
  | heldOpenTimerExpires d =>
    have stands : (slotGet s.doors d).bind (heldOpenAt s.config) = some t := h
    exact powered_still (by simp only [stands, still])
  | curtainRunOnExpires d =>
    have stands : (slotGet s.doors d).bind DoorRec.runOn = some t := h
    exact powered_still (by simp only [runOnExpiry, stands, still])
  | chatterTimerExpires d =>
    obtain ⟨r, record, window⟩ := Option.bind_eq_some_iff.mp h
    obtain ⟨w, counting, rfl⟩ := Option.map_eq_some_iff.mp window
    refine powered_still ?_
    unfold chatterExpiry
    cases definition : slotGet s.config.doors d with
    | none => simp only [record]
    | some cfg => simp only [record, counting]; exact still _
  | nodeHoldTimerExpires k =>
    have stands : (slotGet s.loads k).bind (nodeHoldAt s.config) = some t := h
    exact powered_still (by simp only [stands, still])
  | commandRefreshExpires k =>
    obtain ⟨r, stands, rfl⟩ := Option.map_eq_some_iff.mp h
    exact powered_still (by simp only [stands, still])
  | debounceTimerExpires n =>
    have stands : (getTerminal s n).debounceAt = some t := h
    exact powered_still (by simp only [debounceExpiry, stands, still])
  | restartTimerExpires n =>
    have stands : (getTerminal s n).restartAt = some t := h
    exact powered_still (by simp only [stands, still])
  | terminalRepeatDelivery n =>
    have stands : (getTerminal s n).repeatAt = some t := h
    exact powered_still (by simp only [stands, still])
  | meterZeroTimerExpires n =>
    have stands : (getTerminal s n).zeroAt = some t := h
    exact powered_still (by simp only [stands, still])
  | stalenessTimerExpires p =>
    have stands : staleAt s p = some t := h
    exact powered_still (by simp only [stands, still])
  | replyTimeout l =>
    refine powered_still ?_
    simp only [dueTime] at h
    split at h
    · rename_i e stands
      cases h
      obtain ⟨x, flight, phase⟩ := Option.map_eq_some_iff.mp stands
      simp only [flight, phase, still]
    · cases h
  | lineRestEnd l =>
    refine powered_still ?_
    simp only [dueTime] at h
    split at h
    · rename_i e stands
      cases h
      simp only [stands, still]
    · cases h
  | listenWindowEnd l =>
    refine powered_still ?_
    simp only [dueTime] at h
    split at h
    · rename_i e quiet heard stands
      cases h
      simp only [stands, still]
    · cases h
  | probeTimerExpires l addr =>
    have stands : (slotGet (getLine s l).nodes addr).bind NodeRec.probeDue = some t := h
    exact powered_still (by simp only [stands, still])
  | scanPeriodExpires l addr first =>
    obtain ⟨x, stands, rfl⟩ := Option.map_eq_some_iff.mp h
    exact powered_still (by simp only [stands, still])
  | hostByteTimeout =>
    refine powered_still ?_
    simp only [dueTime] at h
    split at h
    · rename_i f stands
      cases h
      have inTime : frameLate s.now f = false := by
        simp only [frameLate, Config.byteGapMs, Bool.and_eq_false_iff]
        exact .inr (decide_eq_false (by omega))
      simp [withFrame, stands, discardLate, inTime]
    · cases h
  | storeWriteEnd agrees =>
    refine powered_still ?_
    simp only [dueTime] at h
    split at h
    · rename_i writing
      cases h
      simp only [writing, if_true]
      exact whenDue_early early
    · cases h
  | _ => cases h

end Sys2Proof.Claims

namespace Sys2Proof.Proofs

open Sys2Proof.Machine Sys2Proof.Claims

/-- Settles O3: the answer and the queue by `exec_keeps`, the rest command by command. -/
theorem everyCommandIsAnswered : Obligations.EveryCommandIsAnswered := by
  refine ⟨fun c s => ?_, fun c s => exec_unpowered, fun c s t => exec_early⟩
  obtain ⟨t, answered, keeps⟩ := exec_keeps c s
  exact ⟨t, answered, keeps.pending⟩

end Sys2Proof.Proofs


/-! SUPPORT and PROOFS. The host link (R191, R192, R198): the frame in hand, what becomes of a request, its end. -/

namespace Sys2Proof.Machine

open Sys2Proof.Claims

/-! ## The frame in hand (R191) -/

theorem settleFrame_of_failed {s : State} {f : HostFrame} (hand : s.receiver = .collecting f)
    (failed : judgeFrame f = .failed) : settleFrame s = discardFrame s := by
  simp [settleFrame, withFrame, hand, discardEnded, failed, discardFrame]

theorem settleFrame_of_early {s : State} {f : HostFrame} {code : Byte} {body : List Byte}
    (hand : s.receiver = .collecting f) (whole : judgeFrame f = .whole code body) (early : f.early = true) :
    settleFrame s = discardEarly s := by
  simp [settleFrame, withFrame, hand, discardEnded, whole, early, discardEarly]

theorem settleFrame_of_late {s : State} {f : HostFrame} (hand : s.receiver = .collecting f)
    (growing : judgeFrame f = .growing) (late : f.last + 20 < s.now) : settleFrame s = discardFrame s := by
  simp [settleFrame, withFrame, hand, discardEnded, discardLate, frameLate, growing, Config.byteGapMs, late]

theorem settleFrame_of_growing {s : State} {f : HostFrame} (hand : s.receiver = .collecting f)
    (growing : judgeFrame f = .growing) (inTime : s.now ≤ f.last + 20) : settleFrame s = s := by
  have notLate : ¬ f.last + 20 < s.now := Nat.not_lt.mpr inTime
  simp [settleFrame, withFrame, hand, discardEnded, discardLate, frameLate, growing, Config.byteGapMs, notLate]

theorem settleFrame_of_waiting {s : State} {f : HostFrame} {code : Byte} {body : List Byte}
    (hand : s.receiver = .collecting f) (whole : judgeFrame f = .whole code body) (inTurn : f.early = false) :
    settleFrame s = s := by
  simp [settleFrame, withFrame, hand, discardEnded, discardLate, frameLate, whole, inTurn]

@[simp] theorem settleFrame_discardFrame (s : State) : settleFrame (discardFrame s) = discardFrame s :=
  settleFrame_hunting _ rfl

@[simp] theorem settleFrame_discardEarly (s : State) : settleFrame (discardEarly s) = discardEarly s :=
  settleFrame_hunting _ rfl

/-! ## A request's frame (R191, R192) -/

theorem endFrame_tooLong {early : Bool} {body : List Byte} {take : State → State} {s : State}
    (long : 1024 < body.length) : endFrame early body take s = discardFrame s := if_pos long

theorem endFrame_early {early : Bool} {body : List Byte} {take : State → State} {s : State}
    (fits : body.length ≤ 1024) (h : early = true) : endFrame early body take s = discardEarly s := by
  unfold endFrame Config.hostBodyLimit
  rw [if_neg (Nat.not_lt.mpr fits), if_pos h]

theorem endFrame_inTurn {early : Bool} {body : List Byte} {take : State → State} {s : State}
    (fits : body.length ≤ 1024) (h : early = false) : endFrame early body take s = take s := by
  unfold endFrame Config.hostBodyLimit
  rw [if_neg (Nat.not_lt.mpr fits), if_neg (ne_true_of_eq_false h)]

theorem receiveRequest_other {code : Nat} {body : List Byte} {take : State → State} {s : State} {f : HostFrame}
    (hand : s.receiver = .collecting f) (other : ¬ f.bytes <+: frameTail code body) :
    receiveRequest code body take s = s := by
  simp [receiveRequest, hand, other]

theorem receiveRequest_own {code : Nat} {body : List Byte} {take : State → State} {s : State} {f : HostFrame}
    (hand : s.receiver = .collecting f) (own : f.bytes <+: frameTail code body) :
    receiveRequest code body take s
      = endFrame (s.answering || f.early) body take { s with receiver := .hunting } := by
  simp [receiveRequest, hand, own]

theorem serve_powered (code : Nat) (cls : RequestClass) (holdOnly : Bool) (body : List Byte)
    (handler : Option (State → Served)) {s : State} (on : s.powered = true) :
    serve code cls holdOnly body handler s = .next (receiveRequest code body
      (fun t => finishRequest code cls (checkRequest cls holdOnly handler t)) (settleFrame s)) :=
  whenPowered_on on

/-- Two powered states that the receiver settles alike serve a request alike. -/
theorem serve_congr_settled (code : Nat) (cls : RequestClass) (holdOnly : Bool) (body : List Byte)
    (handler : Option (State → Served)) {s t : State} (on : s.powered = true) (on' : t.powered = true)
    (h : settleFrame s = settleFrame t) :
    serve code cls holdOnly body handler s = serve code cls holdOnly body handler t := by
  rw [serve_powered _ _ _ _ _ on, serve_powered _ _ _ _ _ on', h]

/-! ## The end of a request -/

theorem finishRequest_plain_of_refused {code : Nat} {cls : RequestClass} {r : Served} (h : r.status ≠ .ok) :
    finishRequest code cls r = finishRequest code .plain r := by
  have unchanged : ∀ c : RequestClass, (c == .configuring && r.status == .ok) = false := by
    intro c
    simp [h]
  unfold finishRequest changedAfter
  rw [unchanged cls, unchanged .plain]

theorem finishRequest_reply (code : Nat) (cls : RequestClass) (r : Served) :
    (finishRequest code cls r).reply = some ⟨code, r.status, r.body⟩ := rfl

/-- What the end of a request leaves of what its owner has left. -/
theorem finishRequest_kept (code : Nat) (cls : RequestClass) (r : Served) :
    let t := finishRequest code cls r
    t.answering = true ∧ t.receiver = .hunting ∧ t.powered = r.state.powered ∧ t.now = r.state.now
      ∧ t.inputs = r.state.inputs ∧ t.frameErrors = r.state.frameErrors ∧ t.earlyFrames = r.state.earlyFrames
      ∧ t.lastStart = r.state.lastStart := by
  obtain ⟨mode, returnMode, notices, lost, at_, frame⟩ := finishRequest_frame code cls r
  simp only [frame, and_self]

end Sys2Proof.Machine

namespace Sys2Proof.Claims

open Sys2Proof.Machine

/-! ## The command of a code (R194, R195) -/

theorem byte_eq_of_toNat {b : Byte} {n : Nat} (h : b.toNat = n) : b = BitVec.ofNat 8 n := by
  rw [← h, BitVec.ofNat_toNat, BitVec.setWidth_eq]

theorem parametersOf_request (body : List Byte) :
    requestCode (parametersOf body) = some 0x28 ∧ requestBody (parametersOf body) = body := by
  cases body with
  | nil => exact ⟨rfl, rfl⟩
  | cons group rest =>
    simp only [parametersOf]
    split
    case h_9 => exact ⟨rfl, rfl⟩
    all_goals
      rename_i h
      rw [byte_eq_of_toNat h]
      exact ⟨rfl, rfl⟩

theorem requestOf_request (code : Byte) (body : List Byte) :
    requestCode (requestOf code body) = some code.toNat ∧ requestBody (requestOf code body) = body := by
  unfold requestOf
  split
  case h_22 h =>
    rw [h]
    exact parametersOf_request body
  case h_45 => exact ⟨rfl, rfl⟩
  all_goals
    rename_i h
    rw [h]
    exact ⟨rfl, rfl⟩

end Sys2Proof.Claims

namespace Sys2Proof.Proofs

open Sys2Proof.Machine Sys2Proof.Claims

/-- Settles O13: each clause is one outcome of `settleFrame` and of `endFrame` for the request that is served. -/
theorem requestsAreDiscardedOrAnswered : Obligations.RequestsAreDiscardedOrAnswered := by
  refine ⟨requestOf_request, ?hunting, ?answered, ?inHand⟩
  case hunting =>
    intro c code s request on hunts
    obtain ⟨cls, holdOnly, handler, served, -⟩ := exec_request request
    rw [served, serve_hunting _ _ _ _ _ _ on hunts]
    exact ⟨fun long => congrArg _ (endFrame_tooLong long),
      fun fits answering => congrArg _ (endFrame_early fits answering)⟩
  case answered =>
    rintro c code s request ⟨on, quiet, hunts⟩ fits
    obtain ⟨cls, holdOnly, handler, served, owned⟩ := exec_request request
    have link := (checkRequest_owned cls holdOnly handler s fun handle h => owned handle h s).handled.link
    obtain ⟨answering, receiver, powered, now, inputs, errors, earlies, start⟩ :=
      finishRequest_kept code cls (checkRequest cls holdOnly handler s)
    refine ⟨_, _, _, (served s).trans (serve_taken _ _ _ _ _ _ on quiet hunts fits), finishRequest_reply _ _ _,
      answering, receiver, ?_⟩
    exact ⟨powered.trans (link.powered.trans on), now.trans link.now, inputs.trans link.inputs,
      errors.trans link.frameErrors, earlies.trans link.earlyFrames, start.trans link.lastStart⟩
  case inHand =>
    intro c code f s request on hand
    obtain ⟨cls, holdOnly, handler, served, -⟩ := exec_request request
    refine ⟨fun ended => ?_, fun early whole => ?_, fun stands => ?_⟩
    · rw [served, served]
      refine serve_congr_settled _ _ _ _ _ on on (Eq.trans ?_ (settleFrame_discardFrame s).symm)
      rcases ended with failed | ⟨growing, late⟩
      · exact settleFrame_of_failed hand failed
      · exact settleFrame_of_late hand growing late
    · obtain ⟨code', body', whole⟩ := whole
      rw [served, served]
      exact serve_congr_settled _ _ _ _ _ on on
        ((settleFrame_of_early hand whole early).trans (settleFrame_discardEarly s).symm)
    · have settled : settleFrame s = s := by
        rcases stands with ⟨growing, inTime⟩ | ⟨inTurn, code', body', whole⟩
        · exact settleFrame_of_growing hand growing inTime
        · exact settleFrame_of_waiting hand whole inTurn
      simp only [served, serve_powered _ _ _ _ _ on, settled]
      refine ⟨fun other => ?_, fun own long => ?_, fun own fits => ⟨fun early => ?_, fun inTurn quiet => ?_⟩⟩
      · rw [receiveRequest_other hand other]
      · rw [receiveRequest_own hand own, endFrame_tooLong long]
        rfl
      · rw [receiveRequest_own hand own, endFrame_early fits (by simpa [or_comm] using early)]
        rfl
      · rw [receiveRequest_own hand own, endFrame_inTurn fits (by simp [inTurn, quiet])]
        exact (serve_taken code cls holdOnly (requestBody c) handler { s with receiver := .hunting } on quiet rfl
          fits).symm

/-- Settles O14: an owner that refuses leaves the state (`Owned`), and a refusal does not touch the changed flag. -/
theorem refusedRequestsChangeNothing : Obligations.RefusedRequestsChangeNothing := by
  rintro c code s t status body request ⟨on, quiet, hunts⟩ fits next reply notOk notAccepted
  obtain ⟨cls, holdOnly, handler, served, owned⟩ := exec_request request
  have owner := checkRequest_owned cls holdOnly handler s fun handle h => owned handle h s
  rw [served, serve_taken _ _ _ _ _ _ on quiet hunts fits] at next
  cases next
  rw [finishRequest_reply] at reply
  generalize checkRequest cls holdOnly handler s = r at reply owner ⊢
  obtain ⟨status', body', state'⟩ := r
  cases reply
  have unchanged : state' = s := owner.refused notOk notAccepted
  exact ⟨by rw [finishRequest_plain_of_refused notOk, unchanged], owner.body notOk⟩

/-- Settles O15, mode by mode. -/
theorem requestEndMovesModeAndSupervision : Obligations.RequestEndMovesModeAndSupervision := by
  intro code cls r
  refine ⟨?idle, ?run, ?follows, ?holds, ?returnsStandalone, ?returnsRun, ?returnsElse⟩
  case idle =>
    rintro (mode | mode) <;>
    simp [finishRequest, followHost, mode, superviseRequest, supervisionRuns, changedAfter]
  case run =>
    intro mode
    simp [finishRequest, followHost, mode, superviseRequest, supervisionRuns, supervisionStart, changedAfter]
  case follows =>
    intro mode other
    have follows : code ≠ enterHoldCode := other
    simp [finishRequest, followHost, mode, superviseRequest, supervisionRuns, supervisionStart, changedAfter, follows,
      changeMode, raise]
    exact ⟨rfl, rfl⟩
  case holds =>
    intro mode entersHold
    have holds : code = enterHoldCode := entersHold
    simp [finishRequest, followHost, mode, superviseRequest, supervisionRuns, changedAfter, holds]
  case returnsStandalone =>
    intro mode returnMode
    simp [finishRequest, followHost, mode, superviseRequest, supervisionRuns, supervisionStart, changedAfter,
      returnMode]
  case returnsRun =>
    intro mode returnMode
    simp [finishRequest, followHost, mode, superviseRequest, supervisionRuns, supervisionStart, changedAfter,
      returnMode]
  case returnsElse =>
    intro mode notStandalone notRun
    simp [finishRequest, followHost, mode, superviseRequest, supervisionRuns, changedAfter, notStandalone, notRun]

end Sys2Proof.Proofs


/-! SUPPORT and PROOFS. The receiver of the host link: the CRC, the judgement of a frame, and what moves it (R191,
R201). -/

namespace Sys2Proof.Machine

open Sys2Proof.Claims

/-! ## The CRC (R191) -/

theorem crcShift_eq (r : Word16) :
    crcShift r = if 0x8000 ≤ r.toNat then (r <<< 1) ^^^ 0x1021 else r <<< 1 := by
  simp [crcShift, BitVec.msb_eq_decide]

theorem append_zero_byte (b : Byte) : (b ++ (0 : Byte) : Word16) = BitVec.ofNat 16 (b.toNat * 256) := by
  apply BitVec.eq_of_toNat_eq
  have small := b.isLt
  have appended := BitVec.toNat_append b (0 : Byte)
  simp only [BitVec.toNat_ofNat, Nat.shiftLeft_eq] at appended ⊢
  exact appended.trans (by simp; omega)

theorem crc_append_byte (bytes : List Byte) (b : Byte) : crc (bytes ++ [b]) = crcByte (crc bytes) b := by
  simp [crc]

/-! ## The judgement of a frame (R191, R201) -/

theorem wordBytes_eq_iff {n : Nat} (small : n < 65536) (hi lo : Byte) :
    wordBytes n = [hi, lo] ↔ n = hi.toNat * 256 + lo.toNat := by
  have hiSmall := hi.isLt
  have loSmall := lo.isLt
  simp only [wordBytes, byteOf, List.cons.injEq, and_true]
  constructor
  · rintro ⟨rfl, rfl⟩
    simp only [BitVec.toNat_ofNat]
    omega
  · intro h
    constructor <;> apply BitVec.eq_of_toNat_eq <;> simp only [BitVec.toNat_ofNat] <;> omega

theorem judgeFrame_broken (early : Bool) (bytes : List Byte) (last : Nat) :
    judgeFrame ⟨early, bytes, true, last⟩ = .failed := rfl

theorem judgeFrame_short {early : Bool} {bytes : List Byte} {last : Nat} (short : bytes.length < 2) :
    judgeFrame ⟨early, bytes, false, last⟩ = .growing := by
  match bytes, short with
  | [], _ => rfl
  | [_], _ => rfl

theorem judgeFrame_tooLong {early : Bool} {hi lo : Byte} {rest : List Byte} {last : Nat}
    (long : 1024 < hi.toNat * 256 + lo.toNat) : judgeFrame ⟨early, hi :: lo :: rest, false, last⟩ = .failed := by
  simp [judgeFrame, Config.hostBodyLimit, long]

theorem judgeFrame_lacking {early : Bool} {hi lo : Byte} {rest : List Byte} {last : Nat}
    (fits : hi.toNat * 256 + lo.toNat ≤ 1024) (lacks : rest.length < hi.toNat * 256 + lo.toNat + 3) :
    judgeFrame ⟨early, hi :: lo :: rest, false, last⟩ = .growing := by
  have notLong := Nat.not_lt.mpr fits
  cases rest with
  | nil => simp [judgeFrame, Config.hostBodyLimit, notLong]
  | cons code tail =>
    have short : tail.length < hi.toNat * 256 + lo.toNat + 2 := by
      simp only [List.length_cons] at lacks
      omega
    simp [judgeFrame, Config.hostBodyLimit, notLong, short]

theorem crcAgrees_append (covered : List Byte) (high low : Byte) :
    crcAgrees (covered ++ [high, low]) = true ↔ (crc covered).toNat = high.toNat * 256 + low.toNat := by
  have small : (crc covered).toNat < 65536 := (crc covered).isLt
  simp [crcAgrees, wordBytes_eq_iff small]

/-- A frame that has all its bytes is whole or failed, by its CRC. -/
theorem judgeFrame_complete {early : Bool} {hi lo code high low : Byte} {body : List Byte} {last : Nat}
    (fits : hi.toNat * 256 + lo.toNat ≤ 1024) (size : body.length = hi.toNat * 256 + lo.toNat) :
    judgeFrame ⟨early, hi :: lo :: (code :: body ++ [high, low]), false, last⟩
      = if (crc (hi :: lo :: code :: body)).toNat = high.toNat * 256 + low.toNat then .whole code body
        else .failed := by
  have notLong : ¬ 1024 < body.length := by omega
  have agrees := crcAgrees_append (hi :: lo :: code :: body) high low
  simp only [List.cons_append] at agrees
  simp only [judgeFrame, Config.hostBodyLimit, notLong, List.cons_append, ← size, if_false, Bool.false_eq_true]
  rw [if_neg (by simp)]
  simp only [agrees, List.take_left]

theorem frameTail_eq (code : Byte) (body : List Byte) :
    frameTail code.toNat body = byteOf (body.length / 256) :: byteOf body.length :: (code :: body
      ++ wordBytes (crc (byteOf (body.length / 256) :: byteOf body.length :: code :: body)).toNat) := by
  have same : byteOf code.toNat = code := (byte_eq_of_toNat rfl).symm
  simp [frameTail, wordBytes, same]

theorem judgeFrame_frameTail {code : Byte} {body : List Byte} {early : Bool} {last : Nat} (fits : body.length ≤ 1024) :
    judgeFrame ⟨early, frameTail code.toNat body, false, last⟩ = .whole code body := by
  have length := (wordBytes_eq_iff (n := body.length) (by omega) _ _).mp rfl
  rw [frameTail_eq]
  generalize crcWord : (crc (byteOf (body.length / 256) :: byteOf body.length :: code :: body)).toNat = n
  have small : n < 65536 := crcWord ▸ (crc _).isLt
  refine (judgeFrame_complete (by omega) length).trans (if_pos ?_)
  rw [crcWord]
  exact (wordBytes_eq_iff small _ _).mp rfl

/-! ## Bytes and discards -/

theorem receiveByte_of_settled {b : LinkByte} {s t : State} (h : settleFrame s = settleFrame t) :
    receiveByte b s = receiveByte b t := by
  unfold receiveByte
  rw [h]

theorem receiveByte_hunting {b : LinkByte} {s : State} (hunts : s.receiver = .hunting) :
    receiveByte b s = huntByte b s := by
  simp only [receiveByte, settleFrame_hunting s hunts, hunts]

theorem receiveByte_collecting {b : LinkByte} {s : State} {f : HostFrame} (hand : s.receiver = .collecting f)
    (stands : settleFrame s = s) : receiveByte b s = growFrame b f s := by
  simp only [receiveByte, stands, hand]

theorem discardEnded_powered (f : HostFrame) (s : State) : (discardEnded f s).powered = s.powered := by
  unfold discardEnded
  split
  · rfl
  · rfl
  · split <;> rfl

theorem discardLate_powered (f : HostFrame) (s : State) : (discardLate f s).powered = s.powered := by
  unfold discardLate
  split <;> rfl

theorem withFrame_powered {act : HostFrame → State → State} (h : ∀ f s, (act f s).powered = s.powered) (s : State) :
    (withFrame act s).powered = s.powered := by
  unfold withFrame
  split
  · rfl
  · exact h _ s

@[simp] theorem settleFrame_powered (s : State) : (settleFrame s).powered = s.powered :=
  (withFrame_powered discardLate_powered _).trans (withFrame_powered discardEnded_powered s)

@[simp] theorem receiveByte_powered (b : LinkByte) (s : State) : (receiveByte b s).powered = s.powered := by
  rw [← settleFrame_powered s]
  unfold receiveByte
  dsimp only
  split
  · unfold huntByte
    split <;> rfl
  · unfold growFrame
    split <;> rfl

/-! ## The link's commands under main power -/

theorem exec_hostFrameDiscarded {s : State} (on : s.powered = true) (bytes : List LinkByte) :
    exec (.hostFrameDiscarded bytes) s = .next (withFrame discardEnded (forEach bytes receiveByte s)) :=
  powered_on on

theorem exec_hostFrameDiscarded_cons {s : State} (on : s.powered = true) (b : LinkByte) (bytes : List LinkByte) :
    exec (.hostFrameDiscarded (b :: bytes)) s = exec (.hostFrameDiscarded bytes) (receiveByte b s) := by
  rw [exec_hostFrameDiscarded on, exec_hostFrameDiscarded ((receiveByte_powered b s).trans on), forEach_cons]

theorem exec_hostFrameDiscarded_nil {s : State} (on : s.powered = true) :
    exec (.hostFrameDiscarded []) s = .next (withFrame discardEnded s) := exec_hostFrameDiscarded on []

theorem exec_hostByteTimeout {s : State} (on : s.powered = true) :
    exec .hostByteTimeout s = .next (withFrame discardLate s) := powered_on on

theorem withFrame_collecting {act : HostFrame → State → State} {s : State} {f : HostFrame}
    (hand : s.receiver = .collecting f) : withFrame act s = act f s := by
  simp only [withFrame, hand]

theorem discardLate_of_judged {s : State} {f : HostFrame} (judged : judgeFrame f ≠ .growing) : discardLate f s = s := by
  simp [discardLate, frameLate, judged]

end Sys2Proof.Machine

namespace Sys2Proof.Claims

open Sys2Proof.Machine

theorem crcLaw_holds : crcLaw := by
  refine ⟨rfl, fun bytes b => ?_⟩
  rw [crc_append_byte]
  simp only [crcByte, crcShift_eq, append_zero_byte]

theorem frameLaw_holds : frameLaw := by
  refine ⟨judgeFrame_broken, fun _ _ _ => judgeFrame_short, fun early hi lo rest last => ?_,
    fun _ _ _ _ => judgeFrame_frameTail⟩
  refine ⟨judgeFrame_tooLong, judgeFrame_lacking, ?_⟩
  rintro code body high low fits size rfl
  have judged := judgeFrame_complete (early := early) (last := last) (code := code) (high := high) (low := low)
    fits size
  exact ⟨fun agrees => judged.trans (if_pos agrees), fun differs => judged.trans (if_neg differs)⟩

end Sys2Proof.Claims

namespace Sys2Proof.Proofs

open Sys2Proof.Machine Sys2Proof.Claims

/-- Settles O16: the CRC and the judgement by their laws; the receiver by what `settleFrame` makes of the frame in
hand. -/
theorem linkEventsMoveTheReceiver : Obligations.LinkEventsMoveTheReceiver := by
  refine ⟨crcLaw_holds, frameLaw_holds, fun s on => ⟨powered_on on, exec_hostFrameDiscarded_cons on, ?hunting,
    ?collecting, powered_on on⟩⟩
  all_goals rw [exec_hostFrameDiscarded_nil on, exec_hostByteTimeout on]
  case hunting =>
    intro hunts
    have nothing : ∀ act, withFrame act s = s := fun act => by simp only [withFrame, hunts]
    refine ⟨?_, fun b other => ?_, congrArg _ (nothing _), congrArg _ (nothing _)⟩
    · rw [receiveByte_hunting hunts]
      exact if_pos rfl
    · rw [receiveByte_hunting hunts]
      exact if_neg other
  case collecting =>
    intro f hand
    rw [withFrame_collecting hand, withFrame_collecting hand]
    refine ⟨fun ⟨growing, inTime⟩ => ?_, fun ⟨growing, late⟩ => ?_, fun failed => ?_,
      fun ⟨code, body, whole⟩ early => ?_, fun ⟨code, body, whole⟩ inTurn => ?_⟩
    · have notLate : ¬ f.last + 20 < s.now := Nat.not_lt.mpr inTime
      refine ⟨fun b => ?_, ?_, ?_⟩
      · rw [receiveByte_collecting hand (settleFrame_of_growing hand growing inTime), growFrame, if_pos growing]
      · simp [discardEnded, growing]
      · simp [discardLate, frameLate, growing, Config.byteGapMs, notLate]
    · refine ⟨fun b => receiveByte_of_settled ?_, ?_, ?_⟩
      · exact (settleFrame_of_late hand growing late).trans (settleFrame_discardFrame s).symm
      · simp [discardEnded, growing]
      · simp [discardLate, frameLate, growing, Config.byteGapMs, late, discardFrame]
    · refine ⟨fun b => receiveByte_of_settled ?_, ?_, congrArg _ (discardLate_of_judged (by simp [failed]))⟩
      · exact (settleFrame_of_failed hand failed).trans (settleFrame_discardFrame s).symm
      · simp [discardEnded, failed, discardFrame]
    · refine ⟨fun b => receiveByte_of_settled ?_, ?_, congrArg _ (discardLate_of_judged (by simp [whole]))⟩
      · exact (settleFrame_of_early hand whole early).trans (settleFrame_discardEarly s).symm
      · simp [discardEnded, whole, early, discardEarly]
    · refine ⟨fun b => ?_, ?_, congrArg _ (discardLate_of_judged (by simp [whole]))⟩
      · rw [receiveByte_collecting hand (settleFrame_of_waiting hand whole inTurn), growFrame,
          if_neg (by simp [whole])]
      · simp [discardEnded, whole, inTurn]

end Sys2Proof.Proofs


/-! SUPPORT and PROOFS. The checks of a request in order (R192): the length that a reader asks for (R193), the mode and
the store write that each request waits for. -/

namespace Sys2Proof.Machine

/-! ## Readers of a fixed length (R193) -/

/-- The reader takes `n` bytes of every body that has as many, and none of a shorter one. -/
def TakesBytes {α : Type} (r : Reader α) (n : Nat) : Prop :=
  ∀ body : List Byte, (body.length < n → r body = none)
    ∧ (n ≤ body.length → ∃ x, r body = some (x, body.drop n))

theorem takesBytes_pure {α : Type} (x : α) : TakesBytes (pure x : Reader α) 0 :=
  fun _ => ⟨fun h => absurd h (Nat.not_lt_zero _), fun _ => ⟨x, rfl⟩⟩

theorem takesBytes_takeByte : TakesBytes takeByte 1 := by
  intro body
  cases body with
  | nil => exact ⟨fun _ => rfl, fun h => absurd h (by decide)⟩
  | cons b rest => exact ⟨fun h => absurd h (by simp), fun _ => ⟨_, rfl⟩⟩

theorem TakesBytes.bind {α β : Type} {r : Reader α} {f : α → Reader β} {m n : Nat} (h : TakesBytes r m)
    (k : ∀ x, TakesBytes (f x) n) : TakesBytes (r >>= f) (m + n) := by
  intro body
  rcases Nat.lt_or_ge body.length m with short | enough
  · refine ⟨fun _ => ?_, fun long => absurd long (by omega)⟩
    rw [reader_bind, (h body).1 short]
    rfl
  · obtain ⟨x, taken⟩ := (h body).2 enough
    have rest : (body.drop m).length = body.length - m := List.length_drop
    rw [reader_bind, taken]
    refine ⟨fun short => (k x (body.drop m)).1 (by omega), fun long => ?_⟩
    obtain ⟨y, last⟩ := (k x (body.drop m)).2 (by omega)
    exact ⟨y, last.trans (by rw [List.drop_drop])⟩

theorem takesBytes_map {α β : Type} {r : Reader α} {n : Nat} (h : TakesBytes r n) (f : α → β) :
    TakesBytes (r >>= fun x => pure (f x)) n := h.bind fun _ => takesBytes_pure _

theorem takesBytes_takeWord : TakesBytes takeWord 2 :=
  takesBytes_takeByte.bind fun _ => takesBytes_map takesBytes_takeByte _

theorem takesBytes_takeSigned : TakesBytes takeSigned 2 := takesBytes_map takesBytes_takeWord _

theorem takesBytes_takePoint : TakesBytes takePoint 3 :=
  takesBytes_takeByte.bind fun _ => takesBytes_takeByte.bind fun _ => takesBytes_map takesBytes_takeByte _

theorem takesBytes_takeMany {α : Type} {item : Reader α} {m : Nat} (h : TakesBytes item m) (n : Nat) :
    TakesBytes (takeMany item n) (n * m) := by
  induction n with
  | zero =>
    rw [Nat.zero_mul]
    exact takesBytes_pure _
  | succ n ih =>
    rw [Nat.succ_mul, Nat.add_comm (n * m)]
    exact h.bind fun x => takesBytes_map ih (x :: ·)

/-- A whole body is read exactly when it has the length. -/
theorem TakesBytes.readWhole_isSome {α : Type} {r : Reader α} {n : Nat} (h : TakesBytes r n) (body : List Byte) :
    (readWhole r body).isSome = true ↔ body.length = n := by
  unfold readWhole
  rcases Nat.lt_or_ge body.length n with short | enough
  · rw [(h body).1 short]
    simp only [Option.isSome_none, Bool.false_eq_true, false_iff]
    omega
  · obtain ⟨x, taken⟩ := (h body).2 enough
    have left : (body.drop n).length = body.length - n := List.length_drop
    rw [taken]
    cases rest : body.drop n with
    | nil =>
      rw [rest] at left
      simp only [List.length_nil] at left
      simp only [Option.isSome_some, true_iff]
      omega
    | cons b more =>
      rw [rest] at left
      simp only [List.length_cons] at left
      simp only [Option.isSome_none, Bool.false_eq_true, false_iff]
      omega

/-! ## Readers whose length the body gives -/

/-- The first byte is read, and what is read after it may depend on it. -/
theorem readWhole_takeByte_bind {α : Type} (f : Nat → Reader α) (b : Byte) (rest : List Byte) :
    readWhole (takeByte >>= f) (b :: rest) = readWhole (f b.toNat) rest := rfl

/-- A fixed length is read first: the rest of the body decides. -/
theorem TakesBytes.readWhole_bind {α β : Type} {r : Reader α} {f : α → Reader β} {n : Nat} (h : TakesBytes r n)
    (P : List Byte → Prop) (k : ∀ x body, (readWhole (f x) body).isSome = true ↔ P body) (body : List Byte) :
    (readWhole (r >>= f) body).isSome = true ↔ n ≤ body.length ∧ P (body.drop n) := by
  rcases Nat.lt_or_ge body.length n with short | enough
  · have none : readWhole (r >>= f) body = none := by
      unfold readWhole
      rw [reader_bind, (h body).1 short]
      rfl
    simp only [none, Option.isSome_none, Bool.false_eq_true, false_iff]
    omega
  · obtain ⟨x, taken⟩ := (h body).2 enough
    have same : readWhole (r >>= f) body = readWhole (f x) (body.drop n) := by
      unfold readWhole
      rw [reader_bind, taken]
      rfl
    rw [same, k x]
    exact ⟨fun p => ⟨enough, p⟩, fun p => p.2⟩

/-- A list of items of `m` bytes under its count byte, and what follows it. -/
theorem readWhole_takeList_bind {α β : Type} {item : Reader α} {m : Nat} (h : TakesBytes item m)
    (f : List α → Reader β) (P : List Byte → Prop) (k : ∀ x body, (readWhole (f x) body).isSome = true ↔ P body)
    (body : List Byte) :
    (readWhole (takeList item >>= f) body).isSome = true
      ↔ 1 + (body.getD 0 0).toNat * m ≤ body.length ∧ P (body.drop (1 + (body.getD 0 0).toNat * m)) := by
  cases body with
  | nil =>
    simp only [List.length_nil, List.getD_nil]
    constructor
    · intro read
      exact absurd read Bool.false_ne_true
    · intro h
      exact absurd h.1 (by simp)
  | cons b rest =>
    have same : readWhole (takeList item >>= f) (b :: rest) = readWhole (takeMany item b.toNat >>= f) rest := rfl
    rw [same, (takesBytes_takeMany h b.toNat).readWhole_bind P k]
    simp only [List.getD_cons_zero, List.length_cons, Nat.add_comm 1, List.drop_succ_cons, Nat.add_le_add_iff_right]

theorem takesBytes_takeClock : TakesBytes takeClock 7 :=
  takesBytes_takeByte.bind fun _ => takesBytes_takeByte.bind fun _ => takesBytes_takeWord.bind fun _ =>
    takesBytes_takeByte.bind fun _ => takesBytes_takeByte.bind fun _ => takesBytes_map takesBytes_takeByte _

theorem takesBytes_takeShift : TakesBytes takeShift 70 :=
  takesBytes_takeByte.bind (n := 69) fun _ => takesBytes_takeWord.bind (n := 67) fun _ =>
  takesBytes_takeByte.bind (n := 66) fun _ => takesBytes_takeWord.bind (n := 64) fun _ =>
  (takesBytes_takeMany takesBytes_takeWord 16).bind (n := 32) fun _ =>
  (takesBytes_takeMany takesBytes_takeSigned 4).bind (n := 24) fun _ =>
  (takesBytes_takeMany takesBytes_takeSigned 4).bind (n := 16) fun _ =>
  (takesBytes_takeMany takesBytes_takeWord 4).bind (n := 8) fun _ =>
  takesBytes_takeWord.bind (n := 6) fun _ => takesBytes_takeWord.bind (n := 4) fun _ =>
  takesBytes_takeWord.bind (n := 2) fun _ => takesBytes_takeByte.bind (n := 1) fun _ =>
  takesBytes_map takesBytes_takeByte _

theorem takesBytes_takeWriteShift : TakesBytes takeWriteShift 71 :=
  takesBytes_takeByte.bind (n := 70) fun _ => takesBytes_map takesBytes_takeShift _

theorem takesBytes_takeException : TakesBytes takeException 3 :=
  takesBytes_takeByte.bind fun _ => takesBytes_takeByte.bind fun _ => takesBytes_map takesBytes_takeByte _

theorem takesBytes_takeExceptionDate : TakesBytes takeExceptionDate 2 :=
  takesBytes_takeByte.bind fun _ => takesBytes_map takesBytes_takeByte _

theorem takesBytes_takeGas : TakesBytes takeGas 4 :=
  takesBytes_takePoint.bind fun _ => takesBytes_map takesBytes_takeByte _

theorem takesBytes_takeLoad : TakesBytes takeLoad 15 :=
  takesBytes_takeByte.bind fun _ => takesBytes_takeByte.bind fun _ => takesBytes_takeByte.bind fun _ =>
  takesBytes_takePoint.bind fun _ => takesBytes_takeWord.bind fun _ => takesBytes_takeByte.bind fun _ =>
  takesBytes_takeByte.bind fun _ => takesBytes_takeByte.bind fun _ => takesBytes_takeWord.bind fun _ =>
  takesBytes_map takesBytes_takeWord _

theorem takesBytes_takeNode : TakesBytes takeNode 4 :=
  takesBytes_takeByte.bind fun _ => takesBytes_takeByte.bind fun _ => takesBytes_takeByte.bind fun _ =>
  takesBytes_map takesBytes_takeByte _

theorem takesBytes_takeLineAddr : TakesBytes takeLineAddr 2 :=
  takesBytes_takeByte.bind fun _ => takesBytes_map takesBytes_takeByte _

theorem takesBytes_takeScan : TakesBytes takeScan 5 :=
  takesBytes_takeByte.bind fun _ => takesBytes_takeByte.bind fun _ => takesBytes_takeByte.bind fun _ =>
  takesBytes_takeByte.bind fun _ => takesBytes_map takesBytes_takeByte _

theorem takesBytes_takeScanKey : TakesBytes takeScanKey 3 :=
  takesBytes_takeByte.bind fun _ => takesBytes_takeByte.bind fun _ => takesBytes_map takesBytes_takeByte _

theorem takesBytes_takeLineParameters : TakesBytes takeLineParameters 4 :=
  takesBytes_takeByte.bind fun _ => takesBytes_takeWord.bind fun _ => takesBytes_map takesBytes_takeByte _

theorem takesBytes_takeFilter : TakesBytes takeFilter 7 :=
  (takesBytes_takeMany takesBytes_takeByte 5).bind (n := 2) fun _ => takesBytes_takeByte.bind fun _ =>
  takesBytes_map takesBytes_takeByte _

theorem takesBytes_takeDoorParams : TakesBytes takeDoorParams 6 :=
  takesBytes_takeWord.bind fun _ => takesBytes_takeByte.bind fun _ => takesBytes_takeByte.bind fun _ =>
  takesBytes_map takesBytes_takeWord _

theorem takesBytes_takeOccupancy : TakesBytes takeOccupancy 5 :=
  takesBytes_takeByte.bind fun _ => takesBytes_takeWord.bind fun _ => takesBytes_map takesBytes_takeWord _

theorem takesBytes_takeLighting : TakesBytes takeLighting 8 :=
  takesBytes_takeWord.bind fun _ => takesBytes_takeWord.bind fun _ => takesBytes_takeWord.bind fun _ =>
  takesBytes_map takesBytes_takeWord _

theorem takesBytes_takeClimate : TakesBytes takeClimate 10 :=
  takesBytes_takeByte.bind fun _ => takesBytes_takeWord.bind fun _ => takesBytes_takeWord.bind fun _ =>
  takesBytes_takeWord.bind fun _ => takesBytes_takeWord.bind fun _ => takesBytes_map takesBytes_takeByte _

theorem takesBytes_takeBudget : TakesBytes takeBudget 8 :=
  takesBytes_takeWord.bind fun _ => takesBytes_takeByte.bind fun _ => takesBytes_takeByte.bind fun _ =>
  takesBytes_takeWord.bind fun _ => takesBytes_map takesBytes_takeWord _

theorem takesBytes_takeHostLink : TakesBytes takeHostLink 3 :=
  takesBytes_takeWord.bind fun _ => takesBytes_map takesBytes_takeByte _

theorem takesBytes_takeLightOverride : TakesBytes takeLightOverride 4 :=
  takesBytes_takeByte.bind fun _ => takesBytes_takeWord.bind fun _ => takesBytes_map takesBytes_takeByte _

theorem takesBytes_takeSetpointOverride : TakesBytes takeSetpointOverride 5 :=
  takesBytes_takeByte.bind fun _ => takesBytes_takeSigned.bind fun _ => takesBytes_map takesBytes_takeWord _

theorem takesBytes_takeCurtail : TakesBytes takeCurtail 4 :=
  takesBytes_takeWord.bind fun _ => takesBytes_map takesBytes_takeWord _

theorem takesBytes_takeService : TakesBytes takeService 3 :=
  takesBytes_takeByte.bind fun _ => takesBytes_takeByte.bind fun _ => takesBytes_map takesBytes_takeByte _

theorem takesBytes_takeWrite : TakesBytes takeWrite 5 :=
  takesBytes_takePoint.bind fun _ => takesBytes_map takesBytes_takeWord _

/-! ## Bodies of a length that they give themselves -/

theorem readAction_isSome {α β : Type} {definition : Reader α} {removal : Reader β} {n : Nat} {P : List Byte → Prop}
    (h : ∀ body, (readWhole definition body).isSome = true ↔ P body) (k : TakesBytes removal n) (body : List Byte) :
    (readAction definition removal body).isSome = true ↔ Claims.actionLength P n body := by
  cases body with
  | nil => exact ⟨fun read => absurd read Bool.false_ne_true, False.elim⟩
  | cons action rest =>
    simp only [readAction, Claims.actionLength]
    split
    · rename_i zero
      have isZero : action = 0 := Claims.byte_eq_of_toNat zero
      simp [isZero, h rest]
    · rename_i one
      have isOne : action = 1 := Claims.byte_eq_of_toNat one
      simp [isOne, k.readWhole_isSome rest]
    · rename_i notZero notOne
      have h0 : action ≠ 0 := fun h => notZero (by rw [h]; rfl)
      have h1 : action ≠ 1 := fun h => notOne (by rw [h]; rfl)
      simp only [Option.isSome_some, true_iff]
      exact ⟨fun h => absurd h h0, fun h => absurd h h1⟩

theorem readWhole_pure_isSome {α : Type} (x : α) (body : List Byte) :
    (readWhole (pure x : Reader α) body).isSome = true ↔ body.length = 0 :=
  (takesBytes_pure x).readWhole_isSome body

theorem getD_drop (l : List Byte) (i j : Nat) (d : Byte) : (l.drop i).getD j d = l.getD (i + j) d := by
  simp only [List.getD_eq_getElem?_getD, List.getElem?_drop]

theorem readWhole_takeZone (body : List Byte) :
    (readWhole takeZone body).isSome = true ↔ body.length = 7 + 4 * (body.getD 5 0).toNat
      + 3 * (body.getD (6 + 4 * (body.getD 5 0).toNat) 0).toNat := by
  have sources := fun (f : List RawPoint → RawZone) => readWhole_takeList_bind takesBytes_takePoint
    (fun l => pure (f l)) (fun body => body.length = 0) fun x => readWhole_pure_isSome _
  have gases := fun (f : List RawGas → List RawPoint → RawZone) => readWhole_takeList_bind takesBytes_takeGas
    (fun l => takeList takePoint >>= fun p => pure (f l p)) _ fun l => sources (f l)
  have whole := takesBytes_takeByte.readWhole_bind _ fun zone => takesBytes_takeByte.readWhole_bind _ fun kind =>
    takesBytes_takePoint.readWhole_bind _ fun temperature => gases (RawZone.mk zone kind temperature)
  refine (whole body).trans ?_
  simp only [List.length_drop, getD_drop, List.drop_drop, Nat.add_zero, Nat.reduceAdd]
  rw [show 5 + (1 + (body.getD 5 0).toNat * 4) = 6 + 4 * (body.getD 5 0).toNat by omega]
  omega

theorem readWhole_takeDoor (body : List Byte) :
    (readWhole takeDoor body).isSome = true ↔ body.length = 9 + (body.getD 5 0).toNat := by
  have back : ∀ f : Nat → Nat → RawDoor, TakesBytes (do
      let curtain ← takeByte
      let boost ← takeWord
      return f curtain boost) 3 :=
    fun _ => takesBytes_takeByte.bind fun _ => takesBytes_map takesBytes_takeWord _
  have rest := fun (f : List Nat → Nat → Nat → RawDoor) => readWhole_takeList_bind takesBytes_takeByte _ _
    fun l => (back (f l)).readWhole_isSome
  have whole := takesBytes_takeByte.readWhole_bind _ fun door => takesBytes_takePoint.readWhole_bind _ fun binding =>
    takesBytes_takeByte.readWhole_bind _ fun zone => rest (RawDoor.mk door binding zone)
  refine (whole body).trans ?_
  simp only [List.length_drop, getD_drop, List.drop_drop, Nat.add_zero, Nat.reduceAdd]
  omega

theorem readWhole_takeDaylight (body : List Byte) :
    (readWhole takeDaylight body).isSome = true
      ↔ body.length = if (body.drop 1).take 3 = [0xFF, 0xFF, 0xFF] then 4 else 6 := by
  match body with
  | [] => decide
  | [_] => simp [readWhole, takeDaylight, takePoint, reader_bind, takeByte]
  | [_, b] => simp [readWhole, takeDaylight, takePoint, reader_bind, takeByte]
  | [_, b, c] => simp [readWhole, takeDaylight, takePoint, reader_bind, takeByte]
  | a :: b :: c :: d :: rest =>
    have named : (⟨b.toNat, c.toNat, d.toNat⟩ : RawPoint) = noPoint ↔ [b, c, d] = [0xFF, 0xFF, 0xFF] := by
      simp only [noPoint, RawPoint.mk.injEq, List.cons.injEq, and_true]
      constructor
      · rintro ⟨hb, hc, hd⟩
        exact ⟨Claims.byte_eq_of_toNat hb, Claims.byte_eq_of_toNat hc, Claims.byte_eq_of_toNat hd⟩
      · rintro ⟨rfl, rfl, rfl⟩
        exact ⟨rfl, rfl, rfl⟩
    have same : readWhole takeDaylight (a :: b :: c :: d :: rest)
        = readWhole (if (⟨b.toNat, c.toNat, d.toNat⟩ : RawPoint) = noPoint then pure ⟨a.toNat, none⟩
          else takeWord >>= fun target => pure ⟨a.toNat, some (⟨b.toNat, c.toNat, d.toNat⟩, target)⟩) rest := rfl
    rw [same]
    simp only [List.drop_succ_cons, List.drop_zero, List.take_succ_cons, List.take_zero, List.length_cons]
    by_cases absent : [b, c, d] = [0xFF, 0xFF, 0xFF]
    · rw [if_pos (named.mpr absent), if_pos absent, readWhole_pure_isSome]
      omega
    · rw [if_neg (mt named.mp absent), if_neg absent, (takesBytes_map takesBytes_takeWord _).readWhole_isSome]
      omega

theorem takesBytes_takeReadPoint : TakesBytes takeReadPoint 4 :=
  takesBytes_takeByte.bind fun _ => takesBytes_takeByte.bind fun _ => takesBytes_takeByte.bind fun _ =>
  takesBytes_map takesBytes_takeByte _

theorem takesBytes_takeNothing : TakesBytes takeNothing 0 := takesBytes_pure _

theorem takesBytes_takeAnalog : TakesBytes takeAnalog 5 :=
  takesBytes_takeByte.bind fun _ => takesBytes_takeSigned.bind fun _ => takesBytes_map takesBytes_takeSigned _

theorem readFunction_isSome (body : List Byte) :
    (readFunction body).isSome = true ↔ Claims.rightLength (.setTerminalFunction body) := by
  match body with
  | [] => simp [readFunction, Claims.rightLength]
  | [_] => simp [readFunction, Claims.rightLength]
  | t :: f :: rest =>
    simp only [readFunction, Claims.rightLength, List.getD_cons_succ, List.getD_cons_zero, List.length_cons]
    by_cases named : f.toNat ≤ 11
    · rw [if_pos named, Option.isSome_map]
      unfold functionReader
      split
      · rename_i four
        simp only [four, (takesBytes_map takesBytes_takeWord _).readWhole_isSome]
        grind
      · rename_i six
        simp only [six, (takesBytes_map takesBytes_takeWord _).readWhole_isSome]
        grind
      · rename_i eight
        simp only [eight, takesBytes_takeAnalog.readWhole_isSome]
        grind
      · rename_i not4 not6 not8
        simp only [readWhole_pure_isSome]
        grind
    · rw [if_neg named, Option.isSome_some]
      simp only [true_iff]
      grind

theorem readGroup_isSome (body : List Byte) :
    (readGroup body).isSome = true ↔ Claims.rightLength (.readParameters body) := by
  match body with
  | [] => simp [readGroup, Claims.rightLength]
  | code :: rest =>
    simp only [readGroup, Claims.rightLength, List.getD_cons_zero, List.length_cons]
    split
    case h_9 =>
      simp only [Option.isSome_some, true_iff]
      grind
    all_goals
      rename_i group
      simp only [group, Option.isSome_map, takesBytes_takeNothing.readWhole_isSome,
        takesBytes_takeByte.readWhole_isSome]
      grind

theorem hostLinkHandler_isSome (body : HostLinkBody) :
    (hostLinkHandler body).isSome = true ↔ Claims.rightLength (.setParametersHostLink body) := by
  cases body with
  | group bytes =>
    simp only [hostLinkHandler, Option.isSome_map, takesBytes_takeHostLink.readWhole_isSome, Claims.rightLength]
  | noSuchGroup code bytes => exact ⟨fun _ => trivial, fun _ => rfl⟩
  | noGroup => exact ⟨fun h => absurd h Bool.false_ne_true, False.elim⟩

end Sys2Proof.Machine

namespace Sys2Proof.Claims

open Sys2Proof.Machine

/-! ## The checks of each request (R192, R194) -/

/-- A request's row in the checks: the length that R193 gives it, the mode and the store write that it waits for. -/
def IsChecked (c : Instr) (code : Nat) : Prop :=
  ∃ cls handler, (∀ s, exec c s = serve code cls (isHoldOnly c) (requestBody c) handler s)
    ∧ waitsForStore cls = waitsForWrite c ∧ (handler.isSome = true ↔ rightLength c)

theorem isChecked_of_reader {α : Type} {c : Instr} {code : Nat} {cls : RequestClass} {operand : Option α}
    {owner : α → State → Served}
    (he : ∀ s, exec c s = serve code cls (isHoldOnly c) (requestBody c) (operand.map owner) s)
    (hw : waitsForStore cls = waitsForWrite c) (hl : operand.isSome = true ↔ rightLength c) : IsChecked c code :=
  ⟨cls, operand.map owner, he, hw, by rw [Option.isSome_map]; exact hl⟩

theorem isChecked_of_length {α : Type} {c : Instr} {code : Nat} {cls : RequestClass} {r : Reader α} {n : Nat}
    {body : List Byte} {owner : α → State → Served} (h : TakesBytes r n)
    (he : ∀ s, exec c s = serve code cls (isHoldOnly c) (requestBody c) ((readWhole r body).map owner) s)
    (hw : waitsForStore cls = waitsForWrite c) (hl : (body.length = n) = rightLength c) : IsChecked c code :=
  isChecked_of_reader he hw (by rw [← hl]; exact h.readWhole_isSome body)

theorem exec_checked {c : Instr} {code : Nat} (h : requestCode c = some code) : IsChecked c code := by
  cases c with
  | unknownRequest r => cases h; exact ⟨.plain, _, fun _ => rfl, rfl, fun _ => trivial, fun _ => rfl⟩
  | identify b => cases h; exact isChecked_of_length takesBytes_takeNothing (fun _ => rfl) rfl rfl
  | enterHold b => cases h; exact isChecked_of_length takesBytes_takeNothing (fun _ => rfl) rfl rfl
  | enterRun b => cases h; exact isChecked_of_length takesBytes_takeNothing (fun _ => rfl) rfl rfl
  | restart b => cases h; exact isChecked_of_length takesBytes_takeNothing (fun _ => rfl) rfl rfl
  | storeSettings b => cases h; exact isChecked_of_length takesBytes_takeNothing (fun _ => rfl) rfl rfl
  | setClock b => cases h; exact isChecked_of_length takesBytes_takeClock (fun _ => rfl) rfl rfl
  | readClock b => cases h; exact isChecked_of_length takesBytes_takeNothing (fun _ => rfl) rfl rfl
  | writeShift b => cases h; exact isChecked_of_length takesBytes_takeWriteShift (fun _ => rfl) rfl rfl
  | readShift b => cases h; exact isChecked_of_length takesBytes_takeByte (fun _ => rfl) rfl rfl
  | deleteShift b => cases h; exact isChecked_of_length takesBytes_takeByte (fun _ => rfl) rfl rfl
  | writeException b => cases h; exact isChecked_of_length takesBytes_takeException (fun _ => rfl) rfl rfl
  | deleteException b => cases h; exact isChecked_of_length takesBytes_takeExceptionDate (fun _ => rfl) rfl rfl
  | readPlanState b => cases h; exact isChecked_of_length takesBytes_takeNothing (fun _ => rfl) rfl rfl
  | defineZone b =>
    cases h
    exact isChecked_of_reader (fun _ => rfl) rfl (readAction_isSome readWhole_takeZone takesBytes_takeByte b)
  | defineDoor b =>
    cases h
    exact isChecked_of_reader (fun _ => rfl) rfl (readAction_isSome readWhole_takeDoor takesBytes_takeByte b)
  | defineLoad b =>
    cases h
    exact isChecked_of_reader (fun _ => rfl) rfl
      (readAction_isSome takesBytes_takeLoad.readWhole_isSome takesBytes_takeByte b)
  | defineNode b =>
    cases h
    exact isChecked_of_reader (fun _ => rfl) rfl
      (readAction_isSome takesBytes_takeNode.readWhole_isSome takesBytes_takeLineAddr b)
  | defineScanEntry b =>
    cases h
    exact isChecked_of_reader (fun _ => rfl) rfl
      (readAction_isSome takesBytes_takeScan.readWhole_isSome takesBytes_takeScanKey b)
  | setTerminalFunction b => cases h; exact isChecked_of_reader (fun _ => rfl) rfl (readFunction_isSome b)
  | setParametersDaylight b => cases h; exact isChecked_of_reader (fun _ => rfl) rfl (readWhole_takeDaylight b)
  | setParametersHostLink b => cases h; cases b <;> exact ⟨_, _, fun _ => rfl, rfl, hostLinkHandler_isSome _⟩
  | readParameters b => cases h; exact isChecked_of_reader (fun _ => rfl) rfl (readGroup_isSome b)
  | setLineParameters b => cases h; exact isChecked_of_length takesBytes_takeLineParameters (fun _ => rfl) rfl rfl
  | setFilterTests b => cases h; exact isChecked_of_length takesBytes_takeFilter (fun _ => rfl) rfl rfl
  | setParametersDoor b => cases h; exact isChecked_of_length takesBytes_takeDoorParams (fun _ => rfl) rfl rfl
  | setParametersOccupancy b => cases h; exact isChecked_of_length takesBytes_takeOccupancy (fun _ => rfl) rfl rfl
  | setParametersLighting b => cases h; exact isChecked_of_length takesBytes_takeLighting (fun _ => rfl) rfl rfl
  | setParametersClimate b => cases h; exact isChecked_of_length takesBytes_takeClimate (fun _ => rfl) rfl rfl
  | setParametersBudget b => cases h; exact isChecked_of_length takesBytes_takeBudget (fun _ => rfl) rfl rfl
  | setParametersSettlement b => cases h; exact isChecked_of_length takesBytes_takeByte (fun _ => rfl) rfl rfl
  | lightOverride b => cases h; exact isChecked_of_length takesBytes_takeLightOverride (fun _ => rfl) rfl rfl
  | setpointOverride b => cases h; exact isChecked_of_length takesBytes_takeSetpointOverride (fun _ => rfl) rfl rfl
  | curtail b => cases h; exact isChecked_of_length takesBytes_takeCurtail (fun _ => rfl) rfl rfl
  | pinPresence b => cases h; exact isChecked_of_length takesBytes_takeByte (fun _ => rfl) rfl rfl
  | unpinPresence b => cases h; exact isChecked_of_length takesBytes_takeByte (fun _ => rfl) rfl rfl
  | flushPresence b => cases h; exact isChecked_of_length takesBytes_takeByte (fun _ => rfl) rfl rfl
  | setNodeService b => cases h; exact isChecked_of_length takesBytes_takeService (fun _ => rfl) rfl rfl
  | lineRestart b => cases h; exact isChecked_of_length takesBytes_takeByte (fun _ => rfl) rfl rfl
  | writePoint b => cases h; exact isChecked_of_length takesBytes_takeWrite (fun _ => rfl) rfl rfl
  | fetchPoint b => cases h; exact isChecked_of_length takesBytes_takePoint (fun _ => rfl) rfl rfl
  | readZone b => cases h; exact isChecked_of_length takesBytes_takeByte (fun _ => rfl) rfl rfl
  | readDoor b => cases h; exact isChecked_of_length takesBytes_takeByte (fun _ => rfl) rfl rfl
  | readLoad b => cases h; exact isChecked_of_length takesBytes_takeByte (fun _ => rfl) rfl rfl
  | readSettlement b => cases h; exact isChecked_of_length takesBytes_takeNothing (fun _ => rfl) rfl rfl
  | readWindows b => cases h; exact isChecked_of_length takesBytes_takeNothing (fun _ => rfl) rfl rfl
  | readNode b => cases h; exact isChecked_of_length takesBytes_takeLineAddr (fun _ => rfl) rfl rfl
  | readLine b => cases h; exact isChecked_of_length takesBytes_takeByte (fun _ => rfl) rfl rfl
  | readPoint b => cases h; exact isChecked_of_length takesBytes_takeReadPoint (fun _ => rfl) rfl rfl
  | readPresence b => cases h; exact isChecked_of_length takesBytes_takeByte (fun _ => rfl) rfl rfl
  | readEvents b => cases h; exact isChecked_of_length takesBytes_takeByte (fun _ => rfl) rfl rfl
  | collectNotices b => cases h; exact isChecked_of_length takesBytes_takeByte (fun _ => rfl) rfl rfl
  | _ => cases h

/-! ## The checks in order -/

theorem checkRequest_wrongMode {cls : RequestClass} {handle : State → Served} {s : State} (notHold : s.mode ≠ .hold) :
    checkRequest cls true (some handle) s = ⟨.wrongMode, [], s⟩ := by
  simp [checkRequest, notHold, refuse]

theorem checkRequest_busy {cls : RequestClass} {holdOnly : Bool} {handle : State → Served} {s : State}
    (mode : holdOnly = true → s.mode = .hold) (waits : waitsForStore cls = true) (storing : isStoring s = true) :
    checkRequest cls holdOnly (some handle) s = ⟨.busy, [], s⟩ := by
  have passes : (holdOnly && s.mode != .hold) = false := by
    cases holdOnly with
    | false => rfl
    | true => simp [mode rfl]
  simp [checkRequest, passes, waits, storing, refuse]

/-- A request that a check refuses is answered with the check's status, whatever its class. -/
theorem exec_refused {c : Instr} {code : Nat} {cls : RequestClass} {handler : Option (State → Served)} {s : State}
    {status : Status} (served : ∀ s, exec c s = serve code cls (isHoldOnly c) (requestBody c) handler s)
    (ready : canTake s) (fits : (requestBody c).length ≤ 1024) (notOk : status ≠ .ok)
    (refused : checkRequest cls (isHoldOnly c) handler s = ⟨status, [], s⟩) :
    exec c s = taken code .plain status [] s := by
  obtain ⟨on, quiet, hunts⟩ := ready
  rw [served, serve_taken _ _ _ _ _ _ on quiet hunts fits, refused, finishRequest_plain_of_refused notOk, taken]

end Sys2Proof.Claims

namespace Sys2Proof.Proofs

open Sys2Proof.Machine Sys2Proof.Claims

/-- Settles O17: each check by the row of its request (`exec_checked`). -/
theorem requestsAreCheckedInOrder : Obligations.RequestsAreCheckedInOrder := by
  refine ⟨?unknown, ?badLength, ?wrongMode, ?busy⟩
  case unknown =>
    rintro r s ⟨on, quiet, hunts⟩ fits -
    exact serve_taken _ _ _ _ _ _ on quiet hunts fits
  case badLength =>
    intro c code s request ready fits wrong
    obtain ⟨cls, handler, served, -, length⟩ := exec_checked request
    have absent : handler = none := Option.isNone_iff_eq_none.mp (by simpa using mt length.mp wrong)
    subst absent
    exact exec_refused served ready fits (by decide) rfl
  case wrongMode =>
    intro c code s request ready fits right holdOnly notHold
    obtain ⟨cls, handler, served, -, length⟩ := exec_checked request
    obtain ⟨handle, rfl⟩ := Option.isSome_iff_exists.mp (length.mpr right)
    refine exec_refused served ready fits (by decide) ?_
    rw [holdOnly]
    exact checkRequest_wrongMode notHold
  case busy =>
    intro c code s request ready fits right mode waits storing
    obtain ⟨cls, handler, served, wait, length⟩ := exec_checked request
    obtain ⟨handle, rfl⟩ := Option.isSome_iff_exists.mp (length.mpr right)
    refine exec_refused served ready fits (by decide) (checkRequest_busy mode (wait.trans waits) ?_)
    simpa [isStoring] using storing

end Sys2Proof.Proofs


/-! SUPPORT and PROOFS. The reset state (log 4), the notice queue (R199, R200) and the settings store (R197). -/

namespace Sys2Proof.Machine

open Sys2Proof.Claims

/-! ## The notice queue (R199) -/

theorem raise_of_room {kind : NoticeKind} {subject : Subject} {a b : Option Int} {s : State}
    (room : s.notices.length < 40) :
    raise kind subject a b s = { s with notices := s.notices ++ [⟨kind, s.now, subject, a, b⟩] } := by
  simp [raise, pushNotice, Config.noticeQueueLength, room]

theorem raise_of_plain {kind : NoticeKind} {subject : Subject} {a b : Option Int} {s : State}
    (full : 40 ≤ s.notices.length) (plain : isPriority kind = false) :
    raise kind subject a b s = { s with lost := countLost s.lost } := by
  have noRoom : ¬ s.notices.length < 40 := Nat.not_lt.mpr full
  simp [raise, pushNotice, Config.noticeQueueLength, noRoom, plain]

theorem raise_of_allPriority {kind : NoticeKind} {subject : Subject} {a b : Option Int} {s : State}
    (full : 40 ≤ s.notices.length) (all : ∀ m ∈ s.notices, isPriority m.kind = true) :
    raise kind subject a b s = { s with lost := countLost s.lost } := by
  have noRoom : ¬ s.notices.length < 40 := Nat.not_lt.mpr full
  have every : (s.notices.all fun m => isPriority m.kind) = true := List.all_eq_true.mpr all
  simp [raise, pushNotice, Config.noticeQueueLength, noRoom, every]

theorem eraseP_first {α : Type} {p : α → Bool} {before after : List α} {x : α} (h : ∀ y ∈ before, p y = false)
    (hx : p x = true) : (before ++ x :: after).eraseP p = before ++ after := by
  rw [List.eraseP_append_right _ (fun y hy => by simp [h y hy]), List.eraseP_cons_of_pos hx]

theorem raise_displaces {kind : NoticeKind} {subject : Subject} {a b : Option Int} {s : State}
    {before after : List Notice}
    {m : Notice} (full : 40 ≤ s.notices.length) (priority : isPriority kind = true)
    (queue : s.notices = before ++ m :: after) (older : ∀ x ∈ before, isPriority x.kind = true)
    (plain : isPriority m.kind = false) :
    raise kind subject a b s
      = { s with notices := before ++ after ++ [⟨kind, s.now, subject, a, b⟩], lost := countLost s.lost } := by
  have noRoom : ¬ s.notices.length < 40 := Nat.not_lt.mpr full
  have notAll : (s.notices.all fun m => isPriority m.kind) = false := by
    simp [queue, plain]
  have erased : s.notices.eraseP (fun m => !isPriority m.kind) = before ++ after := by
    rw [queue]
    exact eraseP_first (fun y hy => by simp [older y hy]) (by simp [plain])
  simp [raise, pushNotice, Config.noticeQueueLength, noRoom, priority, notAll, erased]

theorem isPriority_iff (kind : NoticeKind) : isPriority kind = true
    ↔ kind = .emergencyBegin ∨ kind = .supplyOverrun ∨ kind = .gasPurgeBegin ∨ kind = .lineDown := by
  cases kind <;> decide

theorem attentionLine_iff (s : State) : attentionLine s = true
    ↔ s.config.watermark ≤ s.notices.length ∨ ∃ n ∈ s.notices, isPriority n.kind = true := by
  simp [attentionLine]

end Sys2Proof.Machine

namespace Sys2Proof.Claims

open Sys2Proof.Machine

/-! ## A request that reaches its owner -/

/-- A plain request of the right length is answered by its owner. -/
theorem serve_plain {code : Nat} {body : List Byte} {handle : State → Served} {s : State} (ready : canTake s)
    (fits : body.length ≤ 1024) :
    serve code .plain false body (some handle) s = .next (finishRequest code .plain (handle s)) := by
  obtain ⟨on, quiet, hunts⟩ := ready
  exact serve_owner _ _ _ _ _ _ on quiet hunts fits (fun h => absurd h (by decide)) fun h => absurd h (by decide)

/-- A request that waits for a store write, where none is in progress or accepted. -/
theorem serve_waiting {code : Nat} {cls : RequestClass} {body : List Byte} {handle : State → Served} {s : State}
    (ready : canConfigure s) (fits : body.length ≤ 1024) :
    serve code cls false body (some handle) s = .next (finishRequest code cls (handle s)) := by
  obtain ⟨⟨on, quiet, hunts⟩, notWriting, notPending⟩ := ready
  exact serve_owner _ _ _ _ _ _ on quiet hunts fits (fun h => absurd h (by decide))
    fun _ => isStoring_false s notWriting notPending

/-- A request of HOLD, where it can be taken. -/
theorem serve_defining {code : Nat} {cls : RequestClass} {body : List Byte} {handle : State → Served} {s : State}
    (ready : canDefine s) (fits : body.length ≤ 1024) :
    serve code cls true body (some handle) s = .next (finishRequest code cls (handle s)) := by
  obtain ⟨⟨⟨on, quiet, hunts⟩, notWriting, notPending⟩, mode⟩ := ready
  exact serve_owner _ _ _ _ _ _ on quiet hunts fits (fun _ => mode) fun _ => isStoring_false s notWriting notPending

theorem exec_collectNotices {n : Nat} {s : State} (ready : canTake s) (low : 1 ≤ n) (high : n ≤ 8) :
    exec (.collectNotices [byteOf n]) s = taken 0x4A .plain .ok
      (byteOf (min n s.notices.length) :: byteOf s.lost :: byteOf (s.notices.length - n)
        :: (s.notices.take n).flatMap noticeBytes)
      { s with notices := s.notices.drop n, lost := 0 } := by
  have operand : readWhole takeByte [byteOf n] = some n := readWhole_eq _ _ _ (takeByte_byteOf n [] (by omega))
  have left : s.notices.length - min n s.notices.length = s.notices.length - n := by omega
  refine Eq.trans (b := serve 0x4A .plain false [byteOf n] ((readWhole takeByte [byteOf n]).map handleCollect) s) rfl ?_
  rw [operand, Option.map_some, serve_plain ready (by simp)]
  simp [handleCollect, low, high, collect, answer, taken, List.length_take, left]

end Sys2Proof.Claims

namespace Sys2Proof.Proofs

open Sys2Proof.Machine Sys2Proof.Claims

/-- Settles O4: a cold start evaluated on the reset state, and each law on its empty tables. -/
theorem resetIsALawfulColdStart : Obligations.ResetIsALawfulColdStart := by
  refine ⟨⟨rfl, rfl, rfl, rfl, rfl, rfl, rfl, rfl, rfl, rfl, rfl⟩, ?_⟩
  refine ⟨⟨by decide, by decide⟩, ⟨by decide, by decide, by decide⟩, ⟨by decide, by decide⟩, ?lines, ?mode, ?records,
    ?presence, ?zones, ?loads⟩
  case lines => exact ⟨⟨by decide, by decide, by decide, by decide⟩, by decide, by decide, by decide, by decide⟩
  case mode => exact ⟨by decide, by decide, by decide, by decide⟩
  case records => exact ⟨rfl, rfl, rfl, rfl, rfl, rfl⟩
  case presence =>
    refine ⟨⟨rfl, ?_⟩, ⟨rfl, ?_⟩, rfl, by decide, List.nodup_nil, ?_⟩
    all_goals exact fun _ h => absurd h List.not_mem_nil
  case zones => exact fun _ _ h => absurd h (by simp [State.reset, slotGet])
  case loads => exact ⟨rfl, rfl, fun _ _ _ h => absurd h (by simp [State.reset, factoryConfig, slotGet])⟩

/-- Settles O19: `raise` by room, priority and what is queued; COLLECT NOTICES by its owner. -/
theorem noticesAreQueuedAndCollected : Obligations.NoticesAreQueuedAndCollected := by
  refine ⟨fun n s ready low high => exec_collectNotices ready low high, fun kind subject a b s => ?_, fun s => ?_⟩
  · exact ⟨raise_of_room, raise_of_plain, fun full _ all => raise_of_allPriority full all,
      fun before m after full priority queue older plain => raise_displaces full priority queue older plain⟩
  · simp only [attentionLine_iff, isPriority_iff]

/-- Settles O21. -/
theorem storeWritesRunToTheirEnd : Obligations.StoreWritesRunToTheirEnd := by
  refine ⟨fun s => ⟨fun ready => ?accepted, fun on pending quiet => ?begins, fun begun on writing since late => ?ends⟩,
    fun s => ?cut⟩
  case accepted => exact serve_waiting ready (Nat.zero_le _)
  case begins =>
    refine (powered_on on).trans ?_
    simp [pending, quiet]
  case ends =>
    have due : writeReady s ≤ s.now := by simpa [writeReady, since, Config.storeWriteMs] using late
    have time : writeTime s = s.now - begun := by simp [writeTime, since]
    constructor
    · refine (powered_on on).trans ?_
      simp only [writing, if_true, whenDue_due due, endWrite, time]
      rfl
    · refine (powered_on on).trans ?_
      simp only [writing, if_true, whenDue_due due, endWrite, Bool.false_eq_true, if_false]
  case cut =>
    have judged : judgedStore s.store.state = if s.store.state = .writing then .invalid else s.store.state := by
      cases s.store.state <;> rfl
    simp only [exec, execMainPowerLoss, judged]

end Sys2Proof.Proofs


/-! SUPPORT and PROOFS. ENTER HOLD, ENTER RUN and the six configuration checks (R186, R187). -/

namespace Sys2Proof.Machine

open Sys2Proof.Claims

/-! ## The first that fails -/

theorem find?_first {α : Type} {p : α → Bool} {l before after : List α} {x : α} (split : l = before ++ x :: after)
    (earlier : ∀ y ∈ before, p y = false) (hx : p x = true) : l.find? p = some x := by
  rw [split, List.find?_append, List.find?_eq_none.mpr fun y hy => by simp [earlier y hy], Option.none_or,
    List.find?_cons_of_pos hx]

theorem find?_none {α : Type} {p : α → Bool} {l : List α} (h : ∀ x ∈ l, p x = false) : l.find? p = none :=
  List.find?_eq_none.mpr fun x hx => by simp [h x hx]

/-! ## Check 2 -/

theorem suits_iff (f : TermFunction) (u : BindUse) : suits f u = true ↔ (u = .door ∧ f = .doorContact)
    ∨ (u = .presence ∧ f = .presenceIn) ∨ (u = .load ∧ (f = .relayOut ∨ f = .dimOut))
    ∨ (u = .temperature ∧ ∃ o p, f = .analogIn .temperature o p) ∨ (u = .gas .co ∧ ∃ o p, f = .analogIn .co o p)
    ∨ (u = .gas .no2 ∧ ∃ o p, f = .analogIn .no2 o p) ∨ (u = .daylight ∧ ∃ o p, f = .analogIn .lux o p) := by
  cases u with
  | gas g => cases g <;> cases f with
    | analogIn use offset span => cases use <;> simp [suits]
    | _ => simp [suits]
  | _ => cases f with
    | analogIn use offset span => cases use <;> simp [suits]
    | _ => simp [suits]

theorem suited_iff (c : RunningConfig) (x : Binding) :
    (x.point.bus == .t && !suits (functionOf c (x.point.point + 1)) x.use) = false
      ↔ (x.point.bus = .t → suits (functionOf c (x.point.point + 1)) x.use = true) := by
  simp

/-! ## Check 3 -/

theorem collides_iff (a b : Binding) : collides a b = true ↔ sharePoint a b := by
  simp only [collides, sharePoint, Bool.and_eq_true, beq_iff_eq, Bool.not_eq_true', ← Bool.not_eq_true]

theorem sharePoint_comm {a b : Binding} (h : sharePoint a b) : sharePoint b a :=
  ⟨h.1.symm, fun k => h.2 k.symm⟩

theorem firstDuplicate_none {before rest : List Binding} (h : (before ++ rest).Pairwise fun a b => ¬ sharePoint a b) :
    firstDuplicate before rest = none := by
  induction rest generalizing before with
  | nil => rfl
  | cons x rest ih =>
    have apart : before.any (collides x) = false := by
      rw [List.any_eq_false]
      intro y hy shares
      have := (List.pairwise_append.mp h).2.2 y hy x List.mem_cons_self
      exact this (sharePoint_comm ((collides_iff x y).mp shares))
    simp only [firstDuplicate, apart, Bool.false_eq_true, if_false]
    exact ih (by simpa using h)

theorem firstDuplicate_first {seen before after : List Binding} {x : Binding}
    (h : (seen ++ before).Pairwise fun a b => ¬ sharePoint a b) (shared : ∃ y ∈ seen ++ before, sharePoint y x) :
    firstDuplicate seen (before ++ x :: after) = some x := by
  induction before generalizing seen with
  | nil =>
    obtain ⟨y, hy, shares⟩ := shared
    have found : seen.any (collides x) = true :=
      List.any_eq_true.mpr ⟨y, by simpa using hy, (collides_iff x y).mpr (sharePoint_comm shares)⟩
    simp [firstDuplicate, found]
  | cons b rest ih =>
    have apart : seen.any (collides b) = false := by
      rw [List.any_eq_false]
      intro y hy shares
      have := (List.pairwise_append.mp h).2.2 y hy b List.mem_cons_self
      exact this (sharePoint_comm ((collides_iff b y).mp shares))
    simp only [List.cons_append, firstDuplicate, apart, Bool.false_eq_true, if_false]
    exact ih (by simpa using h) (by simpa using shared)

/-! ## Checks 4 and 5 -/

theorem loadsOnLine_eq (c : RunningConfig) (bus : Bus) :
    loadsOnLine c bus = (c.loads.filter fun e => e.2.binding.bus == bus).length :=
  List.countP_eq_length_filter

theorem zoneLoads_length (c : RunningConfig) (p : LoadKind → Bool) (z : Nat) :
    (zoneLoads c p z).length = loadsIn c z p := by
  simp [zoneLoads, slotsWhere, slotNumbers, loadsIn]

theorem zoneOverloaded_iff (c : RunningConfig) (z : Nat) : zoneOverloaded c z = true ↔ tooMany c z := by
  have heaters : isHeater = (· == .heater) := by
    funext k
    cases k <;> rfl
  have fans : isFan = fun k => k == .exhaustFan || k == .supplyFan := by
    funext k
    cases k <;> rfl
  simp only [zoneOverloaded, tooMany, zoneLoads_length, heaters, fans, Bool.or_eq_true, decide_eq_true_eq, or_assoc]

theorem mem_zoneNumbers (z : Nat) : z ∈ zoneNumbers ↔ isZone z := by
  simp only [zoneNumbers, List.mem_cons, List.not_mem_nil, or_false, isZone]
  omega

/-- The zones before a zone, and it and those after it. -/
theorem zoneNumbers_split {z : Nat} (h : isZone z) :
    ∃ before after, zoneNumbers = before ++ z :: after ∧ ∀ y ∈ before, isZone y ∧ y < z := by
  refine ⟨zoneNumbers.take (z - 1), zoneNumbers.drop z, ?_, ?_⟩
  all_goals
    obtain ⟨low, high⟩ := h
    interval_cases z <;> decide

/-! ## The checks in order -/

theorem checkBinding_none {c : RunningConfig} (h : ∀ x ∈ allBindings c, pointDefined c x.point = true) :
    checkBinding c = none := by
  have found : (allBindings c).find? (fun x => !pointDefined c x.point) = none :=
    find?_none fun x hx => by simp [h x hx]
  simp only [checkBinding, found, Option.map_none]

theorem checkFunction_none {c : RunningConfig}
    (h : ∀ x ∈ allBindings c, x.point.bus = .t → suits (functionOf c (x.point.point + 1)) x.use = true) :
    checkFunction c = none := by
  simp only [checkFunction, find?_none fun x hx => (suited_iff c x).mpr (h x hx), Option.map_none]

theorem checkDuplicate_none {c : RunningConfig} (h : (allBindings c).Pairwise fun a b => ¬ sharePoint a b) :
    checkDuplicate c = none := by
  have found : firstDuplicate [] (allBindings c) = none := firstDuplicate_none h
  rw [checkDuplicate, found, Option.map_none]

theorem checkLineLoads_none {c : RunningConfig} (a : loadsOnLine c .a ≤ 24) (b : loadsOnLine c .b ≤ 24) :
    checkLineLoads c = none := by
  simp only [checkLineLoads, Nat.not_lt.mpr a, Nat.not_lt.mpr b, if_false]

theorem checkZoneLoads_none {c : RunningConfig} (h : ∀ z, isZone z → ¬ tooMany c z) : checkZoneLoads c = none := by
  have fits : ∀ z ∈ zoneNumbers, zoneOverloaded c z = false := fun z hz =>
    Bool.not_eq_true _ ▸ mt (zoneOverloaded_iff c z).mp (h z ((mem_zoneNumbers z).mp hz))
  simp only [checkZoneLoads, find?_none fits, Option.map_none]

theorem checkDoorZone_none {c : RunningConfig} (h : ∀ e ∈ c.doors, slotUsed c.zones e.2.zone = true) :
    checkDoorZone c = none := by
  have found : c.doors.find? (fun e => !slotUsed c.zones e.2.zone) = none := find?_none fun e he => by simp [h e he]
  simp only [checkDoorZone, found, Option.map_none]

end Sys2Proof.Machine

namespace Sys2Proof.Claims

open Sys2Proof.Machine

theorem checksName_holds (c : RunningConfig) : checksName c := by
  refine ⟨rfl, suits_iff, ?first, ?second, ?third, ?fourthA, ?fourthB, ?fifth, ?sixth, ?none⟩
  case first =>
    intro before x after all earlier undefined_
    have found := find?_first (p := fun x => !pointDefined c x.point) all (fun y hy => by simp [earlier y hy])
      (by simpa using undefined_)
    simp only [firstBadItem, checkBinding, found]
    rfl
  case second =>
    intro before x after pass1 all earlier unsuited
    have found := find?_first (p := fun x => x.point.bus == .t && !suits (functionOf c (x.point.point + 1)) x.use) all
      (fun y hy => (suited_iff c y).mpr (earlier y hy)) (by simpa using unsuited)
    simp only [firstBadItem, checkBinding_none pass1, checkFunction, found]
    rfl
  case third =>
    rintro before x after ⟨pass1, suited⟩ all apart shared
    have found : firstDuplicate [] (allBindings c) = some x := by
      rw [all]
      exact firstDuplicate_first apart shared
    simp only [firstBadItem, checkBinding_none pass1, checkFunction_none suited, checkDuplicate, found]
    rfl
  case fourthA =>
    rintro ⟨⟨pass1, suited⟩, apart⟩ many
    simp only [← loadsOnLine_eq] at many
    simp only [firstBadItem, checkBinding_none pass1, checkFunction_none suited, checkDuplicate_none apart,
      checkLineLoads, many]
    rfl
  case fourthB =>
    rintro ⟨⟨pass1, suited⟩, apart⟩ fits many
    simp only [← loadsOnLine_eq] at fits many
    simp only [firstBadItem, checkBinding_none pass1, checkFunction_none suited, checkDuplicate_none apart,
      checkLineLoads, Nat.not_lt.mpr fits, many]
    rfl
  case fifth =>
    rintro z ⟨⟨⟨pass1, suited⟩, apart⟩, lineA, lineB⟩ zone earlier many
    simp only [← loadsOnLine_eq] at lineA lineB
    obtain ⟨before, after, split, below⟩ := zoneNumbers_split zone
    have found : zoneNumbers.find? (zoneOverloaded c) = some z := by
      refine find?_first split (fun y hy => ?_) ((zoneOverloaded_iff c z).mpr many)
      exact Bool.not_eq_true _ ▸ mt (zoneOverloaded_iff c y).mp (earlier y (below y hy).1 (below y hy).2)
    simp only [firstBadItem, checkBinding_none pass1, checkFunction_none suited, checkDuplicate_none apart,
      checkLineLoads_none lineA lineB, checkZoneLoads, found]
    rfl
  case sixth =>
    rintro before e after ⟨⟨⟨⟨pass1, suited⟩, apart⟩, lineA, lineB⟩, fits⟩ doors earlier missing
    simp only [← loadsOnLine_eq] at lineA lineB
    have found := find?_first (p := fun e => !slotUsed c.zones e.2.zone) doors (fun y hy => by simp [earlier y hy])
      (by simp [missing])
    simp only [firstBadItem, checkBinding_none pass1, checkFunction_none suited, checkDuplicate_none apart,
      checkLineLoads_none lineA lineB, checkZoneLoads_none fits, checkDoorZone, found]
    rfl
  case none =>
    rintro ⟨⟨⟨⟨pass1, suited⟩, apart⟩, lineA, lineB⟩, fits⟩ doors
    simp only [← loadsOnLine_eq] at lineA lineB
    simp only [firstBadItem, checkBinding_none pass1, checkFunction_none suited, checkDuplicate_none apart,
      checkLineLoads_none lineA lineB, checkZoneLoads_none fits, checkDoorZone_none doors]
    rfl

/-! ## The mode requests (R186) -/

theorem exec_enterHold {s : State} (ready : canTake s) :
    exec (.enterHold []) s = .next (finishRequest 0x02 .plain (handleEnterHold s)) :=
  serve_plain (handle := handleEnterHold) ready (Nat.zero_le _)

theorem exec_enterRun {s : State} (ready : canTake s) :
    exec (.enterRun []) s = .next (finishRequest 0x03 .plain (handleEnterRun s)) :=
  serve_plain (handle := handleEnterRun) ready (Nat.zero_le _)

end Sys2Proof.Claims

namespace Sys2Proof.Proofs

open Sys2Proof.Machine Sys2Proof.Claims

/-- Settles O18: the checks by `checksName_holds`, the requests by the owner's equation in each mode. -/
theorem modeRequestsFollowTheirTable : Obligations.ModeRequestsFollowTheirTable := by
  refine ⟨checksName_holds, fun s ready => ?_⟩
  rw [exec_enterHold ready, exec_enterRun ready]
  refine ⟨?leaves, ?stays, ?emergency, ?passes, ?fails, ?runs, ?emergencyRun⟩
  case leaves =>
    rintro (mode | mode) <;> simp only [handleEnterHold, changeMode, mode] <;> rfl
  case stays =>
    intro mode
    simp only [handleEnterHold, mode]
    rfl
  case emergency =>
    intro mode
    simp only [handleEnterHold, mode]
    rfl
  case passes =>
    intro mode good
    simp only [handleEnterRun, changeMode, mode, good]
    rfl
  case fails =>
    intro b mode bad
    simp only [handleEnterRun, mode, bad]
    rfl
  case runs =>
    rintro (mode | mode) <;> simp only [handleEnterRun, mode] <;> rfl
  case emergencyRun =>
    intro mode
    simp only [handleEnterRun, mode]
    rfl

end Sys2Proof.Proofs


/-! SUPPORT and PROOFS. What the idle step queues (O2). -/

namespace Sys2Proof.Claims

open Sys2Proof.Machine

/-! ## The members of each list of due commands -/

/-- The request of a whole frame in hand that is not early. -/
def asRequest (s : State) (c : Instr) : Prop :=
  ∃ f code body, s.receiver = .collecting f ∧ f.early = false ∧ judgeFrame f = .whole code body
    ∧ c = requestOf code body

theorem not_asRequest {s : State} {c : Instr} (h : requestCode c = none) : ¬ asRequest s c := by
  rintro ⟨f, code, body, -, -, -, rfl⟩
  rw [(requestOf_request code body).1] at h
  cases h

theorem mem_dueLink (s : State) (c : Instr) : c ∈ dueLink s ↔
    asRequest s c
    ∨ (c = .hostByteTimeout ∧ ∃ f, s.receiver = .collecting f ∧ isBrokenOff s.now f)
    ∨ (c = .hostFrameDiscarded [] ∧ ∃ f, s.receiver = .collecting f
      ∧ (judgeFrame f = .failed ∨ f.early = true ∧ isWhole f)) := by
  unfold dueLink asRequest
  cases hunts : s.receiver with
  | hunting => simp
  | collecting f =>
    cases judged : judgeFrame f with
    | growing =>
      have late : frameLate s.now f = true ↔ f.last + 20 < s.now := by
        simp only [frameLate, judged, beq_self_eq_true, Bool.true_and, decide_eq_true_eq]
        rfl
      simp [judged, late, and_comm]
    | failed => simp [judged, isWhole]
    | whole code body => cases early : f.early <;> simp [judged, isWhole, early]

theorem mem_dueOnWire (now : Nat) (l : LineId) (line : Line) (c : Instr) : c ∈ dueOnWire now l line ↔
    (c = .replyTimeout l ∧ ∃ t, line.inFlight.map Txn.phase = some (.waiting t) ∧ t ≤ now)
    ∨ (c = .lineRestEnd l ∧ ∃ t, line.state = .down (.resting t) ∧ t ≤ now)
    ∨ (c = .listenWindowEnd l ∧ ∃ t quiet heard, line.state = .down (.listening t quiet heard) ∧ t ≤ now) := by
  unfold dueOnWire
  rw [List.mem_append]
  refine or_congr ?_ ?_
  · split
    next expiry h => simp [h, and_comm]
    next h =>
      refine iff_of_false List.not_mem_nil ?_
      rintro ⟨-, t, waits, -⟩
      exact h t waits
  · split
    next ends h => simp [h, and_comm]
    next ends quiet heard h => simp [h, and_comm]
    next rests listens =>
      refine iff_of_false List.not_mem_nil ?_
      rintro (⟨-, t, h, -⟩ | ⟨-, t, quiet, heard, h, -⟩)
      · exact rests t h
      · exact listens t quiet heard h

theorem mem_dueWork (now : Nat) (l : LineId) (line : Line) (c : Instr) : c ∈ dueWork now l line ↔
    (∃ addr r, c = .probeTimerExpires l addr ∧ (addr, r) ∈ line.nodes ∧ r.probeDue = some now)
    ∨ (∃ k r, c = .scanPeriodExpires l (k / 16) (k % 16) ∧ (k, r) ∈ line.scan ∧ r.due = now) := by
  simp only [dueWork, List.mem_append, List.mem_map, mem_slotsWhere, beq_iff_eq]
  refine or_congr ⟨?_, ?_⟩ ⟨?_, ?_⟩
  · rintro ⟨addr, ⟨r, mem, due⟩, rfl⟩
    exact ⟨addr, r, rfl, mem, due⟩
  · rintro ⟨addr, r, rfl, mem, due⟩
    exact ⟨addr, ⟨r, mem, due⟩, rfl⟩
  · rintro ⟨addr, ⟨r, mem, due⟩, rfl⟩
    exact ⟨addr, r, rfl, mem, due⟩
  · rintro ⟨addr, r, rfl, mem, due⟩
    exact ⟨addr, ⟨r, mem, due⟩, rfl⟩

theorem mem_duePoints (s : State) (c : Instr) : c ∈ duePoints s ↔
    ∃ k ∈ slotNumbers s.points, c = .stalenessTimerExpires (pointOfKey k)
      ∧ ∃ t, staleAt s (pointOfKey k) = some t ∧ t ≤ s.now := by
  simp only [duePoints, List.mem_map, List.mem_filter, isDue_iff]
  constructor
  · rintro ⟨k, ⟨mem, due⟩, rfl⟩
    exact ⟨k, mem, rfl, due⟩
  · rintro ⟨k, mem, rfl, due⟩
    exact ⟨k, ⟨mem, due⟩, rfl⟩

/-! ## The condition of each command -/

/-- A record of a table has a timer that has expired. -/
def expired {α : Type} (table : Table α) (time : α → Option Nat) (now k : Nat) : Prop :=
  ∃ r t, (k, r) ∈ table ∧ time r = some t ∧ t ≤ now

/-- The condition under which the idle step of a powered part that has come to `s` queues a command of the units. -/
def isTimelyOfUnits (s : State) : Instr → Prop
  | .hostCurtailExpires => ∃ t, s.hostOrder.map CurtailOrder.expiry = some t ∧ t ≤ s.now
  | .settlement => s.settleAt ≤ s.now
  | .lightingStep => s.stepAt ≤ s.now
  | .heatingEvaluation => s.heatAt ≤ s.now
  | .ventilationEvaluation => s.ventAt ≤ s.now
  | .curtainStep => s.curtainAt ≤ s.now
  | .heldOpenTimerExpires d => expired s.doors (heldOpenAt s.config) s.now d
  | .chatterTimerExpires d => expired s.doors chatterAt s.now d
  | .curtainRunOnExpires d => expired s.doors DoorRec.runOn s.now d
  | .presenceLifeExpires n => expired s.presence lifeExpiry s.now n
  | .dormancyTimerExpires z => expired s.zones ZoneRec.dormancyAt s.now z
  | .nodeHoldTimerExpires k => expired s.loads (nodeHoldAt s.config) s.now k
  | .commandRefreshExpires k => expired s.loads (loadRefresh s) s.now k
  | .lightOverrideExpires z => expired s.lightOverrides LightOverride.expiry s.now z
  | .setpointOverrideExpires z => expired s.climate overrideExpiry s.now z
  | _ => False

/-- The condition under which it queues a command of the lines, the points and the terminals. -/
def isTimelyOfField (s : State) : Instr → Prop
  | .replyTimeout l => ∃ t, (getLine s l).inFlight.map Txn.phase = some (.waiting t) ∧ t ≤ s.now
  | .lineRestEnd l => ∃ t, (getLine s l).state = .down (.resting t) ∧ t ≤ s.now
  | .listenWindowEnd l =>
    ∃ t quiet heard, (getLine s l).state = .down (.listening t quiet heard) ∧ t ≤ s.now
  | .probeTimerExpires l addr => ∃ r, (addr, r) ∈ (getLine s l).nodes ∧ r.probeDue = some s.now
  | .scanPeriodExpires l addr first =>
    ∃ k r, addr = k / 16 ∧ first = k % 16 ∧ (k, r) ∈ (getLine s l).scan ∧ r.due = s.now
  | .stalenessTimerExpires p =>
    ∃ k ∈ slotNumbers s.points, p = pointOfKey k ∧ ∃ t, staleAt s (pointOfKey k) = some t ∧ t ≤ s.now
  | .debounceTimerExpires t => expired s.terminals TermRec.debounceAt s.now t
  | .restartTimerExpires t => expired s.terminals TermRec.restartAt s.now t
  | .terminalRepeatDelivery t => expired s.terminals TermRec.repeatAt s.now t
  | .analogConversion t mv =>
    expired s.terminals TermRec.convertAt s.now t ∧ mv = (pinOf s t).millivolts
  | .meterZeroTimerExpires t => expired s.terminals TermRec.zeroAt s.now t
  | _ => False

/-- The condition under which it queues a command that is not a request. -/
def isTimely (s : State) : Instr → Prop
  | .coldStart .restartInput => restartInputReady s = true
  | .warmRestart => warmRestartReady s = true
  | .storeWriteBegin => s.storePending = true ∧ s.answering = false
  | .clockTick => s.clock.isSet = true ∧ 1000 ≤ s.clock.phase
  | .supervisionTimerExpires => ∃ t, s.supervisionAt = some t ∧ t ≤ s.now
  | .releaseTimerExpires => ∃ t, s.releaseAt = some t ∧ t ≤ s.now
  | .hostByteTimeout => ∃ f, s.receiver = .collecting f ∧ isBrokenOff s.now f
  | .hostFrameDiscarded [] =>
    ∃ f, s.receiver = .collecting f ∧ (judgeFrame f = .failed ∨ f.early = true ∧ isWhole f)
  | c => isTimelyOfField s c ∨ isTimelyOfUnits s c

theorem mem_dueOfUnits (s : State) (c : Instr) :
    c ∈ dueDoors s ∨ c ∈ dueOccupancy s ∨ c ∈ dueBudget s ∨ c ∈ dueComfort s ↔ isTimelyOfUnits s c := by
  simp only [dueDoors, dueOccupancy, dueBudget, dueComfort, List.mem_append, mem_commandIf, mem_dueIn, or_assoc]
  cases c with
  | heldOpenTimerExpires d => simp [isTimelyOfUnits, expired]
  | chatterTimerExpires d => simp [isTimelyOfUnits, expired]
  | curtainRunOnExpires d => simp [isTimelyOfUnits, expired]
  | presenceLifeExpires n => simp [isTimelyOfUnits, expired]
  | dormancyTimerExpires z => simp [isTimelyOfUnits, expired]
  | nodeHoldTimerExpires k => simp [isTimelyOfUnits, expired]
  | commandRefreshExpires k => simp [isTimelyOfUnits, expired]
  | lightOverrideExpires z => simp [isTimelyOfUnits, expired]
  | setpointOverrideExpires z => simp [isTimelyOfUnits, expired]
  | _ => simp only [isTimelyOfUnits, isDue_iff, decide_eq_true_eq, reduceCtorEq, and_true, and_false, exists_false,
      or_false, false_or]

theorem mem_dueOfField (s : State) (c : Instr) :
    c ∈ dueOnLine s.now .a s.lineA ∨ c ∈ dueOnLine s.now .b s.lineB ∨ c ∈ duePoints s ∨ c ∈ dueTerminals s
      ↔ isTimelyOfField s c := by
  simp only [dueOnLine, mem_dueOnWire, mem_dueWork, mem_duePoints, dueTerminals, List.mem_append, mem_dueIn, or_assoc]
  cases c with
  | replyTimeout l => cases l <;> simp [isTimelyOfField, getLine]
  | lineRestEnd l => cases l <;> simp [isTimelyOfField, getLine]
  | listenWindowEnd l => cases l <;> simp [isTimelyOfField, getLine]
  | probeTimerExpires l addr => cases l <;> simp [isTimelyOfField, getLine]
  | scanPeriodExpires l addr first => cases l <;> simp [isTimelyOfField, getLine, and_assoc]
  | stalenessTimerExpires p => simp [isTimelyOfField]
  | debounceTimerExpires t => simp [isTimelyOfField, expired]
  | restartTimerExpires t => simp [isTimelyOfField, expired]
  | terminalRepeatDelivery t => simp [isTimelyOfField, expired]
  | analogConversion t mv => simp [isTimelyOfField, expired, ← and_assoc]
  | meterZeroTimerExpires t => simp [isTimelyOfField, expired]
  | _ => simp only [isTimelyOfField, reduceCtorEq, false_and, and_false, exists_false, or_false]

theorem mem_dueTimers (s : State) (c : Instr) : c ∈ dueTimers s ↔ asRequest s c ∨ isTimely s c := by
  have lists : c ∈ dueTimers s ↔ c ∈ dueLink s ∨ c ∈ dueStarts s ∨ c ∈ dueClock s ∨ c ∈ dueModes s
      ∨ (c ∈ dueOnLine s.now .a s.lineA ∨ c ∈ dueOnLine s.now .b s.lineB ∨ c ∈ duePoints s ∨ c ∈ dueTerminals s)
      ∨ c ∈ dueDoors s ∨ c ∈ dueOccupancy s ∨ c ∈ dueBudget s ∨ c ∈ dueComfort s := by
    simp only [dueTimers, List.mem_append, or_assoc]
  rw [lists, mem_dueOfField, mem_dueOfUnits, mem_dueLink, or_assoc]
  simp only [dueStarts, dueClock, dueModes, List.mem_append, mem_commandIf, isDue_iff, or_assoc]
  refine or_congr_right ?_
  cases c with
  | coldStart cause => cases cause <;> simp [isTimely, isTimelyOfField, isTimelyOfUnits]
  | hostFrameDiscarded bytes => cases bytes <;> simp [isTimely, isTimelyOfField, isTimelyOfUnits]
  | _ => simp [isTimely, isTimelyOfField, isTimelyOfUnits]

theorem mem_dueTimers_timely {s : State} {c : Instr} (h : requestCode c = none) : c ∈ dueTimers s ↔ isTimely s c :=
  (mem_dueTimers s c).trans (or_iff_right (not_asRequest h))

theorem mem_due_requestOf {s : State} {f : HostFrame} {code : Byte} {body : List Byte}
    (hand : s.receiver = .collecting f) (timely : f.early = false) (whole : judgeFrame f = .whole code body) :
    requestOf code body ∈ dueTimers s :=
  (mem_dueTimers s _).mpr (.inl ⟨f, code, body, hand, timely, whole, rfl⟩)

end Sys2Proof.Claims


/-! SUPPORT and PROOFS. The idle step queues the commands of `dueTime` that are due, and no others (O2). -/

namespace Sys2Proof.Claims

open Sys2Proof.Machine

/-! ## Timers of records -/

theorem expired_of_slotGet {α : Type} {table : Table α} {time : α → Option Nat} {now k t : Nat}
    (h : (slotGet table k).bind time = some t) (due : t ≤ now) : expired table time now k := by
  obtain ⟨r, found, running⟩ := Option.bind_eq_some_iff.mp h
  exact ⟨r, t, slotGet_mem _ _ _ found, running, due⟩

theorem slotGet_of_expired {α : Type} {table : Table α} {time : α → Option Nat} {now k : Nat}
    (ordered : slotWf table = true) (h : expired table time now k) :
    ∃ t, (slotGet table k).bind time = some t ∧ t ≤ now := by
  obtain ⟨r, t, mem, running, due⟩ := h
  exact ⟨t, by rw [slotGet_of_mem ordered mem, Option.bind_some, running], due⟩

/-- A terminal without a record has no timer. -/
theorem terminalTimer {time : TermRec → Option Nat} (idle : time idleTerminal = none) (s : State) (t : Nat) :
    time (getTerminal s t) = (slotGet s.terminals t).bind time := by
  unfold getTerminal
  cases slotGet s.terminals t with
  | none => exact idle
  | some r => rfl

theorem presenceTimer (s : State) (n : Nat) :
    dueTime s (.presenceLifeExpires n) = (slotGet s.presence n).bind lifeExpiry := by
  simp only [dueTime]
  cases slotGet s.presence n with
  | none => rfl
  | some e =>
    simp only [Option.map_some, Option.bind_some, lifeExpiry]
    cases e.life <;> rfl

theorem setpointTimer (s : State) (z : Nat) :
    dueTime s (.setpointOverrideExpires z) = (slotGet s.climate z).bind overrideExpiry :=
  Option.bind_assoc ..

theorem pointOfKey_pointKey {p : PointRef} (h : pointFits p = true) : pointOfKey (pointKey p) = p := by
  obtain ⟨bus, addr, point⟩ := p
  have low : addr ≤ 31 ∧ point ≤ 15 := by
    cases bus <;> simp_all [pointFits, numberFits]
  have key : pointKey ⟨bus, addr, point⟩ = (bus.ctorIdx * 32 + addr) * 16 + point := rfl
  have ofBus : (pointKey ⟨bus, addr, point⟩) / 512 = bus.ctorIdx := by omega
  simp only [pointOfKey, ofBus, PointRef.mk.injEq]
  refine ⟨?_, by omega, by omega⟩
  cases bus <;> rfl

/-- The refresh of a load is in wait while its group waits for the first lighting step. -/
theorem loadRefresh_eq_some_iff (s : State) (r : LoadRec) (t : Nat) :
    loadRefresh s r = some t ↔ r.refreshAt = t ∧ (r.light = none ∨ r.lastCommand ≠ none ∨ 250 < s.stepAt) := by
  have awaits : awaitsFirstStep s r = false ↔ (r.light = none ∨ r.lastCommand ≠ none ∨ 250 < s.stepAt) := by
    simp only [awaitsFirstStep, Bool.and_eq_false_iff, decide_eq_false_iff_not, Nat.not_le, or_assoc]
    cases r.light <;> cases r.lastCommand <;> simp [Config.lightingStepMs]
  rw [← awaits]
  unfold loadRefresh
  cases awaitsFirstStep s r <;> simp

theorem refresh_iff (s : State) (k : Nat) : expired s.loads (loadRefresh s) s.now k
    ↔ ∃ r, (k, r) ∈ s.loads ∧ r.refreshAt ≤ s.now ∧ (r.light = none ∨ r.lastCommand ≠ none ∨ 250 < s.stepAt) := by
  simp only [expired, loadRefresh_eq_some_iff]
  constructor
  · rintro ⟨r, t, mem, ⟨rfl, free⟩, due⟩
    exact ⟨r, mem, due, free⟩
  · rintro ⟨r, mem, due, free⟩
    exact ⟨r, r.refreshAt, mem, ⟨rfl, free⟩, due⟩

/-! ## A timer that is due is queued -/

theorem isTimely_of_dueTime {s : State} {c : Instr} {t : Nat} (fits : c.wellFormed = true)
    (h : dueTime s c = some t) (raised : raisedAt s t c) : isTimely s c := by
  cases c with
  | settlement => cases h; exact .inr raised
  | lightingStep => cases h; exact .inr raised
  | heatingEvaluation => cases h; exact .inr raised
  | ventilationEvaluation => cases h; exact .inr raised
  | curtainStep => cases h; exact .inr raised
  | supervisionTimerExpires => exact ⟨t, h, raised⟩
  | releaseTimerExpires => exact ⟨t, h, raised⟩
  | hostCurtailExpires => exact .inr ⟨t, h, raised⟩
  | lightOverrideExpires z => exact .inr (expired_of_slotGet h raised)
  | setpointOverrideExpires z => exact .inr (expired_of_slotGet (setpointTimer s z ▸ h) raised)
  | presenceLifeExpires n => exact .inr (expired_of_slotGet (presenceTimer s n ▸ h) raised)
  | dormancyTimerExpires z => exact .inr (expired_of_slotGet h raised)
  | heldOpenTimerExpires d => exact .inr (expired_of_slotGet h raised)
  | curtainRunOnExpires d => exact .inr (expired_of_slotGet h raised)
  | chatterTimerExpires d => exact .inr (expired_of_slotGet (time := chatterAt) h raised)
  | nodeHoldTimerExpires k => exact .inr (expired_of_slotGet h raised)
  | commandRefreshExpires k =>
    obtain ⟨due, r, found, free⟩ := raised
    rw [dueTime, found, Option.map_some] at h
    cases h
    exact .inr ((refresh_iff s k).mpr ⟨r, slotGet_mem _ _ _ found, due, free⟩)
  | debounceTimerExpires n =>
    exact .inl (expired_of_slotGet ((terminalTimer (time := TermRec.debounceAt) rfl s n).symm.trans h) raised)
  | restartTimerExpires n =>
    exact .inl (expired_of_slotGet ((terminalTimer (time := TermRec.restartAt) rfl s n).symm.trans h) raised)
  | terminalRepeatDelivery n =>
    exact .inl (expired_of_slotGet ((terminalTimer (time := TermRec.repeatAt) rfl s n).symm.trans h) raised)
  | meterZeroTimerExpires n =>
    exact .inl (expired_of_slotGet ((terminalTimer (time := TermRec.zeroAt) rfl s n).symm.trans h) raised)
  | stalenessTimerExpires p =>
    have back := pointOfKey_pointKey fits
    have listed : pointKey p ∈ slotNumbers s.points := by
      simp only [dueTime, staleAt, getPoint] at h
      split at h
      next r period found _ => exact List.mem_map.mpr ⟨_, slotGet_mem _ _ _ found, rfl⟩
      next => cases h
    exact .inl ⟨pointKey p, listed, back.symm, t, back.symm ▸ h, raised⟩
  | replyTimeout l =>
    simp only [dueTime] at h
    split at h
    next t' waits =>
      cases h
      exact .inl ⟨t, waits, raised⟩
    next => cases h
  | lineRestEnd l =>
    simp only [dueTime] at h
    split at h
    next t' rests =>
      cases h
      exact .inl ⟨t, rests, raised⟩
    next => cases h
  | listenWindowEnd l =>
    simp only [dueTime] at h
    split at h
    next t' quiet heard listens =>
      cases h
      exact .inl ⟨t, quiet, heard, listens, raised⟩
    next => cases h
  | probeTimerExpires l addr =>
    obtain ⟨r, found, running⟩ := Option.bind_eq_some_iff.mp h
    exact .inl ⟨r, slotGet_mem _ _ _ found, running.trans (congrArg some raised)⟩
  | scanPeriodExpires l addr first =>
    simp only [Instr.wellFormed, Bool.and_eq_true, decide_eq_true_eq] at fits
    obtain ⟨r, found, due⟩ := Option.map_eq_some_iff.mp h
    refine .inl ⟨scanKey addr first, r, ?_, ?_, slotGet_mem _ _ _ found, due.trans raised⟩
    · unfold scanKey; omega
    · unfold scanKey; omega
  | hostByteTimeout =>
    obtain ⟨due, f, hand, growing⟩ := raised
    simp only [dueTime, hand, Option.some.injEq] at h
    exact ⟨f, hand, growing, by omega⟩
  | storeWriteEnd agrees => exact raised.elim
  | _ => cases h

/-! ## What is queued has a timer that is due -/

/-- What the idle step queues besides the commands of `dueTime`, a request aside. -/
def isUntimed (c : Instr) : Prop :=
  c ∈ [Instr.clockTick, .coldStart .restartInput, .warmRestart, .storeWriteBegin, .hostFrameDiscarded []]
    ∨ ∃ t mv, c = .analogConversion t mv

theorem dueTime_of_isTimely {s : State} {c : Instr} (ordered : timersOrdered s = true) (h : isTimely s c) :
    (∃ t, dueTime s c = some t ∧ raisedAt s t c) ∨ isUntimed c := by
  simp only [timersOrdered, Bool.and_eq_true] at ordered
  obtain ⟨⟨⟨⟨⟨⟨⟨⟨⟨⟨nodesA, scanA⟩, nodesB⟩, scanB⟩, terminals⟩, doors⟩, presence⟩, zones⟩, loads⟩, lights⟩, climate⟩ :=
    ordered
  have ofTerminal : ∀ {time : TermRec → Option Nat} {n : Nat}, time idleTerminal = none →
      expired s.terminals time s.now n → ∃ t, time (getTerminal s n) = some t ∧ t ≤ s.now :=
    fun idle due => terminalTimer idle s _ ▸ slotGet_of_expired terminals due
  cases c with
  | coldStart cause =>
    cases cause with
    | restartInput => exact .inr (.inl (by simp))
    | powerOn held => exact (or_self_iff.mp h).elim
  | warmRestart => exact .inr (.inl (by simp))
  | storeWriteBegin => exact .inr (.inl (by simp))
  | clockTick => exact .inr (.inl (by simp))
  | analogConversion t mv => exact .inr (.inr ⟨t, mv, rfl⟩)
  | hostFrameDiscarded bytes =>
    cases bytes with
    | nil => exact .inr (.inl (by simp))
    | cons b rest => exact (or_self_iff.mp h).elim
  | settlement => exact .inl ⟨_, rfl, h.resolve_left id⟩
  | lightingStep => exact .inl ⟨_, rfl, h.resolve_left id⟩
  | heatingEvaluation => exact .inl ⟨_, rfl, h.resolve_left id⟩
  | ventilationEvaluation => exact .inl ⟨_, rfl, h.resolve_left id⟩
  | curtainStep => exact .inl ⟨_, rfl, h.resolve_left id⟩
  | supervisionTimerExpires => exact .inl h
  | releaseTimerExpires => exact .inl h
  | hostCurtailExpires => exact .inl (h.resolve_left id)
  | lightOverrideExpires z => exact .inl (slotGet_of_expired lights (h.resolve_left id))
  | setpointOverrideExpires z => exact .inl (setpointTimer s z ▸ slotGet_of_expired climate (h.resolve_left id))
  | presenceLifeExpires n => exact .inl (presenceTimer s n ▸ slotGet_of_expired presence (h.resolve_left id))
  | dormancyTimerExpires z => exact .inl (slotGet_of_expired zones (h.resolve_left id))
  | heldOpenTimerExpires d => exact .inl (slotGet_of_expired doors (h.resolve_left id))
  | curtainRunOnExpires d => exact .inl (slotGet_of_expired doors (h.resolve_left id))
  | chatterTimerExpires d => exact .inl (slotGet_of_expired (time := chatterAt) doors (h.resolve_left id))
  | nodeHoldTimerExpires k => exact .inl (slotGet_of_expired loads (h.resolve_left id))
  | commandRefreshExpires k =>
    obtain ⟨r, mem, due, free⟩ := (refresh_iff s k).mp (h.resolve_left id)
    have found := slotGet_of_mem loads mem
    exact .inl ⟨r.refreshAt, by rw [dueTime, found, Option.map_some], due, r, found, free⟩
  | debounceTimerExpires n => exact .inl (ofTerminal (time := TermRec.debounceAt) rfl (h.resolve_right id))
  | restartTimerExpires n => exact .inl (ofTerminal (time := TermRec.restartAt) rfl (h.resolve_right id))
  | terminalRepeatDelivery n => exact .inl (ofTerminal (time := TermRec.repeatAt) rfl (h.resolve_right id))
  | meterZeroTimerExpires n => exact .inl (ofTerminal (time := TermRec.zeroAt) rfl (h.resolve_right id))
  | stalenessTimerExpires p =>
    obtain ⟨k, -, rfl, t, running, due⟩ := h.resolve_right id
    exact .inl ⟨t, running, due⟩
  | replyTimeout l =>
    obtain ⟨t, waits, due⟩ := h.resolve_right id
    exact .inl ⟨t, by simp only [dueTime, waits], due⟩
  | lineRestEnd l =>
    obtain ⟨t, rests, due⟩ := h.resolve_right id
    exact .inl ⟨t, by simp only [dueTime, rests], due⟩
  | listenWindowEnd l =>
    obtain ⟨t, quiet, heard, listens, due⟩ := h.resolve_right id
    exact .inl ⟨t, by simp only [dueTime, listens], due⟩
  | probeTimerExpires l addr =>
    obtain ⟨r, mem, running⟩ := h.resolve_right id
    have found : slotGet (getLine s l).nodes addr = some r := by
      cases l with
      | a => exact slotGet_of_mem nodesA mem
      | b => exact slotGet_of_mem nodesB mem
    exact .inl ⟨s.now, by rw [dueTime, found, Option.bind_some, running], rfl⟩
  | scanPeriodExpires l addr first =>
    obtain ⟨k, r, rfl, rfl, mem, due⟩ := h.resolve_right id
    have key : scanKey (k / 16) (k % 16) = k := Nat.div_add_mod' k 16
    have found : slotGet (getLine s l).scan k = some r := by
      cases l with
      | a => exact slotGet_of_mem scanA mem
      | b => exact slotGet_of_mem scanB mem
    exact .inl ⟨s.now, by rw [dueTime, key, found, Option.map_some, due], rfl⟩
  | hostByteTimeout =>
    obtain ⟨f, hand, growing, late⟩ := h
    exact .inl ⟨f.last + 21, by simp only [dueTime, hand], by omega, f, hand, growing⟩
  | _ => exact (or_self_iff.mp h).elim

/-! ## The queue of the idle step -/

theorem dueTimers_raised {s : State} (on : s.powered = true) : timersRaised s (dueTimers s) := by
  refine ⟨fun c t fits due raised => ?_, mem_dueTimers_timely rfl, ?_, ?_, mem_dueTimers_timely rfl, fun t mv => ?_,
    fun ordered c mem => ?_⟩
  · exact (mem_dueTimers s c).mpr (.inr (isTimely_of_dueTime fits due raised))
  · rw [mem_dueTimers_timely rfl]
    simp [isTimely, restartInputReady, isStoring, on]
  · rw [mem_dueTimers_timely rfl]
    simp [isTimely, warmRestartReady, isStoring, and_assoc]
  · rw [mem_dueTimers_timely rfl]
    simp [isTimely, isTimelyOfField, isTimelyOfUnits, expired, ← and_assoc]
  · rcases (mem_dueTimers s c).mp mem with request | timely
    · exact .inr (.inr (.inr request))
    · rcases dueTime_of_isTimely ordered timely with due | untimed
      · exact .inl due
      · exact .inr (or_assoc.mp (.inl untimed))

end Sys2Proof.Claims

namespace Sys2Proof.Proofs

open Sys2Proof.Machine Sys2Proof.Claims

/-- Settles O2: the queue is `dueTimers` of the state that the millisecond brings, and its members are read off
`mem_dueTimers`. -/
theorem idleStepPassesOneMillisecond : Obligations.IdleStepPassesOneMillisecond := by
  intro s idles
  refine ⟨(idle s).pending, step_idle idles, fun on => ?raised, fun on => ?members, fun off => ?off⟩
  case raised =>
    have queue : (idle s).pending = dueTimers (passTime s) := if_pos on
    rw [queue]
    exact dueTimers_raised (s := passTime s) on
  case members =>
    have queue : (idle s).pending = dueTimers (passTime s) := if_pos on
    have now : (passTime s).now = s.now + 1 := if_pos on
    have timely : ∀ {c}, requestCode c = none → (c ∈ dueTimers (passTime s) ↔ isTimely (passTime s) c) :=
      mem_dueTimers_timely
    have ofUnits : ∀ {c}, requestCode c = none → isTimely (passTime s) c = (False ∨ isTimelyOfUnits (passTime s) c) →
        (c ∈ dueTimers (passTime s) ↔ isTimelyOfUnits (passTime s) c) :=
      fun coded unit => by rw [timely coded, unit, false_or]
    rw [queue, ← now]
    exact ⟨ofUnits rfl rfl, ofUnits rfl rfl, ofUnits rfl rfl, ofUnits rfl rfl, ofUnits rfl rfl, timely rfl, timely rfl,
      fun k => (ofUnits rfl rfl).trans (refresh_iff (passTime s) k), timely rfl, timely rfl,
      fun f code body hand early whole => mem_due_requestOf hand early whole⟩
  case off =>
    have queue : (idle s).pending = dueClock (passTime s) := if_neg (by simp [passTime, off])
    rw [queue, dueClock, commandIf]
    cases set : s.clock.isSet <;> simp [passTime, clockPasses, set, Config.idleMs]

end Sys2Proof.Proofs


/-! SUPPORT and PROOFS. What an evaluation publishes and what it changes beside the plan (O24). -/

namespace Sys2Proof.Machine

/-! ## The least of a list -/

theorem leastBy_eq_none_iff {α : Type} {f : α → Nat} {l : List α} : leastBy f l = none ↔ l = [] := by
  cases l with
  | nil => simp [leastBy]
  | cons x rest =>
    simp only [leastBy, reduceCtorEq, iff_false]
    split
    · simp
    · split <;> simp

theorem leastBy_eq_some {α : Type} {f : α → Nat} {l : List α} {x : α} (h : leastBy f l = some x) :
    x ∈ l ∧ ∀ y ∈ l, f x ≤ f y := by
  induction l generalizing x with
  | nil => cases h
  | cons a rest ih =>
    simp only [leastBy] at h
    split at h
    next least =>
      cases h
      simp [leastBy_eq_none_iff.mp least]
    next b least =>
      obtain ⟨mem, low⟩ := ih least
      split at h
      next le =>
        cases h
        exact ⟨List.mem_cons_self, List.forall_mem_cons.mpr ⟨le_rfl, fun y hy => le.trans (low y hy)⟩⟩
      next gt =>
        cases h
        exact ⟨List.mem_cons_of_mem _ mem, List.forall_mem_cons.mpr ⟨by omega, low⟩⟩

/-! ## The zones after an evaluation -/

theorem judgeAllZones_frame (s : State) : judgeAllZones s = { s with zones := (judgeAllZones s).zones } :=
  forEach_related (R := fun s t => t = { s with zones := t.zones }) (fun _ => rfl)
    (fun h k => k.trans (by rw [h])) judgeZone (fun _ _ => rfl) _ s

/-! ## The notices and the overrides of an evaluation (R14, R17) -/

theorem notePrecondition_frame (cause : EvaluationCause) (old new : PlanState) (s : State) :
    notePrecondition cause old new s = { s with
      notices := (notePrecondition cause old new s).notices, lost := (notePrecondition cause old new s).lost } := by
  unfold notePrecondition
  split <;> rfl

theorem noteShiftChange_frame (cause : EvaluationCause) (old new : PlanState) (s : State) :
    noteShiftChange cause old new s = { s with
      lightOverrides := (noteShiftChange cause old new s).lightOverrides
      climate := (noteShiftChange cause old new s).climate
      notices := (noteShiftChange cause old new s).notices, lost := (noteShiftChange cause old new s).lost } := by
  unfold noteShiftChange
  split <;> rfl

/-- An evaluation before the zones are judged. -/
def published (cause : EvaluationCause) (s : State) : State :=
  { noteShiftChange cause s.plan (planAfter cause s) (notePrecondition cause s.plan (planAfter cause s) s) with
    plan := planAfter cause s }

theorem evaluate_eq (cause : EvaluationCause) (s : State) :
    evaluate cause s = { published cause s with zones := (evaluate cause s).zones } :=
  judgeAllZones_frame (published cause s)

theorem evaluate_frame (cause : EvaluationCause) (s : State) : evaluate cause s = { s with
    plan := planAfter cause s
    zones := (evaluate cause s).zones
    lightOverrides := (evaluate cause s).lightOverrides
    climate := (evaluate cause s).climate
    notices := (evaluate cause s).notices
    lost := (evaluate cause s).lost } := by
  rw [evaluate_eq, published, noteShiftChange_frame, notePrecondition_frame]

theorem evaluate_notices (cause : EvaluationCause) (s : State) :
    (evaluate cause s).notices = (published cause s).notices ∧ (evaluate cause s).lost = (published cause s).lost := by
  rw [evaluate_eq]
  exact ⟨rfl, rfl⟩

theorem evaluate_overrides (cause : EvaluationCause) (s : State) :
    (evaluate cause s).lightOverrides = (published cause s).lightOverrides
      ∧ (evaluate cause s).climate = (published cause s).climate := by
  rw [evaluate_eq]
  exact ⟨rfl, rfl⟩

/-- Notices depend on the queue, the lost count and the time alone. -/
theorem raise_congr {kind : NoticeKind} {subject : Subject} {a b : Option Int} {s t : State}
    (now : t.now = s.now) (notices : t.notices = s.notices) (lost : t.lost = s.lost) :
    (raise kind subject a b t).notices = (raise kind subject a b s).notices
      ∧ (raise kind subject a b t).lost = (raise kind subject a b s).lost := by
  simp only [raise, now, notices, lost, and_self]

theorem notePrecondition_eq (cause : EvaluationCause) (old new : PlanState) (s : State) :
    notePrecondition cause old new s = if new.precondition = true ∧ (cause = .start ∨ old.precondition = false) then
        raise .preconditionBegin (.record ((new.next.map NextRecord.index).getD 0)) none none s
      else s := by
  simp only [notePrecondition, Bool.and_eq_true, Bool.or_eq_true, decide_eq_true_eq, Bool.not_eq_true']

theorem noteShiftChange_notices (cause : EvaluationCause) (old new : PlanState) (s : State) :
    let changed := if cause ≠ .start ∧ old.active ≠ new.active then
        raise .shiftChanged (.record new.active) (some old.active) (some new.reason.ctorIdx) s
      else s
    (noteShiftChange cause old new s).notices = changed.notices
      ∧ (noteShiftChange cause old new s).lost = changed.lost := by
  unfold noteShiftChange
  split
  · exact raise_congr rfl rfl rfl
  · exact ⟨rfl, rfl⟩

theorem noteShiftChange_ended {cause : EvaluationCause} {old new : PlanState} {s : State} (notStart : cause ≠ .start)
    (changed : old.active ≠ new.active) :
    (noteShiftChange cause old new s).lightOverrides = s.lightOverrides.filter (fun e => e.2.expiry.isSome)
      ∧ (noteShiftChange cause old new s).climate
        = slotMap (fun _ r => { r with override := r.override.filter fun o => o.expiry.isSome }) s.climate := by
  rw [noteShiftChange, if_pos ⟨notStart, changed⟩]
  exact ⟨rfl, rfl⟩

/-! ## The active record (R12) -/

theorem activeChoice_unset {c : RunningConfig} {k : Clock} (h : k.isSet = false) :
    activeChoice c k = ⟨0, .clockUnset, none, 0⟩ := by
  simp [activeChoice, h]

theorem activeChoice_closedDay {c : RunningConfig} {k : Clock} (set : k.isSet = true)
    (h : exceptionOn c k.reading.date = some .closedDay) : activeChoice c k = ⟨0, .closedDay, none, 0⟩ := by
  simp [activeChoice, set, h]

theorem activeChoice_record {c : RunningConfig} {k : Clock} {n : Nat} (set : k.isSet = true)
    (h : exceptionOn c k.reading.date = some (.record n)) :
    activeChoice c k = ⟨n, .exception, some ⟨k.reading.date, 0⟩, minuteOfDay k.reading⟩ := by
  simp [activeChoice, set, h]

theorem activeChoice_timetable {c : RunningConfig} {k : Clock} (set : k.isSet = true)
    (h : exceptionOn c k.reading.date = none) : activeChoice c k = timetableChoice c k.reading := by
  simp [activeChoice, set, h]

theorem timetableChoice_noRecords {c : RunningConfig} (r : Reading) (h : startInstances c = []) :
    timetableChoice c r = ⟨0, .noRecords, none, 0⟩ := by
  simp [timetableChoice, h, leastBy]

theorem timetableChoice_latest {c : RunningConfig} (r : Reading) (h : startInstances c ≠ []) :
    ∃ i ∈ startInstances c,
      (∀ j ∈ startInstances c, minutesSince (weeklyPosition r) i ≤ minutesSince (weeklyPosition r) j)
      ∧ timetableChoice c r = ⟨i.record, .timetable,
        some (momentOf (planMinute r - minutesSince (weeklyPosition r) i)), minutesSince (weeklyPosition r) i⟩ := by
  cases least : leastBy (minutesSince (weeklyPosition r)) (startInstances c) with
  | none => exact absurd (leastBy_eq_none_iff.mp least) h
  | some i =>
    obtain ⟨mem, low⟩ := leastBy_eq_some least
    exact ⟨i, mem, low, by simp only [timetableChoice, least]⟩

theorem changeoverFlag_iff (c : RunningConfig) (x : ActiveChoice) : changeoverFlag c x = true ↔
    x.activation.isSome = true ∧ x.index ≠ 0 ∧ ∃ q, shiftRecord c x.index = some q ∧ x.since < q.changeover := by
  simp [changeoverFlag, and_assoc, Option.any_eq_true]

/-! ## The next record (R13) -/

theorem instancesOf_position {n : Nat} {r : ShiftRecord} {i : StartInstance} (h : i ∈ instancesOf n r)
    (start : r.startMinute ≤ 1439) : i.position < 10080 := by
  obtain ⟨d, mem, rfl⟩ := List.mem_map.mp h
  have := List.mem_range.mp (List.mem_filter.mp mem).1
  show d * 1440 + r.startMinute < 10080
  omega

theorem startInstances_position {c : RunningConfig} (starts : ∀ e ∈ c.shifts, e.2.startMinute ≤ 1439)
    {i : StartInstance} (h : i ∈ startInstances c) : i.position < 10080 := by
  obtain ⟨e, mem, ofRecord⟩ := List.mem_flatMap.mp h
  exact instancesOf_position ofRecord (starts e mem)

/-- The minutes to the next time of a start are the ones in a week's range that lead to its position. -/
theorem minutesUntil_eq_iff {pos m : Nat} {i : StartInstance} (hpos : pos < 10080) (hi : i.position < 10080) :
    minutesUntil pos i = m ↔ 1 ≤ m ∧ m ≤ 10080 ∧ (pos + m) % 10080 = i.position := by
  simp only [minutesUntil, minutesSince, weekMinutes]
  omega

theorem mem_instanceCandidates {c : RunningConfig} {r : Reading} {x : Candidate} (hpos : weeklyPosition r < 10080)
    (starts : ∀ e ∈ c.shifts, e.2.startMinute ≤ 1439) :
    x ∈ (startInstances c).filterMap (instanceCandidate c r) ↔
      1 ≤ x.minutes ∧ x.minutes ≤ 10080 ∧ exceptionOn c (dateOfPlanMinute (planMinute r + x.minutes)) = none
        ∧ ∃ i ∈ startInstances c, i.record = x.record ∧ (weeklyPosition r + x.minutes) % 10080 = i.position := by
  obtain ⟨m, n⟩ := x
  have single : ∀ i, instanceCandidate c r i = some ⟨m, n⟩ ↔ minutesUntil (weeklyPosition r) i = m
      ∧ exceptionOn c (dateOfPlanMinute (planMinute r + m)) = none ∧ i.record = n := by
    intro i
    simp only [instanceCandidate, Option.ite_none_left_eq_some, Bool.not_eq_true, Option.isSome_eq_false_iff,
      Option.isNone_iff_eq_none, Option.some.injEq, Candidate.mk.injEq]
    constructor
    · rintro ⟨free, rfl, rfl⟩
      exact ⟨rfl, free, rfl⟩
    · rintro ⟨rfl, free, rfl⟩
      exact ⟨free, rfl, rfl⟩
  simp only [List.mem_filterMap, single]
  constructor
  · rintro ⟨i, mem, minutes, free, record⟩
    obtain ⟨low, high, position⟩ := (minutesUntil_eq_iff hpos (startInstances_position starts mem)).mp minutes
    exact ⟨low, high, free, i, mem, record, position⟩
  · rintro ⟨low, high, free, i, mem, record, position⟩
    exact ⟨i, mem, (minutesUntil_eq_iff hpos (startInstances_position starts mem)).mpr ⟨low, high, position⟩,
      free, record⟩

/-- The first minute of the `k`-th day on lies on that day. -/
theorem dateOfPlanMinute_day (r : Reading) {k : Nat} (h : minuteOfDay r ≤ k * 1440) :
    dateOfPlanMinute (planMinute r + (k * 1440 - minuteOfDay r)) = dateOfDay (dayNumber r.date + k) := by
  have day : (planMinute r + (k * 1440 - minuteOfDay r)) / 1440 = dayNumber r.date + k + 7 := by
    unfold planMinute
    omega
  rw [dateOfPlanMinute, day, if_neg (by omega), Nat.add_sub_cancel]

theorem mem_dayCandidates {c : RunningConfig} {r : Reading} {x : Candidate} (hday : minuteOfDay r < 1440) :
    x ∈ [1, 2, 3, 4, 5, 6, 7].filterMap (dayCandidate c r) ↔
      1 ≤ x.minutes ∧ x.minutes ≤ 10080 ∧ (minuteOfDay r + x.minutes) % 1440 = 0
        ∧ ∃ e, exceptionOn c (dateOfPlanMinute (planMinute r + x.minutes)) = some e
          ∧ replacementRecord e = x.record := by
  obtain ⟨m, n⟩ := x
  have days : ∀ k, k ∈ [1, 2, 3, 4, 5, 6, 7] ↔ 1 ≤ k ∧ k ≤ 7 := by
    intro k
    simp only [List.mem_cons, List.not_mem_nil, or_false]
    omega
  simp only [List.mem_filterMap, days, dayCandidate, Option.map_eq_some_iff, Candidate.mk.injEq]
  constructor
  · rintro ⟨k, ⟨low, high⟩, e, found, rfl, record⟩
    rw [dateOfPlanMinute_day r (by omega)]
    exact ⟨by omega, by omega, by omega, e, found, record⟩
  · rintro ⟨low, high, midnight, e, found, record⟩
    have minutes : (minuteOfDay r + m) / 1440 * 1440 - minuteOfDay r = m := by omega
    refine ⟨(minuteOfDay r + m) / 1440, by omega, e, ?_, minutes, record⟩
    rw [← dateOfPlanMinute_day r (by omega), minutes]
    exact found

theorem preconditionFlag_iff (c : RunningConfig) (x : Candidate) : preconditionFlag c (some x) = true ↔
    x.record ≠ 0 ∧ ∃ q, shiftRecord c x.record = some q ∧ x.minutes ≤ q.lead := by
  simp [preconditionFlag, Option.any_eq_true]

end Sys2Proof.Machine

namespace Sys2Proof.Claims

open Sys2Proof.Machine

theorem replacementRecord_eq_iff (e : Replacement) (n : Nat) : replacementRecord e = n ↔ n = (match e with
    | .closedDay => 0
    | .record k => k) := by
  cases e <;> simp [replacementRecord, eq_comm]

theorem mem_candidates {c : RunningConfig} {r : Reading} {x : Candidate} (weekday : r.weekday ≤ 6) (hour : r.hour ≤ 23)
    (minute : r.minute ≤ 59) (starts : ∀ e ∈ c.shifts, e.2.startMinute ≤ 1439) :
    x ∈ candidates c r ↔ isCandidate c r x.minutes x.record := by
  have hday : minuteOfDay r < 1440 := by
    unfold minuteOfDay
    omega
  have hpos : weeklyPosition r < 10080 := by
    unfold weeklyPosition
    omega
  simp only [candidates, List.mem_append, mem_instanceCandidates hpos starts, mem_dayCandidates hday,
    replacementRecord_eq_iff, ← and_or_left]
  exact Iff.rfl

/-- R13: the next record is that of the earliest candidate. -/
theorem nextCandidate_earliest {c : RunningConfig} {k : Clock} (set : k.isSet = true) (weekday : k.reading.weekday ≤ 6)
    (hour : k.reading.hour ≤ 23) (minute : k.reading.minute ≤ 59)
    (starts : ∀ e ∈ c.shifts, e.2.startMinute ≤ 1439) :
    (nextCandidate c k = none ↔ ∀ m n, ¬ isCandidate c k.reading m n)
    ∧ ∀ x, nextCandidate c k = some x → isCandidate c k.reading x.minutes x.record
      ∧ ∀ m n, isCandidate c k.reading m n → x.minutes ≤ m := by
  have members : ∀ x, x ∈ candidates c k.reading ↔ isCandidate c k.reading x.minutes x.record :=
    fun x => mem_candidates weekday hour minute starts
  simp only [nextCandidate, set, if_true]
  refine ⟨?_, fun x least => ?_⟩
  · rw [leastBy_eq_none_iff, List.eq_nil_iff_forall_not_mem]
    exact ⟨fun h m n candidate => h ⟨m, n⟩ ((members _).mpr candidate), fun h x mem => h _ _ ((members x).mp mem)⟩
  · obtain ⟨mem, low⟩ := leastBy_eq_some least
    exact ⟨(members x).mp mem, fun m n candidate => low ⟨m, n⟩ ((members _).mpr candidate)⟩

end Sys2Proof.Claims

namespace Sys2Proof.Proofs

open Sys2Proof.Machine Sys2Proof.Claims

/-- Settles O24: the fields of `planAfter` by the clock, the date's exception and the timetable; the notices and the
overrides by `published`, since judging the zones changes no more than the zones. -/
theorem evaluationsPublishThePlan : Obligations.EvaluationsPublishThePlan := by
  refine ⟨fun cause s => ⟨?unset, ?closedDay, ?exception, ?noRecords, ?timetable, ?next, ?start, ?boundary, ?edit,
    ?same⟩, fun cause s => ?notices, fun cause s => ⟨evaluate_frame cause s, ?ended, ?kept⟩⟩
  case unset =>
    intro unset
    simp [planAfter, activeChoice_unset unset, nextCandidate, unset, preconditionFlag, changeoverFlag]
  case closedDay =>
    intro set closed
    simp [planAfter, activeChoice_closedDay set closed, changeoverFlag]
  case exception =>
    intro n set found
    refine ⟨?_, ?_, ?_, (changeoverFlag_iff _ _).trans ?_⟩ <;> simp [planAfter, activeChoice_record set found]
  case noRecords =>
    intro set plain empty
    simp [planAfter, activeChoice_timetable set plain, timetableChoice_noRecords _ empty, changeoverFlag]
  case timetable =>
    intro set plain some_
    obtain ⟨i, mem, low, choice⟩ := timetableChoice_latest s.clock.reading some_
    have active : activeChoice s.config s.clock = _ := (activeChoice_timetable set plain).trans choice
    refine ⟨?_, i, mem, ?_, low, ?_, (changeoverFlag_iff _ _).trans ?_⟩ <;> simp [planAfter, active]
  case next =>
    intro set weekday hour minute starts
    obtain ⟨empty, earliest⟩ := nextCandidate_earliest set weekday hour minute starts
    have next : (planAfter cause s).next = (nextCandidate s.config s.clock).map (nextOf s.clock) := rfl
    have flag : (planAfter cause s).precondition = preconditionFlag s.config (nextCandidate s.config s.clock) := rfl
    refine ⟨?_, fun none => ?_, fun x found => ?_⟩
    · rw [next, Option.map_eq_none_iff]
      exact empty
    · rw [flag, Option.map_eq_none_iff.mp none]
      rfl
    · obtain ⟨y, candidate, rfl⟩ := Option.map_eq_some_iff.mp found
      obtain ⟨is, low⟩ := earliest y candidate
      refine ⟨y.minutes, is, rfl, low, ?_⟩
      rw [flag, candidate]
      exact preconditionFlag_iff _ _
  case start =>
    rintro rfl
    rfl
  case boundary =>
    rintro rfl changed
    exact if_neg changed
  case edit =>
    rintro rfl changed
    exact if_neg changed
  case same =>
    intro notStart same
    cases cause with
    | start => exact absurd rfl notStart
    | boundary => exact if_pos same
    | edit => exact if_pos same
  case notices =>
    obtain ⟨notices, lost⟩ := evaluate_notices cause s
    have begun := notePrecondition_eq cause s.plan (planAfter cause s) s
    dsimp only
    rw [notices, lost, ← begun]
    exact noteShiftChange_notices _ _ _ _
  case ended =>
    intro notStart changed
    obtain ⟨lights, climate⟩ := evaluate_overrides cause s
    have ended := noteShiftChange_ended (s := notePrecondition cause s.plan (planAfter cause s) s) notStart changed
    have begun := notePrecondition_frame cause s.plan (planAfter cause s) s
    refine ⟨?_, fun z r found o placed => ?_⟩
    · rw [lights, published, ended.1, begun]
    · rw [climate, published, ended.2, slotGet_slotMap] at found
      obtain ⟨r, -, rfl⟩ := Option.map_eq_some_iff.mp found
      exact (Option.filter_eq_some_iff.mp placed).2
  case kept =>
    intro kept
    obtain ⟨lights, climate⟩ := evaluate_overrides cause s
    have same : ¬ (cause ≠ .start ∧ s.plan.active ≠ (planAfter cause s).active) := by tauto
    have begun := notePrecondition_frame cause s.plan (planAfter cause s) s
    rw [lights, climate, published, noteShiftChange, if_neg same, begun]
    exact ⟨rfl, rfl⟩

end Sys2Proof.Proofs


/-! SUPPORT and PROOFS. The clock, the demand window, and the edits of the plan (O22, O23, O26, O27). -/

namespace Sys2Proof.Claims

open Sys2Proof.Machine

/-! ## A request whose body is read -/

section
variable {α : Type} {code : Nat} {cls : RequestClass} {whole body : List Byte} {reader : Reader α}
  {handle : α → State → Served} {x : α} {s : State}

theorem serve_plain_read (ready : canTake s) (read : reader body = some (x, [])) (fits : whole.length ≤ 1024) :
    serve code .plain false whole ((readWhole reader body).map handle) s
      = .next (finishRequest code .plain (handle x s)) := by
  rw [readWhole_eq _ _ _ read, Option.map_some, serve_plain ready fits]

theorem serve_waiting_read (ready : canConfigure s) (read : reader body = some (x, [])) (fits : whole.length ≤ 1024) :
    serve code cls false whole ((readWhole reader body).map handle) s
      = .next (finishRequest code cls (handle x s)) := by
  rw [readWhole_eq _ _ _ read, Option.map_some, serve_waiting ready fits]

theorem serve_defining_read (ready : canDefine s) (read : reader body = some (x, [])) (fits : whole.length ≤ 1024) :
    serve code cls true whole ((readWhole reader body).map handle) s
      = .next (finishRequest code cls (handle x s)) := by
  rw [readWhole_eq _ _ _ read, Option.map_some, serve_defining ready fits]

end

/-- A reader that has taken its part hands the rest to the next. -/
theorem reader_step {α β : Type} {r : Reader α} {f : α → Reader β} {body rest : List Byte} {x : α}
    (h : r body = some (x, rest)) : (r >>= f) body = f x rest := by
  rw [reader_bind, h, Option.bind_some]

/-- A request of one byte has that byte's number as its operand. -/
theorem takeByte_single {n : Nat} (h : n < 256) : takeByte [byteOf n] = some (n, []) := takeByte_byteOf n [] h

end Sys2Proof.Claims

namespace Sys2Proof.Machine

/-! ## What an evaluation leaves as it is -/

@[simp] theorem evaluate_config (cause : EvaluationCause) (s : State) : (evaluate cause s).config = s.config := by
  rw [evaluate_frame]

@[simp] theorem evaluate_clock (cause : EvaluationCause) (s : State) : (evaluate cause s).clock = s.clock := by
  rw [evaluate_frame]

@[simp] theorem evaluate_window (cause : EvaluationCause) (s : State) : (evaluate cause s).window = s.window := by
  rw [evaluate_frame]

@[simp] theorem evaluate_history (cause : EvaluationCause) (s : State) : (evaluate cause s).history = s.history := by
  rw [evaluate_frame]

/-! ## The demand window (R128, R130) -/

theorem closeWindow_frame (second : Nat) (outOfTurn : Bool) (s : State) : closeWindow second outOfTurn s = { s with
    window := none, history := (closeWindow second outOfTurn s).history } := by
  unfold closeWindow
  cases open_ : s.window with
  | none =>
    dsimp only
    rw [← open_]
  | some w => rfl

theorem closeWindow_none {second : Nat} {outOfTurn : Bool} {s : State} (h : s.window = none) :
    closeWindow second outOfTurn s = s := by
  simp only [closeWindow, h]

theorem closeWindow_some {second : Nat} {outOfTurn : Bool} {s : State} {w : DemandWindow} (h : s.window = some w) :
    (closeWindow second outOfTurn s).history = (s.history
      ++ [(⟨w.start, second - w.start, w.used, (activeRecord s).windowLimit, w.isPartial || outOfTurn⟩ : ClosedWindow)]
      ).drop (s.history.length + 1 - 8) := by
  simp only [closeWindow, h]
  rfl

theorem realigned_frame (second : Nat) (s : State) : openWindow true (closeWindow second true s) = { s with
    window := some (openedWindow s.config.budget.windowLength (secondNumber s.clock.reading) true)
    history := (openWindow true (closeWindow second true s)).history } := by
  rw [closeWindow_frame]
  rfl

theorem rollWindow_ended {s : State} {w : DemandWindow} (open_ : s.window = some w)
    (ended : w.ends ≤ secondNumber s.clock.reading) :
    rollWindow s = openWindow false (closeWindow (secondNumber s.clock.reading) false s) :=
  if_pos (by simpa [open_] using ended)

theorem rollWindow_running {s : State} (running : ∀ w, s.window = some w → secondNumber s.clock.reading < w.ends) :
    rollWindow s = s := by
  cases open_ : s.window with
  | none => exact if_neg (by simp [open_])
  | some w => exact if_neg (by simpa [open_] using running w open_)

theorem rollWindow_frame (s : State) :
    rollWindow s = { s with window := (rollWindow s).window, history := (rollWindow s).history } := by
  unfold rollWindow
  split
  · rw [openWindow, closeWindow_frame]
  · rfl

/-- The end of the open window: it closes into the history, and a new one opens. -/
theorem rollWindow_of_ended {s : State} {w : DemandWindow} (open_ : s.window = some w)
    (ended : w.ends ≤ secondNumber s.clock.reading) :
    (rollWindow s).window = some ⟨secondNumber s.clock.reading,
        nextBoundary s.config.budget.windowLength (secondNumber s.clock.reading), 0, false, false⟩
      ∧ (rollWindow s).history = (s.history ++ [(⟨w.start, secondNumber s.clock.reading - w.start, w.used,
        (activeRecord s).windowLimit, w.isPartial⟩ : ClosedWindow)]).drop (s.history.length + 1 - 8) := by
  rw [rollWindow_ended open_ ended]
  refine ⟨?_, ?_⟩
  · rw [openWindow, closeWindow_frame]
    rfl
  · rw [openWindow, closeWindow_some open_, Bool.or_false]

/-! ## The calendar (R1) -/

theorem monthLength_eq (year month : Nat) : monthLength year month = Claims.daysOf year month := by
  unfold monthLength Claims.daysOf
  split <;> simp_all [isLeap]

end Sys2Proof.Machine

namespace Sys2Proof.Claims

open Sys2Proof.Machine

theorem nextReading_follows (r : Reading) : calendarLaw r := by
  refine ⟨fun h => if_pos h, fun h k => ?minute, fun h k l => ?hour, fun h k l valid => ⟨?day, ?month, ?year, ?last⟩⟩
  case minute => simp [nextReading, h, k]
  case hour => simp [nextReading, h, k, l]
  case day =>
    intro within
    have notLast : r.date ≠ ⟨31, 12, 2099⟩ := by
      intro last
      simp [last, daysOf] at within
    simp [nextReading, h, k, l, notLast, nextDate, monthLength_eq, within]
  case month =>
    intro ends before
    have notLast : r.date ≠ ⟨31, 12, 2099⟩ := by
      intro last
      simp [last] at before
    simp [nextReading, h, k, l, notLast, nextDate, monthLength_eq, ends, before]
  case year =>
    intro day month before
    have notLast : r.date ≠ ⟨31, 12, 2099⟩ := by
      intro last
      simp [last] at before
    simp [nextReading, h, k, l, notLast, nextDate, monthLength_eq, day, month, daysOf]
  case last =>
    intro last
    simp [nextReading, h, k, l, last]

/-! ## SET CLOCK (R3) -/

theorem dateValid_fields {d : Date} (h : dateValid d = true) : d.day < 256 ∧ d.month < 256 ∧ d.year < 65536 := by
  simp only [dateValid, Bool.and_eq_true, decide_eq_true_eq] at h
  have : monthLength d.year d.month ≤ 31 := by
    unfold monthLength
    split <;> try split
    all_goals omega
  omega

theorem exec_setClock_taken {d : Date} {h m sec : Nat} {s : State} (ready : canTake s) (valid : dateValid d = true)
    (hour : h ≤ 23) (minute : m ≤ 59) (second : sec ≤ 59) :
    exec (.setClock (dateBytes d ++ [byteOf h, byteOf m, byteOf sec])) s
      = taken 0x10 .plain .ok [] (setClock ⟨d, h, m, sec⟩ s) := by
  obtain ⟨day, month, year⟩ := dateValid_fields valid
  have read : takeClock (dateBytes d ++ [byteOf h, byteOf m, byteOf sec]) = some (⟨d, h, m, sec⟩, []) := by
    simp only [takeClock, dateBytes, reader_bind, reader_pure, List.cons_append, List.nil_append]
    rw [takeByte_byteOf _ _ day, Option.bind_some, takeByte_byteOf _ _ month, Option.bind_some,
      takeWord_wordBytes _ _ year, Option.bind_some, takeByte_byteOf _ _ (by omega), Option.bind_some,
      takeByte_byteOf _ _ (by omega), Option.bind_some, takeByte_byteOf _ _ (by omega), Option.bind_some]
  have inRange : clockFits ⟨d, h, m, sec⟩ = true := by
    simp [clockFits, valid, hour, minute, second]
  refine (serve_plain_read (handle := handleSetClock) ready read (by simp [dateBytes, wordBytes])).trans ?_
  rw [handleSetClock, inRange]
  rfl

/-- The setting before the windows are realigned. -/
def clockSet (f : ClockFields) (s : State) : State :=
  evaluate .edit { s with clock := ⟨true, readingOf f.date f.hour f.minute f.second, 0⟩ }

theorem setClock_def (f : ClockFields) (s : State) : setClock f s = openWindow true
    (if s.clock.isSet then closeWindow (secondNumber s.clock.reading) true (clockSet f s) else clockSet f s) := rfl

theorem setClock_eq (f : ClockFields) (s : State) : setClock f s = { clockSet f s with
    window := some (openedWindow (clockSet f s).config.budget.windowLength
      (secondNumber (clockSet f s).clock.reading) true)
    history := (setClock f s).history } := by
  rw [setClock_def]
  split
  · exact realigned_frame _ _
  · rfl

theorem setClock_history_kept {f : ClockFields} {s : State} (h : s.clock.isSet = false ∨ s.window = none) :
    (setClock f s).history = s.history := by
  rw [setClock_def]
  split
  next set =>
    have closed : (clockSet f s).window = none := by
      rw [clockSet, evaluate_window]
      exact h.resolve_left (by simp [set])
    rw [openWindow, closeWindow_none closed, clockSet, evaluate_history]
  next => rw [openWindow, clockSet, evaluate_history]

theorem setClock_history_closed {f : ClockFields} {s : State} {w : DemandWindow} (set : s.clock.isSet = true)
    (open_ : s.window = some w) : (setClock f s).history = (s.history ++ [(⟨w.start,
      secondNumber s.clock.reading - w.start, w.used, (activeRecord (setClock f s)).windowLimit, true⟩ : ClosedWindow)]
      ).drop (s.history.length + 1 - 8) := by
  have running : (clockSet f s).window = some w := by rw [clockSet, evaluate_window, open_]
  have limit : activeRecord (setClock f s) = activeRecord (clockSet f s) := by rw [setClock_eq]; rfl
  rw [limit]
  rw [setClock_def, if_pos set, openWindow, closeWindow_some running, Bool.or_true, clockSet, evaluate_history]

/-! ## CLOCK_TICK (R1) -/

theorem exec_clockTick_standing {s : State} (h : s.clock.isSet = false) : exec .clockTick s = .next s := by
  refine (congrArg Host.Outcome.next (if_pos ?_) : execClockTick s = _)
  rw [h]
  rfl

theorem exec_clockTick_backup {s : State} (set : s.clock.isSet = true) (off : s.powered = false) :
    exec .clockTick s = .next { s with clock := backupTick s.clock } := by
  refine (congrArg Host.Outcome.next ?_ : execClockTick s = _)
  rw [set, off]
  rfl

theorem exec_clockTick_powered {s : State} (set : s.clock.isSet = true) (on : s.powered = true) :
    exec .clockTick s = .next (tick s) := by
  refine (congrArg Host.Outcome.next ?_ : execClockTick s = _)
  rw [set, on]
  rfl

theorem tick_within {s : State} {r : Reading} (set : s.clock.isSet = true)
    (next : nextReading s.clock.reading = some r) (second : r.second ≠ 0) :
    tick s = rollWindow { s with clock := ⟨true, r, 0⟩ } := by
  simp only [tick, next, second, if_false, set]

theorem tick_boundary {s : State} {r : Reading} (set : s.clock.isSet = true)
    (next : nextReading s.clock.reading = some r) (second : r.second = 0) :
    tick s = rollWindow (evaluate .boundary { s with clock := ⟨true, r, 0⟩ }) := by
  simp only [tick, next, second, if_true, set]

theorem tick_last {s : State} (last : nextReading s.clock.reading = none) : tick s = clockRangeEnd s := by
  simp only [tick, last]

/-! ## The end of the clock's range (R1) -/

/-- The clock has become UNSET, and the evaluation is still to come. -/
def clockUnset (s : State) : State :=
  raise .clockUnset .none none none { s with clock := ⟨false, unsetReading, 0⟩ }

theorem clockRangeEnd_eq (s : State) : clockRangeEnd s
    = closeWindow (secondNumber s.clock.reading + 1) true (evaluate .boundary (clockUnset s)) := rfl

theorem planAfter_congr {cause : EvaluationCause} {s t : State} (config : t.config = s.config)
    (clock : t.clock = s.clock) (plan : t.plan = s.plan) : planAfter cause t = planAfter cause s := by
  simp only [planAfter, config, clock, plan]

theorem clockRangeEnd_clock (s : State) : (clockRangeEnd s).clock = ⟨false, ⟨⟨1, 1, 2000⟩, 5, 0, 0, 0⟩, 0⟩ := by
  rw [clockRangeEnd_eq, closeWindow_frame, evaluate_clock]
  rfl

theorem clockRangeEnd_plan (s : State) :
    (clockRangeEnd s).plan = planAfter .boundary { s with clock := (clockRangeEnd s).clock } := by
  rw [clockRangeEnd_clock, clockRangeEnd_eq, closeWindow_frame, evaluate_plan]
  exact planAfter_congr rfl rfl rfl

theorem clockRangeEnd_window (s : State) : (clockRangeEnd s).window = none := by
  rw [clockRangeEnd_eq, closeWindow_frame]

theorem clockRangeEnd_closes {s : State} {w : DemandWindow} (open_ : s.window = some w) :
    (clockRangeEnd s).history = (s.history ++ [(⟨w.start, secondNumber s.clock.reading + 1 - w.start, w.used,
      (activeRecord (clockRangeEnd s)).windowLimit, true⟩ : ClosedWindow)]).drop (s.history.length + 1 - 8) := by
  have running : (evaluate .boundary (clockUnset s)).window = some w := (evaluate_window _ _).trans open_
  have limit : activeRecord (clockRangeEnd s) = activeRecord (evaluate .boundary (clockUnset s)) := by
    rw [clockRangeEnd_eq, closeWindow_frame]
    rfl
  rw [limit, clockRangeEnd_eq, closeWindow_some running, evaluate_history, Bool.or_true]
  rfl

theorem clockRangeEnd_history {s : State} (closed : s.window = none) : (clockRangeEnd s).history = s.history := by
  have none_ : (evaluate .boundary (clockUnset s)).window = none := (evaluate_window _ _).trans closed
  rw [clockRangeEnd_eq, closeWindow_none none_, evaluate_history]
  rfl

theorem clockRangeEnd_notices (s : State) :
    let unset := raise .clockUnset .none none none s
    let noted := if s.plan.active = 0 then unset
      else raise .shiftChanged (.record 0) (some s.plan.active) (some ActiveReason.clockUnset.ctorIdx) unset
    (clockRangeEnd s).notices = noted.notices ∧ (clockRangeEnd s).lost = noted.lost := by
  have off : (clockUnset s).clock.isSet = false := rfl
  have record : (planAfter .boundary (clockUnset s)).active = 0
      ∧ (planAfter .boundary (clockUnset s)).reason = .clockUnset
      ∧ (planAfter .boundary (clockUnset s)).precondition = false := by
    simp [planAfter, activeChoice_unset off, nextCandidate, off, preconditionFlag]
  obtain ⟨active, reason, quiet⟩ := record
  have still : notePrecondition .boundary (clockUnset s).plan (planAfter .boundary (clockUnset s)) (clockUnset s)
      = clockUnset s := by
    rw [notePrecondition_eq, quiet]
    exact if_neg (by simp)
  obtain ⟨notices, lost⟩ := evaluate_notices .boundary (clockUnset s)
  obtain ⟨changedNotices, changedLost⟩ := noteShiftChange_notices .boundary (clockUnset s).plan
    (planAfter .boundary (clockUnset s)) (clockUnset s)
  dsimp only
  rw [clockRangeEnd_eq, closeWindow_frame, notices, lost, published, still, changedNotices, changedLost, active, reason]
  by_cases zero : s.plan.active = 0
  · rw [if_pos zero, if_neg (fun h => h.2 zero)]
    exact raise_congr rfl rfl rfl
  · rw [if_neg zero, if_pos ⟨by decide, zero⟩]
    obtain ⟨sameNotices, sameLost⟩ := raise_congr (kind := .clockUnset) (subject := .none) (a := none) (b := none)
      (s := s) (t := { s with clock := ⟨false, unsetReading, 0⟩ }) rfl rfl rfl
    exact raise_congr rfl sameNotices sameLost

theorem clockRangeEnd_frame (s : State) : clockRangeEnd s = { s with
    clock := (clockRangeEnd s).clock, plan := (clockRangeEnd s).plan, window := (clockRangeEnd s).window
    history := (clockRangeEnd s).history, zones := (clockRangeEnd s).zones
    lightOverrides := (clockRangeEnd s).lightOverrides, climate := (clockRangeEnd s).climate
    notices := (clockRangeEnd s).notices, lost := (clockRangeEnd s).lost } := by
  rw [clockRangeEnd_eq, closeWindow_frame, evaluate_frame]
  rfl

end Sys2Proof.Claims

namespace Sys2Proof.Proofs

open Sys2Proof.Machine Sys2Proof.Claims

/-- Settles O22: the evaluation's frame, and the old window's end under the record then active. -/
theorem setClockSetsTheReading : Obligations.SetClockSetsTheReading := by
  intro d h m sec s ready valid hour minute second
  have set := setClock_eq ⟨d, h, m, sec⟩ s
  have evaluated := evaluate_frame .edit { s with clock := ⟨true, readingOf d h m sec, 0⟩ }
  have clock : (setClock ⟨d, h, m, sec⟩ s).clock = ⟨true, readingOf d h m sec, 0⟩ := by
    rw [set, clockSet, evaluate_clock]
  refine ⟨_, exec_setClock_taken ready valid hour minute second, clock, ?plan, ?window, setClock_history_kept,
    fun w => setClock_history_closed, ?frame⟩
  case plan => rw [clock, set, clockSet, evaluate_plan]
  case window =>
    rw [clock, set]
    simp only [clockSet, evaluate_clock, evaluate_config, openedWindow]
  case frame => rw [set, clockSet, evaluated]

/-- Settles O23: a tick by power and by the next reading; a window's end by `rollWindow`. -/
theorem clockTicksAdvanceASecond : Obligations.ClockTicksAdvanceASecond := by
  refine ⟨fun s => ⟨exec_clockTick_standing, ?backup, ?backupEnds, ?within, ?boundary, ?last⟩, ?ended,
    nextReading_follows⟩
  case backup =>
    intro r set off next
    rw [exec_clockTick_backup set off]
    simp only [backupTick, next, set]
  case backupEnds =>
    intro set off next
    rw [exec_clockTick_backup set off]
    simp only [backupTick, next]
    rfl
  case within =>
    intro r set on next second running
    rw [exec_clockTick_powered set on, tick_within set next second,
      rollWindow_running (s := { s with clock := ⟨true, r, 0⟩ }) running]
  case boundary =>
    intro r set on next second
    have evaluated := evaluate_frame .boundary { s with clock := ⟨true, r, 0⟩ }
    have clock := evaluate_clock .boundary { s with clock := ⟨true, r, 0⟩ }
    have config := evaluate_config .boundary { s with clock := ⟨true, r, 0⟩ }
    have plan := evaluate_plan .boundary { s with clock := ⟨true, r, 0⟩ }
    have window := evaluate_window .boundary { s with clock := ⟨true, r, 0⟩ }
    have history := evaluate_history .boundary { s with clock := ⟨true, r, 0⟩ }
    refine ⟨_, (exec_clockTick_powered set on).trans (congrArg _ (tick_boundary set next second)), ?_⟩
    generalize evaluate .boundary { s with clock := ⟨true, r, 0⟩ } = u at *
    have kept : (rollWindow u).clock = ⟨true, r, 0⟩ := by rw [rollWindow_frame, clock]
    have reading : secondNumber u.clock.reading = secondNumber r := by rw [clock]
    refine ⟨kept, ?plan, fun w open_ ended => ?closes, fun running => ?runs, ?frame⟩
    case plan => rw [kept, rollWindow_frame, plan]
    case closes =>
      obtain ⟨opened, closed⟩ := rollWindow_of_ended (window.trans open_) (reading.trans_ge ended)
      have limit : activeRecord (rollWindow u) = activeRecord u := by rw [rollWindow_frame]; rfl
      rw [opened, closed, limit, reading, config, history]
      exact ⟨rfl, rfl⟩
    case runs =>
      rw [rollWindow_running fun w open_ => reading.trans_lt (running w (window.symm.trans open_))]
      exact ⟨window, history⟩
    case frame => rw [rollWindow_frame, evaluated]
  case last =>
    intro set on last
    exact ⟨_, (exec_clockTick_powered set on).trans (congrArg _ (tick_last last)), clockRangeEnd_clock s,
      clockRangeEnd_plan s, clockRangeEnd_window s, fun w => clockRangeEnd_closes, clockRangeEnd_history,
      clockRangeEnd_notices s, clockRangeEnd_frame s⟩
  case ended =>
    intro s r w set on next second open_ ended
    have rolled := rollWindow_of_ended (s := { s with clock := ⟨true, r, 0⟩ }) open_ ended
    refine ⟨_, exec_clockTick_powered set on, ?_⟩
    rw [tick_within set next second]
    exact ⟨rolled.1, rolled.2, rollWindow_frame _⟩

end Sys2Proof.Proofs


/-! SUPPORT and PROOFS. The edits of the plan (O26, O27). -/

namespace Sys2Proof.Machine

/-! ## A shift record in its bytes (R5, R193) -/

/-- A value for each zone kind, in the order of the kinds. -/
def kindList {α : Type} (v : PerKind α) : List α := [v.dock, v.staging, v.office, v.canopy]

/-- The sixteen levels in their order. -/
def levelList (v : PerKind Levels) : List Nat :=
  (kindList v).flatMap fun l => [l.occupied, l.vacant, l.dormant, l.closed]

theorem mem_kindList {α : Type} {v : PerKind α} {x : α} (h : x ∈ kindList v) : ∃ k, x = forKind v k := by
  simp only [kindList, List.mem_cons, List.not_mem_nil, or_false] at h
  rcases h with h | h | h | h
  · exact ⟨.dock, h⟩
  · exact ⟨.staging, h⟩
  · exact ⟨.office, h⟩
  · exact ⟨.canopy, h⟩

theorem perKindBytes_eq {α : Type} (f : α → List Byte) (v : PerKind α) : perKindBytes f v = (kindList v).flatMap f := by
  simp [perKindBytes, kindList]

theorem levelBytes_eq (v : PerKind Levels) : perKindBytes levelBytes v = (levelList v).flatMap wordBytes := by
  simp [perKindBytes, levelBytes, levelList, kindList]

theorem perKind_kindList {α : Type} [Inhabited α] (v : PerKind α) : perKind (kindList v) = v := rfl

theorem levelsOf_levelList (v : PerKind Levels) : (⟨levelsAt (levelList v) 0, levelsAt (levelList v) 4,
    levelsAt (levelList v) 8, levelsAt (levelList v) 12⟩ : PerKind Levels) = v := rfl

/-- A record as its bytes give it. Of a record out of range they keep the start, the lead and the changeover in part. -/
def rawShift (r : ShiftRecord) : RawShift :=
  ⟨r.weekdays.toNat, r.startMinute % 65536, r.label, r.openZones.toNat, levelList r.levels, kindList r.setpoint,
    kindList r.setback, kindList r.drop, r.cap, r.base, r.windowLimit, r.lead % 256, r.changeover % 256⟩

theorem byteOf_mod (n : Nat) : byteOf (n % 256) = byteOf n := byteOf_congr (Nat.mod_mod _ _)

theorem takeByte_mod (n : Nat) (rest : List Byte) : takeByte (byteOf n :: rest) = some (n % 256, rest) := by
  rw [← byteOf_mod, takeByte_byteOf _ _ (Nat.mod_lt _ (by decide))]

theorem takeWord_mod (n : Nat) (rest : List Byte) : takeWord (wordBytes n ++ rest) = some (n % 65536, rest) := by
  rw [← wordBytes_mod, takeWord_wordBytes _ _ (Nat.mod_lt _ (by decide))]

theorem takeMany_words {xs : List Nat} {n : Nat} (rest : List Byte) (size : xs.length = n)
    (small : ∀ x ∈ xs, x < 65536) : takeMany takeWord n (xs.flatMap wordBytes ++ rest) = some (xs, rest) := by
  rw [← size, takeMany_encoded takeWord wordBytes id xs rest fun x hx rest => takeWord_wordBytes x rest (small x hx),
    List.map_id]

theorem takeMany_signed {xs : List Int} {n : Nat} (rest : List Byte) (size : xs.length = n)
    (small : ∀ x ∈ xs, -400 ≤ x ∧ x ≤ 600) :
    takeMany takeSigned n (xs.flatMap signedBytes ++ rest) = some (xs, rest) := by
  rw [← size, takeMany_encoded takeSigned signedBytes id xs rest fun x hx rest => takeSigned_signedBytes x rest
    (by have := small x hx; omega) (by have := small x hx; omega), List.map_id]

end Sys2Proof.Machine

namespace Sys2Proof.Claims

open Sys2Proof.Machine

section
variable {timed : Bool} {r : ShiftRecord} (fits : recordFits timed r)
include fits

theorem recordFits_levels : ∀ x ∈ levelList r.levels, x ≤ 1000 := by
  obtain ⟨-, -, -, -, levels, -, -⟩ := fits
  intro x mem
  obtain ⟨l, hl, hx⟩ := List.mem_flatMap.mp mem
  obtain ⟨k, rfl⟩ := mem_kindList hl
  have := levels k
  simp only [List.mem_cons, List.not_mem_nil, or_false] at hx
  omega

theorem recordFits_setpoint : ∀ x ∈ kindList r.setpoint, -400 ≤ x ∧ x ≤ 600 := by
  obtain ⟨-, -, -, -, -, temperatures, -⟩ := fits
  intro x mem
  obtain ⟨k, rfl⟩ := mem_kindList mem
  have := temperatures k
  omega

theorem recordFits_setback : ∀ x ∈ kindList r.setback, -400 ≤ x ∧ x ≤ 600 := by
  obtain ⟨-, -, -, -, -, temperatures, -⟩ := fits
  intro x mem
  obtain ⟨k, rfl⟩ := mem_kindList mem
  have := temperatures k
  omega

theorem recordFits_drop : ∀ x ∈ kindList r.drop, x ≤ 300 := by
  obtain ⟨-, -, -, -, -, temperatures, -⟩ := fits
  intro x mem
  obtain ⟨k, rfl⟩ := mem_kindList mem
  have := temperatures k
  omega

theorem takeShift_shiftBytes : takeShift (shiftBytes true r) = some (rawShift r, []) := by
  have levels := recordFits_levels fits
  have setpoints := recordFits_setpoint fits
  have setbacks := recordFits_setback fits
  have drops := recordFits_drop fits
  obtain ⟨label, cap, base, limit, -⟩ := fits
  have weekdays : r.weekdays.toNat < 256 := by have := r.weekdays.isLt; omega
  have zones : r.openZones.toNat < 65536 := by have := r.openZones.isLt; omega
  have bytes : shiftBytes true r = byteOf r.weekdays.toNat :: (wordBytes r.startMinute ++ byteOf r.label
      :: (wordBytes r.openZones.toNat ++ ((levelList r.levels).flatMap wordBytes
      ++ ((kindList r.setpoint).flatMap signedBytes ++ ((kindList r.setback).flatMap signedBytes
      ++ ((kindList r.drop).flatMap wordBytes ++ (wordBytes r.cap ++ (wordBytes r.base ++ (wordBytes r.windowLimit
      ++ [byteOf r.lead, byteOf r.changeover]))))))))) := by
    rw [shiftBytes, levelBytes_eq, perKindBytes_eq, perKindBytes_eq, perKindBytes_eq]
    simp only [if_true, List.append_assoc, List.cons_append, List.nil_append]
  rw [bytes, takeShift, reader_step (takeByte_byteOf _ _ weekdays), reader_step (takeWord_mod _ _),
    reader_step (takeByte_byteOf _ _ (by omega)), reader_step (takeWord_wordBytes _ _ zones),
    reader_step (takeMany_words (n := 16) _ rfl fun x hx => by have := levels x hx; omega),
    reader_step (takeMany_signed (n := 4) _ rfl setpoints),
    reader_step (takeMany_signed (n := 4) _ rfl setbacks),
    reader_step (takeMany_words (n := 4) _ rfl fun x hx => by have := drops x hx; omega),
    reader_step (takeWord_wordBytes _ _ (by omega)), reader_step (takeWord_wordBytes _ _ (by omega)),
    reader_step (takeWord_wordBytes _ _ (by omega)), reader_step (takeByte_mod _ _), reader_step (takeByte_mod _ _)]
  rfl

theorem shiftFits_rawShift : shiftFits timed (rawShift r) = true := by
  have levels := recordFits_levels fits
  have setpoints := recordFits_setpoint fits
  have setbacks := recordFits_setback fits
  have drops := recordFits_drop fits
  obtain ⟨-, -, -, -, -, -, ranges⟩ := fits
  have zones : r.openZones.toNat ≤ 0xFFF := by have := r.openZones.isLt; omega
  simp only [shiftFits, Bool.and_eq_true, List.all_eq_true, decide_eq_true_eq, temperatureFits, Bool.or_eq_true,
    Bool.not_eq_true']
  refine ⟨⟨⟨⟨⟨zones, levels⟩, setpoints⟩, setbacks⟩, drops⟩, ?_⟩
  cases timed with
  | false => exact .inl rfl
  | true =>
    obtain ⟨some_, start, lead, changeover⟩ := ranges rfl
    have nonzero : r.weekdays.toNat ≠ 0 := fun h => some_ (BitVec.eq_of_toNat_eq h)
    have bound := r.weekdays.isLt
    have startKept : r.startMinute % 65536 = r.startMinute := Nat.mod_eq_of_lt (by omega)
    have leadKept : r.lead % 256 = r.lead := Nat.mod_eq_of_lt (by omega)
    have changeoverKept : r.changeover % 256 = r.changeover := Nat.mod_eq_of_lt (by omega)
    simp only [rawShift, startKept, leadKept, changeoverKept]
    omega

theorem shiftOf_rawShift : shiftOf timed (rawShift r)
    = if timed = true then r else { r with weekdays := 0, startMinute := 0, lead := 0, changeover := 0 } := by
  obtain ⟨-, -, -, -, -, -, ranges⟩ := fits
  cases timed with
  | false => simp [shiftOf, rawShift, perKind_kindList, levelsOf_levelList]
  | true =>
    obtain ⟨-, start, lead, changeover⟩ := ranges rfl
    have startKept : r.startMinute % 65536 = r.startMinute := Nat.mod_eq_of_lt (by omega)
    have leadKept : r.lead % 256 = r.lead := Nat.mod_eq_of_lt (by omega)
    have changeoverKept : r.changeover % 256 = r.changeover := Nat.mod_eq_of_lt (by omega)
    simp [shiftOf, rawShift, perKind_kindList, levelsOf_levelList, startKept, leadKept, changeoverKept]

end

/-! ## WRITE SHIFT (R7) -/

theorem exec_writeShift_taken {i : Nat} {r : ShiftRecord} {s : State} (ready : canConfigure s) (index : i ≤ 16)
    (fits : recordFits (i != 0) r) (apart : i ≠ 0 → startsCollide s.config i r = false) :
    exec (.writeShift (byteOf i :: shiftBytes true r)) s
      = taken 0x12 .configuring .ok [] (editPlan (putShift s.config i (asHeld i r)) s) := by
  have read : takeWriteShift (byteOf i :: shiftBytes true r) = some ((i, rawShift r), []) := by
    rw [takeWriteShift, reader_step (takeByte_byteOf _ _ (by omega)), reader_step (takeShift_shiftBytes fits)]
    rfl
  have size : (byteOf i :: shiftBytes true r).length ≤ 1024 := by
    simp [shiftBytes, levelBytes, perKindBytes, signedBytes, wordBytes]
  have timed : decide (i ≠ 0) = (i != 0) := by cases i <;> rfl
  have held : shiftOf (i != 0) (rawShift r) = asHeld i r := by
    rw [shiftOf_rawShift fits, asHeld]
    cases i <;> rfl
  refine (serve_waiting_read (handle := handleWriteShift) ready read size).trans ?_
  have free : (i != 0 && startsCollide s.config i (asHeld i r)) = false := by
    cases i with
    | zero => rfl
    | succ n => exact apart (by simp)
  simp only [handleWriteShift, timed, held, shiftFits_rawShift fits, free, Nat.not_lt.mpr index]
  rfl

/-! ## DELETE SHIFT, WRITE EXCEPTION, DELETE EXCEPTION (R8, R9, R10) -/

theorem exec_deleteShift_taken {i : Nat} {s : State} (ready : canConfigure s) (low : 1 ≤ i) (high : i ≤ 16) :
    exec (.deleteShift [byteOf i]) s = .next (finishRequest 0x14 .configuring (handleDeleteShift i s)) :=
  serve_waiting_read (handle := handleDeleteShift) ready (takeByte_single (by omega)) (by simp)

theorem exceptionDate_small {day month : Nat} (h : exceptionDateValid day month = true) : day < 256 ∧ month < 256 := by
  simp only [exceptionDateValid, Bool.and_eq_true, decide_eq_true_eq] at h
  have : monthLength 2000 month ≤ 31 := by
    unfold monthLength
    split <;> try split
    all_goals omega
  omega

theorem exec_writeException_taken {day month n : Nat} {s : State} (ready : canConfigure s)
    (date : exceptionDateValid day month = true) (small : n < 256) :
    exec (.writeException [byteOf day, byteOf month, byteOf n]) s
      = .next (finishRequest 0x15 .configuring (handleWriteException (day, month, n) s)) := by
  obtain ⟨hd, hm⟩ := exceptionDate_small date
  refine serve_waiting_read (handle := handleWriteException) ready ?_ (by simp)
  rw [takeException, reader_step (takeByte_byteOf _ _ hd), reader_step (takeByte_byteOf _ _ hm),
    reader_step (takeByte_single small)]
  rfl

theorem exec_deleteException_taken {day month : Nat} {s : State} (ready : canConfigure s)
    (date : exceptionDateValid day month = true) :
    exec (.deleteException [byteOf day, byteOf month]) s
      = .next (finishRequest 0x16 .configuring (handleDeleteException (day, month) s)) := by
  obtain ⟨hd, hm⟩ := exceptionDate_small date
  refine serve_waiting_read (handle := handleDeleteException) ready ?_ (by simp)
  rw [takeExceptionDate, reader_step (takeByte_byteOf _ _ hd), reader_step (takeByte_single hm)]
  rfl

theorem isReplacement_false {c : RunningConfig} {i : Nat} (h : ∀ e ∈ c.exceptions, e.2.replacement ≠ .record i) :
    isReplacement c i = false := by
  simpa [isReplacement] using h

theorem exceptionSlot_none {c : RunningConfig} {day month : Nat}
    (h : ∀ e ∈ c.exceptions, ¬ (e.2.day = day ∧ e.2.month = month)) : exceptionSlot c day month = none := by
  have absent : (c.exceptions.find? fun e => e.2.day == day && e.2.month == month) = none :=
    find?_none fun e mem => by simpa using h e mem
  rw [exceptionSlot, absent, Option.map_none]

end Sys2Proof.Claims

namespace Sys2Proof.Proofs

open Sys2Proof.Machine Sys2Proof.Claims

/-- Settles O26: the record's bytes are read back field by field, and the record takes its slot. -/
theorem writeShiftTakesTheRecordOfItsBytes : Obligations.WriteShiftTakesTheRecordOfItsBytes := by
  intro i r s ready index fits apart
  have config : (editPlan (putShift s.config i (asHeld i r)) s).config = putShift s.config i (asHeld i r) :=
    evaluate_config _ _
  refine ⟨_, exec_writeShift_taken ready index fits apart, ?_⟩
  rw [config]
  refine ⟨?held, ?config, rfl⟩
  case held =>
    rw [putShift, shiftRecord]
    split
    · rfl
    · rw [slotGet_slotSet, if_pos rfl]
  case config =>
    rw [putShift]
    split
    · rfl
    next timed => rw [asHeld, if_neg timed]

/-- Settles O27: each handler by the slot that it finds. -/
theorem planEditsAreEvaluatedBeforeTheReply : Obligations.PlanEditsAreEvaluatedBeforeTheReply := by
  intro s ready
  refine ⟨?delete, ?closedDay, ?replaced, ?freed⟩
  case delete =>
    intro i low high used free
    rw [exec_deleteShift_taken ready low high, handleDeleteShift, if_neg (by omega), used,
      isReplacement_false free]
    rfl
  case closedDay =>
    intro day month date free room
    have closed : (0xFF : Byte) = byteOf 255 := rfl
    rw [closed, exec_writeException_taken ready date (by decide), handleWriteException]
    simp only [date, replacementOf, slotForException, exceptionSlot_none free, exceptionSlots, room, if_true]
    rfl
  case replaced =>
    intro day month n slot date low high used found
    rw [exec_writeException_taken ready date (by omega), handleWriteException]
    have record : replacementOf n = some (.record n) := by
      rw [replacementOf, if_neg (by omega), if_pos ⟨low, high⟩]
    simp only [date, record, replacementMissing, used, slotForException, found]
    rfl
  case freed =>
    intro day month slot date found
    rw [exec_deleteException_taken ready date, handleDeleteException]
    simp only [date, found]
    rfl

end Sys2Proof.Proofs


/-! SUPPORT and PROOFS. The settings that are taken whole (O33), the host's curtail order (O38), the timers of the mode
controller (O43). -/

namespace Sys2Proof.Claims

open Sys2Proof.Machine

theorem pointInRange_of_isPoint {p : PointRef} (h : isPoint p) : pointInRange p = true := by
  obtain ⟨bus, addr, point⟩ := p
  obtain ⟨low, ⟨rfl, rfl⟩ | ⟨field, addrLow, addrHigh⟩⟩ := h
  · simpa [pointInRange] using low
  · cases bus with
    | t => exact absurd rfl field
    | _ => simp [pointInRange, low, addrLow, addrHigh]

theorem isWithin_true {lo hi n : Nat} (low : lo ≤ n) (high : n ≤ hi) : isWithin lo hi n = true := by
  simp [isWithin, low, high]

theorem loadInRange_true {k : Nat} (low : 1 ≤ k) (high : k ≤ 64) : loadInRange k = true := by
  simp [loadInRange, low, high]

theorem zoneInRange_true {z : Nat} (h : isZone z) : zoneInRange z = true := by
  simp [zoneInRange, h.1, h.2]

/-! ## Line parameters and filter tests (R21, R80) -/

theorem bitRateOf_bitsPerSecond (rate : BitRate) : bitRateOf (bitsPerSecond rate) = some rate := by
  cases rate <;> rfl

theorem exec_setLineParameters {l : LineId} {rate : BitRate} {timeout : Nat} {s : State} (ready : canDefine s)
    (low : 5 ≤ timeout) (high : timeout ≤ 100) :
    exec (.setLineParameters ([byteOf l.ctorIdx] ++ wordBytes (bitsPerSecond rate) ++ [byteOf timeout])) s
      = taken 0x26 .configuring .ok [] { s with
        config := setLineCfg s.config l { lineCfg s.config l with bitRate := rate, timeout := timeout } } := by
  have line : l.ctorIdx < 256 := by cases l <;> decide
  have bits : bitsPerSecond rate < 65536 := by cases rate <;> decide
  refine (serve_defining_read (handle := handleLineParameters) (x := (l.ctorIdx, bitsPerSecond rate, timeout)) ready ?_
    (by simp [wordBytes])).trans ?_
  · rw [takeLineParameters, List.append_assoc, List.singleton_append, reader_step (takeByte_byteOf _ _ line),
      reader_step (takeWord_wordBytes _ _ bits), reader_step (takeByte_single (by omega))]
    rfl
  · simp only [handleLineParameters, lineOfByte_ctorIdx, bitRateOf_bitsPerSecond, isWithin_true low high, if_true]
    rfl

theorem exec_setFilterTests {f : FilterCfg} {s : State} (ready : canDefine s) (storm : 1 ≤ f.stormLimit)
    (storms : f.stormLimit ≤ 255) (stale : 1 ≤ f.staleLimit) (stales : f.staleLimit ≤ 60) :
    exec (.setFilterTests [flagByte f.f2, flagByte f.f3, flagByte f.f4, flagByte f.f5, flagByte f.f6,
        byteOf f.stormLimit, byteOf f.staleLimit]) s
      = taken 0x27 .configuring .ok [] { s with config := { s.config with filter := f } } := by
  refine (serve_defining_read (handle := handleFilter) (x := ([f.f2, f.f3, f.f4, f.f5, f.f6].map fun b =>
    (flagByte b).toNat, f.stormLimit, f.staleLimit)) ready ?_ (by simp)).trans ?_
  · have flags : takeMany takeByte 5 [flagByte f.f2, flagByte f.f3, flagByte f.f4, flagByte f.f5, flagByte f.f6,
        byteOf f.stormLimit, byteOf f.staleLimit] = some ([f.f2, f.f3, f.f4, f.f5, f.f6].map fun b =>
        (flagByte b).toNat, [byteOf f.stormLimit, byteOf f.staleLimit]) := rfl
    rw [takeFilter, reader_step flags, reader_step (takeByte_byteOf _ _ (by omega)),
      reader_step (takeByte_single (by omega))]
    rfl
  · have taken_ : filterOf ([f.f2, f.f3, f.f4, f.f5, f.f6].map fun b => (flagByte b).toNat, f.stormLimit, f.staleLimit)
        = some f := by
      simp [filterOf, flagOf_flagByte, isWithin_true storm storms, isWithin_true stale stales]
    rw [handleFilter, taken_]
    rfl

/-! ## The groups that hold values (R145, R146, R142, R195) -/

theorem exec_setParametersLighting {p : LightingParams} {s : State} (ready : canConfigure s)
    (presence : p.closedPresence ≤ 1000) (dimLow : 10 ≤ p.minDim) (dimHigh : p.minDim ≤ 300) (rampLow : 1 ≤ p.ramp)
    (rampHigh : p.ramp ≤ 1000) (fadeLow : 1 ≤ p.fade) (fadeHigh : p.fade ≤ 1000) :
    exec (.setParametersLighting (wordBytes p.closedPresence ++ wordBytes p.minDim ++ wordBytes p.ramp
        ++ wordBytes p.fade)) s
      = taken 0x28 .configuring .ok [] { s with config := { s.config with lighting := p } } := by
  refine (serve_waiting_read (handle := handleLighting) (x := p) ready ?_ (by simp [wordBytes])).trans ?_
  · rw [takeLighting, List.append_assoc, List.append_assoc, reader_step (takeWord_wordBytes _ _ (by omega)),
      reader_step (takeWord_wordBytes _ _ (by omega)), reader_step (takeWord_wordBytes _ _ (by omega)),
      reader_step (takeWord_end _ (by omega))]
    rfl
  · have fits : lightingFits p = true := by
      simp [lightingFits, presence, isWithin_true dimLow dimHigh, isWithin_true rampLow rampHigh,
        isWithin_true fadeLow fadeHigh]
    rw [handleLighting, fits]
    rfl

theorem handleDaylight_taken {r : RawDaylight} {a : Option (PointRef × Nat)} {d : LoadDef} {s : State}
    (range : assignmentOf r = some a) (found : slotGet s.config.loads r.load = some d) (light : d.kind = .light) :
    handleDaylight r s = done { s with config := { s.config with
      daylight := slotSet s.config.daylight r.load (assigned (daylightOf s.config r.load) a) } } := by
  have isLight : isLight d = true := by
    rw [Machine.isLight, light]
    rfl
  simp only [handleDaylight, range, found, isLight]
  rfl

theorem exec_setParametersDaylight {k tl : Nat} {d : LoadDef} {p : PointRef} {s : State} (ready : canDefine s)
    (low : 1 ≤ k) (high : k ≤ 64) (found : slotGet s.config.loads k = some d) (light : d.kind = .light)
    (point : isPoint p) (tlLow : 50 ≤ tl) (tlHigh : tl ≤ 2000) :
    exec (.setParametersDaylight ([byteOf k] ++ pointBytes p ++ wordBytes tl)) s
      = taken 0x28 .configuring .ok [] { s with
        config := { s.config with daylight := slotSet s.config.daylight k ⟨some p, tl⟩ } } := by
  have inRange := pointInRange_of_isPoint point
  refine (serve_defining_read (handle := handleDaylight) (x := ⟨k, some (rawPoint p, tl)⟩) ready ?_
    (by simp [wordBytes, pointBytes])).trans ?_
  · rw [takeDaylight, List.append_assoc, List.singleton_append, reader_step (takeByte_byteOf _ _ (by omega)),
      reader_step (takePoint_pointBytes _ _ inRange), if_neg (rawPoint_ne_none p),
      reader_step (takeWord_end _ (by omega))]
    rfl
  · have range : assignmentOf ⟨k, some (rawPoint p, tl)⟩ = some (some (p, tl)) := by
      simp [assignmentOf, loadInRange_true low high, isWithin_true tlLow tlHigh, pointOfRaw_rawPoint p inRange]
    rw [handleDaylight_taken range found light]
    rfl

theorem exec_setParametersDaylight_none {k : Nat} {d : LoadDef} {s : State} (ready : canDefine s) (low : 1 ≤ k)
    (high : k ≤ 64) (found : slotGet s.config.loads k = some d) (light : d.kind = .light) :
    exec (.setParametersDaylight [byteOf k, 0xFF, 0xFF, 0xFF]) s
      = taken 0x28 .configuring .ok [] { s with config := { s.config with
        daylight := slotSet s.config.daylight k ⟨none, (daylightOf s.config k).target⟩ } } := by
  refine (serve_defining_read (handle := handleDaylight) (x := ⟨k, none⟩) ready ?_ (by simp)).trans ?_
  · have absent : takePoint [0xFF, 0xFF, 0xFF] = some (noPoint, []) := takePoint_none []
    rw [takeDaylight, reader_step (takeByte_byteOf _ _ (by omega)), reader_step absent, if_pos rfl]
    rfl
  · have range : assignmentOf ⟨k, none⟩ = some none := by
      simp [assignmentOf, loadInRange_true low high]
    rw [handleDaylight_taken range found light]
    rfl

theorem exec_setParametersSettlement {n : Nat} {s : State} (ready : canDefine s) (low : 1 ≤ n) (high : n ≤ 10) :
    exec (.setParametersSettlement [byteOf n]) s
      = taken 0x28 .configuring .ok [] { s with config := { s.config with settlementPeriod := n } } := by
  refine (serve_defining_read (handle := handleSettlementPeriod) ready (takeByte_single (by omega)) (by simp)).trans ?_
  rw [handleSettlementPeriod, isWithin_true low high]
  rfl

theorem exec_setParametersHostLink {sup mark : Nat} {s : State} (ready : canConfigure s) (supLow : sup = 0 ∨ 5 ≤ sup)
    (supHigh : sup ≤ 600) (low : 1 ≤ mark) (high : mark ≤ 40) :
    exec (.setParametersHostLink (.group (wordBytes sup ++ [byteOf mark]))) s
      = taken 0x28 .configuring .ok []
        { s with config := { s.config with supervision := sup, watermark := mark } } := by
  refine Eq.trans (b := serve 0x28 .configuring false (7 :: (wordBytes sup ++ [byteOf mark]))
    ((readWhole takeHostLink (wordBytes sup ++ [byteOf mark])).map handleHostLink) s) rfl ?_
  refine (serve_waiting_read (x := (sup, mark)) ready ?_ (by simp [wordBytes])).trans ?_
  · rw [takeHostLink, reader_step (takeWord_wordBytes _ _ (by omega)), reader_step (takeByte_single (by omega))]
    rfl
  · have fits : hostValuesFit (sup, mark) = true := by
      simp only [hostValuesFit, isWithin_true low high, Bool.and_true, Bool.or_eq_true, beq_iff_eq]
      exact supLow.imp id fun h => isWithin_true h supHigh
    rw [handleHostLink, fits]
    rfl

theorem exec_noSuchGroup {code : Byte} {body : List Byte} {s : State} (ready : canConfigure s)
    (fits : body.length ≤ 1023) :
    exec (.setParametersHostLink (.noSuchGroup code body)) s = taken 0x28 .plain .outOfRange [] s := by
  refine Eq.trans (b := .next (finishRequest 0x28 .configuring (refuse .outOfRange s))) ?_ ?_
  · exact serve_waiting (handle := refuse .outOfRange) ready (by simp [hostLinkBytes]; omega)
  · exact congrArg _ (finishRequest_plain_of_refused (nofun : Status.outOfRange ≠ .ok))

/-! ## CURTAIL (R125, R126) -/

theorem exec_curtail_begin {cap hold : Nat} {s : State} (ready : canTake s) (capHigh : cap ≤ 65535) (holdLow : 1 ≤ hold)
    (holdHigh : hold ≤ 5760) : exec (.curtail (wordBytes cap ++ wordBytes hold)) s = taken 0x32 .plain .ok
      ([if s.hostOrder.isSome then 0 else 0xFF, 0] ++ wordBytes cap ++ wordBytes hold)
      (raise .curtailBegin (.order false) (some cap) (some hold)
        { s with hostOrder := some ⟨cap, s.now + hold * 15000⟩ }) := by
  have capKept : cap % 65536 = cap := Nat.mod_eq_of_lt (by omega)
  have holdKept : hold % 65536 = hold := Nat.mod_eq_of_lt (by omega)
  have capValue : quantity cap = some (cap : Int) := by rw [quantity, Nat.min_eq_left capHigh]
  have holdValue : quantity hold = some (hold : Int) := by rw [quantity, Nat.min_eq_left (by omega)]
  have quanta : holdQuanta (beginOrder cap hold s) = hold := by
    have left : s.now + hold * 15000 - s.now = hold * 15000 := by omega
    simp only [holdQuanta, beginOrder, raise_hostOrder, raise_now, Option.map_some, Option.getD_some, ceilDiv,
      Config.curtailQuantumMs, left]
    omega
  rw [exec_curtail_taken ready, capKept, holdKept, handleCurtail, if_neg (by omega), if_neg (by omega),
    answer, orderBytes, quanta, ← capValue, ← holdValue]
  rfl

theorem orderBytes_none {s : State} (absent : s.hostOrder = none) : orderBytes s = [0xFF, 0, 0, 0, 0] := by
  have zero : wordBytes 0 = [0, 0] := rfl
  simp [orderBytes, orderState, holdQuanta, absent, zero]

theorem exec_hostCurtailExpires {order : CurtailOrder} {s : State} (on : s.powered = true)
    (held : s.hostOrder = some order) (due : order.expiry ≤ s.now) :
    exec .hostCurtailExpires s = .next (raise .curtailEnd (.order false) (some (min order.cap 65535 : Nat)) none
      { s with hostOrder := none }) := by
  refine (powered_on on).trans ?_
  simp only [held]
  exact congrArg _ (whenDue_due due)

/-! ## The timers of the mode controller (R186, R190) -/

theorem exec_supervisionExpires {t : Nat} {s : State} (on : s.powered = true) (running : s.supervisionAt = some t)
    (due : t ≤ s.now) : exec .supervisionTimerExpires s = .next (loseSupervision s) := by
  refine (powered_on on).trans ?_
  simp only [running]
  exact congrArg _ (whenDue_due due)

theorem exec_releaseExpires {t : Nat} {s : State} (on : s.powered = true) (running : s.releaseAt = some t)
    (due : t ≤ s.now) : exec .releaseTimerExpires s = .next (leaveEmergency s) := by
  refine (powered_on on).trans ?_
  simp only [running]
  exact congrArg _ (whenDue_due due)

theorem exec_supervision_stopped {s : State} (stopped : s.supervisionAt = none) :
    exec .supervisionTimerExpires s = .next s :=
  powered_still (by simp only [stopped])

theorem exec_release_stopped {s : State} (stopped : s.releaseAt = none) : exec .releaseTimerExpires s = .next s :=
  powered_still (by simp only [stopped])

end Sys2Proof.Claims

namespace Sys2Proof.Proofs

open Sys2Proof.Machine Sys2Proof.Claims

/-- Settles O33: one lemma for each request. -/
theorem settingsAreTakenWhole : Obligations.SettingsAreTakenWhole := fun _ =>
  ⟨fun _ _ _ => exec_setLineParameters, fun _ => exec_setFilterTests, fun _ => exec_setParametersLighting,
    fun _ _ _ _ => exec_setParametersDaylight, fun _ _ => exec_setParametersDaylight_none,
    fun _ => exec_setParametersSettlement, fun _ _ => exec_setParametersHostLink, fun _ _ => exec_noSuchGroup⟩

/-- Settles O38: the order begins or is released by the hold, and the expiry ends it once its time has come. -/
theorem hostCurtailBeginsAndEnds : Obligations.HostCurtailBeginsAndEnds := by
  intro s
  refine ⟨fun _ _ => exec_curtail_begin, ?released, ?nothing, fun _ => exec_hostCurtailExpires, ?early, ?none⟩
  case released =>
    intro cap order ready _ held
    have ended : releaseOrder s = endHostOrder order s := by simp only [releaseOrder, held]
    have gone : (endHostOrder order s).hostOrder = none := by rw [endHostOrder, raise_hostOrder]
    rw [exec_curtail_release ready, ended, orderState, held, orderBytes_none gone]
    rfl
  case nothing =>
    intro cap ready _ absent
    have same : releaseOrder s = s := by simp only [releaseOrder, absent]
    rw [exec_curtail_release ready, same, orderState, absent, orderBytes_none absent]
    rfl
  case early =>
    intro order held early
    exact exec_early (t := order.expiry) (by rw [dueTime, held, Option.map_some]) early
  case none =>
    intro absent
    exact powered_still (by simp only [absent])

/-- Settles O43: each expiry by the mode, and the timers that do not run or have been restarted. -/
theorem modeTimersExpire : Obligations.ModeTimersExpire := by
  intro s on
  refine ⟨?run, ?emergency, ?release, exec_supervision_stopped, exec_release_stopped,
    fun t running early => exec_early (c := .supervisionTimerExpires) running early,
    fun t running early => exec_early (c := .releaseTimerExpires) running early⟩
  case run =>
    intro t running due mode
    rw [exec_supervisionExpires on running due, loseSupervision, if_pos mode, changeMode, mode]
    rfl
  case emergency =>
    intro t running due mode returns
    rw [exec_supervisionExpires on running due, loseSupervision, if_neg (by simp [mode]), if_pos ⟨mode, returns⟩]
  case release =>
    intro t m e running due returns since
    rw [exec_releaseExpires on running due, leaveEmergency, returns, emergencySeconds, since]
    rfl

end Sys2Proof.Proofs


/-! SUPPORT and PROOFS. The overrides of light and setpoint (O37). -/

namespace Sys2Proof.Claims

open Sys2Proof.Machine

/-! ## An override in a reply (R150, R164) -/

theorem lightOverrideBytes_eq (s : State) (z : Nat) :
    lightOverrideBytes s (slotGet s.lightOverrides z) = shownLight s z := by
  unfold shownLight
  cases slotGet s.lightOverrides z with
  | none => rfl
  | some o =>
    obtain ⟨level, expiry⟩ := o
    cases expiry <;> rfl

theorem setpointOverrideBytes_eq (s : State) (z : Nat) :
    setpointOverrideBytes s (setpointOverrideOf s z) = shownSetpoint s z := by
  unfold shownSetpoint setpointOverrideOf
  cases (slotGet s.climate z).bind ClimateRec.override with
  | none => rfl
  | some o =>
    obtain ⟨level, expiry⟩ := o
    cases expiry with
    | none =>
      simp only [setpointOverrideBytes, optWord, Option.map_none, Option.getD_none]
      rfl
    | some t => rfl

/-- Whole minutes are shown as they are. -/
theorem ceilDiv_minutes (now minutes : Nat) : ceilDiv (now + minutes * 60000 - now) 60000 = minutes := by
  unfold ceilDiv
  omega

theorem shownLight_some {s : State} {z : Nat} {o : LightOverride} (h : slotGet s.lightOverrides z = some o) :
    shownLight s z = lightOverrideBytes s (some o) := by
  rw [← lightOverrideBytes_eq, h]

theorem shownLight_none {s : State} {z : Nat} (h : slotGet s.lightOverrides z = none) :
    shownLight s z = [0xFF, 0xFF, 0] := by
  rw [← lightOverrideBytes_eq, h]
  rfl

theorem shownSetpoint_some {s : State} {z : Nat} {r : ClimateRec} {o : SetpointOverride}
    (found : slotGet s.climate z = some r) (placed : r.override = some o) :
    shownSetpoint s z = setpointOverrideBytes s (some o) := by
  rw [← setpointOverrideBytes_eq, setpointOverrideOf, found, Option.bind_some, placed]

/-! ## The requests -/

/-- The duration of a LIGHT OVERRIDE's byte. -/
def lightDuration (n : Nat) : Duration := if n = 255 then .untilShiftChange else .minutes n

/-- The duration of a SETPOINT OVERRIDE's word. -/
def setpointDuration (n : Nat) : Duration := if n = 65535 then .untilShiftChange else .minutes n

theorem exec_lightOverride_taken {z level duration : Nat} {s : State} (zone : isZone z) (ready : canTake s)
    (defined : slotUsed s.config.zones z = true) (high : level ≤ 1000) (small : duration < 256)
    (fits : durationFits 240 (lightDuration duration) = true) :
    let u := placeLight ⟨z, level, lightDuration duration⟩ s
    exec (.lightOverride ([byteOf z] ++ wordBytes level ++ [byteOf duration])) s
      = taken 0x30 .plain .ok (shownLight s z ++ shownLight u z) u := by
  have zoneSmall : z < 256 := by have := zone.2; omega
  refine (serve_plain_read (handle := handleLightOverride) (x := ⟨z, level, lightDuration duration⟩) ready ?_
    (by simp [wordBytes])).trans ?_
  · rw [takeLightOverride, List.append_assoc, List.singleton_append, reader_step (takeByte_byteOf _ _ zoneSmall),
      reader_step (takeWord_wordBytes _ _ (by omega)), reader_step (takeByte_single small)]
    rfl
  · have inRange : decide (1000 < (level : Int)) = false := decide_eq_false (by omega)
    simp only [handleLightOverride, zoneInRange_true zone, inRange, fits, defined, lightOverrideBytes_eq]
    rfl

theorem exec_setpointOverride_taken {z duration : Nat} {level : Int} {s : State} (zone : isZone z) (ready : canTake s)
    (defined : slotUsed s.config.zones z = true) (low : -400 ≤ level) (high : level ≤ 600) (small : duration < 65536)
    (fits : durationFits 480 (setpointDuration duration) = true) :
    let u := placeSetpoint ⟨z, level, setpointDuration duration⟩ s
    exec (.setpointOverride ([byteOf z] ++ signedBytes level ++ wordBytes duration)) s
      = taken 0x31 .plain .ok (shownSetpoint s z ++ shownSetpoint u z) u := by
  have zoneSmall : z < 256 := by have := zone.2; omega
  refine (serve_plain_read (handle := handleSetpointOverride) (x := ⟨z, level, setpointDuration duration⟩) ready ?_
    (by simp [wordBytes, signedBytes])).trans ?_
  · rw [takeSetpointOverride, List.append_assoc, List.singleton_append, reader_step (takeByte_byteOf _ _ zoneSmall),
      reader_step (takeSigned_signedBytes _ _ (by omega) (by omega)), reader_step (takeWord_end _ small)]
    rfl
  · have inRange : setpointFits level = true := by simp [setpointFits, low, high]
    simp only [handleSetpointOverride, zoneInRange_true zone, inRange, fits, defined, setpointOverrideBytes_eq]
    rfl

theorem lightDuration_minutes {n : Nat} (high : n ≤ 240) : lightDuration n = .minutes n := if_neg (by omega)

theorem setpointDuration_minutes {n : Nat} (high : n ≤ 480) : setpointDuration n = .minutes n := if_neg (by omega)

theorem placeLight_minutes {z level n : Nat} {s : State} (low : 1 ≤ n) (high : n ≤ 240) :
    placeLight ⟨z, level, lightDuration n⟩ s
      = { s with lightOverrides := slotSet s.lightOverrides z ⟨level, some (s.now + n * 60000)⟩ } := by
  rw [lightDuration_minutes high, placeLight, if_neg (by simp; omega)]
  rfl

theorem placeSetpoint_minutes {z n : Nat} {level : Int} {s : State} (low : 1 ≤ n) (high : n ≤ 480) :
    placeSetpoint ⟨z, level, setpointDuration n⟩ s = { s with
      climate := slotChange (fun r => { r with override := some ⟨level, some (s.now + n * 60000)⟩ }) s.climate z } := by
  have lasts : Duration.minutes n ≠ .minutes 0 := by
    simp only [ne_eq, Duration.minutes.injEq]
    omega
  rw [setpointDuration_minutes high]
  simp only [placeSetpoint, lasts, if_false, expiryOf, changeClimate]

/-! ## The expiries (R151, R165) -/

theorem exec_lightOverrideExpires {z t : Nat} {o : LightOverride} {s : State} (on : s.powered = true)
    (found : slotGet s.lightOverrides z = some o) (expiry : o.expiry = some t) (due : t ≤ s.now) :
    exec (.lightOverrideExpires z) s = .next { s with lightOverrides := slotFree s.lightOverrides z } := by
  refine (powered_on on).trans ?_
  simp only [found, Option.bind_some, expiry]
  exact congrArg _ (whenDue_due due)

theorem exec_setpointOverrideExpires {z t : Nat} {r : ClimateRec} {o : SetpointOverride} {s : State}
    (on : s.powered = true) (found : slotGet s.climate z = some r) (placed : r.override = some o)
    (expiry : o.expiry = some t) (due : t ≤ s.now) :
    exec (.setpointOverrideExpires z) s
      = .next { s with climate := slotChange (fun r => { r with override := none }) s.climate z } := by
  refine (powered_on on).trans ?_
  simp only [found, Option.bind_some, placed, expiry]
  exact congrArg _ (whenDue_due due)

end Sys2Proof.Claims

namespace Sys2Proof.Proofs

open Sys2Proof.Machine Sys2Proof.Claims

/-- Settles O37: each duration by what it places, and the reply by the override before and after. -/
theorem overridesArePlacedClearedAndExpire : Obligations.OverridesArePlacedClearedAndExpire := by
  intro z s zone
  refine ⟨fun level ready defined high => ⟨?lit, ?untilChange, ?cleared⟩,
    fun level ready defined low high => ⟨?heated, ?heatedUntil, ?heatCleared⟩, ?shown,
    fun o t => exec_lightOverrideExpires, fun r o t => exec_setpointOverrideExpires⟩
  case lit =>
    intro n low short
    have placed := exec_lightOverride_taken (duration := n) zone ready defined high (by omega)
      (by rw [lightDuration_minutes short]; exact decide_eq_true short)
    dsimp only at placed
    rw [placeLight_minutes low short] at placed
    refine ⟨placed, ?_⟩
    rw [shownLight_some (o := ⟨level, some (s.now + n * 60000)⟩) (by rw [slotGet_slotSet, if_pos rfl])]
    simp only [lightOverrideBytes, Option.map_some, minutesLeft, ceilDiv_minutes]
    rfl
  case untilChange =>
    refine ⟨exec_lightOverride_taken (duration := 255) zone ready defined high (by decide) rfl, ?_⟩
    rw [shownLight_some (o := ⟨level, none⟩) (by rw [slotGet_slotSet, if_pos rfl])]
    rfl
  case cleared =>
    refine ⟨exec_lightOverride_taken (duration := 0) zone ready defined high (by decide) rfl, fun ordered => ?_⟩
    exact shownLight_none (by rw [slotGet_slotFree _ _ _ ordered, if_pos rfl])
  case heated =>
    intro n brief short
    have placed := exec_setpointOverride_taken (duration := n) zone ready defined low high (by omega)
      (by rw [setpointDuration_minutes short]; exact decide_eq_true short)
    dsimp only at placed
    rw [placeSetpoint_minutes brief short] at placed
    exact placed
  case heatedUntil =>
    exact exec_setpointOverride_taken (duration := 65535) zone ready defined low high (by decide) rfl
  case heatCleared =>
    exact exec_setpointOverride_taken (duration := 0) zone ready defined low high (by decide) rfl
  case shown =>
    intro u r o found placed
    rw [shownSetpoint_some found placed]
    refine ⟨fun n expiry => ?_, fun expiry => ?_⟩
    · simp only [setpointOverrideBytes, expiry, Option.map_some, minutesLeft, ceilDiv_minutes]
      rfl
    · simp only [setpointOverrideBytes, expiry, optWord, Option.map_none, Option.getD_none]
      rfl

end Sys2Proof.Proofs


/-! SUPPORT and PROOFS. The reading requests (O35, O36). -/

namespace Sys2Proof.Claims

open Sys2Proof.Machine

/-! ## The part and its records -/

section
variable {s : State} (ready : canTake s)
include ready

theorem exec_identify : exec (.identify []) s = taken 0x01 .plain .ok (identifyBody s) s :=
  serve_plain_read (reader := takeNothing) (handle := fun _ s => answer (identifyBody s) s) ready rfl (Nat.zero_le _)

theorem exec_readClock : exec (.readClock []) s = taken 0x11 .plain .ok (clockBytes s.clock) s :=
  serve_plain_read (reader := takeNothing) (handle := fun _ s => answer (clockBytes s.clock) s) ready rfl
    (Nat.zero_le _)

theorem exec_readPlanState : exec (.readPlanState []) s = taken 0x17 .plain .ok (planBytes s) s :=
  serve_plain_read (reader := takeNothing) (handle := fun _ s => answer (planBytes s) s) ready rfl (Nat.zero_le _)

theorem exec_readSettlement : exec (.readSettlement []) s = taken 0x43 .plain .ok (settlementBytes s.record) s :=
  serve_plain_read (reader := takeNothing) (handle := fun _ s => answer (settlementBytes s.record) s) ready rfl
    (Nat.zero_le _)

theorem exec_readWindows : exec (.readWindows []) s = taken 0x44 .plain .ok (windowsBytes s) s :=
  serve_plain_read (reader := takeNothing) (handle := fun _ s => answer (windowsBytes s) s) ready rfl (Nat.zero_le _)

theorem exec_readShift {i : Nat} (small : i ≤ 255) :
    exec (.readShift [byteOf i]) s = .next (finishRequest 0x13 .plain (handleReadShift i s)) :=
  serve_plain_read (handle := handleReadShift) ready (takeByte_single (by omega)) (by simp)

theorem exec_readZone {z : Nat} (zone : isZone z) :
    exec (.readZone [byteOf z]) s = .next (finishRequest 0x40 .plain (handleReadZone z s)) :=
  serve_plain_read (handle := handleReadZone) ready (takeByte_single (by have := zone.2; omega)) (by simp)

theorem exec_readDoor {n : Nat} (small : n ≤ 48) :
    exec (.readDoor [byteOf n]) s = .next (finishRequest 0x41 .plain (handleReadDoor n s)) :=
  serve_plain_read (handle := handleReadDoor) ready (takeByte_single (by omega)) (by simp)

theorem exec_readLoad {k : Nat} (small : k ≤ 64) :
    exec (.readLoad [byteOf k]) s = .next (finishRequest 0x42 .plain (handleReadLoad k s)) :=
  serve_plain_read (handle := handleReadLoad) ready (takeByte_single (by omega)) (by simp)

theorem exec_readNode (l : LineId) {addr : Nat} (small : addr ≤ 31) :
    exec (.readNode [byteOf l.ctorIdx, byteOf addr]) s
      = .next (finishRequest 0x45 .plain (handleReadNode (l.ctorIdx, addr) s)) := by
  have line : l.ctorIdx < 256 := by cases l <;> decide
  refine serve_plain_read (handle := handleReadNode) ready ?_ (by simp)
  rw [takeLineAddr, reader_step (takeByte_byteOf _ _ line), reader_step (takeByte_single (by omega))]
  rfl

theorem exec_readLine (l : LineId) :
    exec (.readLine [byteOf l.ctorIdx]) s = taken 0x46 .plain .ok (lineBytes s l) s := by
  have line : l.ctorIdx < 256 := by cases l <;> decide
  refine (serve_plain_read (handle := handleReadLine) ready (takeByte_single line) (by simp)).trans ?_
  rw [handleReadLine, lineOfByte_ctorIdx]
  rfl

/-! ## Lists -/

theorem exec_readPoint {bus : Bus} {addr first count : Nat} (point : isPoint ⟨bus, addr, first⟩) (low : 1 ≤ count)
    (high : first + count ≤ 16) (defined : ∀ i, i < count → pointDefined s.config ⟨bus, addr, first + i⟩ = true) :
    exec (.readPoint [byteOf bus.ctorIdx, byteOf addr, byteOf first, byteOf count]) s
      = taken 0x47 .plain .ok (byteOf count ::
        (List.range count).flatMap fun i => pointEntryBytes s ⟨bus, addr, first + i⟩) s := by
  have busSmall : bus.ctorIdx < 256 := by cases bus <;> decide
  have addrSmall : addr < 256 := by
    obtain ⟨-, ⟨-, rfl⟩ | ⟨-, -, h⟩⟩ := point
    · decide
    · exact Nat.lt_of_le_of_lt h (by decide)
  refine (serve_plain_read (handle := handleReadPoint) (x := ⟨bus.ctorIdx, addr, first, count⟩) ready ?_
    (by simp)).trans ?_
  · rw [takeReadPoint, reader_step (takeByte_byteOf _ _ busSmall), reader_step (takeByte_byteOf _ _ addrSmall),
      reader_step (takeByte_byteOf _ _ (by omega)), reader_step (takeByte_single (by omega))]
    rfl
  · have found : readPointBus ⟨bus.ctorIdx, addr, first, count⟩ = some bus := by
      simp [readPointBus, busOfByte_ctorIdx, pointInRange_of_isPoint point, high,
        isWithin_true low (show count ≤ 16 by omega)]
    have all : (requestedPoints bus ⟨bus.ctorIdx, addr, first, count⟩).all (pointDefined s.config) = true := by
      simpa [requestedPoints] using defined
    rw [handleReadPoint, found]
    simp only [all, if_true]
    simp only [listBytes, requestedPoints, List.length_map, List.length_range, List.flatMap_map]
    rfl

theorem exec_readPresence_all :
    exec (.readPresence [0xFF]) s = taken 0x48 .plain .ok (presenceBytes s fun _ => true) s :=
  serve_plain_read (handle := handleReadPresence) ready (takeByte_single (n := 255) (by decide)) (by simp)

theorem exec_readPresence {z : Nat} {d : ZoneDef} (zone : isZone z) (found : slotGet s.config.zones z = some d) :
    exec (.readPresence [byteOf z]) s = taken 0x48 .plain .ok (presenceBytes s (entryIn z)) s := by
  have small := zone.2
  refine (serve_plain_read (handle := handleReadPresence) ready (takeByte_single (by omega)) (by simp)).trans ?_
  simp only [handleReadPresence, withZone, zoneInRange_true zone, slotUsed, found]
  rw [if_neg (by omega)]
  rfl

theorem exec_readEvents {n : Nat} (low : 1 ≤ n) (high : n ≤ 32) :
    exec (.readEvents [byteOf n]) s = taken 0x49 .plain .ok
      (listBytes eventBytes (s.recent.drop (s.recent.length - recordsSent n s)) ++ eventsTail s) s := by
  refine (serve_plain_read (handle := handleReadEvents) ready (takeByte_single (by omega)) (by simp)).trans ?_
  rw [handleReadEvents, isWithin_true low high]
  rfl

/-! ## Parameters (R195) -/

theorem exec_readParameters {body : List Byte} {r : RawRead} (read : readGroup body = some r)
    (fits : body.length ≤ 1024) :
    exec (.readParameters body) s = .next (finishRequest 0x4B .plain (handleReadParameters r s)) := by
  refine Eq.trans (b := serve 0x4B .plain false body ((readGroup body).map handleReadParameters) s) rfl ?_
  rw [read, Option.map_some, serve_plain ready fits]

theorem exec_readOccupancy {z : Nat} {d : ZoneDef} (zone : isZone z) (found : slotGet s.config.zones z = some d) :
    exec (.readParameters [1, byteOf z]) s
      = taken 0x4B .plain .ok (wordBytes d.aging ++ wordBytes d.dormancy) s := by
  have small := zone.2
  have read : readGroup [1, byteOf z] = some (.occupancy z) :=
    congrArg (Option.map RawRead.occupancy) (readWhole_eq _ _ _ (takeByte_single (n := z) (by omega)))
  rw [exec_readParameters ready read (by simp), handleReadParameters, readOccupancy, zoneInRange_true zone, found]
  rfl

theorem exec_readDaylight {k : Nat} {d : LoadDef} (low : 1 ≤ k) (high : k ≤ 64)
    (found : slotGet s.config.loads k = some d) (light : d.kind = .light) :
    exec (.readParameters [3, byteOf k]) s = taken 0x4B .plain .ok
      (optPoint (daylightOf s.config k).point ++ wordBytes (daylightOf s.config k).target) s := by
  have read : readGroup [3, byteOf k] = some (.daylight k) :=
    congrArg (Option.map RawRead.daylight) (readWhole_eq _ _ _ (takeByte_single (n := k) (by omega)))
  have isLight : isLight d = true := by
    rw [Machine.isLight, light]
    rfl
  rw [exec_readParameters ready read (by simp), handleReadParameters, readDaylight, loadInRange_true low high, found]
  simp only [isLight]
  rfl

end

/-! ## The lengths of replies -/

theorem flatMap_length {α : Type} {f : α → List Byte} {n : Nat} (h : ∀ x, (f x).length = n) (l : List α) :
    (l.flatMap f).length = n * l.length := by
  rw [List.length_flatMap, List.map_congr_left fun x _ => h x, List.map_const', List.sum_replicate, smul_eq_mul,
    Nat.mul_comm]

theorem recordTimeBytes_length (r : SettlementRec) : (recordTimeBytes r).length = 6 := by
  unfold recordTimeBytes recordClockBytes
  split
  · rfl
  · split <;> rfl

theorem settlementBytes_length (r : SettlementRec) : (settlementBytes r).length = 78 := by
  have figures : ∀ f, (figureBytes f).length = 9 := fun _ => rfl
  have long : ∀ n, (longBytes n).length = 4 := fun _ => rfl
  have word : ∀ n, (wordBytes n).length = 2 := fun _ => rfl
  unfold settlementBytes
  simp only [List.length_append, recordTimeBytes_length, figures, long, word, List.length_cons, List.length_nil]

theorem eventsTail_length (s : State) : (eventsTail s).length = 10 + 8 * s.windows.length := by
  have window : ∀ w, (windowBytes w).length = 8 := fun w => by simp [windowBytes, longBytes, wordBytes]
  have filter : (filterBytes s.config.filter).length = 7 := rfl
  have number : (wordBytes s.nextSeq).length = 2 := rfl
  rw [eventsTail, List.length_append, List.length_append, filter, number, listBytes, List.length_cons,
    flatMap_length window]
  omega

theorem recordsSent_all {n : Nat} {s : State} (high : n ≤ 32) (few : s.windows.length ≤ 54) : recordsSent n s = n := by
  have tail := eventsTail_length s
  simp only [recordsSent, bodyLimit, tail]
  omega

theorem readEvents_fits {n : Nat} {s : State} (few : s.windows.length ≤ 63) :
    (listBytes eventBytes (s.recent.drop (s.recent.length - recordsSent n s)) ++ eventsTail s).length ≤ 1024 := by
  have event : ∀ e, (eventBytes e).length = 18 := fun e => by simp [eventBytes, longBytes, wordBytes, pointBytes]
  have tail := eventsTail_length s
  have sent : recordsSent n s ≤ (1023 - (eventsTail s).length) / 18 := Nat.min_le_right _ _
  simp only [List.length_append, listBytes, List.length_cons, flatMap_length event, List.length_drop]
  omega

end Sys2Proof.Claims

namespace Sys2Proof.Proofs

open Sys2Proof.Machine Sys2Proof.Claims

/-- Settles O35: one lemma for each reading, and each record as its table holds it. -/
theorem readingsOfThePartAndItsRecordsChangeNothing : Obligations.ReadingsOfThePartAndItsRecordsChangeNothing := by
  refine ⟨fun s ready => ⟨exec_identify ready, rfl, exec_readClock ready, exec_readPlanState ready, ?shift, ?noShift,
    exec_readSettlement ready, settlementBytes_length _, exec_readWindows ready⟩,
    fun s ready => ⟨?zone, ?noZone, ?door, ?load, ?node, exec_readLine ready⟩⟩
  case shift =>
    intro i r small found
    rw [exec_readShift ready small, handleReadShift, found]
    rfl
  case noShift =>
    intro i small free
    rw [exec_readShift ready small, handleReadShift, free]
    rfl
  case zone =>
    intro z d r c zone defined record climate
    rw [exec_readZone ready zone, handleReadZone, zoneInRange_true zone, defined, record, climate]
    rfl
  case noZone =>
    intro z zone free
    rw [exec_readZone ready zone, handleReadZone, zoneInRange_true zone, free]
    rfl
  case door =>
    intro n d r low high defined record
    have inRange : doorInRange n = true := by simp [doorInRange, low, high]
    rw [exec_readDoor ready high, handleReadDoor, inRange, defined, record]
    rfl
  case load =>
    intro k d r low high defined record
    rw [exec_readLoad ready high, handleReadLoad, loadInRange_true low high, defined, record]
    rfl
  case node =>
    intro l addr d n low high defined record
    have inRange : addrInRange addr = true := by simp [addrInRange, low, high]
    rw [exec_readNode ready l high, handleReadNode]
    simp only [lineOfByte_ctorIdx, inRange, defined, record]
    rfl

/-- Settles O36: one lemma for each reading, and the lengths that bound the reply of READ EVENTS. -/
theorem readingsOfListsAndParametersChangeNothing : Obligations.ReadingsOfListsAndParametersChangeNothing := by
  intro s ready
  refine ⟨fun bus addr first count => exec_readPoint ready, exec_readPresence_all ready,
    fun z d => exec_readPresence ready,
    fun n low high => ⟨exec_readEvents ready low high, recordsSent_all high, readEvents_fits⟩,
    exec_readParameters ready (body := [0]) rfl (by decide), fun z d => exec_readOccupancy ready,
    exec_readParameters ready (body := [2]) rfl (by decide), fun k d => exec_readDaylight ready,
    exec_readParameters ready (body := [4]) rfl (by decide), exec_readParameters ready (body := [5]) rfl (by decide),
    exec_readParameters ready (body := [6]) rfl (by decide), exec_readParameters ready (body := [7]) rfl (by decide)⟩

end Sys2Proof.Proofs


/-! SUPPORT and PROOFS. The lines as fields of the state, and the requests for points (O42). -/

namespace Sys2Proof.Machine

/-! ## The lines of the state -/

@[simp] theorem lineOf_busOf (l : LineId) : lineOf (busOf l) = some l := by cases l <;> rfl

@[simp] theorem getLine_setLine (s : State) (l : LineId) (line : Line) : getLine (setLine s l line) l = line := by
  cases l <;> rfl

theorem getLine_setLine_ne {l other : LineId} (h : other ≠ l) (s : State) (line : Line) :
    getLine (setLine s l line) other = getLine s other := by
  cases l <;> cases other <;> first | rfl | exact absurd rfl h

@[simp] theorem getLine_changeLine (l : LineId) (f : Line → Line) (s : State) :
    getLine (changeLine l f s) l = f (getLine s l) := getLine_setLine s l _

theorem getLine_changeLine_ne {l other : LineId} (h : other ≠ l) (f : Line → Line) (s : State) :
    getLine (changeLine l f s) other = getLine s other := getLine_setLine_ne h s _

/-- A line is found in the two line fields. -/
theorem getLine_congr {s t : State} (a : t.lineA = s.lineA) (b : t.lineB = s.lineB) (l : LineId) :
    getLine t l = getLine s l := by
  cases l
  · exact a
  · exact b

/-- The line fields are the two lines. -/
theorem setLine_frame (s : State) (l : LineId) (line : Line) : setLine s l line
    = { s with lineA := (setLine s l line).lineA, lineB := (setLine s l line).lineB } := by cases l <;> rfl

@[simp] theorem setLine_points (s : State) (l : LineId) (line : Line) : (setLine s l line).points = s.points := by
  rw [setLine_frame]

@[simp] theorem setLine_now (s : State) (l : LineId) (line : Line) : (setLine s l line).now = s.now := by
  rw [setLine_frame]

@[simp] theorem setLine_config (s : State) (l : LineId) (line : Line) : (setLine s l line).config = s.config := by
  rw [setLine_frame]

/-! ## The write queue (R35) -/

theorem entryFor_true (node point : Nat) (e : QueueEntry) :
    entryFor node point e = true ↔ e.node = node ∧ e.point = point := by
  simp [entryFor]

/-- A write for a point that no entry carries joins the end. -/
theorem joinQueue_absent {node point value : Nat} {origin : Origin} {queue : List QueueEntry}
    (absent : ∀ e ∈ queue, ¬ (e.node = node ∧ e.point = point)) :
    joinQueue node point value origin queue = queue ++ [⟨node, point, value, origin, 0⟩] := by
  refine if_neg ?_
  rw [List.any_eq_true]
  rintro ⟨e, member, matching⟩
  exact absent e member ((entryFor_true _ _ _).mp matching)

/-- Entries for other points are as they were when the write replaces one. -/
theorem replace_other {node point value : Nat} {entries : List QueueEntry}
    (absent : ∀ e ∈ entries, ¬ (e.node = node ∧ e.point = point)) :
    (entries.map fun e => if entryFor node point e then { e with value := value, tries := 0 } else e) = entries := by
  refine (List.map_congr_left fun e member => if_neg ?_).trans (List.map_id' entries)
  rw [entryFor_true]
  exact absent e member

/-- A write for a point that one entry carries replaces its value there. -/
theorem joinQueue_present {node point value : Nat} {origin : Origin} {before after : List QueueEntry} {e : QueueEntry}
    (onNode : e.node = node) (onPoint : e.point = point)
    (single : ((before ++ e :: after).map fun e => (e.node, e.point)).Nodup) :
    joinQueue node point value origin (before ++ e :: after)
      = before ++ ⟨node, point, value, e.origin, 0⟩ :: after := by
  have matching : entryFor node point e = true := (entryFor_true _ _ _).mpr ⟨onNode, onPoint⟩
  have found : (before ++ e :: after).any (entryFor node point) = true :=
    List.any_eq_true.mpr ⟨e, by simp, matching⟩
  rw [List.map_append, List.map_cons, List.nodup_append, List.nodup_cons] at single
  obtain ⟨-, ⟨notAfter, -⟩, apart⟩ := single
  have key : (e.node, e.point) = (node, point) := by rw [onNode, onPoint]
  have othersBefore : ∀ x ∈ before, ¬ (x.node = node ∧ x.point = point) := by
    rintro x member ⟨hn, hp⟩
    exact apart _ (List.mem_map_of_mem member) _ (List.mem_cons_self ..) (by rw [key, hn, hp])
  have othersAfter : ∀ x ∈ after, ¬ (x.node = node ∧ x.point = point) := by
    rintro x member ⟨hn, hp⟩
    exact notAfter (List.mem_map.mpr ⟨x, member, by rw [key, hn, hp]⟩)
  rw [joinQueue, if_pos found, List.map_append, List.map_cons, replace_other othersBefore, replace_other othersAfter,
    if_pos matching, ← onNode, ← onPoint]

theorem hostQueueFull_iff (node point : Nat) (queue : List QueueEntry) : hostQueueFull node point queue = true ↔
    (∀ e ∈ queue, ¬ (e.node = node ∧ e.point = point)) ∧ 8 ≤ (queue.filter fun e => e.origin == .host).length := by
  simp only [hostQueueFull, hostEntries, List.countP_eq_length_filter, Bool.and_eq_true, Bool.not_eq_true',
    decide_eq_true_eq, List.any_eq_false, entryFor_true]

/-! ## The requests for a point (R74, R75) -/

theorem withPoint_rawPoint {p : PointRef} {s : State} {f : PointRef → Served} (point : pointInRange p = true)
    (defined : pointDefined s.config p = true) : withPoint (rawPoint p) s f = f p := by
  simp only [withPoint, pointOfRaw_rawPoint p point, defined, if_true]

/-- A write that joins its line's queue: the line and the point's record. -/
theorem queueWrite_eq (l : LineId) (node point value : Nat) (origin : Origin) (s : State) :
    queueWrite l node point value origin s = { setLine s l { getLine s l with
      queue := joinQueue node point value origin (getLine s l).queue } with
      points := slotChange (fun r => { r with lastWrite := .queued }) s.points
        (pointKey ⟨busOf l, node, point⟩) } := by
  simp only [queueWrite, writeQueued, changePoint, changeLine, setLine_points]

theorem takeOneOff_eq (l : LineId) (p : PointRef) (s : State) :
    takeOneOff l p s = grantLines { setLine s l { getLine s l with
      oneOffs := (getLine s l).oneOffs ++ [⟨p.addr, p.point⟩] } with
      points := slotChange (fun r => { r with
        oneOffWaiting := true
        status := if r.status = .neverRead then .pending else r.status }) s.points (pointKey p) } := by
  simp only [takeOneOff, changePoint, changeLine, setLine_points]

end Sys2Proof.Machine

namespace Sys2Proof.Claims

open Sys2Proof.Machine

theorem exec_writePoint {p : PointRef} {value : Nat} {s : State} (ready : canTake s) (point : isPoint p)
    (defined : pointDefined s.config p = true) (small : value ≤ 65535) :
    exec (.writePoint (pointBytes p ++ wordBytes value)) s
      = .next (finishRequest 0x38 .plain (writeHost value s p)) := by
  have range := pointInRange_of_isPoint point
  refine (serve_plain_read (handle := handleWritePoint) (x := (rawPoint p, value)) ready ?_
    (by simp [wordBytes, pointBytes])).trans ?_
  · rw [takeWrite, reader_step (takePoint_pointBytes p _ range), reader_step (takeWord_end _ (by omega))]
    rfl
  · rw [handleWritePoint, withPoint_rawPoint range defined]

theorem exec_fetchPoint {p : PointRef} {s : State} (ready : canTake s) (point : isPoint p)
    (defined : pointDefined s.config p = true) :
    exec (.fetchPoint (pointBytes p)) s = .next (finishRequest 0x39 .plain (fetchHost s p)) := by
  have range := pointInRange_of_isPoint point
  refine (serve_plain_read (handle := handleFetchPoint) (x := rawPoint p) ready ?_ (by simp [pointBytes])).trans ?_
  · have read := takePoint_pointBytes p [] range
    rwa [List.append_nil] at read
  · rw [handleFetchPoint, withPoint_rawPoint range defined]

/-- The write of a field point that is not bound. -/
theorem writeHost_field {p : PointRef} {l : LineId} {value : Nat} {s : State} (free : isBound s.config p = false)
    (bus : p.bus = busOf l) : writeHost value s p = if hostQueueFull p.addr p.point (getLine s l).queue
      then refuse .busy s else ⟨.accepted, [], grantLines (queueWrite l p.addr p.point value .host s)⟩ := by
  simp only [writeHost, free, bus, lineOf_busOf, Bool.false_eq_true, if_false]

theorem fetchHost_field {p : PointRef} {l : LineId} {s : State} (bus : p.bus = busOf l) :
    fetchHost s p = offerOneOff l p s := by
  simp only [fetchHost, bus, lineOf_busOf]

end Sys2Proof.Claims

namespace Sys2Proof.Proofs

open Sys2Proof.Machine Sys2Proof.Claims

/-- Settles O42: each branch of the write and of the fetch, and the queue by the place of its entries. -/
theorem pointRequestsQueueTheirWork : Obligations.PointRequestsQueueTheirWork := by
  refine ⟨fun p s ready point defined => ⟨?owned, ?terminal, ?field, ?noRead, ?closed, ?waits, ?offered⟩,
    fun node point value origin queue => ⟨?replaced, joinQueue_absent⟩, hostQueueFull_iff⟩
  case owned =>
    intro value small bound
    rw [exec_writePoint ready point defined small, writeHost, if_pos bound]
    rfl
  case terminal =>
    intro value small free bus
    rw [exec_writePoint ready point defined small]
    simp only [writeHost, free, bus, lineOf]
    rfl
  case field =>
    intro l value small free bus
    rw [exec_writePoint ready point defined small, writeHost_field free bus]
    refine ⟨fun full => ?_, fun room => ?_⟩
    · rw [if_pos full]
      rfl
    · rw [if_neg (by rw [room]; exact Bool.false_ne_true), queueWrite_eq, ← bus]
      rfl
  case noRead =>
    intro bus
    rw [exec_fetchPoint ready point defined]
    simp only [fetchHost, bus, lineOf]
    rfl
  case closed =>
    intro l bus idle
    have shut : (isDown (getLine s l) || !nodeWorked (getLine s l) p.addr) = true := by
      rcases idle with down | unworked <;> simp [*]
    rw [exec_fetchPoint ready point defined, fetchHost_field bus]
    simp only [offerOneOff, shut, if_true]
    rfl
  case waits =>
    intro l bus up worked listed
    rw [exec_fetchPoint ready point defined, fetchHost_field bus]
    simp only [offerOneOff, up, worked, List.contains_iff_mem.mpr listed, Bool.not_true, Bool.or_self, if_true,
      Bool.false_eq_true, if_false]
    rfl
  case offered =>
    intro l bus up worked unlisted
    have absent : (getLine s l).oneOffs.contains ⟨p.addr, p.point⟩ = false := by
      simpa [List.contains_iff_mem] using unlisted
    rw [exec_fetchPoint ready point defined, fetchHost_field bus]
    simp only [offerOneOff, up, worked, absent, Bool.not_true, Bool.or_self, Bool.false_eq_true, if_false]
    refine ⟨fun full => ?_, fun room => ?_⟩
    · rw [if_pos (show oneOffLength ≤ _ from full)]
      rfl
    · rw [if_neg (show ¬ oneOffLength ≤ _ from Nat.not_le.mpr room), takeOneOff_eq]
      rfl
  case replaced =>
    rintro before e after rfl onNode onPoint single
    exact joinQueue_present onNode onPoint single

end Sys2Proof.Proofs


/-! SUPPORT and PROOFS. The presence table, the judgement of a zone, and the requests for presence (O40). -/

namespace Sys2Proof.Machine

/-! ## Tables whose numbers rise -/

theorem slotWf_cons {α : Type} {k : Nat} {v : α} {rest : Table α} :
    slotWf ((k, v) :: rest) = true ↔ (∀ e ∈ rest, k < e.1) ∧ slotWf rest = true := by
  simp only [slotWf, Bool.and_eq_true, List.all_eq_true, decide_eq_true_eq]

theorem slotWf_sublist {α : Type} {a b : Table α} (h : a.Sublist b) (ordered : slotWf b = true) : slotWf a = true := by
  induction h with
  | slnil => rfl
  | cons e _ ih => exact ih (slotWf_cons.mp ordered).2
  | cons_cons e sub ih =>
    obtain ⟨above, rest⟩ := slotWf_cons.mp ordered
    exact slotWf_cons.mpr ⟨fun x member => above x (sub.subset member), ih rest⟩

/-- To free a slot is to take its number out. -/
theorem slotFree_eq_filter {α : Type} {table : Table α} (k : Nat) (ordered : slotWf table = true) :
    slotFree table k = table.filter fun e => e.1 != k := by
  induction table with
  | nil => rfl
  | cons e rest ih =>
    obtain ⟨j, v⟩ := e
    obtain ⟨above, ordered⟩ := slotWf_cons.mp ordered
    by_cases h : k = j
    · subst h
      rw [slotFree, if_pos rfl, List.filter_cons_of_neg (by simp)]
      refine (List.filter_eq_self.mpr fun x member => ?_).symm
      have := above x member
      simp only [bne_iff_ne, ne_eq]
      omega
    · rw [slotFree, if_neg h, List.filter_cons_of_pos (by simpa using Ne.symm h), ih ordered]

theorem slotGet_none_iff {α : Type} (table : Table α) (k : Nat) : slotGet table k = none ↔ ∀ e ∈ table, e.1 ≠ k := by
  induction table with
  | nil => simp [slotGet]
  | cons e rest ih =>
    obtain ⟨j, v⟩ := e
    by_cases h : k = j
    · simp [slotGet, h]
    · simp [slotGet, h, ih, Ne.symm h]

/-- A record put into a free slot joins the others. -/
theorem slotSet_perm {α : Type} {table : Table α} {k : Nat} (v : α) (free : slotGet table k = none) :
    (slotSet table k v).Perm ((k, v) :: table) := by
  induction table with
  | nil => exact .refl _
  | cons e rest ih =>
    obtain ⟨j, w⟩ := e
    have apart : k ≠ j := by
      rintro rfl
      simp [slotGet] at free
    simp only [slotSet]
    split
    · exact .refl _
    · rw [slotGet, if_neg apart] at free
      exact ((ih free).cons _).trans (.swap _ _ _)

theorem lowestFreeFrom_spec {α : Type} {table : Table α} (ordered : slotWf table = true) (k : Nat) :
    k ≤ lowestFreeFrom table k ∧ ∀ e ∈ table, e.1 ≠ lowestFreeFrom table k := by
  induction table generalizing k with
  | nil => exact ⟨Nat.le_refl k, by simp⟩
  | cons e rest ih =>
    obtain ⟨j, v⟩ := e
    obtain ⟨above, ordered⟩ := slotWf_cons.mp ordered
    simp only [lowestFreeFrom, List.mem_cons, forall_eq_or_imp]
    split
    · refine ⟨Nat.le_refl k, by omega, fun x member => ?_⟩
      have := above x member
      omega
    · split
      · obtain ⟨least, unused⟩ := ih ordered (k + 1)
        exact ⟨by omega, by omega, unused⟩
      · obtain ⟨least, unused⟩ := ih ordered k
        exact ⟨least, by omega, unused⟩

/-- The lowest free slot is free. -/
theorem slotGet_lowestFree {α : Type} {table : Table α} (ordered : slotWf table = true) :
    slotGet table (lowestFree table) = none :=
  (slotGet_none_iff _ _).mpr (lowestFreeFrom_spec ordered 1).2

/-- A freed slot leaves what the others say, where its own record says nothing. -/
theorem any_slotFree {α : Type} {table : Table α} {k : Nat} {v : α} {p : Nat × α → Bool}
    (found : slotGet table k = some v) (silent : p (k, v) = false) : (slotFree table k).any p = table.any p := by
  induction table with
  | nil => rfl
  | cons e rest ih =>
    obtain ⟨j, w⟩ := e
    simp only [slotGet] at found
    simp only [slotFree]
    split at found
    · rename_i same
      subst same
      rw [if_pos rfl, List.any_cons, Option.some.inj found, silent, Bool.false_or]
    · rename_i apart
      rw [if_neg apart, List.any_cons, List.any_cons, ih found]

theorem any_slotSet {α : Type} {table : Table α} {k : Nat} {v : α} {p : Nat × α → Bool}
    (free : slotGet table k = none) : (slotSet table k v).any p = (p (k, v) || table.any p) := by
  rw [(slotSet_perm v free).any_eq, List.any_cons]

theorem length_slotFree {α : Type} {table : Table α} {k : Nat} {v : α} (found : slotGet table k = some v) :
    (slotFree table k).length + 1 = table.length := by
  induction table with
  | nil => simp [slotGet] at found
  | cons e rest ih =>
    obtain ⟨j, w⟩ := e
    simp only [slotGet] at found
    simp only [slotFree]
    split at found
    · rename_i same
      rw [if_pos same]
      rfl
    · rename_i apart
      rw [if_neg apart, List.length_cons, ih found, List.length_cons]

theorem slotUsed_iff {α : Type} (table : Table α) (k : Nat) :
    slotUsed table k = true ↔ ∃ v, slotGet table k = some v := by
  rw [slotUsed, Option.isSome_iff_exists]

/-! ## The judgement of a zone (R109, R111) -/

/-- The record of a zone as the judgement leaves it. -/
def judged (s : State) (z : Nat) (r : ZoneRec) : ZoneRec :=
  judgedFlag (hasDynamic s z) r
    (judgedZone (inZones s.plan.openZones z) (hasEntry s z) s.now (dormancyMs s z) r)

theorem slotGet_judgeZone {s : State} {z : Nat} {r : ZoneRec} (found : slotGet s.zones z = some r) :
    slotGet (judgeZone z s).zones z = some (judged s z r) := by
  simp only [judgeZone, changeZone, slotGet_slotChange, if_true, found, Option.map_some, judged]

theorem slotGet_judgeZone_ne {s : State} {z other : Nat} (h : other ≠ z) :
    slotGet (judgeZone z s).zones other = slotGet s.zones other := by
  simp only [judgeZone, changeZone, slotGet_slotChange, if_neg h]

theorem judgeZone_frame (z : Nat) (s : State) : judgeZone z s = { s with zones := (judgeZone z s).zones } := rfl

@[simp] theorem judgeZone_presence (z : Nat) (s : State) : (judgeZone z s).presence = s.presence := rfl

theorem judgedZone_state (isOpen occupied : Bool) (now dormancy : Nat) (r : ZoneRec) :
    (judgedZone isOpen occupied now dormancy r).state = if isOpen = false then .closed
      else if occupied = true then .occupied
      else if r.state = .vacant ∨ r.state = .dormant then r.state else .vacant := by
  cases isOpen <;> cases occupied <;> cases h : r.state <;> simp [judgedZone, h]

theorem judgedZone_intruded (isOpen occupied : Bool) (now dormancy : Nat) (r : ZoneRec) (dynamic : Bool) :
    (judgedFlag dynamic r (judgedZone isOpen occupied now dormancy r)).intruded = (r.intruded && dynamic
      && !(r.state == .closed && (judgedZone isOpen occupied now dormancy r).state != .closed)) := rfl

theorem judged_state (s : State) (z : Nat) (r : ZoneRec) :
    (judged s z r).state = if inZones s.plan.openZones z = false then .closed
      else if hasEntry s z = true then .occupied
      else if r.state = .vacant ∨ r.state = .dormant then r.state else .vacant :=
  judgedZone_state _ _ _ _ _

theorem judged_intruded (s : State) (z : Nat) (r : ZoneRec) : (judged s z r).intruded = true ↔
    r.intruded = true ∧ hasDynamic s z = true ∧ (r.state = .closed → (judged s z r).state = .closed) := by
  show (judgedFlag _ _ _).intruded = true ↔ _
  rw [judgedZone_intruded]
  simp only [Bool.and_eq_true, Bool.not_eq_true', Bool.and_eq_false_iff, beq_eq_false_iff_ne, ne_eq,
    bne_eq_false_iff_eq, and_assoc]
  refine and_congr_right fun _ => and_congr_right fun _ => ?_
  show _ ↔ (_ → (judgedZone _ _ _ _ _).state = Occupancy.closed)
  tauto

/-! ## Entries -/

theorem hasEntry_of_get {s : State} {slot z : Nat} {e : PresenceEntry} (found : slotGet s.presence slot = some e)
    (zone : e.zone = z) : hasEntry s z = true :=
  List.any_eq_true.mpr ⟨_, slotGet_mem _ _ _ found, by simp [entryIn, zone]⟩

theorem removeEntry_absent {s : State} {slot : Nat} (free : slotGet s.presence slot = none) :
    removeEntry slot s = s := by
  rw [removeEntry, free]

theorem removeEntry_found {s : State} {slot : Nat} {e : PresenceEntry} (found : slotGet s.presence slot = some e) :
    removeEntry slot s = judgeZone e.zone { s with
      presence := slotFree s.presence slot
      fullReported := s.fullReported && decide (96 ≤ (slotFree s.presence slot).length) } := by
  rw [removeEntry, found]
  rfl

theorem slotFree_absent {α : Type} {table : Table α} {k : Nat} (free : slotGet table k = none) :
    slotFree table k = table := by
  induction table with
  | nil => rfl
  | cons e rest ih =>
    obtain ⟨j, v⟩ := e
    simp only [slotGet] at free
    split at free
    · exact absurd free (Option.some_ne_none _)
    · rename_i apart
      rw [slotFree, if_neg apart, ih free]

theorem removeEntry_presence (slot : Nat) (s : State) : (removeEntry slot s).presence = slotFree s.presence slot := by
  cases found : slotGet s.presence slot with
  | none => rw [removeEntry_absent found, slotFree_absent found]
  | some e => rw [removeEntry_found found]; rfl

theorem removeEntry_frame (slot : Nat) (s : State) : removeEntry slot s = { s with
    presence := (removeEntry slot s).presence, zones := (removeEntry slot s).zones
    fullReported := (removeEntry slot s).fullReported } := by
  cases found : slotGet s.presence slot with
  | none => rw [removeEntry_absent found]
  | some e => rw [removeEntry_found found]; rfl

/-- What a removal of entries can change. -/
def RemovalFrame (s t : State) : Prop :=
  t = { s with presence := t.presence, zones := t.zones, fullReported := t.fullReported }

theorem RemovalFrame.trans {a b c : State} (h : RemovalFrame a b) (k : RemovalFrame b c) : RemovalFrame a c :=
  Eq.trans k (by rw [h])

theorem removeEntries_frame (slots : List Nat) (s : State) : RemovalFrame s (forEach slots removeEntry s) :=
  forEach_related (R := RemovalFrame) (fun _ => rfl) RemovalFrame.trans _ removeEntry_frame _ _

theorem removeEntries_presence {s : State} (ordered : slotWf s.presence = true) (slots : List Nat) :
    (forEach slots removeEntry s).presence = s.presence.filter fun e => !slots.contains e.1 := by
  induction slots generalizing s with
  | nil => simp
  | cons slot rest ih =>
    have free : slotWf (removeEntry slot s).presence = true := by
      rw [removeEntry_presence]
      exact slotWf_sublist (slotFree_sublist _ _) ordered
    rw [forEach_cons, ih free, removeEntry_presence, slotFree_eq_filter _ ordered, List.filter_filter]
    refine List.filter_congr fun e _ => ?_
    simp only [List.contains_cons, Bool.not_or, Bool.and_comm]
    rfl

theorem mem_slotsWhere_of_mem {α : Type} {table : Table α} (ordered : slotWf table = true) {p : α → Bool}
    {e : Nat × α} (member : e ∈ table) : e.1 ∈ slotsWhere p table ↔ p e.2 = true := by
  rw [mem_slotsWhere]
  constructor
  · rintro ⟨r, found, holds⟩
    have : r = e.2 := Option.some.inj ((slotGet_of_mem ordered found).symm.trans (slotGet_of_mem ordered member))
    rwa [← this]
  · intro holds
    exact ⟨e.2, member, holds⟩

/-- A removal of the entries that `p` picks leaves the others. -/
theorem removeWhere_presence {s : State} (ordered : slotWf s.presence = true) (p : PresenceEntry → Bool) :
    (forEach (slotsWhere p s.presence) removeEntry s).presence = s.presence.filter fun e => !p e.2 := by
  rw [removeEntries_presence ordered]
  refine List.filter_congr fun e member => congrArg (!·) ?_
  rw [Bool.eq_iff_iff, List.contains_iff_mem, mem_slotsWhere_of_mem ordered member]

theorem flushEntries_presence {s : State} (ordered : slotWf s.presence = true) (p : PresenceEntry → Bool) :
    (flushEntries p s).presence = s.presence.filter fun e => !(isDynamic e.2 && p e.2) :=
  removeWhere_presence ordered _

/-! ## Room for a new entry -/

theorem makeRoom_frame (z : Nat) (s : State) : makeRoom z s = { s with
    presence := (makeRoom z s).presence, zones := (makeRoom z s).zones, fullReported := (makeRoom z s).fullReported
    evictedDoors := (makeRoom z s).evictedDoors, notices := (makeRoom z s).notices, lost := (makeRoom z s).lost } := by
  exact (makeRoom_pres z s).frame

theorem createEntry_frame (e : PresenceEntry) (s : State) : createEntry e s = { s with
    presence := (createEntry e s).presence, zones := (createEntry e s).zones
    fullReported := (createEntry e s).fullReported, evictedDoors := (createEntry e s).evictedDoors
    notices := (createEntry e s).notices, lost := (createEntry e s).lost } :=
  (createEntry_pres e s).frame

/-- The table with an entry put into a slot, before its zone is judged. -/
def withEntry (slot : Nat) (e : PresenceEntry) (s : State) : State := { s with
  presence := slotSet s.presence slot e
  evictedDoors := withoutEvicted e.source s.evictedDoors }

theorem createEntry_eq (e : PresenceEntry) (s : State) : createEntry e s = judgeZone e.zone
    (withEntry (lowestFree (makeRoom e.zone s).presence) e (makeRoom e.zone s)) := rfl

theorem withEntry_found (slot : Nat) (e : PresenceEntry) (s : State) :
    slotGet (withEntry slot e s).presence slot = some e := by
  rw [withEntry, slotGet_slotSet, if_pos rfl]

theorem createEntry_presence (e : PresenceEntry) (s : State) : (createEntry e s).presence
    = slotSet (makeRoom e.zone s).presence (lowestFree (makeRoom e.zone s).presence) e := rfl

theorem createEntry_found (e : PresenceEntry) (s : State) :
    slotGet (createEntry e s).presence (lowestFree (makeRoom e.zone s).presence) = some e := by
  rw [createEntry_presence, slotGet_slotSet, if_pos rfl]

/-- A zone that has a record keeps one while entries come and go. -/
theorem PresenceSide.zone {s t : State} (h : PresenceSide s t) {z : Nat} {r : ZoneRec}
    (found : slotGet s.zones z = some r) : ∃ r', slotGet t.zones z = some r' := by
  cases lookup : slotGet t.zones z with
  | some r' => exact ⟨r', rfl⟩
  | none =>
    have absent : z ∉ slotNumbers t.zones := by
      rintro listed
      obtain ⟨e, member, number⟩ := List.mem_map.mp listed
      exact (slotGet_none_iff _ _).mp lookup e member number
    rw [h.zoneNumbers] at absent
    exact absurd (List.mem_map_of_mem (slotGet_mem _ _ _ found)) absent

/-- The zone of a new entry is judged with the entry in the table. -/
theorem createEntry_zone {e : PresenceEntry} {s : State} {r : ZoneRec} (found : slotGet s.zones e.zone = some r) :
    ∃ r', slotGet (createEntry e s).zones e.zone = some r'
      ∧ r'.state = if inZones s.plan.openZones e.zone = true then .occupied else .closed := by
  obtain ⟨before, kept⟩ := (makeRoom_pres e.zone s).zone found
  have plan : ∀ slot, (withEntry slot e (makeRoom e.zone s)).plan = s.plan := fun slot => by
    rw [withEntry, makeRoom_frame]
  rw [createEntry_eq]
  refine ⟨_, slotGet_judgeZone (r := before) kept, ?_⟩
  rw [judged_state, hasEntry_of_get (withEntry_found _ e _) rfl, plan]
  cases inZones s.plan.openZones e.zone <;> rfl

end Sys2Proof.Machine

namespace Sys2Proof.Claims

open Sys2Proof.Machine

/-- The zone of a presence request is defined: the request goes to its effect. -/
theorem withZone_defined {z : Nat} {s : State} {f : Served} (zone : isZone z)
    (defined : slotUsed s.config.zones z = true) : withZone z s f = f := by
  simp only [withZone, zoneInRange_true zone, defined, Bool.not_true, Bool.false_eq_true, if_false]

theorem exec_pinPresence {z : Nat} {s : State} (ready : canConfigure s) (zone : isZone z)
    (defined : slotUsed s.config.zones z = true) : exec (.pinPresence [byteOf z]) s
      = taken 0x33 .configuring .ok [] (if (entrySlot s z .host).isSome then s else pinZone z s) := by
  refine (serve_waiting_read (handle := handlePin) (x := z) ready (takeByte_single ?_) (by simp)).trans ?_
  · have := zone.2
    omega
  · rw [handlePin, withZone_defined zone defined]
    rfl

theorem exec_unpinPresence {z : Nat} {s : State} (ready : canConfigure s) (zone : isZone z)
    (defined : slotUsed s.config.zones z = true) : exec (.unpinPresence [byteOf z]) s
      = .next (finishRequest 0x34 .configuring (if (entrySlot s z .host).isSome then done (unpinZone z s)
          else refuse .notFound s)) := by
  refine (serve_waiting_read (handle := handleUnpin) (x := z) ready (takeByte_single ?_) (by simp)).trans ?_
  · have := zone.2
    omega
  · rw [handleUnpin, withZone_defined zone defined]

theorem exec_flushPresence {z : Nat} {s : State} (ready : canTake s) (small : z < 256) :
    exec (.flushPresence [byteOf z]) s = .next (finishRequest 0x35 .plain (handleFlush z s)) :=
  serve_plain_read (handle := handleFlush) ready (takeByte_single small) (by simp)

end Sys2Proof.Claims

namespace Sys2Proof.Proofs

open Sys2Proof.Machine Sys2Proof.Claims

/-- Settles O40: each request by the entry it creates or the entries it removes. -/
theorem presenceRequestsPlaceAndRemoveEntries : Obligations.PresenceRequestsPlaceAndRemoveEntries := by
  intro s ordered
  refine ⟨fun z r ready zone defined found absent => ?pins, fun z ready zone defined present => ?pinned,
    fun z slot ready zone defined present => ?unpins, fun z ready zone defined absent => ?noPin, fun ready => ?all,
    fun z ready zone defined => ?one⟩
  case pins =>
    obtain ⟨r', judged, state⟩ := createEntry_zone (e := ⟨z, .host, .pinned⟩)
      (s := { s with config := { s.config with pins := s.config.pins ++ [z] } }) found
    refine ⟨pinZone z s, r', ?_, ?_, ⟨_, slotGet_mem _ _ _ (createEntry_found _ _), rfl⟩, judged, state, ?_⟩
    · rw [exec_pinPresence ready zone defined, absent]
      rfl
    · rw [pinZone, createEntry_frame]
    · rw [pinZone, createEntry_frame]
  case pinned =>
    rw [exec_pinPresence ready zone defined, if_pos present]
  case unpins =>
    have dropped : unpinZone z s = removeEntry slot
        { s with config := { s.config with pins := s.config.pins.filter (fun p => p != z) } } := by
      have same : entrySlot { s with config := { s.config with pins := s.config.pins.filter (fun p => p != z) } }
          z .host = some slot := present
      rw [unpinZone, dropEntry, same]
    refine ⟨unpinZone z s, ?_, ?_, ?_, ?_⟩
    · rw [exec_unpinPresence ready zone defined, present]
      rfl
    · rw [dropped, removeEntry_frame]
    · rw [dropped, removeEntry_presence]
    · rw [dropped, removeEntry_frame]
  case noPin =>
    rw [exec_unpinPresence ready zone defined, absent]
    rfl
  case all =>
    refine ⟨flushEntries (fun _ => true) s, exec_flushPresence (z := 255) ready (by decide), ?_,
      removeEntries_frame _ _⟩
    simp only [flushEntries_presence ordered, Bool.and_true]
  case one =>
    refine ⟨flushEntries (entryIn z) s, ?_, flushEntries_presence ordered _, removeEntries_frame _ _⟩
    have notAll : z ≠ 255 := by
      have := zone.2
      omega
    rw [exec_flushPresence ready (by have := zone.2; omega), handleFlush, if_neg notAll,
      withZone_defined zone defined]
    rfl

end Sys2Proof.Proofs


/-! SUPPORT. The laws of the presence table and of the zones under the operations of the occupancy unit
(R102, R109, R111). -/

namespace Sys2Proof.Machine

/-! ## The law of the table (R102) -/

/-- The zone and the source that an entry is for. -/
def placeOf (e : Nat × PresenceEntry) : Nat × PresenceSource := (e.2.zone, e.2.source)

/-- R102: an entry names a zone Z1..Z12, and a HOST entry is what is PINNED. -/
def entryLaw (e : PresenceEntry) : Prop := (e.life = .pinned ↔ e.source = .host) ∧ 1 ≤ e.zone ∧ e.zone ≤ 12

/-- R102: the part of the law that speaks of the table alone. -/
def tableLaw (table : Table PresenceEntry) : Prop :=
  slotWf table = true ∧ table.length ≤ Config.presenceSlots ∧ (table.map placeOf).Nodup ∧ ∀ e ∈ table, entryLaw e.2

theorem presenceLawful_iff (s : State) : presenceLawful s ↔
    zonesNumbered s.config ∧ zonesNumbered s.store.copy ∧ tableLaw s.presence := Iff.rfl

theorem tableLaw_sublist {a b : Table PresenceEntry} (h : a.Sublist b) (law : tableLaw b) : tableLaw a := by
  obtain ⟨ordered, short, single, entries⟩ := law
  exact ⟨slotWf_sublist h ordered, h.length_le.trans short, single.sublist (h.map _),
    fun e member => entries e (h.subset member)⟩

/-- A change that moves no entry and keeps each entry's law keeps the table's. -/
theorem tableLaw_slotMap {table : Table PresenceEntry} {f : Nat → PresenceEntry → PresenceEntry} (law : tableLaw table)
    (zone : ∀ k e, (f k e).zone = e.zone) (source : ∀ k e, (f k e).source = e.source)
    (entry : ∀ e ∈ table, entryLaw e.2 → entryLaw (f e.1 e.2)) : tableLaw (slotMap f table) := by
  obtain ⟨ordered, short, single, entries⟩ := law
  refine ⟨by rwa [slotWf_slotMap], by rwa [slotMap_length], ?_, ?_⟩
  · have places : (slotMap f table).map placeOf = table.map placeOf := by
      simp only [slotMap, List.map_map]
      exact List.map_congr_left fun e _ => Prod.ext (zone _ _) (source _ _)
    rwa [places]
  · intro e member
    obtain ⟨x, found, rfl⟩ := List.mem_map.mp member
    exact entry x found (entries x found)

theorem slotChange_eq_slotMap {α : Type} (f : α → α) {table : Table α} (k : Nat) (ordered : slotWf table = true) :
    slotChange f table k = slotMap (fun j v => if j = k then f v else v) table := by
  induction table with
  | nil => rfl
  | cons e rest ih =>
    obtain ⟨j, v⟩ := e
    obtain ⟨above, ordered⟩ := slotWf_cons.mp ordered
    simp only [slotChange, slotMap, List.map_cons]
    split
    · rename_i same
      subst same
      refine congrArg₂ List.cons (by rw [if_pos rfl]) ?_
      refine ((List.map_congr_left fun x member => ?_).trans (List.map_id' rest)).symm
      have := above x member
      rw [if_neg (by omega)]
    · rename_i apart
      rw [if_neg (Ne.symm apart), ih ordered]
      rfl

/-- A life given to an entry of a sensor or a door keeps the table's law. -/
theorem tableLaw_life {table : Table PresenceEntry} {slot : Nat} {e : PresenceEntry} {life : PresenceLife}
    (law : tableLaw table) (found : slotGet table slot = some e) (mortal : e.source ≠ .host) (runs : life ≠ .pinned) :
    tableLaw (slotChange (fun e => { e with life := life }) table slot) := by
  have ordered := law.1
  rw [slotChange_eq_slotMap _ _ ordered]
  refine tableLaw_slotMap law (fun k x => ?_) (fun k x => ?_) fun x member entry => ?_
  · split <;> rfl
  · split <;> rfl
  · split
    · rename_i same
      have : x.2 = e := Option.some.inj ((slotGet_of_mem ordered (same ▸ member)).symm.trans found)
      exact ⟨⟨fun h => absurd h runs, fun h => absurd (this ▸ h) mortal⟩, entry.2⟩
    · exact entry

/-- A new entry keeps the table's law when its place is free and there is room for it. -/
theorem tableLaw_slotSet {table : Table PresenceEntry} {slot : Nat} {e : PresenceEntry} (law : tableLaw table)
    (free : slotGet table slot = none) (room : table.length < 96) (entry : entryLaw e)
    (unplaced : ∀ x ∈ table, placeOf x ≠ (e.zone, e.source)) : tableLaw (slotSet table slot e) := by
  obtain ⟨ordered, short, single, entries⟩ := law
  have moved := slotSet_perm e free
  refine ⟨slotWf_slotSet _ _ _ ordered, ?_, ?_, fun x member => ?_⟩
  · rw [moved.length_eq, List.length_cons]
    exact room
  · rw [(moved.map placeOf).nodup_iff, List.map_cons, List.nodup_cons]
    refine ⟨fun member => ?_, single⟩
    obtain ⟨x, found, place⟩ := List.mem_map.mp member
    exact unplaced x found place
  · rcases List.mem_cons.mp (moved.subset member) with rfl | found
    · exact entry
    · exact entries x found

/-- R102: a table of pinned entries alone holds one for each zone at most. -/
theorem pinned_length {table : Table PresenceEntry} (law : tableLaw table)
    (pinned : ∀ e ∈ table, isDynamic e.2 = false) : table.length ≤ 12 := by
  obtain ⟨-, -, single, entries⟩ := law
  have host : ∀ e ∈ table, e.2.source = .host := fun e member => by
    refine (entries e member).1.mp ?_
    have := pinned e member
    cases life : e.2.life <;> simp [isDynamic, life] at this ⊢
  have places : table.map placeOf = (table.map fun e => e.2.zone).map fun z => (z, PresenceSource.host) := by
    rw [List.map_map]
    exact List.map_congr_left fun e member => Prod.ext rfl (host e member)
  rw [places] at single
  have inRange : (table.map fun e => e.2.zone) ⊆ List.range' 1 12 := by
    intro z member
    obtain ⟨e, found, rfl⟩ := List.mem_map.mp member
    obtain ⟨-, low, high⟩ := entries e found
    rw [List.mem_range'_1]
    omega
  have := (single.of_map _).subperm inRange
  simpa using this.length_le

/-! ## The choice of the entry to evict (R106) -/

theorem evictionChoice_none {now : Nat} {table : Table PresenceEntry} (h : evictionChoice now table = none) :
    ∀ e ∈ table, isDynamic e.2 = false := by
  induction table with
  | nil => simp
  | cons e rest ih =>
    simp only [evictionChoice] at h
    split at h
    · split at h
      · exact absurd h (Option.some_ne_none _)
      · split at h <;> exact absurd h (Option.some_ne_none _)
    · rename_i still
      simp only [List.mem_cons, forall_eq_or_imp]
      exact ⟨by simpa using still, ih h⟩

theorem evictionChoice_mem {now : Nat} {table : Table PresenceEntry} {x : Nat × PresenceEntry}
    (h : evictionChoice now table = some x) : x ∈ table := by
  induction table with
  | nil => simp [evictionChoice] at h
  | cons e rest ih =>
    simp only [evictionChoice] at h
    split at h
    · split at h
      · cases h
        exact List.mem_cons_self ..
      · rename_i b found
        split at h
        · cases h
          exact List.mem_cons_self ..
        · cases h
          exact List.mem_cons_of_mem _ (ih found)
    · exact List.mem_cons_of_mem _ (ih h)

/-! ## What an operation of the occupancy unit keeps -/

/-- R109, R111: what stands between the record of a zone, the plan and the table. -/
def zoneStands (s : State) (z : Nat) (r : ZoneRec) : Prop :=
  (r.state = .closed ↔ inZones s.plan.openZones z = false)
    ∧ (r.state = .occupied ↔ inZones s.plan.openZones z = true ∧ hasEntry s z = true)
    ∧ (r.intruded = true → r.state = .closed ∧ hasDynamic s z = true)

/-- R111: the flag stands for a CLOSED zone alone. -/
def flagsClosed (s : State) : Prop := ∀ z r, slotGet s.zones z = some r → r.intruded = true → r.state = .closed

theorem zonesLawful_flags {s : State} (h : zonesLawful s) : flagsClosed s :=
  fun z r found intruded => ((h z r found).2.2 intruded).1

/-- A judged zone obeys the law. -/
theorem judged_stands {s : State} {z : Nat} {r : ZoneRec} (flag : r.intruded = true → r.state = .closed) :
    zoneStands s z (judged s z r) := by
  refine ⟨?_, ?_, fun intruded => ?_⟩
  · rw [judged_state]
    cases inZones s.plan.openZones z <;> cases hasEntry s z <;> cases r.state <;> decide
  · rw [judged_state]
    cases inZones s.plan.openZones z <;> cases hasEntry s z <;> cases r.state <;> decide
  · obtain ⟨before, dynamic, stays⟩ := (judged_intruded s z r).mp intruded
    exact ⟨stays (flag before), dynamic⟩

/-- A zone of which neither the plan nor the entries say anything new obeys the law as before. -/
theorem zoneStands_congr {s t : State} {z : Nat} {r : ZoneRec} (plan : t.plan = s.plan)
    (entry : hasEntry t z = hasEntry s z) (dynamic : hasDynamic s z = true → hasDynamic t z = true)
    (h : zoneStands s z r) : zoneStands t z r := by
  obtain ⟨closed, occupied, intruded⟩ := h
  refine ⟨by rw [plan]; exact closed, by rw [plan, entry]; exact occupied, fun flag => ?_⟩
  obtain ⟨shut, before⟩ := intruded flag
  exact ⟨shut, dynamic before⟩

/-- What an operation of the occupancy unit keeps. -/
structure OccupancyKept (s t : State) : Prop where
  config : t.config = s.config
  plan : t.plan = s.plan
  store : t.store = s.store
  table : presenceLawful s → tableLaw t.presence
  zones : presenceLawful s → zonesLawful s → zonesLawful t

theorem OccupancyKept.presence {s t : State} (h : OccupancyKept s t) (law : presenceLawful s) : presenceLawful t := by
  refine (presenceLawful_iff t).mpr ⟨?_, ?_, h.table law⟩
  · rw [h.config]
    exact law.1
  · rw [h.store]
    exact law.2.1

theorem OccupancyKept.refl (s : State) : OccupancyKept s s := ⟨rfl, rfl, rfl, fun h => h.2.2, fun _ h => h⟩

theorem OccupancyKept.trans {a b c : State} (h : OccupancyKept a b) (k : OccupancyKept b c) : OccupancyKept a c where
  config := k.config.trans h.config
  plan := k.plan.trans h.plan
  store := k.store.trans h.store
  table law := k.table (h.presence law)
  zones law zones := k.zones (h.presence law) (h.zones law zones)

/-- A relation that holds under a law of the state before holds without it, where it says nothing else. -/
theorem OccupancyKept.of_law {s t : State} (config : t.config = s.config) (plan : t.plan = s.plan)
    (store : t.store = s.store) (h : presenceLawful s → OccupancyKept s t) : OccupancyKept s t :=
  ⟨config, plan, store, fun law => (h law).table law, fun law => (h law).zones law⟩

/-- What leaves the table, the zones, the plan and the configuration as they are. -/
theorem OccupancyKept.of_frame {s t : State} (config : t.config = s.config) (plan : t.plan = s.plan)
    (store : t.store = s.store) (presence : t.presence = s.presence) (zones : t.zones = s.zones) :
    OccupancyKept s t := by
  refine ⟨config, plan, store, fun law => ?_, fun _ law z r found => ?_⟩
  · rw [presence]
    exact law.2.2
  · rw [zones] at found
    refine zoneStands_congr plan ?_ ?_ (law z r found)
    · rw [hasEntry, presence]
      rfl
    · rw [hasDynamic, hasDynamic, presence]
      exact id

/-- A change of the table that concerns one zone alone, and the judgement of that zone. -/
theorem judgedAfter_kept {s t : State} {z : Nat} (config : t.config = s.config) (plan : t.plan = s.plan)
    (store : t.store = s.store) (zones : t.zones = s.zones) (table : presenceLawful s → tableLaw t.presence)
    (entry : ∀ other, other ≠ z → hasEntry t other = hasEntry s other)
    (dynamic : ∀ other, other ≠ z → hasDynamic s other = true → hasDynamic t other = true) :
    OccupancyKept s (judgeZone z t) := by
  refine ⟨config, plan, store, table, fun _ law other r found => ?_⟩
  by_cases same : other = z
  · subst same
    cases before : slotGet t.zones other with
    | none =>
      rw [judgeZone, changeZone] at found
      simp only [slotGet_slotChange, if_true, before, Option.map_none] at found
      exact absurd found.symm (Option.some_ne_none r)
    | some r' =>
      obtain rfl : judged t other r' = r := Option.some.inj ((slotGet_judgeZone before).symm.trans found)
      rw [zones] at before
      exact judged_stands fun flag => zonesLawful_flags law other r' before flag
  · rw [slotGet_judgeZone_ne same, zones] at found
    exact zoneStands_congr plan (entry other same) (dynamic other same) (law other r found)

/-! ## The operations -/

theorem entryIn_other {z : Nat} {e : PresenceEntry} (other : z ≠ e.zone) : entryIn z e = false := by
  simpa [entryIn] using Ne.symm other

theorem removeEntry_kept (slot : Nat) (s : State) : OccupancyKept s (removeEntry slot s) := by
  cases found : slotGet s.presence slot with
  | none =>
    rw [removeEntry_absent found]
    exact .refl s
  | some e =>
    rw [removeEntry_found found]
    refine judgedAfter_kept rfl rfl rfl rfl (fun law => tableLaw_sublist (slotFree_sublist _ _) law.2.2)
      (fun other apart => ?_) (fun other apart => ?_)
    · exact any_slotFree found (entryIn_other apart)
    · intro before
      refine (any_slotFree found ?_).trans before
      rw [entryIn_other apart, Bool.false_and]

theorem raise_kept (kind : NoticeKind) (subject : Subject) (a b : Option Int) (s : State) :
    OccupancyKept s (raise kind subject a b s) := .of_frame rfl rfl rfl rfl rfl

/-- Room is made: the table keeps its law and its zones theirs. -/
theorem makeRoom_kept (z : Nat) (s : State) : OccupancyKept s (makeRoom z s) := by
  unfold makeRoom
  split
  · exact .refl s
  · split
    · exact .refl s
    · rename_i slot e chosen
      have member := evictionChoice_mem chosen
      have evicted : OccupancyKept s (judgeZone e.zone { s with
          presence := slotFree s.presence slot
          evictedDoors := withEvicted e.source s.evictedDoors }) := by
        cases found : slotGet s.presence slot with
        | none => exact absurd rfl ((slotGet_none_iff _ _).mp found _ member)
        | some x =>
          refine .of_law rfl rfl rfl fun law => ?_
          obtain rfl : e = x := Option.some.inj ((slotGet_of_mem law.2.2.1 member).symm.trans found)
          refine judgedAfter_kept rfl rfl rfl rfl (fun law => tableLaw_sublist (slotFree_sublist _ _) law.2.2)
            (fun other apart => ?_) (fun other apart => ?_)
          · exact any_slotFree found (entryIn_other apart)
          · intro before
            refine (any_slotFree found ?_).trans before
            rw [entryIn_other apart, Bool.false_and]
      dsimp only
      split
      · exact evicted
      · have told := raise_kept .presenceTableFull (.zone z) (some e.zone) (quantity Config.presenceSlots)
        exact (evicted.trans (told _)).trans
          (.of_frame rfl rfl rfl rfl rfl)

/-- Room is made: the table has a free slot among its 96. -/
theorem makeRoom_length (z : Nat) {s : State} (law : tableLaw s.presence) : (makeRoom z s).presence.length < 96 := by
  unfold makeRoom
  split
  · rename_i room
    exact room
  · rename_i full
    split
    · rename_i none
      exact absurd (show s.presence.length < Config.presenceSlots from
        Nat.lt_of_le_of_lt (pinned_length law (evictionChoice_none none)) (by decide)) full
    · rename_i slot e chosen
      have shorter := length_slotFree (slotGet_of_mem law.1 (evictionChoice_mem chosen))
      have short : s.presence.length ≤ 96 := law.2.1
      have : (slotFree s.presence slot).length < 96 := by omega
      dsimp only
      split <;> exact this

/-- Room is made by taking entries out. -/
theorem makeRoom_sublist (z : Nat) (s : State) : (makeRoom z s).presence.Sublist s.presence := by
  unfold makeRoom
  split
  · exact .refl _
  · split
    · exact .refl _
    · dsimp only
      split <;> exact slotFree_sublist _ _

/-- A new entry of a place that has none. -/
theorem createEntry_kept {e : PresenceEntry} {s : State} (entry : entryLaw e)
    (unplaced : entrySlot s e.zone e.source = none) : OccupancyKept s (createEntry e s) := by
  have room := makeRoom_kept e.zone s
  rw [createEntry_eq]
  refine ⟨room.config, room.plan, room.store, fun law => ?_, fun law zones => ?_⟩
  · refine tableLaw_slotSet (room.table law) (slotGet_lowestFree (room.table law).1)
      (makeRoom_length e.zone law.2.2) entry fun x member place => ?_
    have absent := List.find?_eq_none.mp (Option.map_eq_none_iff.mp unplaced) x ((makeRoom_sublist _ _).subset member)
    obtain ⟨zone, source⟩ := Prod.mk.inj place
    rw [zone, source] at absent
    simp at absent
  · have free : slotGet (makeRoom e.zone s).presence (lowestFree (makeRoom e.zone s).presence) = none :=
      slotGet_lowestFree (room.table law).1
    have judgement : OccupancyKept (makeRoom e.zone s) (judgeZone e.zone
        (withEntry (lowestFree (makeRoom e.zone s).presence) e (makeRoom e.zone s))) := by
      refine judgedAfter_kept rfl rfl rfl rfl (fun held => ?_) (fun other apart => ?_) (fun other apart => ?_)
      · refine tableLaw_slotSet held.2.2 free (makeRoom_length e.zone law.2.2) entry fun x member place => ?_
        have absent :=
          List.find?_eq_none.mp (Option.map_eq_none_iff.mp unplaced) x ((makeRoom_sublist _ _).subset member)
        obtain ⟨zone, source⟩ := Prod.mk.inj place
        rw [zone, source] at absent
        simp at absent
      · refine (any_slotSet free).trans ?_
        rw [entryIn_other apart, Bool.false_or]
        rfl
      · intro before
        refine (any_slotSet free).trans ?_
        rw [show (List.any _ _) = true from before, Bool.or_true]
    exact judgement.zones (room.presence law) (room.zones law zones)

/-- What the entries say of a zone stands when the entries keep zone and liveliness. -/
theorem slotMap_says {s : State} {f : Nat → PresenceEntry → PresenceEntry} (zone : ∀ k e, (f k e).zone = e.zone)
    (dynamic : ∀ e ∈ s.presence, isDynamic e.2 = true → isDynamic (f e.1 e.2) = true) (z : Nat) :
    hasEntry { s with presence := slotMap f s.presence } z = hasEntry s z
      ∧ (hasDynamic s z = true → hasDynamic { s with presence := slotMap f s.presence } z = true) := by
  refine ⟨?_, fun before => ?_⟩
  · simp only [hasEntry, slotMap, List.any_map, Function.comp_def, entryIn, zone]
  · obtain ⟨e, member, holds⟩ := List.any_eq_true.mp before
    simp only [Bool.and_eq_true] at holds
    refine List.any_eq_true.mpr ⟨_, List.mem_map_of_mem member, ?_⟩
    simp only [entryIn, zone, Bool.and_eq_true]
    exact ⟨holds.1, dynamic e member holds.2⟩

/-- A change of lives keeps the laws when no pinned entry takes part and none comes of it. -/
theorem lives_kept {s : State} {f : Nat → PresenceEntry → PresenceEntry} (zone : ∀ k e, (f k e).zone = e.zone)
    (source : ∀ k e, (f k e).source = e.source)
    (life : ∀ k e, (f k e).life = e.life ∨ (f k e).life ≠ .pinned ∧ e.life ≠ .pinned) :
    OccupancyKept s { s with presence := slotMap f s.presence } := by
  have pinned : ∀ k e, (f k e).life = .pinned ↔ e.life = .pinned := fun k e => by
    rcases life k e with same | ⟨after, before⟩
    · rw [same]
    · exact iff_of_false after before
  have dynamic : ∀ e : PresenceEntry, isDynamic e = true ↔ e.life ≠ .pinned := fun e => by
    cases h : e.life <;> simp [isDynamic, h]
  refine ⟨rfl, rfl, rfl, fun law => tableLaw_slotMap law.2.2 zone source fun e _ entry => ?_, fun _ law z r found => ?_⟩
  · rw [entryLaw, pinned, source, zone]
    exact entry
  · obtain ⟨entry, lively⟩ := slotMap_says (s := s) (f := f) zone (fun e _ before => by
      rw [dynamic] at before ⊢
      rwa [ne_eq, pinned]) z
    exact zoneStands_congr (s := s) rfl entry lively (law z r found)

theorem presenceContact_kept (bus : Bus) (addr : Nat) (new : Contact) (s : State) :
    OccupancyKept s (presenceContact bus addr new s) := by
  unfold presenceContact
  split
  · exact .refl s
  · refine lives_kept (fun k e => ?_) (fun k e => ?_) (fun k e => ?_)
    · unfold fastAged
      split
      · split <;> rfl
      · rfl
    · unfold fastAged
      split
      · split <;> rfl
      · rfl
    · split
      · unfold fastAged
        split
        · rename_i lively
          refine .inr ⟨by simp, fun pinned => ?_⟩
          simp [isDynamic, pinned] at lively
        · exact .inl rfl
      · exact .inl rfl

theorem entrySlot_some {s : State} {z slot : Nat} {source : PresenceSource} (h : entrySlot s z source = some slot) :
    ∃ e, (slot, e) ∈ s.presence ∧ e.zone = z ∧ e.source = source := by
  obtain ⟨x, found, rfl⟩ := Option.map_eq_some_iff.mp h
  have holds := List.find?_some found
  simp only [Bool.and_eq_true, beq_iff_eq] at holds
  exact ⟨x.2, List.mem_of_find?_eq_some found, holds.1, holds.2⟩

/-- A life given to the entry of a sensor or a door. -/
theorem giveLife_kept {s : State} {z slot : Nat} {source : PresenceSource} {life : PresenceLife}
    (found : entrySlot s z source = some slot) (mortal : source ≠ .host) (runs : life ≠ .pinned) : OccupancyKept s
      { s with presence := slotChange (fun e => { e with life := life }) s.presence slot } := by
  obtain ⟨x, member, -, from_⟩ := entrySlot_some found
  refine ⟨rfl, rfl, rfl, fun law => ?_, fun law zones => ?_⟩
  · exact tableLaw_life law.2.2 (slotGet_of_mem law.2.2.1 member) (from_ ▸ mortal) runs
  · have ordered : slotWf s.presence = true := law.2.2.1
    have changed := slotChange_eq_slotMap (fun e : PresenceEntry => { e with life := life }) slot ordered
    have stands := slotMap_says (s := s) (f := fun j v => if j = slot then { v with life := life } else v)
      (fun k e => by split <;> rfl) (fun e _ before => by
        split
        · cases life
          · rfl
          · rfl
          · exact absurd rfl runs
        · exact before)
    intro y r at_
    rw [changed]
    obtain ⟨entry, lively⟩ := stands y
    exact zoneStands_congr (s := s) rfl entry lively (zones y r at_)

/-- The zone of a configuration that keeps its law is one of Z1..Z12. -/
theorem zone_inRange {c : RunningConfig} {z : Nat} (law : zonesNumbered c) (defined : slotUsed c.zones z = true) :
    1 ≤ z ∧ z ≤ 12 := by
  obtain ⟨v, found⟩ := (slotUsed_iff _ _).mp defined
  exact law.2 z (List.mem_map_of_mem (slotGet_mem _ _ _ found))

theorem refreshEntry_kept {z : Nat} {source : PresenceSource} {life : PresenceLife} {s : State}
    (defined : slotUsed s.config.zones z = true) (mortal : source ≠ .host) (runs : life ≠ .pinned) :
    OccupancyKept s (refreshEntry z source life s) := by
  unfold refreshEntry
  split
  · rename_i slot found
    exact giveLife_kept found mortal runs
  · rename_i absent
    refine .of_law ?_ ?_ ?_ fun law => createEntry_kept
      ⟨iff_of_false runs mortal, zone_inRange law.1 defined⟩ absent
    all_goals rw [createEntry_frame]

theorem holdEntry_kept (z door seconds : Nat) (s : State) : OccupancyKept s (holdEntry z door seconds s) := by
  unfold holdEntry
  split
  · rename_i defined
    exact refreshEntry_kept defined (by simp) (by simp)
  · exact .refl s

theorem releaseEntry_kept (z door ms : Nat) (s : State) : OccupancyKept s (releaseEntry z door ms s) := by
  unfold releaseEntry
  split
  · rename_i slot found
    exact giveLife_kept found (by simp) (by simp)
  · exact .refl s

theorem dropEntry_kept (z : Nat) (source : PresenceSource) (s : State) : OccupancyKept s (dropEntry z source s) := by
  unfold dropEntry
  split
  · exact removeEntry_kept _ _
  · exact .refl s

/-- A refresh leaves the entry with its life in the table. -/
theorem refreshEntry_dynamic {z : Nat} {source : PresenceSource} {life : PresenceLife} {s : State}
    (ordered : slotWf s.presence = true) (runs : life ≠ .pinned) :
    hasDynamic (refreshEntry z source life s) z = true := by
  have lively : ∀ e : PresenceEntry, isDynamic { e with life := life } = true := fun e => by
    cases life
    · rfl
    · rfl
    · exact absurd rfl runs
  unfold refreshEntry
  split
  · rename_i slot found
    obtain ⟨x, member, zone, -⟩ := entrySlot_some found
    have now : slotGet (slotChange (fun e : PresenceEntry => { e with life := life }) s.presence slot) slot
        = some { x with life := life } := by
      rw [slotGet_slotChange, if_pos rfl, slotGet_of_mem ordered member, Option.map_some]
    refine List.any_eq_true.mpr ⟨_, slotGet_mem _ _ _ now, ?_⟩
    simp only [entryIn, zone, beq_self_eq_true, Bool.true_and]
    exact lively x
  · refine List.any_eq_true.mpr ⟨_, slotGet_mem _ _ _ (createEntry_found _ _), ?_⟩
    simp only [entryIn, beq_self_eq_true, Bool.true_and]
    exact lively ⟨z, source, life⟩

/-- R111: the flag of a CLOSED zone that holds a dynamic entry. -/
theorem intrude_kept {z : Nat} {s : State} (dynamic : presenceLawful s → hasDynamic s z = true) : OccupancyKept s
    (changeZone z (fun r => if r.state == .closed then { r with intruded := true } else r) s) := by
  refine ⟨rfl, rfl, rfl, fun law => law.2.2, fun held law other r found => ?_⟩
  simp only [changeZone, slotGet_slotChange] at found
  split at found
  · rename_i same
    subst same
    obtain ⟨before, at_, rfl⟩ := Option.map_eq_some_iff.mp found
    obtain ⟨closed, occupied, intruded⟩ := law other before at_
    split
    · rename_i shut
      exact ⟨closed, occupied, fun _ => ⟨by simpa using shut, dynamic held⟩⟩
    · exact ⟨closed, occupied, intruded⟩
  · exact law other r found

theorem presenceEvent_kept (z : Nat) (source : PointRef) (marked : Bool) (s : State) :
    OccupancyKept s (presenceEvent z source marked s) := by
  unfold presenceEvent
  split
  · exact .refl s
  · rename_i zone defined
    have refreshed : OccupancyKept s (refreshEntry z (.sensor source) (.running (s.now + zone.aging * 1000)) s) :=
      refreshEntry_kept ((slotUsed_iff _ _).mpr ⟨zone, defined⟩) (by simp) (by simp)
    dsimp only
    split
    · refine .of_law (refreshed.config) (refreshed.plan) (refreshed.store) fun law => ?_
      exact refreshed.trans (intrude_kept fun _ => refreshEntry_dynamic law.2.2.1 (by simp))
    · exact refreshed

end Sys2Proof.Machine


/-! SUPPORT. Relations between states that the small updates of the field side keep. Each operation of the point table,
the door monitor, the lines, the filter, the terminals and the units is put together from such updates, so that a
relation that they keep is kept by the operation: one lemma for each operation, for every such relation. -/

namespace Sys2Proof.Machine

/-! ## The updates -/

/-- A relation that the updates of doors and points keep, with what a door hands the occupancy unit. -/
structure DoorsClosed (R : State → State → Prop) : Prop where
  refl : ∀ s, R s s
  trans : ∀ {a b c}, R a b → R b c → R a c
  hold : ∀ z d seconds s, R s (holdEntry z d seconds s)
  release : ∀ z d ms s, R s (releaseEntry z d ms s)
  doorNotice : ∀ kind d a b s, kind = .doorChatter ∨ kind = .doorUnknown ∨ kind = .doorHeldOpen →
    R s (raise kind (.door d) a b s)
  door : ∀ d f s, R s (changeDoor d f s)
  point : ∀ p f s, R s (changePoint p f s)

/-- A relation that reports of contact states and load commands keep too. -/
structure ReportsClosed (R : State → State → Prop) : Prop extends DoorsClosed R where
  contact : ∀ bus addr new s, R s (presenceContact bus addr new s)
  terminal : ∀ t f s, R s (changeTerminal t f s)
  queue : ∀ l node point value s, R s (queueWrite l node point value .internal s)
  command : ∀ k r s, slotGet s.loads k = some r → R s (changeLoad k (fun x => { x with
    lastCommand := some r.applied, refreshAt := s.now + Config.refreshMs }) s)
  lose : ∀ k d r s, slotGet s.config.loads k = some d → slotGet s.loads k = some r → r.controlled = true →
    R s (changeLoad k (loseLoad s.now s.config.budget.nodeHold d.fallback r.applied) s)
  readmit : ∀ k d r s, slotGet s.config.loads k = some d → slotGet s.loads k = some r → r.controlled = false →
    R s (changeLoad k (readmitLoad (readmittedFraction s d.kind)) s)

/-- A relation that the changes of the lines keep too. -/
structure LinesClosed (R : State → State → Prop) : Prop extends ReportsClosed R where
  line : ∀ l f s, R s (changeLine l f s)
  grant : ∀ s, R s (grantLines s)
  lineNotice : ∀ kind l a b s, R s (raise kind (.line l) a b s)
  nodeNotice : ∀ kind l addr a b s, R s (raise kind (.node l addr) a b s)

/-- A relation that the event filter keeps too. -/
structure EventsClosed (R : State → State → Prop) : Prop extends LinesClosed R where
  seen : ∀ z p marked s, R s (presenceEvent z p marked s)
  alert : ∀ z a b s, R s (raise .closedZonePresence (.zone z) a b s)
  logged : ∀ windows recent n s, R s { s with windows := windows, recent := recent, nextSeq := n }

/-- A relation that the terminal block and the units keep too. -/
structure UnitsClosed (R : State → State → Prop) : Prop extends EventsClosed R where
  notice : ∀ kind subject a b s, R s (raise kind subject a b s)
  load : ∀ k f s, R s (changeLoad k f s)
  climate : ∀ z f s, R s (changeClimate z f s)
  expire : ∀ slot s, R s (removeEntry slot s)
  dormant : ∀ z s, R s (changeZone z becomeDormant s)
  modes : ∀ mode returnMode releaseAt emergencyAt signal s, R s { s with
    mode := mode, returnMode := returnMode, releaseAt := releaseAt, emergencyAt := emergencyAt, signal := signal }
  order : ∀ order s, R s { s with termOrder := order }
  budget : ∀ window strain overrun record s,
    R s { s with window := window, strain := strain, overrun := overrun, record := record }
  timers : ∀ settleAt stepAt heatAt ventAt curtainAt s, R s { s with
    settleAt := settleAt, stepAt := stepAt, heatAt := heatAt, ventAt := ventAt, curtainAt := curtainAt }

/-! ## Doors and points -/

namespace DoorsClosed

variable {R : State → State → Prop}

theorem each (c : DoorsClosed R) {α : Type} {f : α → State → State} (h : ∀ x s, R s (f x s)) (items : List α)
    (s : State) : R s (forEach items f s) := forEach_related c.refl c.trans f h items s

theorem handPresence (c : DoorsClosed R) (d zone : Nat) (old new : DoorState) (s : State) :
    R s (handPresence d zone old new s) := by
  unfold Machine.handPresence
  dsimp only
  split
  · exact c.hold _ _ _ _
  · split
    · split
      · exact c.release _ _ _ _
      · split
        · exact c.release _ _ _ _
        · exact c.refl s
    · exact c.refl s

theorem enterDoorState (c : DoorsClosed R) (d : Nat) (new : DoorState) (f : DoorRec → DoorRec) (s : State) :
    R s (enterDoorState d new f s) := by
  unfold Machine.enterDoorState
  split
  · exact c.trans (c.door d _ s) (c.handPresence _ _ _ _ _)
  · exact c.refl s

theorem openTransition (c : DoorsClosed R) (d : Nat) (r : DoorRec) {enters : State → State}
    (h : ∀ s, R s (enters s)) (s : State) : R s (openTransition d r enters s) := by
  unfold Machine.openTransition
  dsimp only
  split
  · split
    · exact c.door _ _ _
    · exact c.trans (c.door _ _ _) (c.trans (c.enterDoorState _ _ _ _) (c.doorNotice _ _ _ _ _ (.inl rfl)))
  · exact c.trans (c.door _ _ _) (h _)

theorem doorOpened (c : DoorsClosed R) (d : Nat) (s : State) : R s (doorOpened d s) := by
  unfold Machine.doorOpened
  split
  · exact c.refl s
  · split
    · exact c.openTransition _ _ (fun s => c.enterDoorState _ _ _ s) _
    · exact c.door _ _ _
    · exact c.door _ _ _
    · split
      · exact c.openTransition _ _ c.refl _
      · exact c.door _ _ _
    · exact c.refl s

theorem doorClosed (c : DoorsClosed R) (d : Nat) (s : State) : R s (doorClosed d s) := by
  unfold Machine.doorClosed
  split
  · exact c.refl s
  · split
    · exact c.door _ _ _
    · exact c.enterDoorState _ _ _ _
    · exact c.enterDoorState _ _ _ _
    · exact c.door _ _ _
    · exact c.refl s

theorem refreshHold (c : DoorsClosed R) (d : Nat) (s : State) : R s (refreshHold d s) := by
  unfold Machine.refreshHold
  split
  · exact c.hold _ _ _ _
  · exact c.refl s

theorem closingValue (c : DoorsClosed R) (d : Nat) (s : State) : R s (closingValue d s) := by
  unfold Machine.closingValue
  split
  · exact c.doorClosed d s
  · exact c.trans (c.refreshHold d s) (c.doorClosed d _)

theorem doorValue (c : DoorsClosed R) (d : Nat) (isOpen : Bool) (s : State) : R s (doorValue d isOpen s) := by
  unfold Machine.doorValue
  split
  · exact c.refl s
  · split
    · exact c.enterDoorState _ _ _ _
    · exact c.enterDoorState _ _ _ _
    · exact c.refreshHold d s
    · exact c.refreshHold d s
    · exact c.closingValue d s
    · exact c.closingValue d s
    · exact c.refl s
    · exact c.doorOpened _ _
    · exact c.doorClosed _ _

theorem doorUnknown (c : DoorsClosed R) (d : Nat) (cause : UnknownCause) (s : State) :
    R s (doorUnknown d cause s) := by
  unfold Machine.doorUnknown
  split
  · exact c.refl s
  · split
    · exact c.refl s
    · exact c.trans (c.enterDoorState _ _ _ _) (c.doorNotice _ _ _ _ _ (.inr (.inl rfl)))

theorem doorContact (c : DoorsClosed R) (bus : Bus) (addr : Nat) (new : Contact) (s : State) :
    R s (doorContact bus addr new s) := by
  unfold Machine.doorContact
  dsimp only
  split
  · exact c.refl s
  all_goals exact c.each (fun d t => c.doorUnknown d _ t) _ _

theorem becomeHeldOpen (c : DoorsClosed R) (d : Nat) (s : State) : R s (becomeHeldOpen d s) := by
  unfold Machine.becomeHeldOpen
  split
  · exact c.refl s
  · exact c.trans (c.enterDoorState _ _ _ _) (c.doorNotice _ _ _ _ _ (.inr (.inr rfl)))

theorem endCounting (c : DoorsClosed R) (d : Nat) (cfg : DoorDef) (state : DoorState) (w : CountWindow) (s : State) :
    R s (endCounting d cfg state w s) := by
  unfold Machine.endCounting
  split
  · unfold judgeChatter
    split
    · exact c.door _ _ _
    · exact c.enterDoorState _ _ _ _
    · exact c.enterDoorState _ _ _ _
    · exact c.door _ _ _
  · exact c.door _ _ _

theorem handDoors (c : DoorsClosed R) (p : PointRef) (v : Int) (s : State) : R s (handDoors p v s) := by
  unfold Machine.handDoors
  split
  · exact c.each (fun d t => c.doorValue d _ t) _ _
  · exact c.refl s

theorem takeValue (c : DoorsClosed R) (p : PointRef) (v : Int) (s : State) : R s (takeValue p v s) :=
  c.trans (c.point _ _ _) (c.handDoors _ _ _)

theorem deliverRead (c : DoorsClosed R) (p : PointRef) (v : Int) (s : State) : R s (deliverRead p v s) := by
  unfold Machine.deliverRead
  split
  · exact c.refl s
  · split
    · exact c.point _ _ _
    · exact c.takeValue _ _ _

theorem deliverTerminal (c : DoorsClosed R) (t : Nat) (v : Int) (s : State) : R s (deliverTerminal t v s) :=
  c.trans (c.point _ _ _) (c.handDoors _ _ _)

theorem writeOk (c : DoorsClosed R) (p : PointRef) (v tries : Nat) (s : State) : R s (writeOk p v tries s) := by
  unfold Machine.writeOk
  dsimp only
  split
  · exact c.trans (c.point _ _ _) (c.takeValue _ _ _)
  · exact c.point _ _ _

theorem markStale (c : DoorsClosed R) (p : PointRef) (s : State) : R s (markStale p s) := by
  unfold Machine.markStale
  split
  · exact c.refl s
  · dsimp only
    split
    · exact c.trans (c.point _ _ _) (c.each (fun d t => c.doorUnknown d _ t) _ _)
    · exact c.point _ _ _

theorem contactMark (c : DoorsClosed R) (new : Contact) (down : Bool) (p : PointRef) (s : State) :
    R s (contactMark new down p s) := by
  unfold Machine.contactMark
  split
  · unfold inContactMark
    split
    · exact c.markStale _ _
    · exact c.refl s
  · exact c.point _ _ _
  · exact c.markStale _ _

theorem pointContact (c : DoorsClosed R) (bus : Bus) (addr : Nat) (new : Contact) (s : State) :
    R s (pointContact bus addr new s) := c.each (c.contactMark _ _) _ _

theorem restale (c : DoorsClosed R) (p : PointRef) (s : State) : R s (restale p s) := by
  unfold Machine.restale
  split
  · exact c.refl s
  · split
    · exact c.markStale _ _
    · exact c.refl s

theorem markNode (c : DoorsClosed R) (points : List PointRef) (s : State) : R s (forEach points Machine.markStale s) :=
  c.each c.markStale _ _

theorem deliverValues (c : DoorsClosed R) (bus : Bus) (addr first : Nat) (vs : List Nat) (s : State) :
    R s (deliverValues bus addr first vs s) := by
  induction vs generalizing first s with
  | nil => exact c.refl s
  | cons v rest ih => exact c.trans (c.deliverRead _ _ _) (ih _ _)

theorem driven (c : DoorsClosed R) (t v : Nat) (s : State) : R s (driven t v s) :=
  c.trans (c.point _ _ _) (c.deliverTerminal _ _ _)

end DoorsClosed

/-! ## Loads and reports -/

namespace ReportsClosed

variable {R : State → State → Prop}

theorem driveTerminal (c : ReportsClosed R) (t v : Nat) (s : State) : R s (driveTerminal t v s) := by
  unfold Machine.driveTerminal
  split
  · exact c.trans (c.terminal _ _ _) (c.driven _ _ _)
  · exact c.trans (c.terminal _ _ _) (c.driven _ _ _)
  · exact c.refl s

theorem switchStrainOut (c : ReportsClosed R) (on : Bool) (t : Nat) (s : State) : R s (switchStrainOut on t s) :=
  c.trans (c.terminal _ _ _) (c.driven _ _ _)

theorem switchStrain (c : ReportsClosed R) (on : Bool) (s : State) : R s (switchStrain on s) :=
  c.each (c.switchStrainOut on) _ _

theorem issueCommand (c : ReportsClosed R) (k : Nat) (s : State) : R s (issueCommand k s) := by
  unfold Machine.issueCommand
  split
  · rename_i found
    dsimp only
    split
    · exact c.trans (c.command _ _ _ found) (c.driveTerminal _ _ _)
    · exact c.trans (c.command _ _ _ found) (c.queue _ _ _ _ _)
  · exact c.refl s

theorem checkCommand (c : ReportsClosed R) (k : Nat) (s : State) : R s (checkCommand k s) := by
  unfold Machine.checkCommand
  split
  · exact c.issueCommand _ _
  · exact c.refl s

theorem loadTakesContact (c : ReportsClosed R) (new : Contact) (k : Nat) (s : State) :
    R s (loadTakesContact new k s) := by
  unfold Machine.loadTakesContact
  split
  · rename_i d r defined found
    split
    · exact c.refl s
    · split
      · rename_i controlled
        exact c.lose k d r s defined found controlled
      · rename_i uncontrolled
        exact c.trans (c.readmit k d r s defined found (by simpa using uncontrolled)) (c.checkCommand _ _)
  · exact c.refl s

theorem loadContact (c : ReportsClosed R) (bus : Bus) (addr : Nat) (new : Contact) (s : State) :
    R s (loadContact bus addr new s) := c.each (c.loadTakesContact new) _ _

theorem reportContact (c : ReportsClosed R) (bus : Bus) (addr : Nat) (old : Contact) (s : State) :
    R s (reportContact bus addr old s) := by
  unfold Machine.reportContact
  dsimp only
  split
  · exact c.refl s
  · exact c.trans (c.pointContact _ _ _ _) (c.trans (c.doorContact _ _ _ _)
      (c.trans (c.contact _ _ _ _) (c.loadContact _ _ _ _)))

theorem reportLine (c : ReportsClosed R) (l : LineId) (before : Line) (s : State) : R s (reportLine l before s) :=
  c.each (fun _ t => c.reportContact _ _ _ t) _ _

theorem markLineStale (c : ReportsClosed R) (l : LineId) (s : State) : R s (markLineStale l s) :=
  c.each (fun _ _ => c.markNode _ _) _ _

theorem oneOffsEnded (c : ReportsClosed R) (l : LineId) (gone : List NodePoint) (s : State) :
    R s (forEach gone (fun q => oneOffEnded ⟨busOf l, q.node, q.point⟩) s) := c.each (fun _ _ => c.point _ _ _) _ _

end ReportsClosed

/-! ## Lines -/

namespace LinesClosed

variable {R : State → State → Prop}

theorem dropOneOffs (c : LinesClosed R) (l : LineId) (p : NodePoint → Bool) (s : State) :
    R s (dropOneOffs l p s) := c.trans (c.line l _ s) (c.oneOffsEnded _ _ _)

theorem leaveLists (c : LinesClosed R) (l : LineId) (addr : Nat) (s : State) : R s (leaveLists l addr s) :=
  c.trans (c.line l _ s) (c.dropOneOffs _ _ _)

theorem emptyLists (c : LinesClosed R) (l : LineId) (s : State) : R s (emptyLists l s) :=
  c.trans (c.line l _ s) (c.dropOneOffs _ _ _)

theorem abandon (c : LinesClosed R) (l : LineId) (s : State) : R s (abandon l s) := by
  unfold Machine.abandon
  split
  · exact c.refl s
  · have ended : ∀ x s, R s (abandonedWork l x s) := fun x s => by
      unfold abandonedWork
      split
      · exact c.refl _
      · split
        · exact c.point _ _ _
        · exact c.point _ _ _
        · exact c.refl _
    exact c.trans (c.line l _ s) (ended _ _)

theorem enterLineDown (c : LinesClosed R) (l : LineId) (s : State) : R s (enterLineDown l s) := by
  unfold Machine.enterLineDown
  dsimp only
  exact c.trans (c.trans (c.line l _ s) (c.lineNotice _ _ _ _ _)) (c.trans (c.abandon _ _) (c.trans (c.emptyLists _ _)
    (c.trans (c.markLineStale _ _) (c.reportLine _ _ _))))

theorem judgeLine (c : LinesClosed R) (l : LineId) (s : State) : R s (judgeLine l s) := by
  unfold Machine.judgeLine
  dsimp only
  split
  · split
    · exact c.trans (c.line l _ s) (c.lineNotice _ _ _ _ _)
    · exact c.refl s
  · split
    · exact c.trans (c.line l _ s) (c.lineNotice _ _ _ _ _)
    · exact c.refl s
  · exact c.refl s

theorem lineFault (c : LinesClosed R) (l : LineId) (s : State) : R s (lineFault l s) := by
  unfold Machine.lineFault
  split
  · exact c.refl s
  · split
    · exact c.enterLineDown _ _
    · exact c.trans (c.line l _ s) (c.judgeLine _ _)

theorem lineCredit (c : LinesClosed R) (l : LineId) (s : State) : R s (lineCredit l s) := by
  unfold Machine.lineCredit
  split
  · exact c.refl s
  · exact c.trans (c.line l _ s) (c.judgeLine _ _)

theorem recoverLine (c : LinesClosed R) (l : LineId) (s : State) : R s (recoverLine l s) := by
  unfold Machine.recoverLine
  dsimp only
  exact c.trans (c.trans (c.line l _ s) (c.lineNotice _ _ _ _ _)) (c.reportLine _ _ _)

theorem failQueue (c : LinesClosed R) (l : LineId) (s : State) : R s (failQueue l s) :=
  c.trans (c.line l _ s) (c.each (fun _ _ => c.point _ _ _) _ _)

theorem restartLine (c : LinesClosed R) (l : LineId) (s : State) : R s (restartLine l s) := by
  unfold Machine.restartLine
  dsimp only
  have renewed : R s (reportLine l (getLine s l) (markLineStale l (changeLine l (fun line => { line with
      state := .ok, errors := 0,
      nodes := slotMap (fun _ n => restartNode s.now n) line.nodes }) (Machine.emptyLists l
        (Machine.failQueue l (Machine.abandon l s)))))) :=
    c.trans (c.abandon _ _) (c.trans (c.failQueue _ _) (c.trans (c.emptyLists _ _)
      (c.trans (c.line l _ _) (c.trans (c.markLineStale _ _) (c.reportLine _ _ _)))))
  split
  · exact renewed
  · exact c.trans renewed (c.lineNotice _ _ _ _ _)

theorem hearNoise (c : LinesClosed R) (l : LineId) (s : State) : R s (hearNoise l s) := by
  unfold Machine.hearNoise
  dsimp only
  split
  · exact c.line l _ s
  · exact c.refl s
  · split
    · exact c.refl s
    · exact c.trans (c.line l _ s) (c.lineFault _ _)

theorem endWindow (c : LinesClosed R) (l : LineId) (ends quiet : Nat) (heard : Bool) (s : State) :
    R s (endWindow l ends quiet heard s) := by
  unfold Machine.endWindow
  split
  · exact c.line l _ s
  · split
    · exact c.trans (c.recoverLine _ _) (c.grant _)
    · exact c.line l _ s

theorem applyToNode (c : LinesClosed R) (l : LineId) (addr : Nat) (work : TxnWork) (outcome : TxnOutcome)
    (reply : Option GoodReply) (s : State) : R s (applyToNode l addr work outcome reply s) := by
  have noted : ∀ old new s, R s (Machine.nodeNotice l addr old new s) := fun old new s => by
    unfold Machine.nodeNotice
    split
    · exact c.refl s
    · split
      · exact c.nodeNotice _ _ _ _ _ _
      · exact c.nodeNotice _ _ _ _ _ _
      · exact c.nodeNotice _ _ _ _ _ _
      · exact c.refl s
  have listed : ∀ old new s, R s (nodeLists l addr old new s) := fun old new s => by
    unfold nodeLists
    split
    · exact c.refl s
    · split
      · exact c.leaveLists _ _ _
      · exact c.line l _ s
      · exact c.refl s
  unfold Machine.applyToNode
  split
  · exact c.refl s
  · dsimp only
    exact c.trans (c.line l _ s) (c.trans (noted _ _ _) (c.trans (listed _ _ _) (c.reportContact _ _ _ _)))

theorem freeLine (c : LinesClosed R) (l : LineId) (returning : Option QueueEntry) (s : State) :
    R s (freeLine l returning s) := by
  unfold Machine.freeLine
  split
  · exact c.grant _
  · refine c.trans ?_ (c.grant _)
    unfold returnWrite
    dsimp only
    split
    · exact c.line _ _ _
    · exact c.point _ _ _

theorem writeResult (c : LinesClosed R) (l : LineId) (e : QueueEntry) (outcome : TxnOutcome) (s : State) :
    R s (writeResult l e outcome s) := by
  unfold Machine.writeResult
  split
  · exact c.writeOk _ _ _ _
  · split
    · exact c.refl s
    · exact c.point _ _ _

theorem scoreLine (c : LinesClosed R) (l : LineId) (outcome : TxnOutcome) (s : State) :
    R s (scoreLine l outcome s) := by
  unfold Machine.scoreLine
  split
  · exact c.lineFault _ _
  · exact c.refl s
  · exact c.lineCredit _ _

end LinesClosed

/-! ## The event filter -/

namespace EventsClosed

variable {R : State → State → Prop}

theorem alertZone (c : EventsClosed R) (p : PointRef) (z : Nat) (s : State) : R s (alertZone p z s) := by
  unfold Machine.alertZone
  dsimp only
  split
  · exact c.trans (c.seen _ _ _ _) (c.alert _ _ _ _)
  · exact c.seen _ _ _ _

theorem actOn (c : EventsClosed R) (p : PointRef) (kind : EventKind) (outcome : FilterOutcome) (s : State) :
    R s (actOn p kind outcome s) := by
  unfold Machine.actOn
  split
  · unfold handAccepted
    split
    · exact c.each c.doorOpened _ _
    · exact c.each c.doorClosed _ _
    · exact c.each (fun z t => c.seen z p false t) _ _
  · exact c.each (fun z t => c.alertZone p z t) _ _
  · exact c.refl s

theorem takeEvent (c : EventsClosed R) (bus : Bus) (addr : Nat) (e : FieldEvent) (s : State) :
    R s (takeEvent bus addr e s) := c.trans (c.logged _ _ _ s) (c.actOn _ _ _ _)

theorem deliver (c : EventsClosed R) (l : LineId) (x : Txn) (outcome : TxnOutcome) (reply : Option GoodReply)
    (s : State) : R s (deliver l x outcome reply s) := by
  have content : ∀ work (g : GoodReply) t, R t (deliverContent l x.node work g.content t) := fun work g t => by
    unfold deliverContent
    split
    · exact c.deliverValues _ _ _ _ _
    · exact c.each (c.takeEvent _ _) _ _
    · exact c.refl t
  have written : R s (match x.work with | .writePoint e => writeResult l e outcome s | _ => s) := by
    split
    · exact c.writeResult _ _ _ _
    · exact c.refl s
  have read : ∀ t, R t (match reply with
      | some g => deliverContent l x.node x.work g.content (changeLine l (fetchAfter x.node g.waiting) t)
      | none => t) := by
    intro t
    split
    · exact c.trans (c.line l _ t) (content _ _ _)
    · exact c.refl t
  unfold Machine.deliver
  dsimp only
  split
  · exact c.trans (c.trans written (read _)) (c.point _ _ _)
  · exact c.trans written (read _)

theorem endTransaction (c : EventsClosed R) (l : LineId) (x : Txn) (outcome : TxnOutcome) (reply : Option GoodReply)
    (s : State) : R s (endTransaction l x outcome reply s) := by
  unfold Machine.endTransaction
  dsimp only
  split
  · exact c.trans (c.line l _ s) (c.grant _)
  · exact c.trans (c.line l _ s) (c.trans (c.applyToNode _ _ _ _ _ _) (c.trans (c.deliver _ _ _ _ _)
      (c.trans (c.scoreLine _ _ _) (c.freeLine _ _ _))))

end EventsClosed

end Sys2Proof.Machine


/-! SUPPORT. The terminal block and the units under a relation that the small updates keep, and every event of the field
side under it. -/

namespace Sys2Proof.Machine

namespace UnitsClosed

variable {R : State → State → Prop}

/-! ## Modes and terminals -/

theorem stopVentilation (c : UnitsClosed R) (z : Nat) (s : State) : R s (stopVentilation z s) := by
  unfold Machine.stopVentilation
  split
  · exact c.refl s
  · dsimp only
    split
    · exact c.trans (c.climate _ _ _) (c.notice _ _ _ _ _)
    · exact c.climate _ _ _

theorem emergencyStages (c : UnitsClosed R) (s : State) : R s (emergencyStages s) := by
  unfold Machine.emergencyStages
  split
  · exact c.each c.stopVentilation _ _
  · exact c.refl s

theorem enterEmergencyLoad (c : UnitsClosed R) (k : Nat) (s : State) : R s (enterEmergencyLoad k s) := by
  unfold Machine.enterEmergencyLoad
  split
  · exact c.refl s
  · exact c.trans (c.load _ _ _) (c.checkCommand _ _)

theorem handEmergency (c : UnitsClosed R) (s : State) : R s (handEmergency s) :=
  c.trans (c.each c.enterEmergencyLoad _ _) (c.emergencyStages _)

theorem handVentilation (c : UnitsClosed R) (s : State) : R s (handVentilation s) :=
  c.trans (c.each c.enterEmergencyLoad _ _) (c.emergencyStages _)

theorem enterEmergency (c : UnitsClosed R) (t : Nat) (s : State) : R s (enterEmergency t s) := by
  have entered := c.modes .emergency (some s.mode) s.releaseAt (some s.now) s.signal s
  exact c.trans (c.trans entered (c.notice .emergencyBegin (.terminal t) (some s.mode.ctorIdx) none _))
    (c.trans (c.notice _ _ _ _ _) (c.handEmergency _))

theorem leaveEmergency (c : UnitsClosed R) (s : State) : R s (leaveEmergency s) := by
  have left := c.modes (s.returnMode.getD .hold) none none s.emergencyAt s.signal s
  have noted := c.trans left (c.notice .emergencyEnd .none (some (s.returnMode.getD .hold).ctorIdx)
    (quantity (emergencySeconds s)) _)
  exact c.trans (c.trans noted (c.modes _ none none none s.signal _)) (c.notice _ _ _ _ _)

theorem signalActive (c : UnitsClosed R) (t : Nat) (s : State) : R s (signalActive t s) := by
  unfold Machine.signalActive
  split
  · exact c.modes s.mode s.returnMode none s.emergencyAt s.signal s
  · exact c.refl s
  · exact c.enterEmergency t s

theorem signalInactive (c : UnitsClosed R) (s : State) : R s (signalInactive s) := by
  unfold Machine.signalInactive
  split
  · exact c.modes s.mode s.returnMode _ s.emergencyAt s.signal s
  · exact c.refl s

theorem handSignal (c : UnitsClosed R) (t : Nat) (s : State) : R s (handSignal t s) := by
  unfold Machine.handSignal
  dsimp only
  split
  · exact c.refl s
  · split
    · exact c.trans (c.modes s.mode s.returnMode s.releaseAt s.emergencyAt true s) (c.signalActive _ _)
    · exact c.trans (c.modes s.mode s.returnMode s.releaseAt s.emergencyAt false s) (c.signalInactive _)

theorem takeTerminalOrder (c : UnitsClosed R) (order : Option Nat) (s : State) : R s (takeTerminalOrder order s) := by
  unfold Machine.takeTerminalOrder
  dsimp only
  split
  · exact c.trans (c.order _ s) (c.notice _ _ _ _ _)
  · exact c.trans (c.order _ s) (c.notice _ _ _ _ _)
  · exact c.order _ s

theorem levelRule (c : UnitsClosed R) (t : Nat) (f : TermFunction) (first closed : Bool) (s : State) :
    R s (levelRule t f first closed s) := by
  unfold Machine.levelRule
  split
  · split
    · exact c.refl s
    · exact c.takeEvent _ _ _ _
  · split
    · exact c.refl s
    · exact c.takeEvent _ _ _ _
  · exact c.handSignal _ _
  · unfold handOrder
    split
    · exact c.refl s
    · exact c.takeTerminalOrder _ _
  · exact c.terminal _ _ _
  · exact c.refl s

theorem takeLevel (c : UnitsClosed R) (t : Nat) (f : TermFunction) (first closed : Bool) (s : State) :
    R s (takeLevel t f first closed s) :=
  c.trans (c.terminal _ _ _) (c.trans (c.deliverTerminal _ _ _) (c.levelRule _ _ _ _ _))

theorem settleLevel (c : UnitsClosed R) (t : Nat) (s : State) : R s (settleLevel t s) := by
  have stopped := c.terminal t (fun x => { x with debounceAt := none }) s
  unfold Machine.settleLevel
  dsimp only
  split
  · exact c.trans stopped (c.trans (c.takeLevel _ _ _ _ _) (c.grant _))
  · split
    · exact stopped
    · exact c.trans stopped (c.trans (c.takeLevel _ _ _ _ _) (c.grant _))

theorem setPower (c : UnitsClosed R) (t power : Nat) (s : State) : R s (setPower t power s) := by
  unfold Machine.setPower
  split
  · exact c.refl s
  · exact c.trans (c.terminal _ _ _) (c.deliverTerminal _ _ _)

theorem takePulse (c : UnitsClosed R) (t : Nat) (s : State) : R s (takePulse t s) := by
  unfold Machine.takePulse
  split
  · split
    · exact c.refl s
    · unfold acceptPulse
      dsimp only
      have energy := fun e => c.budget (s.window.map fun w => { w with used := min (w.used + e) energyMaximum })
        s.strain s.overrun s.record s
      split
      · exact c.trans (energy _) (c.terminal _ _ _)
      · exact c.trans (energy _) (c.trans (c.terminal _ _ _) (c.trans (c.setPower _ _ _) (c.terminal _ _ _)))
  · exact c.refl s

theorem convert (c : UnitsClosed R) (t : Nat) (s : State) : R s (convert t s) := by
  unfold Machine.convert
  split
  · exact c.deliverTerminal _ _ _
  · exact c.refl s

theorem repeatDelivery (c : UnitsClosed R) (t e : Nat) (s : State) : R s (repeatDelivery t e s) := by
  unfold Machine.repeatDelivery
  dsimp only
  split
  · exact c.terminal _ _ _
  · exact c.trans (c.terminal _ _ _) (c.deliverTerminal _ _ _)

/-! ## Loads -/

theorem takeFallback (c : UnitsClosed R) (k : Nat) (s : State) : R s (takeFallback k s) := by
  unfold Machine.takeFallback
  split
  · exact c.refl s
  · exact c.load _ _ _

theorem cutLoad (c : UnitsClosed R) (k : Nat) (s : State) : R s (cutLoad k s) := by
  unfold Machine.cutLoad
  split
  · dsimp only
    split
    · exact c.trans (c.load _ _ _) (c.checkCommand _ _)
    · exact c.refl s
  · exact c.refl s

theorem driveLoad (c : UnitsClosed R) (k demand : Nat) (s : State) : R s (driveLoad k demand s) := by
  unfold Machine.driveLoad
  split
  · exact c.refl s
  · exact c.trans (c.load _ _ _) (c.checkCommand _ _)

theorem postFixed (c : UnitsClosed R) (k : Nat) (s : State) : R s (postFixed k s) := by
  unfold Machine.postFixed
  split
  · exact c.refl s
  · split
    · exact c.trans (c.load _ _ _) (c.checkCommand _ _)
    · exact c.driveLoad _ _ _

theorem writeStep (c : UnitsClosed R) (k : Nat) (d : LoadDef) (source : LightSource) (target trimmed : Nat)
    (s : State) : R s (writeStep k d source target trimmed s) := c.trans (c.load _ _ _) (c.checkCommand _ _)

theorem groupStep (c : UnitsClosed R) (k : Nat) (s : State) : R s (groupStep k s) := by
  unfold Machine.groupStep
  split
  · exact c.refl s
  · split
    · exact c.trans (c.load _ _ _) (c.checkCommand _ _)
    · exact c.writeStep _ _ _ _ _ _
    · unfold planStep
      split
      · exact c.refl s
      · exact c.writeStep _ _ _ _ _ _

theorem stepCurtain (c : UnitsClosed R) (k : Nat) (s : State) : R s (stepCurtain k s) := by
  unfold Machine.stepCurtain
  split
  · exact c.postFixed _ _
  · exact c.postFixed _ _
  · exact c.driveLoad _ _ _

/-! ## Climate -/

theorem noteStale (c : UnitsClosed R) (z : Nat) (s : State) : R s (noteStale z s) := by
  unfold Machine.noteStale
  split
  · exact c.trans (c.climate _ _ _) (c.notice _ _ _ _ _)
  · exact c.refl s

theorem workHeat (c : UnitsClosed R) (z : Nat) (d : ZoneDef) (s : State) : R s (workHeat z d s) := by
  unfold Machine.workHeat
  split
  · dsimp only
    split
    · exact c.trans (c.climate _ _ _) (c.climate _ _ _)
    · exact c.trans (c.climate _ _ _) (c.trans (c.noteStale _ _) (c.climate _ _ _))
  · exact c.climate _ _ _

theorem watchHeat (c : UnitsClosed R) (z : Nat) (d : ZoneDef) (source : SetpointSource) (s : State) :
    R s (watchHeat z d source s) := by
  unfold Machine.watchHeat
  dsimp only
  split
  · exact c.trans (c.climate _ _ _) (c.noteStale _ _)
  · exact c.climate _ _ _

theorem ventilate (c : UnitsClosed R) (z : Nat) (d : ZoneDef) (s : State) : R s (ventilate z d s) := by
  have purge : ∀ now old new t, R t (notePurge z now old new t) := fun now old new t => by
    unfold notePurge
    split
    · exact c.notice _ _ _ _ _
    · split
      · exact c.notice _ _ _ _ _
      · exact c.refl t
  have stale : ∀ count old t, R t (noteGasStale z count old t) := fun count old t => by
    unfold noteGasStale
    split
    · exact c.refl t
    · exact c.notice _ _ _ _ _
  unfold Machine.ventilate
  split
  · exact c.refl s
  · dsimp only
    split
    · exact c.trans (c.climate _ _ _) (c.trans (purge _ _ _ _) (c.trans (c.climate _ _ _) (stale _ _ _)))
    · exact c.trans (c.climate _ _ _) (c.trans (purge _ _ _ _) (c.climate _ _ _))

theorem driveHeater (c : UnitsClosed R) (z k : Nat) (s : State) : R s (driveHeater z k s) := by
  unfold Machine.driveHeater
  split
  · exact c.refl s
  · exact c.driveLoad _ _ _

theorem driveFan (c : UnitsClosed R) (z k : Nat) (s : State) : R s (driveFan z k s) := by
  unfold Machine.driveFan
  split
  · exact c.driveLoad _ _ _
  · exact c.refl s

theorem heatZone (c : UnitsClosed R) (z : Nat) (s : State) : R s (heatZone z s) := by
  unfold Machine.heatZone
  split
  · exact c.refl s
  · dsimp only
    split
    · exact c.trans (c.watchHeat _ _ _ _) (c.each c.postFixed _ _)
    · exact c.trans (c.watchHeat _ _ _ _) (c.each c.postFixed _ _)
    · exact c.trans (c.workHeat _ _ _) (c.each (c.driveHeater z) _ _)

theorem ventStage (c : UnitsClosed R) (z : Nat) (d : ZoneDef) (s : State) : R s
    (if isStopped s then s else if d.gas.isEmpty then noGas z s else Machine.ventilate z d s) := by
  split
  · exact c.refl s
  · split
    · exact c.climate _ _ _
    · exact c.ventilate _ _ _

theorem ventZone (c : UnitsClosed R) (z : Nat) (s : State) : R s (ventZone z s) := by
  unfold Machine.ventZone
  split
  · exact c.refl s
  · rename_i d _
    dsimp only
    split
    · exact c.trans (c.ventStage z d s) (c.each c.postFixed _ _)
    · exact c.trans (c.ventStage z d s) (c.each c.postFixed _ _)
    · exact c.trans (c.ventStage z d s) (c.each (c.driveFan z) _ _)

/-! ## The settlement -/

theorem noteFrost (c : UnitsClosed R) (w : LoadWork) (s : State) : R s (noteFrost w s) := by
  unfold Machine.noteFrost
  split
  · split
    · exact c.notice _ _ _ _ _
    · exact c.refl s
  · exact c.refl s

theorem noteWindow (c : UnitsClosed R) (x : Settled) (s : State) : R s (noteWindow x s) := by
  unfold Machine.noteWindow
  split
  · exact c.refl s
  · split
    · exact c.trans (c.budget _ s.strain s.overrun s.record s) (c.notice _ _ _ _ _)
    · exact c.refl s

theorem noteOverrun (c : UnitsClosed R) (x : Settled) (s : State) : R s (noteOverrun x s) := by
  unfold Machine.noteOverrun
  dsimp only
  split
  · exact c.trans (c.budget s.window s.strain _ s.record s) (c.notice _ _ _ _ _)
  · exact c.budget s.window s.strain _ s.record s

theorem noteStrain (c : UnitsClosed R) (x : Settled) (s : State) : R s (noteStrain x s) := by
  unfold Machine.noteStrain
  dsimp only
  split
  · exact c.refl s
  · exact c.trans (c.budget s.window _ s.overrun s.record s) (c.trans (c.notice _ _ _ _ _) (c.switchStrain _ _))

theorem performSettlement (c : UnitsClosed R) (s : State) : R s (performSettlement s) := by
  have noted := c.trans (c.each c.noteFrost (settle s).loads s) (c.trans (c.noteWindow (settle s) _)
    (c.noteOverrun (settle s) _))
  have published := c.trans noted (c.trans (c.each (fun w t => c.load w.number (publishLoad w) t) (settle s).loads _)
    (c.each c.cutLoad ((settle s).loads.map LoadWork.number) _))
  exact c.trans (c.trans published (c.noteStrain (settle s) _)) (c.budget _ _ _ _ _)

/-! ## The timers' commands -/

theorem due (c : UnitsClosed R) {t : Nat} {f : State → State} {s : State} (h : R s (f s)) : R s (whenDue t f s) :=
  whenDue_of h (c.refl s)

theorem powered (c : UnitsClosed R) {i : Instr} {s t : State}
    (run : exec i s = .next (if s.powered = true then t else s)) (h : R s t) : ∃ u, exec i s = .next u ∧ R s u := by
  refine ⟨_, run, ?_⟩
  split
  · exact h
  · exact c.refl s

/-- Every event of the field side is put together from the updates. -/
theorem event (c : UnitsClosed R) {i : Instr} (h : Claims.isFieldEvent i = true) (s : State) :
    ∃ t, exec i s = .next t ∧ R s t := by
  cases i with
  | releaseTimerExpires =>
    refine c.powered rfl ?_
    beta_reduce
    split
    · exact c.refl s
    · exact c.due (c.leaveEmergency s)
  | replyTimeout l =>
    refine c.powered rfl ?_
    beta_reduce
    split
    · exact c.refl s
    · split
      · exact c.due (c.endTransaction _ _ _ _ _)
      · exact c.refl s
  | replySilence l bytes framingError =>
    refine c.powered rfl ?_
    beta_reduce
    split
    · exact c.hearNoise _ _
    · exact c.endTransaction _ _ _ _ _
  | replyCutoff l =>
    refine c.powered rfl ?_
    beta_reduce
    split
    · exact c.hearNoise _ _
    · exact c.endTransaction _ _ _ _ _
  | firstReplyCharacter l =>
    refine c.powered rfl ?_
    beta_reduce
    split
    · exact c.hearNoise _ _
    · exact c.line _ _ _
  | idleNoise l => exact c.powered rfl (c.hearNoise l s)
  | lineRestEnd l =>
    refine c.powered rfl ?_
    beta_reduce
    split
    · exact c.due (c.line _ _ s)
    · exact c.refl s
  | listenWindowEnd l =>
    refine c.powered rfl ?_
    beta_reduce
    split
    · exact c.due (c.endWindow _ _ _ _ _)
    · exact c.refl s
  | probeTimerExpires l addr =>
    refine c.powered rfl ?_
    beta_reduce
    split
    · exact c.refl s
    · exact c.due (c.grant s)
  | scanPeriodExpires l addr first =>
    refine c.powered rfl ?_
    beta_reduce
    split
    · exact c.refl s
    · exact c.due (c.grant s)
  | stalenessTimerExpires p =>
    refine c.powered rfl ?_
    beta_reduce
    split
    · exact c.refl s
    · exact c.due (c.markStale p s)
  | debounceTimerExpires t =>
    refine c.powered rfl ?_
    unfold debounceExpiry
    split
    · exact c.refl s
    · exact c.due (c.settleLevel t s)
  | terminalRepeatDelivery t =>
    refine c.powered rfl ?_
    beta_reduce
    split
    · exact c.refl s
    · exact c.due (c.repeatDelivery _ _ _)
  | meterZeroTimerExpires t =>
    refine c.powered rfl ?_
    beta_reduce
    split
    · exact c.refl s
    · exact c.due (c.trans (c.terminal _ _ _) (c.setPower _ _ _))
  | heldOpenTimerExpires d =>
    refine c.powered rfl ?_
    beta_reduce
    split
    · exact c.refl s
    · exact c.due (c.becomeHeldOpen _ _)
  | chatterTimerExpires d =>
    refine c.powered rfl ?_
    unfold chatterExpiry
    split
    · split
      · exact c.refl s
      · exact c.due (c.endCounting _ _ _ _ _)
    · exact c.refl s
  | curtainRunOnExpires d =>
    refine c.powered rfl ?_
    unfold runOnExpiry
    split
    · exact c.refl s
    · exact c.due (c.door _ _ _)
  | presenceLifeExpires n =>
    refine c.powered rfl ?_
    beta_reduce
    split
    · exact c.due (c.expire _ _)
    · exact c.refl s
  | dormancyTimerExpires z =>
    refine c.powered rfl ?_
    beta_reduce
    split
    · exact c.refl s
    · exact c.due (c.dormant _ _)
  | nodeHoldTimerExpires k =>
    refine c.powered rfl ?_
    beta_reduce
    split
    · exact c.refl s
    · exact c.due (c.takeFallback _ _)
  | commandRefreshExpires k =>
    refine c.powered rfl ?_
    beta_reduce
    split
    · exact c.refl s
    · exact c.due (c.trans (c.issueCommand _ _) (c.grant _))
  | settlement =>
    refine c.powered rfl (c.due ?_)
    exact c.trans (c.trans (c.performSettlement s) (c.timers _ _ _ _ _ _)) (c.grant _)
  | lightingStep =>
    refine c.powered rfl (c.due ?_)
    exact c.trans (c.timers s.settleAt _ s.heatAt s.ventAt s.curtainAt s) (c.trans (c.each c.groupStep _ _) (c.grant _))
  | heatingEvaluation =>
    refine c.powered rfl (c.due ?_)
    exact c.trans (c.timers s.settleAt s.stepAt _ s.ventAt s.curtainAt s) (c.trans (c.each c.heatZone _ _) (c.grant _))
  | ventilationEvaluation =>
    refine c.powered rfl (c.due ?_)
    exact c.trans (c.timers s.settleAt s.stepAt s.heatAt _ s.curtainAt s) (c.trans (c.each c.ventZone _ _) (c.grant _))
  | curtainStep =>
    refine c.powered rfl (c.due ?_)
    exact c.trans (c.timers s.settleAt s.stepAt s.heatAt s.ventAt _ s) (c.trans (c.each c.stepCurtain _ _) (c.grant _))
  | setpointOverrideExpires z =>
    refine c.powered rfl ?_
    beta_reduce
    split
    · exact c.refl s
    · exact c.due (c.climate _ _ _)
  | _ => cases h

end UnitsClosed

end Sys2Proof.Machine


/-! SUPPORT. The laws of presence entries and of zones (R102, R109, R111) under the operations behind the requests, the
starts and the clock. -/

namespace Sys2Proof.Machine

/-- Whether the numbers rise is a matter of the numbers. -/
theorem slotWf_congr {α β : Type} {a : Table α} {b : Table β} (h : slotNumbers a = slotNumbers b) :
    slotWf a = slotWf b := by
  induction a generalizing b with
  | nil =>
    cases b with
    | nil => rfl
    | cons e rest => simp [slotNumbers] at h
  | cons e rest ih =>
    cases b with
    | nil => simp [slotNumbers] at h
    | cons e' rest' =>
      simp only [slotNumbers, List.map_cons, List.cons.injEq] at h
      obtain ⟨number, numbers⟩ := h
      have tails : ∀ {γ : Type} (l : Table γ) (k : Nat),
          (l.all fun x => decide (k < x.1)) = (l.map Prod.fst).all fun j => decide (k < j) := fun l k => by
        rw [List.all_map]
        rfl
      simp only [slotWf, tails, number, numbers, ih numbers]

/-! ## What an operation keeps of the laws -/

/-- The laws of the presence table and of the zones that an operation keeps. -/
structure LawsKept (s t : State) : Prop where
  ordered : slotWf s.zones = true → slotWf t.zones = true
  presence : presenceLawful s → presenceLawful t
  zones : slotWf s.zones = true → presenceLawful s → zonesLawful s → zonesLawful t

namespace LawsKept

theorem refl (s : State) : LawsKept s s := ⟨id, id, fun _ _ => id⟩

theorem trans {a b c : State} (h : LawsKept a b) (k : LawsKept b c) : LawsKept a c :=
  ⟨k.ordered ∘ h.ordered, k.presence ∘ h.presence,
    fun ordered law zones => k.zones (h.ordered ordered) (h.presence law) (h.zones ordered law zones)⟩

/-- An operation of which neither the table, nor the zones, nor the open-zone set see anything. -/
theorem of_fields {s t : State} (config : zonesNumbered s.config → zonesNumbered t.config)
    (store : t.store.copy = s.store.copy) (presence : t.presence = s.presence) (zones : t.zones = s.zones)
    (openZones : t.plan.openZones = s.plan.openZones) : LawsKept s t := by
  refine ⟨by rw [zones]; exact id, fun law => ⟨config law.1, by rw [store]; exact law.2.1, by
    rw [presence]; exact law.2.2⟩, fun _ _ law z r found => ?_⟩
  rw [zones] at found
  obtain ⟨closed, occupied, intruded⟩ := law z r found
  refine ⟨by rw [openZones]; exact closed, ?_, ?_⟩
  · rw [openZones, hasEntry, presence]
    exact occupied
  · rw [hasDynamic, presence]
    exact intruded

/-- An operation of the occupancy unit. -/
theorem of_occupancy {s t : State} (side : PresenceSide s t) (h : OccupancyKept s t) : LawsKept s t :=
  ⟨fun ordered => (slotWf_congr side.zoneNumbers).trans ordered, h.presence, fun _ => h.zones⟩

end LawsKept

/-! ## The field side -/

theorem changeLine_laws (l : LineId) (f : Line → Line) (s : State) : LawsKept s (changeLine l f s) := by
  cases l <;> exact .of_fields id rfl rfl rfl rfl

/-- A change of a zone's record that leaves what the law speaks of, or makes a VACANT zone DORMANT. -/
theorem changeZone_laws {z : Nat} {f : ZoneRec → ZoneRec} (s : State)
    (state : ∀ r, (f r).state = r.state ∨ r.state = .vacant ∧ (f r).state = .dormant)
    (intruded : ∀ r, (f r).intruded = true → r.intruded = true) : LawsKept s (changeZone z f s) := by
  refine ⟨fun ordered => (slotWf_congr (slotNumbers_slotChange _ _ _)).trans ordered, id, fun _ _ law y r found => ?_⟩
  simp only [changeZone, slotGet_slotChange] at found
  split at found
  · rename_i same
    subst same
    obtain ⟨before, at_, rfl⟩ := Option.map_eq_some_iff.mp found
    obtain ⟨closed, occupied, flag⟩ := law y before at_
    rcases state before with kept | ⟨vacant, dormant⟩
    · exact ⟨by rw [kept]; exact closed, by rw [kept]; exact occupied, fun h => by
        rw [kept]; exact flag (intruded _ h)⟩
    · rw [vacant] at closed occupied flag
      simp only [dormant]
      refine ⟨?_, ?_, fun h => absurd (flag (intruded _ h)).1 (by decide)⟩
      · exact iff_of_false (by decide) (fun h => absurd (closed.mpr h) (by decide))
      · exact iff_of_false (by decide) (fun h => absurd (occupied.mpr h) (by decide))
  · exact law y r found

theorem becomeDormant_laws (z : Nat) (s : State) : LawsKept s (changeZone z becomeDormant s) := by
  refine changeZone_laws s (fun r => ?_) (fun r => ?_)
  · unfold becomeDormant
    split
    · rename_i vacant
      exact .inr ⟨vacant, rfl⟩
    · exact .inl rfl
  · unfold becomeDormant
    split <;> exact id

/-- Every update of the field side keeps the laws. -/
theorem lawsKept_units : UnitsClosed LawsKept where
  refl := .refl
  trans := .trans
  hold z d seconds s := .of_occupancy (holdEntry_pres z d seconds s) (holdEntry_kept z d seconds s)
  release z d ms s := .of_occupancy (releaseEntry_pres z d ms s) (releaseEntry_kept z d ms s)
  doorNotice _ _ _ _ _ _ := .of_fields id rfl rfl rfl rfl
  door _ _ _ := .of_fields id rfl rfl rfl rfl
  point _ _ _ := .of_fields id rfl rfl rfl rfl
  contact bus addr new s := .of_occupancy (presenceContact_pres bus addr new s) (presenceContact_kept bus addr new s)
  terminal _ _ _ := .of_fields id rfl rfl rfl rfl
  queue l _ _ _ _ := .trans (changeLine_laws l _ _) (.of_fields id rfl rfl rfl rfl)
  command _ _ _ _ := .of_fields id rfl rfl rfl rfl
  lose _ _ _ _ _ _ _ := .of_fields id rfl rfl rfl rfl
  readmit _ _ _ _ _ _ _ := .of_fields id rfl rfl rfl rfl
  line := changeLine_laws
  grant _ := .of_fields id rfl rfl rfl rfl
  lineNotice _ _ _ _ _ := .of_fields id rfl rfl rfl rfl
  nodeNotice _ _ _ _ _ _ := .of_fields id rfl rfl rfl rfl
  seen z p marked s := .of_occupancy (presenceEvent_pres z p marked s) (presenceEvent_kept z p marked s)
  alert _ _ _ _ := .of_fields id rfl rfl rfl rfl
  logged _ _ _ _ := .of_fields id rfl rfl rfl rfl
  notice _ _ _ _ _ := .of_fields id rfl rfl rfl rfl
  load _ _ _ := .of_fields id rfl rfl rfl rfl
  climate _ _ _ := .of_fields id rfl rfl rfl rfl
  expire slot s := .of_occupancy (removeEntry_pres slot s) (removeEntry_kept slot s)
  dormant := becomeDormant_laws
  modes _ _ _ _ _ _ := .of_fields id rfl rfl rfl rfl
  order _ _ := .of_fields id rfl rfl rfl rfl
  budget _ _ _ _ _ := .of_fields id rfl rfl rfl rfl
  timers _ _ _ _ _ _ := .of_fields id rfl rfl rfl rfl

/-! ## The plan (R109) -/

/-- The law of one zone. -/
def zoneOk (s : State) (z : Nat) : Prop := ∀ r, slotGet s.zones z = some r → zoneStands s z r

/-- R111: the flag of one zone stands where it is CLOSED. -/
def flagOk (s : State) (z : Nat) : Prop := ∀ r, slotGet s.zones z = some r → r.intruded = true → r.state = .closed

theorem zoneOk_flag {s : State} {z : Nat} (h : zoneOk s z) : flagOk s z :=
  fun r found flag => ((h r found).2.2 flag).1

theorem judgeZone_same {s : State} {z : Nat} {r : ZoneRec} (found : slotGet (judgeZone z s).zones z = some r) :
    ∃ before, slotGet s.zones z = some before ∧ r = judged s z before := by
  simp only [judgeZone, changeZone, slotGet_slotChange, if_true] at found
  obtain ⟨before, at_, rfl⟩ := Option.map_eq_some_iff.mp found
  exact ⟨before, at_, rfl⟩

theorem judgeZone_ok {s : State} {z : Nat} (h : flagOk s z) : zoneOk (judgeZone z s) z := by
  intro r found
  obtain ⟨before, at_, rfl⟩ := judgeZone_same found
  exact judged_stands (h before at_)

theorem judgeZone_keeps_flag {s : State} {z : Nat} (k : Nat) (h : flagOk s z) : flagOk (judgeZone k s) z := by
  by_cases same : z = k
  · subst same
    exact zoneOk_flag (judgeZone_ok h)
  · intro r found
    rw [slotGet_judgeZone_ne same] at found
    exact h r found

theorem judgeZone_keeps_ok {s : State} {z : Nat} (k : Nat) (h : zoneOk s z) : zoneOk (judgeZone k s) z := by
  by_cases same : z = k
  · subst same
    exact judgeZone_ok (zoneOk_flag h)
  · intro r found
    rw [slotGet_judgeZone_ne same] at found
    exact h r found

theorem judgeZones_ok {z : Nat} (ks : List Nat) (s : State) (h : flagOk s z) :
    (zoneOk s z → zoneOk (forEach ks judgeZone s) z) ∧ (z ∈ ks → zoneOk (forEach ks judgeZone s) z) := by
  induction ks generalizing s with
  | nil => exact ⟨id, by simp⟩
  | cons k rest ih =>
    obtain ⟨kept, reached⟩ := ih (judgeZone k s) (judgeZone_keeps_flag k h)
    refine ⟨fun ok => kept (judgeZone_keeps_ok k ok), fun member => ?_⟩
    rcases List.mem_cons.mp member with rfl | later
    · exact kept (judgeZone_ok h)
    · exact reached later

/-- A publication of the open-zone set leaves every zone as the law wants it. -/
theorem judgeAllZones_lawful {s : State} (flags : flagsClosed s) : zonesLawful (judgeAllZones s) := by
  intro z r found
  by_cases present : ∃ before, slotGet s.zones z = some before
  · obtain ⟨before, at_⟩ := present
    exact (judgeZones_ok _ s (flags z)).2 (List.mem_map_of_mem (slotGet_mem _ _ _ at_)) r found
  · have absent : zoneOk s z := fun before at_ => absurd ⟨before, at_⟩ present
    exact (judgeZones_ok _ s (flags z)).1 absent r found

theorem published_frame (cause : EvaluationCause) (s : State) : published cause s = { s with
    plan := planAfter cause s
    lightOverrides := (published cause s).lightOverrides
    climate := (published cause s).climate
    notices := (published cause s).notices
    lost := (published cause s).lost } := by
  rw [published, noteShiftChange_frame, notePrecondition_frame]

theorem evaluate_zonesLawful (cause : EvaluationCause) {s : State} (flags : flagsClosed s) :
    zonesLawful (evaluate cause s) := by
  refine judgeAllZones_lawful (s := published cause s) ?_
  rw [flagsClosed, published_frame]
  exact flags

theorem evaluate_zoneNumbers (cause : EvaluationCause) (s : State) :
    slotNumbers (evaluate cause s).zones = slotNumbers s.zones := by
  have side : PresenceSide (published cause s) (evaluate cause s) := judgeAllZones_pres (published cause s)
  rw [side.zoneNumbers, published_frame]

theorem evaluate_laws (cause : EvaluationCause) (s : State) : LawsKept s (evaluate cause s) := by
  refine ⟨fun ordered => (slotWf_congr (evaluate_zoneNumbers cause s)).trans ordered, fun law => ?_,
    fun _ _ zones => evaluate_zonesLawful cause (zonesLawful_flags zones)⟩
  have config : (evaluate cause s).config = s.config := by rw [evaluate_frame]
  have store : (evaluate cause s).store = s.store := by rw [evaluate_frame]
  have presence : (evaluate cause s).presence = s.presence := by rw [evaluate_frame]
  exact ⟨by rw [config]; exact law.1, by rw [store]; exact law.2.1, by rw [presence]; exact law.2.2⟩

/-! ## Clock and demand window -/

theorem closeWindow_laws (second : Nat) (outOfTurn : Bool) (s : State) :
    LawsKept s (closeWindow second outOfTurn s) := by
  rw [closeWindow_frame]
  exact .of_fields id rfl rfl rfl rfl

theorem openWindow_laws (isPartial : Bool) (s : State) : LawsKept s (openWindow isPartial s) :=
  .of_fields id rfl rfl rfl rfl

theorem rollWindow_laws (s : State) : LawsKept s (rollWindow s) := by
  rw [rollWindow_frame]
  exact .of_fields id rfl rfl rfl rfl

theorem setClockField_laws (c : Clock) (s : State) : LawsKept s { s with clock := c } := .of_fields id rfl rfl rfl rfl

theorem raise_laws (kind : NoticeKind) (subject : Subject) (a b : Option Int) (s : State) :
    LawsKept s (raise kind subject a b s) := .of_fields id rfl rfl rfl rfl

theorem tick_laws (s : State) : LawsKept s (tick s) := by
  unfold tick
  split
  · unfold clockRangeEnd
    dsimp only
    exact (setClockField_laws _ s).trans ((raise_laws _ _ _ _ _).trans
      ((evaluate_laws _ _).trans (closeWindow_laws _ _ _)))
  · dsimp only
    split
    · exact (setClockField_laws _ s).trans ((evaluate_laws _ _).trans (rollWindow_laws _))
    · exact (setClockField_laws _ s).trans (rollWindow_laws _)

theorem setClock_laws (f : ClockFields) (s : State) : LawsKept s (setClock f s) := by
  refine (setClockField_laws ⟨true, readingOf f.date f.hour f.minute f.second, 0⟩ s).trans
    ((evaluate_laws .edit _).trans (.trans ?_ (openWindow_laws true _)))
  split
  · exact closeWindow_laws _ _ _
  · exact .refl _

/-! ## Configuration -/

/-- A configuration with other zones' definitions, but not other zones. -/
theorem setConfig_laws {c : RunningConfig} (s : State) (numbers : slotNumbers c.zones = slotNumbers s.config.zones) :
    LawsKept s { s with config := c } := by
  refine .of_fields (fun law => ⟨?_, ?_⟩) rfl rfl rfl rfl
  · exact (slotWf_congr numbers).trans law.1
  · rw [numbers]
    exact law.2

theorem editPlan_laws {c : RunningConfig} (s : State) (zones : c.zones = s.config.zones) :
    LawsKept s (editPlan c s) := by
  refine (setConfig_laws s ?_).trans (evaluate_laws _ _)
  rw [zones]

theorem setLineCfg_zones (c : RunningConfig) (l : LineId) (d : LineCfg) : (setLineCfg c l d).zones = c.zones := by
  cases l <;> rfl

/-! ## Zones (R99, R100) -/

theorem zonesNumbered_slotSet {c d : RunningConfig} {z : Nat} {v : ZoneDef} (zones : d.zones = slotSet c.zones z v)
    (inRange : 1 ≤ z ∧ z ≤ 12) (law : zonesNumbered c) : zonesNumbered d := by
  obtain ⟨ordered, numbered⟩ := law
  rw [zonesNumbered, zones]
  refine ⟨slotWf_slotSet _ _ _ ordered, fun y member => ?_⟩
  obtain ⟨e, found, rfl⟩ := List.mem_map.mp member
  exact slotSet_numbers (fun k => 1 ≤ k ∧ k ≤ 12) _ z v (fun e h => numbered _ (List.mem_map_of_mem h)) inRange e found

theorem createZone_laws {z : Nat} (d : ZoneDef) (s : State) (inRange : 1 ≤ z ∧ z ≤ 12) :
    LawsKept s (createZone z d s) := by
  refine ⟨fun ordered => ?_, fun law => ⟨zonesNumbered_slotSet rfl inRange law.1, law.2⟩, fun _ _ law y r found => ?_⟩
  · refine (slotWf_congr (slotNumbers_slotChange _ _ _)).trans ?_
    exact slotWf_slotSet _ _ _ ordered
  · by_cases same : y = z
    · subst same
      refine judgeZone_ok (fun before at_ flag => ?_) r found
      rw [slotGet_slotSet, if_pos rfl] at at_
      obtain rfl := Option.some.inj at_
      exact absurd flag (by decide)
    · rw [createZone, slotGet_judgeZone_ne same] at found
      rw [slotGet_slotSet, if_neg same] at found
      exact law y r found

theorem endPurge_laws (z : Nat) (s : State) : LawsKept s (endPurge z s) := by
  unfold endPurge
  split
  · exact .refl s
  · split
    · exact raise_laws _ _ _ _ _
    · exact .refl s

theorem replaceZone_laws (z : Nat) (old d : ZoneDef) (s : State) : LawsKept s (replaceZone z old d s) := by
  have redefined : ∀ (f : ZoneDef → ZoneDef) (g : ClimateRec → ClimateRec) (u : State), LawsKept u { u with
      config := { u.config with zones := slotChange f u.config.zones z }
      climate := slotChange g u.climate z } := fun f g u =>
    (setConfig_laws u (slotNumbers_slotChange f u.config.zones z)).trans (.of_fields id rfl rfl rfl rfl)
  have removed : ∀ slots u, LawsKept u (forEach slots removeEntry u) := fun slots u =>
    forEach_related .refl .trans _ (fun slot v => .of_occupancy (removeEntry_pres slot v) (removeEntry_kept slot v)) _ _
  have judgedAgain : ∀ u, LawsKept u (judgeZone z u) := fun u => .of_occupancy (judgeZone_pres z u)
    (judgedAfter_kept rfl rfl rfl rfl (fun law => law.2.2) (fun _ _ => rfl) (fun _ _ => id))
  unfold replaceZone
  dsimp only
  exact (endPurge_laws z s).trans ((redefined _ _ _).trans ((removed _ _).trans ((judgedAgain _).trans
    (changeZone_laws _ (fun _ => .inl rfl) (fun r flag => by cases flag)))))

theorem removeZone_laws (z : Nat) (s : State) : LawsKept s (removeZone z s) := by
  unfold removeZone
  dsimp only
  refine (endPurge_laws z s).trans ?_
  generalize endPurge z s = t
  refine ⟨fun ordered => slotWf_sublist (slotFree_sublist _ _) ordered, fun law => ⟨⟨?_, fun y member => ?_⟩, law.2.1,
    tableLaw_sublist List.filter_sublist law.2.2⟩, fun ordered _ law y r found => ?_⟩
  · exact slotWf_sublist (slotFree_sublist _ _) law.1.1
  · exact law.1.2 y (((slotFree_sublist _ _).map _).subset member)
  · have at_ : slotGet (slotFree t.zones z) y = some r := found
    rw [slotGet_slotFree _ _ _ ordered] at at_
    split at at_
    · cases at_
    · rename_i apart
      have others : ∀ q : PresenceEntry → Bool,
          ((t.presence.filter fun e => e.2.zone != z).any fun e => entryIn y e.2 && q e.2)
            = t.presence.any fun e => entryIn y e.2 && q e.2 := fun q => by
        rw [List.any_filter]
        refine congrArg (List.any _) (funext fun e => ?_)
        by_cases here : e.2.zone = y
        · simp [here, apart]
        · simp [entryIn, here]
      refine zoneStands_congr (s := t) rfl ?_ (fun before => ?_) (law y r at_)
      · have same := others fun _ => true
        simp only [Bool.and_true] at same
        exact same
      · exact (others isDynamic).trans before

/-! ## Doors, loads, nodes, terminals -/

theorem dropDoorEntry_laws (door : Nat) (s : State) : LawsKept s (dropDoorEntry door s) := by
  have noted : LawsKept s { s with evictedDoors := s.evictedDoors.filter fun d => d != door } :=
    .of_fields id rfl rfl rfl rfl
  unfold dropDoorEntry
  dsimp only
  split
  · exact noted
  · exact noted.trans (.of_occupancy (dropEntry_pres _ _ _) (dropEntry_kept _ _ _))

theorem putDoor_laws (door : Nat) (d : DoorDef) (s : State) : LawsKept s (putDoor door d s) :=
  (dropDoorEntry_laws door s).trans (.of_fields id rfl rfl rfl rfl)

theorem removeDoor_laws (door : Nat) (s : State) : LawsKept s (removeDoor door s) :=
  (dropDoorEntry_laws door s).trans (.of_fields id rfl rfl rfl rfl)

theorem leaveOutput_laws (binding : Option PointRef) (s : State) : LawsKept s (leaveOutput binding s) := by
  unfold leaveOutput
  split
  · exact .refl s
  · split
    · exact .of_fields id rfl rfl rfl rfl
    · exact .refl s

theorem putLoad_laws (k : Nat) (d : LoadDef) (s : State) : LawsKept s (putLoad k d s) := by
  refine .trans ?_ (leaveOutput_laws _ _)
  exact .of_fields id rfl rfl rfl rfl

theorem removeLoad_laws (k : Nat) (s : State) : LawsKept s (removeLoad k s) := by
  refine .trans ?_ (leaveOutput_laws _ _)
  exact .of_fields id rfl rfl rfl rfl

/-- A line, its configuration, its points and its windows change together. -/
theorem setLineConfig_laws (l : LineId) (f : Line → Line) (d : LineCfg) (points : Table PointRec)
    (windows : Table CountWindow) (s : State) : LawsKept s { changeLine l f s with
      config := setLineCfg (changeLine l f s).config l d, points := points, windows := windows } := by
  refine (changeLine_laws l f s).trans ((setConfig_laws _ ?_).trans (.of_fields id rfl rfl rfl rfl))
  rw [setLineCfg_zones]

theorem putNode_laws (l : LineId) (addr : Nat) (d : NodeDef) (s : State) : LawsKept s (putNode l addr d s) :=
  (setLineConfig_laws l _ _ _ _ s).trans (lawsKept_units.reportContact _ _ _ _)

theorem removeNode_laws (l : LineId) (addr : Nat) (s : State) : LawsKept s (removeNode l addr s) :=
  setLineConfig_laws l _ _ _ _ s

theorem restaleNode_laws (l : LineId) (addr : Nat) (s : State) : LawsKept s (restaleNode l addr s) :=
  lawsKept_units.each lawsKept_units.restale _ _

theorem addScan_laws (l : LineId) (e : ScanDef) (s : State) : LawsKept s (addScan l e s) :=
  (setLineConfig_laws l _ _ (changeLine l _ s).points (changeLine l _ s).windows s).trans (restaleNode_laws _ _ _)

theorem removeScan_laws (l : LineId) (node first : Nat) (s : State) : LawsKept s (removeScan l node first s) :=
  (setLineConfig_laws l _ _ (changeLine l _ s).points (changeLine l _ s).windows s).trans (restaleNode_laws _ _ _)

theorem handOrder_laws (s : State) : LawsKept s (handOrder s) := by
  unfold handOrder
  split
  · exact .refl s
  · exact lawsKept_units.takeTerminalOrder _ _

theorem startFunction_laws (t : Nat) (s : State) : LawsKept s (startFunction t s) := by
  refine .trans (.of_fields id rfl rfl rfl rfl) (b := { s with
    terminals := slotSet s.terminals t (functionStart s.now (functionOf s.config t)) }) ?_
  show LawsKept _ (firstDelivery t (functionOf s.config t) _)
  unfold firstDelivery
  split
  · exact lawsKept_units.deliverTerminal _ _ _
  · split
    · exact lawsKept_units.switchStrainOut _ _ _
    · exact .refl _
  · exact .refl _

theorem putFunction_laws (t : Nat) (f : TermFunction) (s : State) : LawsKept s (putFunction t f s) := by
  unfold putFunction
  split
  · refine .trans ?_ (handOrder_laws _)
    exact .of_fields id rfl rfl rfl rfl
  · refine .trans ?_ ((lawsKept_units.handSignal _ _).trans ((handOrder_laws _).trans
      ((lawsKept_units.point _ _ _).trans (startFunction_laws _ _))))
    exact .of_fields id rfl rfl rfl rfl

/-! ## Parameters -/

theorem putDoorParams_laws (p : DoorParams) (s : State) : LawsKept s (putDoorParams p s) := by
  have caught : ∀ d u, LawsKept u (catchHeldOpen d u) := fun d u => by
    unfold catchHeldOpen
    split
    · exact .refl u
    · split
      · exact lawsKept_units.becomeHeldOpen _ _
      · exact .refl u
  refine .trans ?_ (lawsKept_units.each caught _ _)
  exact .of_fields id rfl rfl rfl rfl

theorem putOccupancy_laws (f : OccupancyFields) (s : State) : LawsKept s (putOccupancy f s) := by
  refine (setConfig_laws s (slotNumbers_slotChange _ _ _)).trans (changeZone_laws _ (fun r => ?_) (fun r => ?_))
  · unfold redormant
    split
    · rename_i vacant _
      split
      · exact .inr ⟨vacant, rfl⟩
      · exact .inl rfl
    · exact .inl rfl
  · unfold redormant
    split
    · split <;> exact id
    · exact id

theorem putClimate_laws (p : ClimateParams) (s : State) : LawsKept s (putClimate p s) := by
  unfold putClimate
  dsimp only
  split
  · refine .trans ?_ ((lawsKept_units.handVentilation _).trans (lawsKept_units.grant _))
    exact .of_fields id rfl rfl rfl rfl
  · exact .of_fields id rfl rfl rfl rfl

theorem putBudget_laws (p : BudgetParams) (s : State) : LawsKept s (putBudget p s) := by
  have caught : ∀ k u, LawsKept u (catchNodeHold k u) := fun k u => by
    unfold catchNodeHold
    split
    · exact .refl u
    · split
      · exact lawsKept_units.takeFallback _ _
      · exact .refl u
  have realigned : ∀ old u, LawsKept u (changeWindowLength old u) := fun old u => by
    unfold changeWindowLength
    split
    · exact (closeWindow_laws _ _ _).trans (openWindow_laws _ _)
    · exact .refl _
  refine .trans ?_ ((lawsKept_units.each caught _ _).trans (realigned _ _))
  exact .of_fields id rfl rfl rfl rfl

/-! ## Presence and points -/

theorem pinZone_laws {z : Nat} {s : State} (defined : slotUsed s.config.zones z = true)
    (unpinned : entrySlot s z .host = none) : LawsKept s (pinZone z s) := by
  have pinned : LawsKept s { s with config := { s.config with pins := s.config.pins ++ [z] } } :=
    .of_fields id rfl rfl rfl rfl
  refine pinned.trans (.of_occupancy (createEntry_pres _ _) (.of_law ?_ ?_ ?_ fun law => ?_))
  iterate 3 exact (by rw [pinZone, createEntry_frame])
  · exact createEntry_kept ⟨iff_of_true rfl rfl, zone_inRange law.1 defined⟩ unpinned

theorem unpinZone_laws (z : Nat) (s : State) : LawsKept s (unpinZone z s) := by
  refine .trans ?_ (.of_occupancy (dropEntry_pres _ _ _) (dropEntry_kept _ _ _))
  exact .of_fields id rfl rfl rfl rfl

theorem flushEntries_laws (p : PresenceEntry → Bool) (s : State) : LawsKept s (flushEntries p s) :=
  forEach_related .refl .trans _ (fun slot v => .of_occupancy (removeEntry_pres slot v) (removeEntry_kept slot v)) _ _

theorem serviceOn_laws (l : LineId) (addr : Nat) (n : NodeRec) (s : State) : LawsKept s (serviceOn l addr n s) := by
  unfold serviceOn
  split
  · exact .refl s
  · exact (changeLine_laws l _ s).trans (lawsKept_units.reportContact _ _ _ _)

theorem serviceOff_laws (l : LineId) (addr : Nat) (n : NodeRec) (s : State) : LawsKept s (serviceOff l addr n s) := by
  unfold serviceOff
  split
  · exact .refl s
  · exact (changeLine_laws l _ s).trans ((lawsKept_units.leaveLists _ _ _).trans
      (lawsKept_units.reportContact _ _ _ _))

theorem queueWrite_laws (l : LineId) (node point value : Nat) (origin : Origin) (s : State) :
    LawsKept s (queueWrite l node point value origin s) := (changeLine_laws l _ s).trans (lawsKept_units.point _ _ _)

theorem takeOneOff_laws (l : LineId) (p : PointRef) (s : State) : LawsKept s (takeOneOff l p s) :=
  (changeLine_laws l _ s).trans ((lawsKept_units.point _ _ _).trans (lawsKept_units.grant _))

/-! ## Starts -/

/-- Numbers that rise stand once each. -/
theorem slotWf_nodup {α : Type} {table : Table α} (ordered : slotWf table = true) : (slotNumbers table).Nodup := by
  induction table with
  | nil => exact List.nodup_nil
  | cons e rest ih =>
    obtain ⟨k, v⟩ := e
    obtain ⟨above, ordered⟩ := slotWf_cons.mp ordered
    refine List.nodup_cons.mpr ⟨fun member => ?_, ih ordered⟩
    obtain ⟨x, found, number⟩ := List.mem_map.mp member
    have := above x found
    omega

theorem nodup_short {zones : List Nat} (single : zones.Nodup) (inRange : ∀ z ∈ zones, 1 ≤ z ∧ z ≤ 12) :
    zones.length ≤ 12 := by
  have within : zones ⊆ List.range' 1 12 := fun z member => by
    have := inRange z member
    rw [List.mem_range'_1]
    omega
  simpa using (single.subperm within).length_le

/-- A list numbered from a start on is a table whose numbers rise. -/
theorem slotWf_zipIdx {α β : Type} (f : α → β) (l : List α) (n : Nat) :
    slotWf (l.zipIdx.map fun e => (e.2 + n, f e.1)) = true := by
  suffices ∀ k, slotWf ((l.zipIdx k).map fun e => (e.2 + n, f e.1)) = true from this 0
  induction l with
  | nil => intro k; rfl
  | cons a rest ih =>
    intro k
    rw [List.zipIdx_cons, List.map_cons]
    refine slotWf_cons.mpr ⟨fun e member => ?_, ih _⟩
    obtain ⟨x, found, rfl⟩ := List.mem_map.mp member
    have := List.le_snd_of_mem_zipIdx found
    dsimp only
    omega

theorem startPins_law {c : RunningConfig} (law : zonesNumbered c) : tableLaw (startPins c) := by
  have single := slotWf_nodup law.1
  have inRange : ∀ z ∈ (slotNumbers c.zones).filter c.pins.contains, 1 ≤ z ∧ z ≤ 12 :=
    fun z member => law.2 z (List.mem_of_mem_filter member)
  have short := nodup_short (single.filter c.pins.contains) inRange
  refine ⟨slotWf_zipIdx (fun z => (⟨z, .host, .pinned⟩ : PresenceEntry)) _ 1, ?_, ?_, fun e member => ?_⟩
  · rw [startPins, List.length_map, List.length_zipIdx]
    exact short.trans (by decide)
  · have places : (startPins c).map placeOf
        = ((slotNumbers c.zones).filter c.pins.contains).map fun z => (z, PresenceSource.host) := by
      rw [startPins, List.map_map]
      conv_rhs => rw [← List.zipIdx_map_fst 0 ((slotNumbers c.zones).filter c.pins.contains), List.map_map]
      rfl
    rw [places]
    exact (single.filter _).map fun a b same => congrArg Prod.fst same
  · obtain ⟨x, found, rfl⟩ := List.mem_map.mp member
    exact ⟨iff_of_true rfl rfl, inRange _ (List.fst_mem_of_mem_zipIdx found)⟩

theorem noteClock_laws (report : Bool) (s : State) : LawsKept s (noteClock report s) := by
  unfold noteClock
  split
  · exact raise_laws _ _ _ _ _
  · exact .refl s

/-- The end of a start: the laws hold of what it leaves, if they hold of the table. -/
theorem endStart_lawful {mode : Mode} {cause : ModeCause} {report : Bool} {s : State} (law : presenceLawful s)
    (ordered : slotWf s.zones = true) (flags : flagsClosed s) :
    presenceLawful (endStart mode cause report s) ∧ zonesLawful (endStart mode cause report s) := by
  have before : LawsKept s (noteClock report (changeMode mode cause s)) := by
    refine .trans ?_ (noteClock_laws _ _)
    exact .of_fields id rfl rfl rfl rfl
  have after : ∀ u, LawsKept u (grantLines (startFunctions (startWindow u))) := by
    intro u
    have window : LawsKept u (startWindow u) := by
      unfold startWindow
      split
      · exact openWindow_laws _ _
      · exact .refl u
    exact window.trans ((lawsKept_units.each startFunction_laws _ _).trans (lawsKept_units.grant _))
  have judgedNow : zonesLawful (evaluate .start (noteClock report (changeMode mode cause s))) := by
    refine evaluate_zonesLawful _ ?_
    have kept : (noteClock report (changeMode mode cause s)).zones = s.zones := by
      unfold noteClock
      split <;> rfl
    rw [flagsClosed, kept]
    exact flags
  have table := (evaluate_laws .start _).presence (before.presence law)
  have wf := (evaluate_laws .start _).ordered (before.ordered ordered)
  exact ⟨(after _).presence table, (after _).zones wf table judgedNow⟩

theorem slotWf_startZones {c : RunningConfig} (law : zonesNumbered c) :
    slotWf (slotMap (fun _ _ => startZone) c.zones) = true := (slotWf_slotMap _ _).trans law.1

/-- No zone starts INTRUDED. -/
theorem startZones_flags {c : RunningConfig} {z : Nat} {r : ZoneRec}
    (found : slotGet (slotMap (fun _ _ => startZone) c.zones) z = some r) : r.intruded = false := by
  rw [slotGet_slotMap] at found
  obtain ⟨d, -, rfl⟩ := Option.map_eq_some_iff.mp found
  rfl

/-- The blocks of a start, with a clock, a store and a cause of their own, and the end of the start after them. -/
theorem startedOn_laws {c : RunningConfig} (s : State) (clock : Clock) (store : Store) (last : LastStart)
    (mode : Mode) (cause : ModeCause) (report : Bool) (law : zonesNumbered c) (copy : zonesNumbered store.copy) :
    presenceLawful (endStart mode cause report
        { startBlocks c s with clock := clock, store := store, lastStart := last }) ∧
      zonesLawful (endStart mode cause report
        { startBlocks c s with clock := clock, store := store, lastStart := last }) := by
  refine endStart_lawful ⟨law, copy, startPins_law law⟩ ?_ ?_
  · exact slotWf_startZones law
  · intro z r found flag
    have unset := startZones_flags (c := c) found
    exact absurd flag (by rw [unset]; decide)

theorem factoryConfig_numbered : zonesNumbered factoryConfig := ⟨by decide, by decide⟩

theorem coldStart_laws (cause : StartCause) {s : State} (law : presenceLawful s) :
    presenceLawful (coldStart cause s) ∧ zonesLawful (coldStart cause s) := by
  have config : zonesNumbered
      (if decide (judgedStore s.store.state = .valid) then s.store.copy else factoryConfig) := by
    split
    · exact law.2.1
    · exact factoryConfig_numbered
  unfold coldStart
  dsimp only
  exact startedOn_laws s _ _ _ _ _ _ config law.2.1

theorem warmRestart_laws {s : State} (law : presenceLawful s) :
    presenceLawful (warmRestart s) ∧ zonesLawful (warmRestart s) :=
  startedOn_laws s (startBlocks s.config s).clock (startBlocks s.config s).store .hostRestart .standalone .warm false
    law.1 law.2.1

end Sys2Proof.Machine


/-! SUPPORT and PROOFS. The laws of presence entries and of zones (R102, R109, R111) under every request and every other
command, and what each step keeps of them. -/

namespace Sys2Proof.Machine

/-! ## The owners of the requests -/

/-- Configuration that no zone is part of. -/
theorem setOther_laws {c : RunningConfig} (s : State) (zones : c.zones = s.config.zones) :
    LawsKept s { s with config := c } := setConfig_laws s (congrArg slotNumbers zones)

theorem grantedAfter_laws {s t : State} (h : LawsKept s t) : LawsKept s (grantLines t) :=
  h.trans (lawsKept_units.grant t)

theorem changeMode_laws (mode : Mode) (cause : ModeCause) (s : State) : LawsKept s (changeMode mode cause s) :=
  .of_fields id rfl rfl rfl rfl

theorem handleEnterHold_laws (s : State) : LawsKept s (handleEnterHold s).state := by
  unfold handleEnterHold
  split
  · exact .refl s
  · exact .refl s
  · exact changeMode_laws _ _ s

theorem handleEnterRun_laws (s : State) : LawsKept s (handleEnterRun s).state := by
  unfold handleEnterRun
  split
  · exact .refl s
  · split
    · exact .refl s
    · exact changeMode_laws _ _ s
  · exact .refl s

theorem handleCollect_laws (count : Nat) (s : State) : LawsKept s (handleCollect count s).state := by
  unfold handleCollect
  split
  · exact .of_fields id rfl rfl rfl rfl
  · exact .refl s

theorem handleSetClock_laws (f : ClockFields) (s : State) : LawsKept s (handleSetClock f s).state := by
  unfold handleSetClock
  split
  · exact setClock_laws f s
  · exact .refl s

theorem putShift_zones (c : RunningConfig) (index : Nat) (r : ShiftRecord) : (putShift c index r).zones = c.zones := by
  unfold putShift
  split <;> rfl

theorem handleWriteShift_laws (op : Nat × RawShift) (s : State) : LawsKept s (handleWriteShift op s).state := by
  unfold handleWriteShift
  dsimp only
  split
  · exact .refl s
  · split
    · exact .refl s
    · split
      · exact .refl s
      · exact editPlan_laws s (putShift_zones _ _ _)

theorem removeShift_laws (index : Nat) (s : State) : LawsKept s (removeShift index s) := by
  unfold removeShift
  dsimp only
  refine .trans ?_ (editPlan_laws _ rfl)
  exact .of_fields id rfl rfl rfl rfl

theorem handleDeleteShift_laws (index : Nat) (s : State) : LawsKept s (handleDeleteShift index s).state := by
  unfold handleDeleteShift
  split
  · exact .refl s
  · split
    · exact .refl s
    · split
      · exact .refl s
      · exact removeShift_laws index s

theorem handleWriteException_laws (op : Nat × Nat × Nat) (s : State) :
    LawsKept s (handleWriteException op s).state := by
  unfold handleWriteException
  split
  · split
    · exact .refl s
    · split
      · exact .refl s
      · exact editPlan_laws s rfl
  · exact .refl s

theorem handleDeleteException_laws (op : Nat × Nat) (s : State) : LawsKept s (handleDeleteException op s).state := by
  unfold handleDeleteException
  split
  · exact .refl s
  · split
    · exact .refl s
    · exact editPlan_laws s rfl

theorem zoneInRange_iff {z : Nat} : zoneInRange z = true ↔ 1 ≤ z ∧ z ≤ 12 := by
  simp [zoneInRange]

/-- R99: a definition that passes check 1 is one of a zone that the range holds. -/
theorem zoneOf_inRange {r : RawZone} {d : ZoneDef} (h : zoneOf r = some d) : 1 ≤ r.zone ∧ r.zone ≤ 12 := by
  unfold zoneOf at h
  split at h
  · cases h
  · rename_i passes
    simp only [Bool.or_eq_true, Bool.not_eq_true', not_or, Bool.not_eq_false] at passes
    exact zoneInRange_iff.mp passes.1.1

theorem putZone_laws {z : Nat} (d : ZoneDef) (s : State) (inRange : 1 ≤ z ∧ z ≤ 12) : LawsKept s (putZone z d s) := by
  unfold putZone
  split
  · exact createZone_laws d s inRange
  · exact replaceZone_laws z _ d s

theorem handleDefineZone_laws (op : Action RawZone Nat) (s : State) : LawsKept s (handleDefineZone op s).state := by
  unfold handleDefineZone
  split
  · exact .refl s
  · split
    · exact .refl s
    · rename_i passes
      split
      · exact .refl s
      · exact putZone_laws _ s (zoneOf_inRange passes)
  · split
    · exact .refl s
    · split
      · exact .refl s
      · split
        · exact .refl s
        · exact removeZone_laws _ s

theorem handleDefineDoor_laws (op : Action RawDoor Nat) (s : State) : LawsKept s (handleDefineDoor op s).state := by
  unfold handleDefineDoor
  split
  · exact .refl s
  · split
    · exact .refl s
    · split
      · exact .refl s
      · split
        · exact .refl s
        · exact putDoor_laws _ _ s
  · split
    · exact .refl s
    · split
      · exact .refl s
      · exact removeDoor_laws _ s

theorem handleDefineLoad_laws (op : Action RawLoad Nat) (s : State) : LawsKept s (handleDefineLoad op s).state := by
  unfold handleDefineLoad
  split
  · exact .refl s
  · split
    · exact .refl s
    · split
      · exact .refl s
      · split
        · exact .refl s
        · exact putLoad_laws _ _ s
  · split
    · exact .refl s
    · split
      · exact .refl s
      · split
        · exact .refl s
        · exact removeLoad_laws _ s

theorem handleDefineNode_laws (op : Action RawNode (Nat × Nat)) (s : State) :
    LawsKept s (handleDefineNode op s).state := by
  unfold handleDefineNode
  split
  · exact .refl s
  · split
    · split
      · exact .refl s
      · exact grantedAfter_laws (putNode_laws _ _ _ s)
    · exact .refl s
  · split
    · split
      · exact .refl s
      · split
        · exact .refl s
        · exact grantedAfter_laws (removeNode_laws _ _ s)
    · exact .refl s

theorem addChecked_laws (l : LineId) (r : RawScan) (s : State) : LawsKept s (addChecked l r s).state := by
  unfold addChecked
  split
  · exact .refl s
  · exact .refl s
  · split
    · exact .refl s
    · split
      · exact .refl s
      · split
        · exact .refl s
        · exact grantedAfter_laws (addScan_laws _ _ s)

theorem handleDefineScan_laws (op : Action RawScan (Nat × Nat × Nat)) (s : State) :
    LawsKept s (handleDefineScan op s).state := by
  unfold handleDefineScan
  split
  · exact .refl s
  · split
    · exact .refl s
    · exact addChecked_laws _ _ s
  · split
    · exact .refl s
    · split
      · exact grantedAfter_laws (removeScan_laws _ _ _ s)
      · exact .refl s

theorem handleSetFunction_laws (op : Nat × RawFunction) (s : State) : LawsKept s (handleSetFunction op s).state := by
  unfold handleSetFunction
  split
  · exact .refl s
  · split
    · exact .refl s
    · split
      · exact .refl s
      · exact putFunction_laws _ _ s

theorem handleLineParameters_laws (op : Nat × Nat × Nat) (s : State) :
    LawsKept s (handleLineParameters op s).state := by
  unfold handleLineParameters
  split
  · split
    · exact setOther_laws s (setLineCfg_zones _ _ _)
    · exact .refl s
  · exact .refl s

theorem handleFilter_laws (op : List Nat × Nat × Nat) (s : State) : LawsKept s (handleFilter op s).state := by
  unfold handleFilter
  split
  · exact .refl s
  · exact setOther_laws s rfl

theorem handleDoorParams_laws (p : DoorParams) (s : State) : LawsKept s (handleDoorParams p s).state := by
  unfold handleDoorParams
  split
  · exact putDoorParams_laws p s
  · exact .refl s

theorem handleOccupancy_laws (f : OccupancyFields) (s : State) : LawsKept s (handleOccupancy f s).state := by
  unfold handleOccupancy
  split
  · exact .refl s
  · split
    · exact .refl s
    · exact putOccupancy_laws f s

theorem handleLighting_laws (p : LightingParams) (s : State) : LawsKept s (handleLighting p s).state := by
  unfold handleLighting
  split
  · exact setOther_laws s rfl
  · exact .refl s

theorem handleDaylight_laws (r : RawDaylight) (s : State) : LawsKept s (handleDaylight r s).state := by
  unfold handleDaylight
  split
  · exact .refl s
  · split
    · exact .refl s
    · split
      · exact .refl s
      · exact setOther_laws s rfl

theorem handleClimate_laws (r : RawClimate) (s : State) : LawsKept s (handleClimate r s).state := by
  unfold handleClimate
  split
  · exact .refl s
  · exact putClimate_laws _ s

theorem handleBudget_laws (p : BudgetParams) (s : State) : LawsKept s (handleBudget p s).state := by
  unfold handleBudget
  split
  · exact putBudget_laws p s
  · exact .refl s

theorem handleSettlementPeriod_laws (period : Nat) (s : State) :
    LawsKept s (handleSettlementPeriod period s).state := by
  unfold handleSettlementPeriod
  split
  · exact setOther_laws s rfl
  · exact .refl s

theorem handleHostLink_laws (p : Nat × Nat) (s : State) : LawsKept s (handleHostLink p s).state := by
  unfold handleHostLink
  split
  · exact setOther_laws s rfl
  · exact .refl s

theorem handleLightOverride_laws (f : OverrideFields) (s : State) : LawsKept s (handleLightOverride f s).state := by
  unfold handleLightOverride
  split
  · exact .refl s
  · split
    · exact .refl s
    · unfold placeLight
      split <;> exact .of_fields id rfl rfl rfl rfl

theorem handleSetpointOverride_laws (f : OverrideFields) (s : State) :
    LawsKept s (handleSetpointOverride f s).state := by
  unfold handleSetpointOverride
  split
  · exact .refl s
  · split
    · exact .refl s
    · exact .of_fields id rfl rfl rfl rfl

theorem endHostOrder_laws (order : CurtailOrder) (s : State) : LawsKept s (endHostOrder order s) :=
  .of_fields id rfl rfl rfl rfl

theorem handleCurtail_laws (op : Nat × Nat) (s : State) : LawsKept s (handleCurtail op s).state := by
  unfold handleCurtail
  split
  · exact .refl s
  · dsimp only
    split
    · unfold releaseOrder
      split
      · exact .refl s
      · exact endHostOrder_laws _ s
    · exact .of_fields id rfl rfl rfl rfl

/-- A request about a zone is taken of a zone that is defined. -/
theorem withZone_laws {z : Nat} {s : State} {f : Served}
    (h : slotUsed s.config.zones z = true → LawsKept s f.state) : LawsKept s (withZone z s f).state := by
  unfold withZone
  split
  · exact .refl s
  · split
    · exact .refl s
    · rename_i defined
      exact h (by simpa using defined)

theorem handlePin_laws (z : Nat) (s : State) : LawsKept s (handlePin z s).state := by
  refine withZone_laws fun defined => ?_
  change LawsKept s (if (entrySlot s z .host).isSome then s else pinZone z s)
  split
  · exact .refl s
  · rename_i unpinned
    exact pinZone_laws defined (by simpa using unpinned)

theorem handleUnpin_laws (z : Nat) (s : State) : LawsKept s (handleUnpin z s).state := by
  refine withZone_laws fun _ => ?_
  split
  · exact unpinZone_laws z s
  · exact .refl s

theorem handleFlush_laws (z : Nat) (s : State) : LawsKept s (handleFlush z s).state := by
  unfold handleFlush
  split
  · exact flushEntries_laws _ s
  · exact withZone_laws fun _ => flushEntries_laws _ s

theorem handleService_laws (op : Nat × Nat × Nat) (s : State) : LawsKept s (handleService op s).state := by
  unfold handleService
  split
  · split
    · exact .refl s
    · refine grantedAfter_laws ?_
      split
      · exact serviceOn_laws _ _ _ s
      · exact serviceOff_laws _ _ _ s
  · exact .refl s

theorem handleLineRestart_laws (line : Nat) (s : State) : LawsKept s (handleLineRestart line s).state := by
  unfold handleLineRestart
  split
  · exact .refl s
  · exact grantedAfter_laws (lawsKept_units.restartLine _ s)

theorem withPoint_laws {r : RawPoint} {s : State} {f : PointRef → Served} (h : ∀ p, LawsKept s (f p).state) :
    LawsKept s (withPoint r s f).state := by
  unfold withPoint
  split
  · exact .refl s
  · split
    · exact h _
    · exact .refl s

theorem handleWritePoint_laws (op : RawPoint × Nat) (s : State) : LawsKept s (handleWritePoint op s).state := by
  refine withPoint_laws fun p => ?_
  unfold writeHost
  split
  · exact .refl s
  · split
    · exact .refl s
    · split
      · exact .refl s
      · exact grantedAfter_laws (queueWrite_laws _ _ _ _ _ s)

theorem handleFetchPoint_laws (r : RawPoint) (s : State) : LawsKept s (handleFetchPoint r s).state := by
  refine withPoint_laws fun p => ?_
  unfold fetchHost
  split
  · exact .refl s
  · unfold offerOneOff
    dsimp only
    split
    · exact .refl s
    · split
      · exact .refl s
      · split
        · exact .refl s
        · exact takeOneOff_laws _ _ s

/-! ## Readings -/

theorem handleReadZone_laws (z : Nat) (s : State) : LawsKept s (handleReadZone z s).state := by
  unfold handleReadZone
  split
  · exact .refl s
  · split <;> exact .refl s

theorem handleReadDoor_laws (d : Nat) (s : State) : LawsKept s (handleReadDoor d s).state := by
  unfold handleReadDoor
  split
  · exact .refl s
  · split <;> exact .refl s

theorem handleReadLoad_laws (k : Nat) (s : State) : LawsKept s (handleReadLoad k s).state := by
  unfold handleReadLoad
  split
  · exact .refl s
  · split <;> exact .refl s

theorem handleReadNode_laws (op : Nat × Nat) (s : State) : LawsKept s (handleReadNode op s).state := by
  unfold handleReadNode
  split
  · split <;> exact .refl s
  · exact .refl s

theorem handleReadLine_laws (line : Nat) (s : State) : LawsKept s (handleReadLine line s).state := by
  unfold handleReadLine
  split <;> exact .refl s

theorem handleReadPoint_laws (f : ReadPointFields) (s : State) : LawsKept s (handleReadPoint f s).state := by
  unfold handleReadPoint
  split
  · exact .refl s
  · split <;> exact .refl s

theorem handleReadPresence_laws (z : Nat) (s : State) : LawsKept s (handleReadPresence z s).state := by
  unfold handleReadPresence
  split
  · exact .refl s
  · exact withZone_laws fun _ => .refl s

theorem handleReadEvents_laws (count : Nat) (s : State) : LawsKept s (handleReadEvents count s).state := by
  unfold handleReadEvents
  split <;> exact .refl s

theorem handleReadShift_laws (index : Nat) (s : State) : LawsKept s (handleReadShift index s).state := by
  unfold handleReadShift
  split <;> exact .refl s

theorem readOccupancy_laws (z : Nat) (s : State) : LawsKept s (readOccupancy z s).state := by
  unfold readOccupancy
  split
  · exact .refl s
  · split <;> exact .refl s

theorem readDaylight_laws (k : Nat) (s : State) : LawsKept s (readDaylight k s).state := by
  unfold readDaylight
  split
  · exact .refl s
  · split
    · exact .refl s
    · split <;> exact .refl s

theorem handleReadParameters_laws (r : RawRead) (s : State) : LawsKept s (handleReadParameters r s).state := by
  cases r with
  | occupancy zone => exact readOccupancy_laws zone s
  | daylight load => exact readDaylight_laws load s
  | _ => exact .refl s

theorem hostLinkHandler_laws (body : HostLinkBody) (handle : State → Served)
    (k : hostLinkHandler body = some handle) (s : State) : LawsKept s (handle s).state := by
  cases body with
  | group bytes =>
    obtain ⟨x, -, rfl⟩ := Option.map_eq_some_iff.mp k
    exact handleHostLink_laws x s
  | noSuchGroup code bytes =>
    cases k
    exact .refl s
  | noGroup => cases k

/-! ## Serving -/

theorem discardEnded_laws (f : HostFrame) (s : State) : LawsKept s (discardEnded f s) := by
  unfold discardEnded
  split
  · exact .refl s
  · exact .of_fields id rfl rfl rfl rfl
  · split
    · exact .of_fields id rfl rfl rfl rfl
    · exact .refl s

theorem discardLate_laws (f : HostFrame) (s : State) : LawsKept s (discardLate f s) := by
  unfold discardLate
  split
  · exact .of_fields id rfl rfl rfl rfl
  · exact .refl s

theorem withFrame_laws {act : HostFrame → State → State} (h : ∀ f s, LawsKept s (act f s)) (s : State) :
    LawsKept s (withFrame act s) := by
  unfold withFrame
  split
  · exact .refl s
  · exact h _ s

theorem settleFrame_laws (s : State) : LawsKept s (settleFrame s) :=
  (withFrame_laws discardEnded_laws s).trans (withFrame_laws discardLate_laws _)

theorem receiveByte_laws (b : LinkByte) (s : State) : LawsKept s (receiveByte b s) := by
  refine (settleFrame_laws s).trans ?_
  unfold receiveByte
  dsimp only
  split
  · unfold huntByte
    split
    · exact .of_fields id rfl rfl rfl rfl
    · exact .refl _
  · unfold growFrame
    split
    · exact .of_fields id rfl rfl rfl rfl
    · exact .refl _

theorem checkRequest_laws {cls : RequestClass} {holdOnly : Bool} {handler : Option (State → Served)} {s : State}
    (h : ∀ handle, handler = some handle → LawsKept s (handle s).state) :
    LawsKept s (checkRequest cls holdOnly handler s).state := by
  unfold checkRequest
  split
  · exact .refl s
  · split
    · exact .refl s
    · split
      · exact .refl s
      · exact h _ rfl

theorem finishRequest_laws (code : Nat) (cls : RequestClass) (r : Served) :
    LawsKept r.state (finishRequest code cls r) := by
  obtain ⟨mode, returnMode, notices, lost, at_, ends⟩ := finishRequest_frame code cls r
  rw [ends]
  exact .of_fields id rfl rfl rfl rfl

theorem endFrame_laws (early : Bool) (body : List Byte) {take : State → State} (h : ∀ s, LawsKept s (take s))
    (s : State) : LawsKept s (endFrame early body take s) := by
  unfold endFrame
  split
  · exact .of_fields id rfl rfl rfl rfl
  · split
    · exact .of_fields id rfl rfl rfl rfl
    · exact h s

theorem receiveRequest_laws (code : Nat) (body : List Byte) {take : State → State} (h : ∀ s, LawsKept s (take s))
    (s : State) : LawsKept s (receiveRequest code body take s) := by
  unfold receiveRequest
  split
  · exact endFrame_laws _ _ h s
  · split
    · refine .trans ?_ (endFrame_laws _ _ h _)
      exact .of_fields id rfl rfl rfl rfl
    · exact .refl s

/-- A command is a request that is served, by an owner that keeps the laws. -/
def ServedLawfully (i : Instr) : Prop :=
  ∃ code cls holdOnly body handler, (∀ s, exec i s = serve code cls holdOnly body handler s)
    ∧ ∀ handle, handler = some handle → ∀ s, LawsKept s (handle s).state

theorem servedLawfully_of_owner {α : Type} {i : Instr} {code : Nat} {cls : RequestClass} {holdOnly : Bool}
    {body : List Byte} {operand : Option α} (owner : α → State → Served)
    (served : ∀ s, exec i s = serve code cls holdOnly body (operand.map owner) s)
    (h : ∀ x s, LawsKept s (owner x s).state) : ServedLawfully i := by
  refine ⟨code, cls, holdOnly, body, operand.map owner, served, fun handle k s => ?_⟩
  obtain ⟨x, -, rfl⟩ := Option.map_eq_some_iff.mp k
  exact h x s

theorem whenPowered_laws {f : State → State} {s t : State} (next : whenPowered f s = .next t) (h : LawsKept s (f s)) :
    LawsKept s t := by
  unfold whenPowered at next
  cases next
  split
  · exact h
  · exact .refl s

theorem whenDue_laws {at_ : Nat} {f : State → State} {s : State} (h : LawsKept s (f s)) :
    LawsKept s (whenDue at_ f s) := whenDue_of h (.refl s)

theorem served_laws {i : Instr} {s t : State} (lawful : ServedLawfully i) (next : exec i s = .next t) :
    LawsKept s t := by
  obtain ⟨code, cls, holdOnly, body, handler, served, owner⟩ := lawful
  rw [served] at next
  refine whenPowered_laws next ((settleFrame_laws s).trans (receiveRequest_laws _ _ (fun u => ?_) _))
  exact (checkRequest_laws fun handle k => owner handle k u).trans (finishRequest_laws _ _ _)

/-- Every request is served by an owner that keeps the laws. -/
theorem request_laws {i : Instr} (isRequest : (Claims.requestCode i).isSome = true) : ServedLawfully i := by
  cases i with
  | unknownRequest r =>
    refine ⟨_, _, _, _, _, fun _ => rfl, fun handle k s => ?_⟩
    cases k
    exact .refl s
  | identify b => exact servedLawfully_of_owner _ (fun _ => rfl) (fun _ s => .refl s)
  | enterHold b => exact servedLawfully_of_owner _ (fun _ => rfl) (fun _ => handleEnterHold_laws)
  | enterRun b => exact servedLawfully_of_owner _ (fun _ => rfl) (fun _ => handleEnterRun_laws)
  | restart b => exact servedLawfully_of_owner _ (fun _ => rfl) (fun _ _ => .of_fields id rfl rfl rfl rfl)
  | storeSettings b => exact servedLawfully_of_owner _ (fun _ => rfl) (fun _ _ => .of_fields id rfl rfl rfl rfl)
  | setClock b => exact servedLawfully_of_owner _ (fun _ => rfl) handleSetClock_laws
  | readClock b => exact servedLawfully_of_owner _ (fun _ => rfl) (fun _ s => .refl s)
  | writeShift b => exact servedLawfully_of_owner _ (fun _ => rfl) handleWriteShift_laws
  | readShift b => exact servedLawfully_of_owner _ (fun _ => rfl) handleReadShift_laws
  | deleteShift b => exact servedLawfully_of_owner _ (fun _ => rfl) handleDeleteShift_laws
  | writeException b => exact servedLawfully_of_owner _ (fun _ => rfl) handleWriteException_laws
  | deleteException b => exact servedLawfully_of_owner _ (fun _ => rfl) handleDeleteException_laws
  | readPlanState b => exact servedLawfully_of_owner _ (fun _ => rfl) (fun _ s => .refl s)
  | defineZone b => exact servedLawfully_of_owner _ (fun _ => rfl) handleDefineZone_laws
  | defineDoor b => exact servedLawfully_of_owner _ (fun _ => rfl) handleDefineDoor_laws
  | defineLoad b => exact servedLawfully_of_owner _ (fun _ => rfl) handleDefineLoad_laws
  | defineNode b => exact servedLawfully_of_owner _ (fun _ => rfl) handleDefineNode_laws
  | defineScanEntry b => exact servedLawfully_of_owner _ (fun _ => rfl) handleDefineScan_laws
  | setTerminalFunction b => exact servedLawfully_of_owner _ (fun _ => rfl) handleSetFunction_laws
  | setLineParameters b => exact servedLawfully_of_owner _ (fun _ => rfl) handleLineParameters_laws
  | setFilterTests b => exact servedLawfully_of_owner _ (fun _ => rfl) handleFilter_laws
  | setParametersDoor b => exact servedLawfully_of_owner _ (fun _ => rfl) handleDoorParams_laws
  | setParametersOccupancy b => exact servedLawfully_of_owner _ (fun _ => rfl) handleOccupancy_laws
  | setParametersLighting b => exact servedLawfully_of_owner _ (fun _ => rfl) handleLighting_laws
  | setParametersDaylight b => exact servedLawfully_of_owner _ (fun _ => rfl) handleDaylight_laws
  | setParametersClimate b => exact servedLawfully_of_owner _ (fun _ => rfl) handleClimate_laws
  | setParametersBudget b => exact servedLawfully_of_owner _ (fun _ => rfl) handleBudget_laws
  | setParametersSettlement b => exact servedLawfully_of_owner _ (fun _ => rfl) handleSettlementPeriod_laws
  | setParametersHostLink b => cases b <;> exact ⟨_, _, _, _, _, fun _ => rfl, hostLinkHandler_laws _⟩
  | lightOverride b => exact servedLawfully_of_owner _ (fun _ => rfl) handleLightOverride_laws
  | setpointOverride b => exact servedLawfully_of_owner _ (fun _ => rfl) handleSetpointOverride_laws
  | curtail b => exact servedLawfully_of_owner _ (fun _ => rfl) handleCurtail_laws
  | pinPresence b => exact servedLawfully_of_owner _ (fun _ => rfl) handlePin_laws
  | unpinPresence b => exact servedLawfully_of_owner _ (fun _ => rfl) handleUnpin_laws
  | flushPresence b => exact servedLawfully_of_owner _ (fun _ => rfl) handleFlush_laws
  | setNodeService b => exact servedLawfully_of_owner _ (fun _ => rfl) handleService_laws
  | lineRestart b => exact servedLawfully_of_owner _ (fun _ => rfl) handleLineRestart_laws
  | writePoint b => exact servedLawfully_of_owner _ (fun _ => rfl) handleWritePoint_laws
  | fetchPoint b => exact servedLawfully_of_owner _ (fun _ => rfl) handleFetchPoint_laws
  | readZone b => exact servedLawfully_of_owner _ (fun _ => rfl) handleReadZone_laws
  | readDoor b => exact servedLawfully_of_owner _ (fun _ => rfl) handleReadDoor_laws
  | readLoad b => exact servedLawfully_of_owner _ (fun _ => rfl) handleReadLoad_laws
  | readSettlement b => exact servedLawfully_of_owner _ (fun _ => rfl) (fun _ s => .refl s)
  | readWindows b => exact servedLawfully_of_owner _ (fun _ => rfl) (fun _ s => .refl s)
  | readNode b => exact servedLawfully_of_owner _ (fun _ => rfl) handleReadNode_laws
  | readLine b => exact servedLawfully_of_owner _ (fun _ => rfl) handleReadLine_laws
  | readPoint b => exact servedLawfully_of_owner _ (fun _ => rfl) handleReadPoint_laws
  | readPresence b => exact servedLawfully_of_owner _ (fun _ => rfl) handleReadPresence_laws
  | readEvents b => exact servedLawfully_of_owner _ (fun _ => rfl) handleReadEvents_laws
  | collectNotices b => exact servedLawfully_of_owner _ (fun _ => rfl) handleCollect_laws
  | readParameters b => exact servedLawfully_of_owner _ (fun _ => rfl) handleReadParameters_laws
  | _ => cases isRequest

/-! ## The other commands -/

theorem setPin_laws (t : Nat) (f : InputPin → InputPin) (s : State) : LawsKept s (setPin t f s) :=
  .of_fields id rfl rfl rfl rfl

theorem rawChange_laws (t : Nat) (closed : Bool) (s : State) : LawsKept s (rawChange t closed s) := by
  have wired := setPin_laws t (fun p => { p with closed := closed }) s
  unfold rawChange
  dsimp only
  split
  · exact .refl s
  · split
    · exact wired
    · split
      · exact wired.trans (lawsKept_units.terminal _ _ _)
      · split
        · exact wired.trans (lawsKept_units.takePulse _ _)
        · exact wired

theorem conversion_laws (t : Nat) (s : State) : LawsKept s (conversion t s) := by
  unfold conversion
  split
  · exact .refl s
  · exact whenDue_laws ((lawsKept_units.terminal _ _ _).trans (lawsKept_units.convert _ _))

theorem analogConversion_laws {t : Nat} {mv : Int} {s u : State} (next : execAnalogConversion t mv s = .next u) :
    LawsKept s u := by
  have wired := setPin_laws t (fun p => { p with millivolts := mv }) s
  cases next
  split
  · exact wired.trans (conversion_laws t _)
  · exact wired

theorem meterPulse_laws {t : Nat} {s u : State} (next : execMeterPulse t s = .next u) : LawsKept s u := by
  have wired := setPin_laws t (fun p => { p with closed := true }) s
  cases next
  dsimp only
  split
  · split
    · exact wired.trans (lawsKept_units.takePulse _ _)
    · exact wired
  · exact rawChange_laws t true s

theorem clockTick_laws {s t : State} (next : execClockTick s = .next t) : LawsKept s t := by
  cases next
  split
  · exact .refl s
  · split
    · exact tick_laws s
    · exact setClockField_laws _ s

theorem endWrite_laws (agrees : Bool) (s : State) : LawsKept s (endWrite agrees s) := by
  unfold endWrite
  split <;> exact .of_fields id rfl rfl rfl rfl

theorem loseSupervision_laws (s : State) : LawsKept s (loseSupervision s) := by
  unfold loseSupervision
  split
  · exact .of_fields id rfl rfl rfl rfl
  · split <;> exact .of_fields id rfl rfl rfl rfl

theorem hostFrameDiscarded_laws {bytes : List LinkByte} {s u : State}
    (next : execHostFrameDiscarded bytes s = .next u) : LawsKept s u := by
  have received := forEach_related LawsKept.refl LawsKept.trans receiveByte receiveByte_laws bytes s
  exact whenPowered_laws next (received.trans (withFrame_laws discardEnded_laws _))

theorem storeWriteEnd_laws {agrees : Bool} {s u : State} (next : execStoreWriteEnd agrees s = .next u) :
    LawsKept s u := by
  refine whenPowered_laws next ?_
  split
  · exact whenDue_laws (endWrite_laws agrees s)
  · exact .refl s

theorem supervisionTimer_laws {s u : State} (next : execSupervisionTimerExpires s = .next u) : LawsKept s u := by
  refine whenPowered_laws next ?_
  split
  · exact .refl s
  · exact whenDue_laws (loseSupervision_laws s)

theorem hostCurtailExpires_laws {s u : State} (next : execHostCurtailExpires s = .next u) : LawsKept s u := by
  refine whenPowered_laws next ?_
  split
  · exact .refl s
  · exact whenDue_laws (endHostOrder_laws _ s)

theorem lightOverrideExpires_laws {z : Nat} {s u : State} (next : execLightOverrideExpires z s = .next u) :
    LawsKept s u := by
  refine whenPowered_laws next ?_
  split
  · exact .refl s
  · exact whenDue_laws (.of_fields id rfl rfl rfl rfl)

theorem restartTimer_laws {t : Nat} {s u : State} (next : execRestartTimerExpires t s = .next u) : LawsKept s u := by
  refine whenPowered_laws next ?_
  split
  · exact .refl s
  · exact whenDue_laws (.of_fields id rfl rfl rfl rfl)

theorem mainPowerLoss_laws {s u : State} (next : execMainPowerLoss s = .next u) : LawsKept s u := by
  cases next
  exact .of_fields id rfl rfl rfl rfl

theorem replySent_laws {s u : State} (next : execReplySent s = .next u) : LawsKept s u :=
  whenPowered_laws next (.of_fields id rfl rfl rfl rfl)

/-- What a command keeps of the laws: a start makes the zones anew from a lawful configuration. -/
structure LawsHeld (s t : State) : Prop where
  presence : presenceLawful s → presenceLawful t
  zones : slotWf s.zones = true → presenceLawful s → zonesLawful s → zonesLawful t

theorem LawsKept.held {s t : State} (h : LawsKept s t) : LawsHeld s t := ⟨h.presence, h.zones⟩

theorem LawsHeld.refl (s : State) : LawsHeld s s := (LawsKept.refl s).held

theorem coldStart_held (cause : StartCause) (s : State) : LawsHeld s (coldStart cause s) :=
  ⟨fun law => (coldStart_laws cause law).1, fun _ law _ => (coldStart_laws cause law).2⟩

theorem warmRestart_held (s : State) : LawsHeld s (warmRestart s) :=
  ⟨fun law => (warmRestart_laws law).1, fun _ law _ => (warmRestart_laws law).2⟩

theorem whenPowered_held {f : State → State} {s t : State} (next : whenPowered f s = .next t) (h : LawsHeld s (f s)) :
    LawsHeld s t := by
  unfold whenPowered at next
  cases next
  split
  · exact h
  · exact .refl s

theorem warmRestartCommand_held {s t : State} (next : execWarmRestart s = .next t) : LawsHeld s t := by
  refine whenPowered_held next ?_
  split
  · exact warmRestart_held s
  · exact .refl s

theorem storeWriteBegin_held {s t : State} (next : execStoreWriteBegin s = .next t) : LawsHeld s t := by
  refine whenPowered_held next ?_
  split
  · exact ⟨fun law => ⟨law.1, law.1, law.2.2⟩, fun _ _ => id⟩
  · exact .refl s

theorem exec_laws {i : Instr} {s t : State} (next : exec i s = .next t) : LawsHeld s t := by
  by_cases isEvent : Claims.isFieldEvent i = true
  · obtain ⟨u, answered, kept⟩ := lawsKept_units.event isEvent s
    rw [answered] at next
    cases next
    exact kept.held
  by_cases isRequest : (Claims.requestCode i).isSome = true
  · exact (served_laws (request_laws isRequest) next).held
  cases i with
  | coldStart cause =>
    cases next
    cases cause with
    | powerOn held => exact coldStart_held _ s
    | restartInput =>
      dsimp only
      split
      · exact coldStart_held _ s
      · exact .refl s
  | warmRestart => exact warmRestartCommand_held next
  | clockTick => exact (clockTick_laws next).held
  | hostFrameDiscarded bytes => exact (hostFrameDiscarded_laws next).held
  | hostByteTimeout => exact (whenPowered_laws next (withFrame_laws discardLate_laws s)).held
  | storeWriteBegin => exact storeWriteBegin_held next
  | storeWriteEnd agrees => exact (storeWriteEnd_laws next).held
  | supervisionTimerExpires => exact (supervisionTimer_laws next).held
  | hostCurtailExpires => exact (hostCurtailExpires_laws next).held
  | lightOverrideExpires z => exact (lightOverrideExpires_laws next).held
  | terminalInputChange t closed =>
    cases next
    exact (rawChange_laws t closed s).held
  | restartTimerExpires t => exact (restartTimer_laws next).held
  | analogConversion t mv => exact (analogConversion_laws next).held
  | meterPulse t => exact (meterPulse_laws next).held
  | mainPowerLoss => exact (mainPowerLoss_laws next).held
  | startByte => exact (whenPowered_laws next (receiveByte_laws _ s)).held
  | replySent => exact (replySent_laws next).held
  | _ => simp_all [Claims.isFieldEvent, Claims.requestCode]

end Sys2Proof.Machine

namespace Sys2Proof.Proofs

open Sys2Proof.Machine Sys2Proof.Claims

/-- Settles O7: the law of the table is a field of what every command keeps. -/
theorem everyStepKeepsPresenceLawful : Obligations.EveryStepKeepsPresenceLawful :=
  keptByStep_of_exec (fun _ h => h) (fun _ _ h => h) fun _ _ _ next => (exec_laws next).presence

/-- Settles O8: the records match by `Keeps`; the numbers of the zones' records rise, as they are those of the zones
defined, and so the zones' law is kept with that of the table. -/
theorem everyStepKeepsZonesLawful : Obligations.EveryStepKeepsZonesLawful := by
  refine keptByStep_of_exec (fun _ h => h) (fun _ _ h => h) fun c s t next => ?_
  rintro ⟨records, law, zones⟩
  obtain ⟨u, answered, keeps⟩ := exec_keeps c s
  rw [answered] at next
  cases next
  obtain ⟨-, zoneNumbers, -⟩ := id records
  have ordered : slotWf s.zones = true := (slotWf_congr zoneNumbers).trans law.1.1
  have held := exec_laws answered
  exact ⟨keeps.records records, held.presence law, held.zones ordered law zones⟩

end Sys2Proof.Proofs


/-! PROOFS. The law of the loads (R117, R158, R179) is not kept by every step: a state whose mode is not EMERGENCY and
whose return mode is EMERGENCY is lawful whatever its loads stand at, and the release timer's expiry takes it into
EMERGENCY with the loads as they are. No run reaches such a state (R183, `modeLegal`), but the law alone does not
exclude it. -/

namespace Sys2Proof.Proofs

open Sys2Proof.Machine

/-- A light of 500 W on node A.3. -/
def lightOnNode : LoadDef := ⟨.light, 0, ⟨.a, 3, 8⟩, 500, .step, 1, false, 0, 0⟩

/-- The light at 0, in HOLD, and a release timer that is due and leads to EMERGENCY. -/
def releasedIntoEmergency : State := { State.reset with
  pending := [.releaseTimerExpires]
  config := { factoryConfig with loads := [(1, lightOnNode)] }
  loads := [(1, freshLoad 0 .inContact 0 lightOnNode)]
  returnMode := some .emergency
  releaseAt := some 0 }

/-- In HOLD the law asks of a load only that it does not exceed its grant. -/
theorem releasedIntoEmergency_lawful : loadsLawful releasedIntoEmergency := by
  refine ⟨by decide, by decide, fun k d r _ found => ⟨fun _ => ?_, fun emergency => absurd emergency (by decide)⟩⟩
  have member : (k, r) ∈ [(1, freshLoad 0 .inContact 0 lightOnNode)] := slotGet_mem _ _ _ found
  obtain ⟨rfl, rfl⟩ := Prod.mk.inj (List.mem_singleton.mp member)
  exact Nat.zero_le _

theorem step_releasedIntoEmergency :
    step releasedIntoEmergency = .next (leaveEmergency { releasedIntoEmergency with pending := [] }) := rfl

/-- Refutes O9: after the step the mode is EMERGENCY, and the light stands at 0 instead of its emergency value. -/
theorem not_everyStepKeepsLoadsLawful : ¬ Obligations.EveryStepKeepsLoadsLawful := by
  intro kept
  obtain ⟨-, -, law⟩ := kept _ _ releasedIntoEmergency_lawful step_releasedIntoEmergency
  obtain ⟨-, emergency⟩ := law 1 lightOnNode (freshLoad 0 .inContact 0 lightOnNode) rfl rfl
  exact absurd (emergency rfl).1 (by decide)

end Sys2Proof.Proofs


/-! SUPPORT and PROOFS. The score and the state of a node after a transaction (R39 to R42). -/

namespace Sys2Proof.Machine

/-! ## R40: the state follows the score -/

theorem judgeNode_online {now : Nat} {n : NodeRec} (h : n.state = .online) :
    (judgeNode now n).state = if 40 ≤ n.score then .silent else if 16 ≤ n.score then .degraded else .online := by
  simp only [judgeNode, h]
  split
  · rfl
  · split
    · rfl
    · exact h

theorem judgeNode_degraded {now : Nat} {n : NodeRec} (h : n.state = .degraded) :
    (judgeNode now n).state = if 40 ≤ n.score then .silent else if n.score ≤ 8 then .online else .degraded := by
  simp only [judgeNode, h]
  split
  · rfl
  · split
    · rfl
    · exact h

theorem judgeNode_unprobed {now : Nat} {n : NodeRec} (h : n.state = .unprobed) :
    (judgeNode now n).state = if 40 ≤ n.score then .silent else .unprobed := by
  simp only [judgeNode, h]
  split
  · rfl
  · exact h

theorem judgeNode_still {now : Nat} {n : NodeRec} (h : n.state = .silent ∨ n.state = .service) :
    judgeNode now n = n := by
  rcases h with h | h <;> simp only [judgeNode, h]

theorem judgeNode_score (now : Nat) (n : NodeRec) : (judgeNode now n).score = n.score := by
  unfold judgeNode
  split
  · split
    · rfl
    · split <;> rfl
  · split
    · rfl
    · split <;> rfl
  · split <;> rfl
  · rfl

theorem judgeNode_lastOutcome (now : Nat) (n : NodeRec) : (judgeNode now n).lastOutcome = n.lastOutcome := by
  unfold judgeNode
  split
  · split
    · rfl
    · split <;> rfl
  · split
    · rfl
    · split <;> rfl
  · split <;> rfl
  · rfl

/-- R40, R42: a node that falls SILENT has its first probe due 5 s later. -/
theorem judgeNode_falls {now : Nat} {n : NodeRec} (other : n.state ≠ .silent)
    (silent : (judgeNode now n).state = .silent) :
    (judgeNode now n).probeDue = some (now + 5000) := by
  revert silent
  unfold judgeNode
  split
  · split
    · exact fun _ => rfl
    · split
      · exact fun silent => nomatch silent
      · exact fun silent => absurd silent other
  · split
    · exact fun _ => rfl
    · split
      · exact fun silent => nomatch silent
      · exact fun silent => absurd silent other
  · split
    · exact fun _ => rfl
    · exact fun silent => absurd silent other
  · exact fun silent => absurd silent other

/-! ## R41, R42: probes -/

theorem isProbe_false {work : TxnWork} (h : work ≠ .probe) : isProbe work = false := by
  cases work <;> simp_all [isProbe]

/-- A transaction that is no probe, or one to a node that no probe moves: the score alone decides. -/
theorem nodeAfter_scored {now : Nat} {work : TxnWork} {outcome : TxnOutcome} {reply : Option GoodReply} {n : NodeRec}
    (h : work ≠ .probe ∨ (n.state ≠ .unprobed ∧ n.state ≠ .silent)) :
    nodeAfter now work outcome reply n = judgeNode now (scoreNode now outcome reply n) := by
  rcases h with plain | ⟨notUnprobed, notSilent⟩
  · simp only [nodeAfter, isProbe_false plain, Bool.false_eq_true, if_false]
  · have still : probeNode now (outcome == .good) (scoreNode now outcome reply n) = scoreNode now outcome reply n := by
      have state : (scoreNode now outcome reply n).state = n.state := rfl
      unfold probeNode
      split <;> simp_all
    simp only [nodeAfter, still, ite_self]

theorem nodeAfter_probe (now : Nat) (outcome : TxnOutcome) (reply : Option GoodReply) (n : NodeRec) :
    nodeAfter now .probe outcome reply n = judgeNode now (probeNode now (outcome == .good)
      (scoreNode now outcome reply n)) := rfl

theorem probeNode_lastOutcome (now : Nat) (good : Bool) (n : NodeRec) :
    (probeNode now good n).lastOutcome = n.lastOutcome := by
  unfold probeNode
  split
  · rfl
  · rfl
  · split <;> rfl
  · rfl
  · rfl

/-- A probe without a good reply leaves the state and the score. -/
theorem probeNode_failed (now : Nat) (n : NodeRec) :
    (probeNode now false n).state = n.state ∧ (probeNode now false n).score = n.score := by
  unfold probeNode
  split <;> simp_all

theorem nodeAfter_lastOutcome (now : Nat) (work : TxnWork) (outcome : TxnOutcome) (reply : Option GoodReply)
    (n : NodeRec) : (nodeAfter now work outcome reply n).lastOutcome = some outcome := by
  rw [nodeAfter, judgeNode_lastOutcome]
  split
  · exact probeNode_lastOutcome _ _ _
  · rfl

/-- R39: the score follows the outcome, but for a good probe of a node that is UNPROBED or SILENT. -/
theorem nodeAfter_score {now : Nat} {work : TxnWork} {outcome : TxnOutcome} {reply : Option GoodReply} {n : NodeRec}
    (h : work ≠ .probe ∨ outcome ≠ .good ∨ (n.state ≠ .unprobed ∧ n.state ≠ .silent)) :
    (nodeAfter now work outcome reply n).score = scoreAfter outcome n.score := by
  by_cases plain : work ≠ .probe ∨ (n.state ≠ .unprobed ∧ n.state ≠ .silent)
  · rw [nodeAfter_scored plain, judgeNode_score]
    rfl
  · have failed : (outcome == .good) = false := by
      rw [beq_eq_false_iff_ne]
      tauto
    have probe : work = .probe := by tauto
    rw [probe, nodeAfter_probe, failed, judgeNode_score, (probeNode_failed _ _).2]
    rfl

end Sys2Proof.Machine

namespace Sys2Proof.Proofs

open Sys2Proof.Machine

/-- Settles O45: the score by R39, then a probe's move (R41, R42), then the judgement of the score (R40). -/
theorem nodeScoresAndStatesFollowOutcomes : Obligations.NodeScoresAndStatesFollowOutcomes := by
  intro now work outcome reply n
  refine ⟨nodeAfter_lastOutcome _ _ _ _ _, nodeAfter_score, ?service, ?online, ?degraded, ?unprobedGood, ?unprobed,
    ?silentEnds, ?silentGood, ?silentFailed, ?falls⟩
  case service =>
    intro service
    rw [nodeAfter_scored (.inr (by simp [service])),
      judgeNode_still (n := scoreNode now outcome reply n) (.inr service)]
    exact service
  case online =>
    intro online
    rw [nodeAfter_scored (.inr (by simp [online])),
      judgeNode_online (n := scoreNode now outcome reply n) online]
    rfl
  case degraded =>
    intro degraded
    rw [nodeAfter_scored (.inr (by simp [degraded])),
      judgeNode_degraded (n := scoreNode now outcome reply n) degraded]
    rfl
  case unprobedGood =>
    rintro unprobed rfl rfl
    have probed : probeNode now true (scoreNode now .good reply n) = { enterNode now .online
        (scoreNode now .good reply n) with score := 0, probeDue := none } := by
      have state : (scoreNode now .good reply n).state = .unprobed := unprobed
      simp only [probeNode, state]
    refine ⟨?_, ?_⟩
    · rw [nodeAfter_probe, beq_self_eq_true, probed, judgeNode_online rfl]
      rfl
    · rw [nodeAfter_probe, beq_self_eq_true, probed, judgeNode_score]
  case unprobed =>
    intro unprobed notGood
    by_cases probe : work = .probe
    · have failed : (outcome == .good) = false := by
        rw [beq_eq_false_iff_ne]
        tauto
      have still := probeNode_failed now (scoreNode now outcome reply n)
      rw [probe, nodeAfter_probe, failed, judgeNode_unprobed (still.1.trans unprobed), still.2]
      rfl
    · rw [nodeAfter_scored (.inl probe),
      judgeNode_unprobed (n := scoreNode now outcome reply n) unprobed]
      rfl
  case silentEnds =>
    rintro silent rfl rfl enough
    have probed : probeNode now true (scoreNode now .good reply n) = { enterNode now .online
        (scoreNode now .good reply n) with score := 8, goodProbes := 0, probeDue := none } := by
      have state : (scoreNode now .good reply n).state = .silent := silent
      have count : 3 ≤ (scoreNode now .good reply n).goodProbes + 1 := by
        have : (scoreNode now .good reply n).goodProbes = n.goodProbes := rfl
        omega
      simp only [probeNode, state, if_pos count]
    rw [nodeAfter_probe, beq_self_eq_true, probed]
    exact ⟨rfl, rfl, rfl⟩
  case silentGood =>
    rintro silent rfl rfl few
    have probed : probeNode now true (scoreNode now .good reply n) = { scoreNode now .good reply n with
        goodProbes := n.goodProbes + 1 } := by
      have state : (scoreNode now .good reply n).state = .silent := silent
      have count : ¬ 3 ≤ (scoreNode now .good reply n).goodProbes + 1 := by
        have : (scoreNode now .good reply n).goodProbes = n.goodProbes := rfl
        omega
      simp only [probeNode, state, if_neg count]
      rfl
    rw [nodeAfter_probe, beq_self_eq_true, probed, judgeNode_still (.inl (by exact silent))]
    exact ⟨silent, rfl, rfl⟩
  case silentFailed =>
    rintro silent rfl notGood
    have failed : (outcome == .good) = false := beq_eq_false_iff_ne.mpr notGood
    have probed : probeNode now false (scoreNode now outcome reply n) = { scoreNode now outcome reply n with
        goodProbes := 0 } := by
      have state : (scoreNode now outcome reply n).state = .silent := silent
      simp only [probeNode, state]
    rw [nodeAfter_probe, failed, probed, judgeNode_still (.inl (by exact silent))]
    exact ⟨silent, rfl⟩
  case falls =>
    intro other silent
    refine judgeNode_falls ?_ silent
    split
    · unfold probeNode
      split
      · exact fun h => nomatch h
      · exact other
      · rename_i state _
        exact absurd state other
      · rename_i state _
        exact absurd state other
      · exact other
    · exact other

end Sys2Proof.Proofs


/-! SUPPORT and PROOFS. Doors: a change of state with its curtain and its presence entry (R94, R95), and what events,
values and timers make of a door (R87 to R93). -/

namespace Sys2Proof.Machine

theorem slotChange_slotChange {α : Type} (f g : α → α) (table : Table α) (k : Nat) :
    slotChange f (slotChange g table k) k = slotChange (fun x => f (g x)) table k := by
  induction table with
  | nil => rfl
  | cons e rest ih =>
    obtain ⟨j, v⟩ := e
    by_cases here : k = j
    · simp only [slotChange, if_pos here]
    · simp only [slotChange, if_neg here, ih]

/-! ## A door's record -/

/-- The door's record is replaced. -/
def withDoor (n : Nat) (x : DoorRec) (s : State) : State :=
  { s with doors := slotChange (fun _ => x) s.doors n }

theorem withDoor_doors {n : Nat} {r : DoorRec} {s : State} (found : slotGet s.doors n = some r) (x : DoorRec) :
    slotGet (withDoor n x s).doors n = some x := by
  rw [withDoor, slotGet_slotChange, if_pos rfl, found]
  rfl

theorem withDoor_withDoor (n : Nat) (x y : DoorRec) (s : State) : withDoor n x (withDoor n y s) = withDoor n x s := by
  unfold withDoor
  rw [slotChange_slotChange]

theorem changeDoor_found {n : Nat} {r : DoorRec} {s : State} (found : slotGet s.doors n = some r)
    (f : DoorRec → DoorRec) : changeDoor n f s = withDoor n (f r) s := by
  rw [changeDoor, withDoor, slotChange_eq f (fun _ => f r) _ _ r found rfl]

/-! ## A change of state -/

/-- R94: the curtain's part in a change of state. -/
def curtainMoved (s : State) (d : DoorDef) (old new : DoorState) (x : DoorRec) : DoorRec :=
  if d.curtain.isSome then curtainAfter (s.config.doorParams.runOn * 1000) s.now old new x else x

theorem enterDoorState_found {n : Nat} {d : DoorDef} {r : DoorRec} {s : State}
    (defined : slotGet s.config.doors n = some d) (found : slotGet s.doors n = some r) (new : DoorState)
    (f : DoorRec → DoorRec) : enterDoorState n new f s = handPresence n d.zone r.state new
      (withDoor n (curtainMoved s d r.state new { f r with state := new, entered := s.now }) s) := by
  simp only [enterDoorState, found, defined]
  rfl

theorem curtainMoved_open (s : State) (d : DoorDef) (old : DoorState) {new : DoorState} (x : DoorRec)
    (opens : isOpenState new = true) : curtainMoved s d old new x = Claims.curtainAsked d x := by
  unfold curtainMoved Claims.curtainAsked
  cases d.curtain with
  | none => rfl
  | some k => simp only [Option.isSome_some, curtainAfter, opens, if_true, reduceCtorEq, if_false]

theorem startRunOn_eq (s : State) (d : DoorDef) (x : DoorRec) :
    (if d.curtain.isSome then startRunOn (s.config.doorParams.runOn * 1000) s.now x else x)
      = Claims.curtainRunsOn s d x := by
  unfold Claims.curtainRunsOn
  cases d.curtain with
  | none => rfl
  | some k =>
    simp only [Option.isSome_some, if_true, reduceCtorEq, if_false, startRunOn]
    by_cases zero : s.config.doorParams.runOn = 0
    · rw [if_pos zero, if_pos (by omega)]
    · rw [if_neg zero, if_neg (by omega)]

theorem curtainMoved_closes (s : State) (d : DoorDef) {old : DoorState} (x : DoorRec) (open_ : isOpenState old = true) :
    curtainMoved s d old .closed x = Claims.curtainRunsOn s d x := by
  rw [← startRunOn_eq]
  simp only [curtainMoved, curtainAfter, open_]
  rfl

theorem curtainMoved_stays (s : State) (d : DoorDef) (x : DoorRec) : curtainMoved s d .unknown .closed x = x := by
  simp only [curtainMoved, curtainAfter]
  exact ite_self x

theorem curtainMoved_unknown (s : State) (d : DoorDef) (old : DoorState) (x : DoorRec) :
    curtainMoved s d old .unknown x
      = if x.request = 1000 ∧ x.runOn = none then Claims.curtainRunsOn s d x else x := by
  rw [← startRunOn_eq]
  have unknown : curtainAfter (s.config.doorParams.runOn * 1000) s.now old .unknown x
      = if x.request = 1000 ∧ x.runOn = none then startRunOn (s.config.doorParams.runOn * 1000) s.now x else x := by
    simp [curtainAfter, isOpenState]
  rw [curtainMoved, unknown]
  split
  · rfl
  · exact (ite_self x).symm

/-! ## Presence (R95) -/

theorem handPresence_holds {new : DoorState} (n zone : Nat) (old : DoorState) (s : State)
    (holds : holdsEntry new = true) :
    handPresence n zone old new s = holdEntry zone n s.config.doorParams.presence s := by
  simp only [handPresence, holds, if_true]

theorem handPresence_without {old new : DoorState} (n zone : Nat) (s : State) (notNew : holdsEntry new = false)
    (notOld : holdsEntry old = false) : handPresence n zone old new s = s := by
  simp only [handPresence, notNew, notOld, Bool.false_eq_true, if_false]

theorem handPresence_closes {old : DoorState} (n zone : Nat) (s : State) (held : holdsEntry old = true) :
    handPresence n zone old .closed s = releaseEntry zone n (s.config.doorParams.presence * 1000) s := by
  simp only [handPresence, held]
  rfl

theorem handPresence_unknown (n zone : Nat) (old : DoorState) (s : State) : handPresence n zone old .unknown s
    = if old = .open_ ∨ old = .heldOpen then releaseEntry zone n 2000 s else s := by
  cases old <;> rfl

section

variable {n : Nat} {d : DoorDef} {r : DoorRec} {s : State}

/-! ## Events (R87, R88) -/

/-- A door that enters OPEN or HELD_OPEN asks for its curtain and holds its entry. -/
theorem enterDoorState_holds (defined : slotGet s.config.doors n = some d) (found : slotGet s.doors n = some r)
    {new : DoorState} (f : DoorRec → DoorRec) (opens : isOpenState new = true) (holds : holdsEntry new = true) :
    enterDoorState n new f s = holdEntry d.zone n s.config.doorParams.presence
      (withDoor n (Claims.curtainAsked d { f r with state := new, entered := s.now }) s) := by
  rw [enterDoorState_found defined found, handPresence_holds _ _ _ _ holds, curtainMoved_open _ _ _ _ opens]
  rfl

theorem enterDoorState_chattering (defined : slotGet s.config.doors n = some d) (found : slotGet s.doors n = some r)
    (f : DoorRec → DoorRec) (closed : r.state = .closed) : enterDoorState n .chattering f s
      = withDoor n (Claims.curtainAsked d { f r with state := .chattering, entered := s.now }) s := by
  rw [enterDoorState_found defined found, closed, handPresence_without _ _ _ rfl rfl, curtainMoved_open _ _ _ _ rfl]

theorem enterClosed_found (defined : slotGet s.config.doors n = some d) (found : slotGet s.doors n = some r)
    (open_ : r.state = .open_ ∨ r.state = .heldOpen) : enterClosed n s
      = releaseEntry d.zone n (s.config.doorParams.presence * 1000) (withDoor n (Claims.curtainRunsOn s d { r with
        state := .closed, level := some false, openSince := none, heldFlag := false, entered := s.now }) s) := by
  have opens : isOpenState r.state = true := by rcases open_ with h | h <;> rw [h] <;> rfl
  have holds : holdsEntry r.state = true := by rcases open_ with h | h <;> rw [h] <;> rfl
  rw [enterClosed, enterDoorState_found defined found, handPresence_closes _ _ _ holds,
    curtainMoved_closes _ _ _ opens]
  rfl

theorem countTransition_bounded (now : Nat) (w : Option CountWindow) : (countTransition now w).count ≤ 65535 := by
  cases w with
  | none => exact Nat.le_of_ble_eq_true rfl
  | some w => exact Nat.min_le_right _ _

theorem quantity_of_le {n : Nat} (h : n ≤ 65535) : quantity n = some (n : Int) := by
  rw [quantity, Nat.min_eq_left h]

/-- R87: a transition within the limit. -/
theorem openTransition_enters (found : slotGet s.doors n = some r) {enters : State → State}
    (few : (countTransition s.now r.window).count ≤ s.config.doorParams.chatterLimit) :
    openTransition n r enters s
      = enters (withDoor n { r with level := some true, window := some (countTransition s.now r.window) } s) := by
  rw [openTransition, changeDoor_found found, if_neg (Nat.not_lt.mpr few)]

theorem doorOpened_closed (defined : slotGet s.config.doors n = some d) (found : slotGet s.doors n = some r)
    (closed : r.state = .closed)
    (few : (countTransition s.now r.window).count ≤ s.config.doorParams.chatterLimit) :
    doorOpened n s = holdEntry d.zone n s.config.doorParams.presence (withDoor n (Claims.curtainAsked d { r with
      state := .open_, level := some true, openSince := some s.now
      window := some (countTransition s.now r.window), entered := s.now }) s) := by
  have opens : doorOpened n s = openTransition n r (enterOpen n) s := by simp only [doorOpened, found, closed]
  rw [opens, openTransition_enters found few, enterOpen,
    enterDoorState_holds (by exact defined) (withDoor_doors found _) _ rfl rfl, withDoor_withDoor]
  rfl

theorem doorOpened_chatters (defined : slotGet s.config.doors n = some d) (found : slotGet s.doors n = some r)
    (closed : r.state = .closed)
    (many : s.config.doorParams.chatterLimit < (countTransition s.now r.window).count) :
    doorOpened n s = raise .doorChatter (.door n) (some ((countTransition s.now r.window).count : Int))
      (quantity s.config.doorParams.chatterLimit) (withDoor n (Claims.curtainAsked d { r with
        state := .chattering, level := some true, window := some (countTransition s.now r.window)
        entered := s.now }) s) := by
  have counted := quantity_of_le (countTransition_bounded s.now r.window)
  have opens : doorOpened n s = openTransition n r (enterOpen n) s := by simp only [doorOpened, found, closed]
  rw [opens, openTransition, changeDoor_found found, if_pos many, if_neg (by simp [closed]), counted,
    enterDoorState_chattering (by exact defined) (withDoor_doors found _) _ (by exact closed), withDoor_withDoor]
  rfl

theorem doorOpened_open (found : slotGet s.doors n = some r) (open_ : r.state = .open_ ∨ r.state = .heldOpen) :
    doorOpened n s = withDoor n { r with level := some true } s := by
  refine Eq.trans ?_ (changeDoor_found found fun x => { x with level := some true })
  rcases open_ with h | h <;> simp only [doorOpened, found, h]

/-- R87: a CHATTERING door counts its transitions, and stays. -/
theorem doorOpened_chattering (found : slotGet s.doors n = some r) (chattering : r.state = .chattering) :
    doorOpened n s = if r.level = some false
      then withDoor n { r with level := some true, window := some (countTransition s.now r.window) } s
      else withDoor n { r with level := some true } s := by
  have counts : doorOpened n s = if r.level = some false then openTransition n r id s
      else changeDoor n (fun x => { x with level := some true }) s := by
    simp only [doorOpened, found, chattering]
  rw [counts]
  split
  · rw [openTransition, changeDoor_found found, if_pos chattering]
    exact ite_self _
  · exact changeDoor_found found _

theorem doorOpened_unknown (found : slotGet s.doors n = some r) (unknown : r.state = .unknown) :
    doorOpened n s = s := by
  simp only [doorOpened, found, unknown]

theorem doorClosed_open (defined : slotGet s.config.doors n = some d) (found : slotGet s.doors n = some r)
    (open_ : r.state = .open_ ∨ r.state = .heldOpen) : doorClosed n s
      = releaseEntry d.zone n (s.config.doorParams.presence * 1000) (withDoor n (Claims.curtainRunsOn s d { r with
        state := .closed, level := some false, openSince := none, heldFlag := false, entered := s.now }) s) := by
  rw [← enterClosed_found defined found open_]
  rcases open_ with h | h <;> simp only [doorClosed, found, h]

theorem doorClosed_level (found : slotGet s.doors n = some r)
    (still : r.state = .closed ∨ r.state = .chattering) :
    doorClosed n s = withDoor n { r with level := some false } s := by
  refine Eq.trans ?_ (changeDoor_found found fun x => { x with level := some false })
  rcases still with h | h <;> simp only [doorClosed, found, h]

theorem doorClosed_unknown (found : slotGet s.doors n = some r) (unknown : r.state = .unknown) :
    doorClosed n s = s := by
  simp only [doorClosed, found, unknown]

/-! ## Values (R89) and the loss of a value (R92) -/

theorem refreshHold_defined (defined : slotGet s.config.doors n = some d) :
    refreshHold n s = holdEntry d.zone n s.config.doorParams.presence s := by
  simp only [refreshHold, defined]

theorem doorValue_open (defined : slotGet s.config.doors n = some d) (found : slotGet s.doors n = some r)
    (open_ : r.state = .open_ ∨ r.state = .heldOpen) :
    doorValue n true s = holdEntry d.zone n s.config.doorParams.presence s
      ∧ doorValue n false s = closingValue n s := by
  rw [← refreshHold_defined defined]
  rcases open_ with h | h <;> simp only [doorValue, found, h, and_self]

theorem doorValue_closed (found : slotGet s.doors n = some r) (closed : r.state = .closed) :
    doorValue n true s = doorOpened n s ∧ doorValue n false s = s := by
  simp only [doorValue, found, closed, and_self]

theorem doorValue_chattering (found : slotGet s.doors n = some r) (chattering : r.state = .chattering) :
    doorValue n true s = doorOpened n s ∧ doorValue n false s = doorClosed n s := by
  simp only [doorValue, found, chattering, and_self]

theorem doorValue_unknown_open (defined : slotGet s.config.doors n = some d) (found : slotGet s.doors n = some r)
    (unknown : r.state = .unknown) : doorValue n true s = holdEntry d.zone n s.config.doorParams.presence
      (withDoor n (Claims.curtainAsked d { r with
        state := .open_, level := some true, openSince := some s.now, heldFlag := false, entered := s.now }) s) := by
  simp only [doorValue, found, unknown]
  exact enterDoorState_holds defined found _ rfl rfl

theorem doorValue_unknown_closed (defined : slotGet s.config.doors n = some d) (found : slotGet s.doors n = some r)
    (unknown : r.state = .unknown) :
    doorValue n false s = withDoor n { r with state := .closed, level := some false, entered := s.now } s := by
  simp only [doorValue, found, unknown]
  rw [enterDoorState_found defined found, unknown, handPresence_without _ _ _ rfl rfl, curtainMoved_stays]

theorem doorUnknown_still (found : slotGet s.doors n = some r) (unknown : r.state = .unknown) (cause : UnknownCause) :
    doorUnknown n cause s = s := by
  simp only [doorUnknown, found, unknown, if_true]

theorem doorUnknown_enters (defined : slotGet s.config.doors n = some d) (found : slotGet s.doors n = some r)
    (known : r.state ≠ .unknown) (cause : UnknownCause) :
    doorUnknown n cause s = raise .doorUnknown (.door n) (some r.state.ctorIdx) (some cause.ctorIdx)
      (handPresence n d.zone r.state .unknown (withDoor n (curtainMoved s d r.state .unknown { r with
        state := .unknown, level := none, openSince := none, heldFlag := false, window := none
        entered := s.now }) s)) := by
  simp only [doorUnknown, found, if_neg known]
  rw [enterDoorState_found defined found]

/-! ## Timers (R90, R91, R94) -/

theorem becomeHeldOpen_found (defined : slotGet s.config.doors n = some d) (found : slotGet s.doors n = some r) :
    becomeHeldOpen n s = raise .doorHeldOpen (.door n) (some d.zone) (quantity s.config.doorParams.heldOpen)
      (holdEntry d.zone n s.config.doorParams.presence (withDoor n (Claims.curtainAsked d { r with
        state := .heldOpen, heldFlag := true, entered := s.now }) s)) := by
  simp only [becomeHeldOpen, defined]
  rw [enterDoorState_holds defined found _ rfl rfl]

theorem exec_chatterTimer (on : s.powered = true) (defined : slotGet s.config.doors n = some d)
    (found : slotGet s.doors n = some r) {w : CountWindow} (window : r.window = some w)
    (due : w.start + 60000 ≤ s.now) :
    exec (.chatterTimerExpires n) s = .next (endCounting n d r.state w s) := by
  refine (Claims.powered_on on).trans ?_
  simp only [chatterExpiry, found, defined, window]
  exact congrArg _ (whenDue_due due)

/-- R91: the judgement of a CHATTERING door's window, by its count and the value of its point. -/
theorem judgeChatter_stays {w : CountWindow} {value : Option Int} (t : Nat) (stays : 2 < w.count ∨ value = none) :
    judgeChatter n w value t s = changeDoor n (fun x => { x with window := some ⟨t, 0⟩ }) s := by
  unfold judgeChatter
  split
  · rfl
  · rename_i few
    exact absurd (stays.resolve_left (of_decide_eq_false few)) (by simp)
  · rename_i few
    exact absurd (stays.resolve_left (of_decide_eq_false few)) (by simp)
  · rfl

theorem judgeChatter_closes {w : CountWindow} (t : Nat) (few : w.count ≤ 2) :
    judgeChatter n w (some 0) t s = enterDoorState n .closed
      (fun x => { x with level := some false, openSince := none, heldFlag := false, window := none }) s := by
  simp only [judgeChatter, decide_eq_false (Nat.not_lt.mpr few)]

theorem judgeChatter_opens {w : CountWindow} {v : Int} (t : Nat) (few : w.count ≤ 2) (open_ : v ≠ 0) :
    judgeChatter n w (some v) t s = enterDoorState n .open_
      (fun x => { x with level := some true, openSince := some t, window := none }) s := by
  unfold judgeChatter
  split
  · rename_i many
    exact absurd (of_decide_eq_true many) (Nat.not_lt.mpr few)
  · rename_i zero
    exact absurd (Option.some.inj zero) open_
  · rfl
  · rename_i gone
    cases gone

theorem endCounting_stays (found : slotGet s.doors n = some r) {w : CountWindow} (chattering : r.state = .chattering)
    (stays : 2 < w.count ∨ (getPoint s d.binding).bind PointRec.value = none) :
    endCounting n d r.state w s = withDoor n { r with window := some ⟨w.start + 60000, 0⟩ } s := by
  rw [endCounting, if_pos chattering, judgeChatter_stays _ stays]
  exact changeDoor_found found _

theorem endCounting_closes (defined : slotGet s.config.doors n = some d) (found : slotGet s.doors n = some r)
    {w : CountWindow} (chattering : r.state = .chattering) (few : w.count ≤ 2)
    (value : (getPoint s d.binding).bind PointRec.value = some 0) :
    endCounting n d r.state w s = withDoor n (Claims.curtainRunsOn s d { r with
      state := .closed, level := some false, openSince := none, heldFlag := false, window := none
      entered := s.now }) s := by
  rw [endCounting, if_pos chattering, value, judgeChatter_closes _ few, enterDoorState_found defined found, chattering,
    handPresence_without _ _ _ rfl rfl, curtainMoved_closes _ _ _ rfl]

theorem endCounting_opens (defined : slotGet s.config.doors n = some d) (found : slotGet s.doors n = some r)
    {w : CountWindow} (chattering : r.state = .chattering) (few : w.count ≤ 2) {v : Int}
    (value : (getPoint s d.binding).bind PointRec.value = some v) (open_ : v ≠ 0) :
    endCounting n d r.state w s = holdEntry d.zone n s.config.doorParams.presence
      (withDoor n (Claims.curtainAsked d { r with
        state := .open_, level := some true, openSince := some (w.start + 60000), window := none
        entered := s.now }) s) := by
  rw [endCounting, if_pos chattering, value, judgeChatter_opens _ few open_,
    enterDoorState_holds defined found _ rfl rfl]
  rfl

end

end Sys2Proof.Machine

namespace Sys2Proof.Proofs

open Sys2Proof.Machine Sys2Proof.Claims

/-- The end of a chatter window (R87, R91). -/
theorem chatterTimer_ends {n : Nat} {d : DoorDef} {r : DoorRec} {s : State} {w : CountWindow}
    (on : s.powered = true) (defined : slotGet s.config.doors n = some d) (found : slotGet s.doors n = some r)
    (window : r.window = some w) (due : w.start + 60000 ≤ s.now) : chatterEnds n d r w s := by
  have ends := exec_chatterTimer on defined found window due
  refine ⟨fun other => ?_, fun chattering => ⟨fun stays => ?_, fun few value => ?_, fun v few value open_ => ?_⟩⟩
  · rw [ends, endCounting, if_neg other, changeDoor_found found]
    rfl
  · rw [ends, endCounting_stays found chattering stays]
    rfl
  · rw [ends, endCounting_closes defined found chattering few value]
    rfl
  · rw [ends, endCounting_opens defined found chattering few value open_]
    rfl

/-- Settles O54: each move by the rule of its event, value or timer. -/
theorem doorsFollowEventsAndTimers : Obligations.DoorsFollowEventsAndTimers := by
  intro n d r s defined found
  refine ⟨?opens, ?chatters, doorOpened_open found, ?counted, ?level, ?unknown, doorClosed_open defined found,
    doorClosed_level found, doorValue_closed found, ?value, doorValue_chattering found,
    fun unknown => ⟨doorValue_unknown_open defined found unknown, doorValue_unknown_closed defined found unknown⟩,
    fun cause unknown => doorUnknown_still found unknown cause, ?lost, ?noBoost, ?boost,
    becomeHeldOpen_found defined found, fun on => ⟨?heldOpen, ?notOpen,
      fun w window due => chatterTimer_ends on defined found window due, ?noWindow, ?runOn, ?noRunOn⟩⟩
  case opens =>
    intro closed few
    exact doorOpened_closed defined found closed few
  case chatters =>
    intro closed many
    exact doorOpened_chatters defined found closed many
  case counted =>
    intro chattering level
    rw [doorOpened_chattering found chattering, if_pos level]
    rfl
  case level =>
    intro chattering level
    rw [doorOpened_chattering found chattering, if_neg level]
    rfl
  case unknown => exact fun unknown => ⟨doorOpened_unknown found unknown, doorClosed_unknown found unknown⟩
  case value =>
    intro open_
    obtain ⟨opens, closes⟩ := doorValue_open defined found open_
    refine ⟨opens, fun present => ?_, fun evicted => ?_⟩
    · rw [closes, closingValue, if_neg (by simpa using present), refreshHold_defined defined]
    · rw [closes, closingValue, if_pos (by simpa using evicted)]
  case lost =>
    intro cause known
    rw [doorUnknown_enters defined found known, handPresence_unknown, curtainMoved_unknown]
    rfl
  case noBoost => exact fun z other => if_pos other
  case boost =>
    intro z open_
    rw [boostTo, if_neg (not_not.mpr open_)]
    simp only [eq_comm (a := d.zone), List.contains_iff_mem]
  case heldOpen =>
    intro since open_ at_ due
    have timer : (slotGet s.doors n).bind (heldOpenAt s.config)
        = some (since + s.config.doorParams.heldOpen * 1000) := by
      rw [found, Option.bind_some, heldOpenAt, if_pos open_, at_]
      rfl
    refine (powered_on on).trans ?_
    simp only [timer]
    exact congrArg _ (whenDue_due due)
  case notOpen =>
    intro other
    have timer : (slotGet s.doors n).bind (heldOpenAt s.config) = none := by
      rw [found, Option.bind_some, heldOpenAt, if_neg other]
    refine powered_still ?_
    simp only [timer]
  case noWindow =>
    intro none
    refine powered_still ?_
    simp only [chatterExpiry, found, defined, none]
  case runOn =>
    intro t at_ due
    refine (powered_on on).trans ?_
    simp only [runOnExpiry, found, Option.bind_some, at_]
    rw [whenDue_due due, changeDoor_found found]
    rfl
  case noRunOn =>
    intro none
    refine powered_still ?_
    simp only [runOnExpiry, found, Option.bind_some, none]

end Sys2Proof.Proofs


/-! SUPPORT and PROOFS. Loads: their commands (R140), and what their nodes' contact states and timers make of them
(R122, R123). -/

namespace Sys2Proof.Machine

/-! ## Deliveries without a door -/

theorem handDoors_none {p : PointRef} {s : State} (none_ : doorsAt s.config p = []) (v : Int) :
    handDoors p v s = s := by
  rw [handDoors, none_]
  exact ite_self s

/-- R68: the record of a point that the terminal block delivers to. -/
def freshAt (now : Nat) (v : Int) (r : PointRec) : PointRec :=
  { r with value := some v, time := some now, status := .fresh }

theorem deliverTerminal_eq (t : Nat) (v : Int) (s : State) : deliverTerminal t v s
    = handDoors (terminalPoint t) v (changePoint (terminalPoint t) (freshAt s.now v) s) := rfl

/-- A point with a record that is FRESH after the delivery hands the value to its doors. -/
theorem deliverTerminal_found {t : Nat} {q : PointRec} {s : State} (found : getPoint s (terminalPoint t) = some q)
    (v : Int) : deliverTerminal t v s = forEach (doorsAt s.config (terminalPoint t)) (fun d => doorValue d (v != 0))
      (changePoint (terminalPoint t) (freshAt s.now v) s) := by
  rw [deliverTerminal_eq, handDoors]
  have fresh : getPoint (changePoint (terminalPoint t) (freshAt s.now v) s) (terminalPoint t)
      = some (freshAt s.now v q) := by
    rw [getPoint, changePoint, slotGet_slotChange, if_pos rfl]
    exact congrArg _ found
  rw [fresh]
  rfl

theorem deliverTerminal_none {t : Nat} {s : State} (none_ : doorsAt s.config (terminalPoint t) = []) (v : Int) :
    deliverTerminal t v s = changePoint (terminalPoint t) (freshAt s.now v) s :=
  handDoors_none (s := changePoint (terminalPoint t) (freshAt s.now v) s) none_ v

/-! ## Commands -/

/-- R140: the record of a load that has been commanded. -/
def commanded (now applied : Nat) (r : LoadRec) : LoadRec :=
  { r with lastCommand := some applied, refreshAt := now + 30000 }

/-- A command to a field node joins the line's queue. -/
theorem issueCommand_field {k : Nat} {d : LoadDef} {r : LoadRec} {l : LineId} {s : State}
    (defined : slotGet s.config.loads k = some d) (found : slotGet s.loads k = some r)
    (bus : d.binding.bus = busOf l) : issueCommand k s = queueWrite l d.binding.addr d.binding.point
      (writtenValue d.drive r.applied) .internal (changeLoad k (commanded s.now r.applied) s) := by
  have line : lineOf d.binding.bus = some l := by rw [bus, lineOf_busOf]
  simp only [issueCommand, defined, found, line]
  rfl

/-- A command to the terminal block drives its terminal. -/
theorem issueCommand_terminal {k : Nat} {d : LoadDef} {r : LoadRec} {s : State}
    (defined : slotGet s.config.loads k = some d) (found : slotGet s.loads k = some r) (bus : d.binding.bus = .t) :
    issueCommand k s
      = driveTerminal (d.binding.point + 1) r.applied (changeLoad k (commanded s.now r.applied) s) := by
  simp only [issueCommand, defined, found, bus]
  rfl

theorem driven_loads (t v : Nat) (s : State) : (driven t v s).loads = s.loads := by
  rw [(driven_side t v s).frame]

theorem driveTerminal_loads (t v : Nat) (s : State) : (driveTerminal t v s).loads = s.loads := by
  unfold driveTerminal
  split
  · exact driven_loads _ _ _
  · exact driven_loads _ _ _
  · rfl

theorem queueWrite_loads (l : LineId) (node point value : Nat) (origin : Origin) (s : State) :
    (queueWrite l node point value origin s).loads = s.loads := by
  rw [queueWrite_eq, setLine_frame]

/-- R140: a command changes of the loads only the record of its own. -/
theorem issueCommand_loads {k : Nat} {d : LoadDef} {r : LoadRec} {s : State}
    (defined : slotGet s.config.loads k = some d) (found : slotGet s.loads k = some r) :
    (issueCommand k s).loads = slotChange (commanded s.now r.applied) s.loads k := by
  cases bus : d.binding.bus with
  | a => rw [issueCommand_field defined found (l := .a) bus, queueWrite_loads, changeLoad]
  | b => rw [issueCommand_field defined found (l := .b) bus, queueWrite_loads, changeLoad]
  | t => rw [issueCommand_terminal defined found bus, driveTerminal_loads, changeLoad]

/-- R64: a DIM_OUT terminal without doors takes the fraction, and its point the value. -/
theorem driveTerminal_dim {t v : Nat} {s : State} (dim : functionOf s.config t = .dimOut)
    (none_ : doorsAt s.config (terminalPoint t) = []) : driveTerminal t v s = { s with
      terminals := slotChange (fun r => { r with dimMillivolts := 10 * v }) s.terminals t
      points := slotChange (fun r => { r with
        lastWrite := .ok, tries := 1, value := some (v : Int), time := some s.now, status := .fresh }) s.points
        (pointKey (terminalPoint t)) } := by
  simp only [driveTerminal, dim, driven]
  rw [deliverTerminal_none (by exact none_)]
  simp only [changePoint, changeTerminal, slotChange_slotChange]
  rfl

/-! ## Contact states -/

section

variable {k : Nat} {d : LoadDef} {r : LoadRec} {s : State}

theorem loadTakesContact_same (defined : slotGet s.config.loads k = some d) (found : slotGet s.loads k = some r)
    {new : Contact} (same : r.controlled = isControlledIn new) : loadTakesContact new k s = s := by
  simp only [loadTakesContact, defined, found, same, if_true]

theorem loadTakesContact_loses (defined : slotGet s.config.loads k = some d) (found : slotGet s.loads k = some r)
    {new : Contact} (controlled : r.controlled = true) (lost : isControlledIn new = false) :
    loadTakesContact new k s
      = changeLoad k (loseLoad s.now s.config.budget.nodeHold d.fallback r.applied) s := by
  simp only [loadTakesContact, defined, found, controlled, lost, if_true, Bool.false_eq_true, if_false]

theorem loadTakesContact_readmits (defined : slotGet s.config.loads k = some d) (found : slotGet s.loads k = some r)
    {new : Contact} (lost : r.controlled = false) (controlled : isControlledIn new = true) :
    loadTakesContact new k s
      = checkCommand k (changeLoad k (readmitLoad (readmittedFraction s d.kind)) s) := by
  simp only [loadTakesContact, defined, found, controlled, lost, Bool.true_eq_false, if_false, Bool.false_eq_true]

/-- R140: a check leaves a load's record, or marks it commanded. -/
theorem checkCommand_load (defined : slotGet s.config.loads k = some d) (found : slotGet s.loads k = some r) :
    slotGet (checkCommand k s).loads k = some (if commandDue s.now r then commanded s.now r.applied r else r) := by
  rw [checkCommand, found, Option.any_some]
  split
  · rw [issueCommand_loads defined found, slotGet_slotChange, if_pos rfl, found]
    rfl
  · exact found

end

end Sys2Proof.Machine

namespace Sys2Proof.Proofs

open Sys2Proof.Machine Sys2Proof.Claims

theorem exec_commandRefresh {k : Nat} {r : LoadRec} {s : State} (on : s.powered = true)
    (found : slotGet s.loads k = some r) (due : r.refreshAt ≤ s.now) :
    exec (.commandRefreshExpires k) s = .next (grantLines (issueCommand k s)) := by
  refine (powered_on on).trans ?_
  simp only [found]
  exact congrArg _ (whenDue_due due)

/-- Settles O56: the timers by their records, the commands by `issueCommand`, the contact states by
`loadTakesContact`. -/
theorem loadsFollowTheirNodesAndTimers : Obligations.LoadsFollowTheirNodesAndTimers := by
  intro k d r s defined found
  refine ⟨?held, ?notHeld, ?early, ?field, ?dim, fun new same => loadTakesContact_same defined found same, ?loses,
    ?readmits⟩
  case held =>
    intro since on running at_ due
    have timer : (slotGet s.loads k).bind (nodeHoldAt s.config) = some (since + s.config.budget.nodeHold * 1000) := by
      rw [found, Option.bind_some, nodeHoldAt, if_pos running, at_]
      rfl
    refine (powered_on on).trans ?_
    simp only [timer]
    refine congrArg _ ((whenDue_due due).trans ?_)
    simp only [takeFallback, defined]
    rfl
  case notHeld =>
    intro _ still
    have timer : (slotGet s.loads k).bind (nodeHoldAt s.config) = none := by
      rw [found, Option.bind_some, nodeHoldAt, if_neg (by simp [still])]
    refine powered_still ?_
    simp only [timer]
  case early =>
    intro _ early
    refine powered_still ?_
    simp only [found]
    exact whenDue_early early
  case field =>
    intro l on due bus
    have point : (⟨busOf l, d.binding.addr, d.binding.point⟩ : PointRef) = d.binding := by rw [← bus]
    have value : writtenValue d.drive r.applied
        = if d.drive = .modulating then r.applied else if r.applied = 1000 then 1 else 0 := by
      cases d.drive <;> rfl
    rw [exec_commandRefresh on found due, issueCommand_field defined found bus, queueWrite_eq, point, value]
    cases l <;> rfl
  case dim =>
    intro q on due binding dim none_ _
    have bus : d.binding.bus = .t := by rw [binding]; rfl
    rw [exec_commandRefresh on found due, issueCommand_terminal defined found bus,
      driveTerminal_dim (by exact dim) (by rw [← binding]; exact none_), ← binding]
    rfl
  case loses =>
    intro new controlled lost
    rw [loadTakesContact_loses defined found controlled lost, changeLoad, slotChange_eq _ _ _ _ r found]
    rfl
  case readmits =>
    intro new lost controlled
    have changed : slotGet (changeLoad k (readmitLoad (readmittedFraction s d.kind)) s).loads k
        = some (readmitLoad (readmittedFraction s d.kind) r) := by
      rw [changeLoad, slotGet_slotChange, if_pos rfl, found]
      rfl
    have checked := checkCommand_load (d := d) (by exact defined) changed
    rw [← loadTakesContact_readmits defined found lost controlled] at checked
    refine ⟨_, checked, ?_⟩
    have emergency : s.mode = .emergency →
        readmittedFraction s d.kind = emergencyFraction s.config.climate.vent d.kind := fun mode => if_pos mode
    have other : s.mode ≠ .emergency → readmittedFraction s d.kind = 0 := fun mode => if_neg mode
    split <;> exact ⟨rfl, rfl, rfl, rfl, rfl, rfl, rfl, other, emergency⟩

end Sys2Proof.Proofs


/-! SUPPORT and PROOFS. The point table (R68 to R72): deliveries, staleness, and what a report of a changed contact
state (R44) makes of the points, the doors and the loads of a node. -/

namespace Sys2Proof.Machine

/-! ## Tables -/

theorem slotChange_id {α : Type} {f : α → α} {table : Table α} {k : Nat}
    (same : ∀ r, slotGet table k = some r → f r = r) : slotChange f table k = table := by
  induction table with
  | nil => rfl
  | cons e rest ih =>
    obtain ⟨j, v⟩ := e
    by_cases here : k = j
    · have kept : f v = v := same v (by rw [slotGet, if_pos here])
      rw [slotChange, if_pos here, kept]
    · rw [slotChange, if_neg here, ih fun r found => same r (by rw [slotGet, if_neg here]; exact found)]

theorem mem_slotsWhere_used {α : Type} {table : Table α} {p : α → Bool} {k : Nat} (h : k ∈ slotsWhere p table) :
    ∃ v, slotGet table k = some v := by
  obtain ⟨v, member, -⟩ := (mem_slotsWhere p table k).mp h
  cases found : slotGet table k with
  | none => exact absurd rfl ((slotGet_none_iff _ _).mp found _ member)
  | some w => exact ⟨w, rfl⟩

/-- In a table whose numbers rise, the slots that a test picks are those whose records pass it. -/
theorem mem_slotsWhere_iff {α : Type} {table : Table α} (ordered : slotWf table = true) {p : α → Bool} {k : Nat} :
    k ∈ slotsWhere p table ↔ ∃ v, slotGet table k = some v ∧ p v = true := by
  rw [mem_slotsWhere]
  exact ⟨fun ⟨v, member, passes⟩ => ⟨v, slotGet_of_mem ordered member, passes⟩,
    fun ⟨v, found, passes⟩ => ⟨v, slotGet_mem _ _ _ found, passes⟩⟩

/-! ## What the sides leave alone -/

theorem DoorSide.points {s t : State} (h : DoorSide s t) : t.points = s.points := by rw [h.frame]

theorem DoorSide.config {s t : State} (h : DoorSide s t) : t.config = s.config := by rw [h.frame]

theorem DoorSide.now {s t : State} (h : DoorSide s t) : t.now = s.now := by rw [h.frame]

theorem PointSide.config {s t : State} (h : PointSide s t) : t.config = s.config := by rw [h.frame]

theorem PointSide.now {s t : State} (h : PointSide s t) : t.now = s.now := by rw [h.frame]

theorem PresenceSide.doors {s t : State} (h : PresenceSide s t) : t.doors = s.doors := by rw [h.frame]

theorem PresenceSide.points {s t : State} (h : PresenceSide s t) : t.points = s.points := by rw [h.frame]

theorem PresenceSide.config {s t : State} (h : PresenceSide s t) : t.config = s.config := by rw [h.frame]

/-! ## Doors that lose their value (R92) -/

/-- A step that leaves the doors as they are, or UNKNOWN. -/
structure DoorsLose (s t : State) : Prop where
  config : t.config = s.config
  doors : ∀ n x, slotGet s.doors n = some x →
    ∃ x', slotGet t.doors n = some x' ∧ (x.state = .unknown → x'.state = .unknown)

theorem DoorsLose.of_doors {s t : State} (config : t.config = s.config) (doors : t.doors = s.doors) : DoorsLose s t :=
  ⟨config, fun _ x found => ⟨x, by rw [doors]; exact found, id⟩⟩

theorem DoorsLose.refl (s : State) : DoorsLose s s := .of_doors rfl rfl

theorem DoorsLose.trans {a b c : State} (h : DoorsLose a b) (k : DoorsLose b c) : DoorsLose a c := by
  refine ⟨k.config.trans h.config, fun n x found => ?_⟩
  obtain ⟨y, foundY, keepsY⟩ := h.doors n x found
  obtain ⟨z, foundZ, keepsZ⟩ := k.doors n y foundY
  exact ⟨z, foundZ, keepsZ ∘ keepsY⟩

/-- The door stands, and stands in UNKNOWN. -/
def isUnknown (s : State) (n : Nat) : Prop := ∃ x, slotGet s.doors n = some x ∧ x.state = .unknown

theorem DoorsLose.unknown {s t : State} (h : DoorsLose s t) {n : Nat} (before : isUnknown s n) : isUnknown t n := by
  obtain ⟨x, found, unknown⟩ := before
  obtain ⟨y, foundY, keeps⟩ := h.doors n x found
  exact ⟨y, foundY, keeps unknown⟩

theorem curtainRunsOn_state (s : State) (d : DoorDef) (x : DoorRec) : (Claims.curtainRunsOn s d x).state = x.state := by
  unfold Claims.curtainRunsOn
  split
  · rfl
  · split <;> rfl

theorem curtainMoved_unknown_state (s : State) (d : DoorDef) (old : DoorState) {x : DoorRec}
    (unknown : x.state = .unknown) : (curtainMoved s d old .unknown x).state = .unknown := by
  rw [curtainMoved_unknown]
  split
  · rw [curtainRunsOn_state, unknown]
  · exact unknown

/-- R92: the record of a door that loses its value, but for its curtain. -/
def lostDoor (now : Nat) (r : DoorRec) : DoorRec :=
  { r with state := .unknown, level := none, openSince := none, heldFlag := false, window := none, entered := now }

/-- The doors after a loss: the record of the one, in UNKNOWN, and the others as they were. -/
theorem doorUnknown_doors {n : Nat} {d : DoorDef} {r : DoorRec} {s : State}
    (defined : slotGet s.config.doors n = some d) (found : slotGet s.doors n = some r) (cause : UnknownCause) :
    ∃ x, x.state = .unknown ∧ (doorUnknown n cause s).doors = slotChange (fun _ => x) s.doors n := by
  by_cases unknown : r.state = .unknown
  · refine ⟨r, unknown, ?_⟩
    rw [doorUnknown_still found unknown, slotChange_id fun x again => Option.some.inj (found.symm.trans again)]
  · refine ⟨_, curtainMoved_unknown_state s d r.state (x := lostDoor s.now r) rfl, ?_⟩
    rw [doorUnknown_enters defined found unknown]
    exact (handPresence_pres n d.zone r.state .unknown _).doors

theorem doorUnknown_undefined {n : Nat} {s : State} (absent : slotGet s.config.doors n = none) (cause : UnknownCause) :
    (doorUnknown n cause s).doors = s.doors := by
  cases found : slotGet s.doors n with
  | none => simp only [doorUnknown, found]
  | some r =>
    simp only [doorUnknown, enterDoorState, found, absent]
    split <;> rfl

theorem doorUnknown_absent {n : Nat} {s : State} (absent : slotGet s.doors n = none) (cause : UnknownCause) :
    doorUnknown n cause s = s := by
  simp only [doorUnknown, absent]

theorem doorUnknown_loses (n : Nat) (cause : UnknownCause) (s : State) : DoorsLose s (doorUnknown n cause s) := by
  cases found : slotGet s.doors n with
  | none =>
    rw [doorUnknown_absent found]
    exact .refl s
  | some r =>
    cases defined : slotGet s.config.doors n with
    | none => exact .of_doors (doorUnknown_side n cause s).config (doorUnknown_undefined defined cause)
    | some d =>
      obtain ⟨x, unknown, doors⟩ := doorUnknown_doors defined found cause
      refine ⟨(doorUnknown_side n cause s).config, fun j y foundY => ?_⟩
      rw [doors, slotGet_slotChange]
      by_cases here : j = n
      · subst here
        rw [if_pos rfl, found]
        exact ⟨x, rfl, fun _ => unknown⟩
      · rw [if_neg here]
        exact ⟨y, foundY, id⟩

/-- A defined door that loses its value is UNKNOWN. -/
theorem doorUnknown_isUnknown {n : Nat} {x : DoorRec} {s : State} (defined : (slotGet s.config.doors n).isSome)
    (found : slotGet s.doors n = some x) (cause : UnknownCause) : isUnknown (doorUnknown n cause s) n := by
  obtain ⟨d, defined⟩ := Option.isSome_iff_exists.mp defined
  obtain ⟨y, unknown, doors⟩ := doorUnknown_doors defined found cause
  refine ⟨y, ?_, unknown⟩
  rw [doors, slotGet_slotChange, if_pos rfl, found]
  rfl

theorem forEach_doorUnknown_loses (ns : List Nat) (cause : UnknownCause) (s : State) :
    DoorsLose s (forEach ns (fun n => doorUnknown n cause) s) :=
  forEach_related .refl .trans _ (fun n t => doorUnknown_loses n cause t) ns s

theorem forEach_doorUnknown_side (ns : List Nat) (cause : UnknownCause) (s : State) :
    DoorSide s (forEach ns (fun n => doorUnknown n cause) s) :=
  forEach_related .refl .trans _ (fun n t => doorUnknown_side n cause t) ns s

theorem forEach_doorUnknown_isUnknown {ns : List Nat} {n : Nat} {x : DoorRec} {s : State} (member : n ∈ ns)
    (defined : (slotGet s.config.doors n).isSome) (found : slotGet s.doors n = some x) (cause : UnknownCause) :
    isUnknown (forEach ns (fun n => doorUnknown n cause) s) n := by
  induction ns generalizing s x with
  | nil => cases member
  | cons m rest ih =>
    rw [forEach_cons]
    have moved := doorUnknown_loses m cause s
    rcases List.mem_cons.mp member with rfl | later
    · exact (forEach_doorUnknown_loses rest cause _).unknown (doorUnknown_isUnknown defined found cause)
    · obtain ⟨y, foundY, -⟩ := moved.doors n x found
      exact ih later (by rw [moved.config]; exact defined) foundY

/-! ## Marks (R69, R70) -/

/-- R70: the record of a point after a report of its node. -/
def markedPoint (new : Contact) (down : Bool) (q : PointRec) : PointRec :=
  { q with status := Claims.reportedStatus new down q.status }

theorem markStale_points (p : PointRef) (s : State) : (markStale p s).points
    = slotChange (fun x => { x with status := staleStatus x.status }) s.points (pointKey p) := by
  unfold markStale
  split
  · rename_i absent
    exact (slotChange_id fun r found => absurd (absent.symm.trans found) (by simp)).symm
  · dsimp only
    split
    · exact (forEach_doorUnknown_side _ _ _).points
    · rfl

/-- A point that holds a value goes STALE, and its doors are told. -/
theorem markStale_goes {p : PointRef} {q : PointRec} {s : State} (found : getPoint s p = some q)
    (holds : q.status ≠ staleStatus q.status) : markStale p s
      = forEach (doorsAt s.config p) (fun d => doorUnknown d .stalePoint)
        (changePoint p (fun x => { x with status := staleStatus x.status }) s) := by
  simp only [markStale, found, if_pos holds]

theorem markStale_loses (p : PointRef) (s : State) : DoorsLose s (markStale p s) := by
  unfold markStale
  split
  · exact .refl s
  · have marked : DoorsLose s (changePoint p (fun x => { x with status := staleStatus x.status }) s) :=
      .of_doors rfl rfl
    dsimp only
    split
    · exact marked.trans (forEach_doorUnknown_loses _ _ _)
    · exact marked

theorem contactMark_loses (new : Contact) (down : Bool) (p : PointRef) (s : State) :
    DoorsLose s (contactMark new down p s) := by
  unfold contactMark
  split
  · unfold inContactMark
    split
    · exact markStale_loses p s
    · exact .refl s
  · exact .of_doors rfl rfl
  · exact markStale_loses p s

theorem staleStatus_eq (new : Contact) {down : Bool} (other : new ≠ .inContact)
    (marks : ¬ (new = .inService ∧ down = false)) (status : PointStatus) :
    staleStatus status = Claims.reportedStatus new down status := by
  cases status <;> simp [staleStatus, Claims.reportedStatus, other, marks]

/-- R70: a report marks the record of the point alone. -/
theorem contactMark_points (new : Contact) (down : Bool) (p : PointRef) (s : State) :
    (contactMark new down p s).points = slotChange (markedPoint new down) s.points (pointKey p) := by
  have staled : new ≠ .inContact → ¬ (new = .inService ∧ down = false) →
      (markStale p s).points = slotChange (markedPoint new down) s.points (pointKey p) := fun other marks => by
    rw [markStale_points]
    congr 1
    funext q
    rw [markedPoint, staleStatus_eq new other marks]
  unfold contactMark
  split
  · unfold inContactMark
    cases found : getPoint s p with
    | none => exact (slotChange_id fun r at_ => absurd (found.symm.trans at_) (by simp)).symm
    | some q =>
      rw [Option.any_some]
      split
      · rename_i service
        have status : q.status = .service := by simpa using service
        rw [markStale_points]
        exact slotChange_eq _ _ _ _ q found (by simp [markedPoint, Claims.reportedStatus, status, staleStatus])
      · rename_i service
        have status : q.status ≠ .service := by simpa using service
        refine (slotChange_id fun r at_ => ?_).symm
        obtain rfl : q = r := Option.some.inj (found.symm.trans at_)
        simp [markedPoint, Claims.reportedStatus, status]
  · refine congrArg (fun f => slotChange f s.points (pointKey p)) (funext fun q => ?_)
    obtain ⟨_, status, _⟩ := q
    cases status <;> rfl
  · rename_i notContact notService
    refine staled (fun h => ?_) (fun h => ?_)
    · exact absurd h (by simpa using notContact)
    · exact notService h.1 h.2

/-- R69, R70, R72: a point that a report makes STALE leaves its doors UNKNOWN. -/
theorem contactMark_isUnknown {new : Contact} {down : Bool} {p : PointRef} {q : PointRec} {s : State} {n : Nat}
    {x : DoorRec} (found : getPoint s p = some q) (before : q.status ≠ .stale)
    (after : (markedPoint new down q).status = .stale) (member : n ∈ doorsAt s.config p)
    (door : slotGet s.doors n = some x) : isUnknown (contactMark new down p s) n := by
  have lost : q.status ≠ staleStatus q.status → isUnknown (markStale p s) n := fun holds => by
    rw [markStale_goes found holds]
    have defined := Option.isSome_iff_exists.mpr (mem_slotsWhere_used member)
    exact forEach_doorUnknown_isUnknown (s := changePoint p _ s) member defined door _
  unfold contactMark
  split
  · have service : q.status = .service := by
      by_contra other
      simp [markedPoint, Claims.reportedStatus, other, before] at after
    rw [inContactMark, found, Option.any_some, service]
    exact lost (by simp [service, staleStatus])
  · exact absurd after (by cases h : q.status <;> simp [markedPoint, Claims.reportedStatus, h])
  · refine lost fun same => ?_
    rename_i notContact notService
    refine before ?_
    have other : new ≠ .inContact := fun h => by simpa using notContact h
    rw [same, staleStatus_eq new other fun h => notService h.1 h.2]
    exact after

/-! ## A report to the points of a node -/

theorem nodePoints_nodup (c : RunningConfig) (bus : Bus) (addr : Nat) :
    ((nodePoints c bus addr).map pointKey).Nodup := by
  rw [nodePoints, List.map_map]
  refine List.Nodup.map (fun i j same => ?_) List.nodup_range
  simp only [Function.comp_apply, pointKey] at same
  omega

theorem mem_nodePoints {c : RunningConfig} {bus : Bus} {addr i : Nat} :
    (⟨bus, addr, i⟩ : PointRef) ∈ nodePoints c bus addr ↔ pointDefined c ⟨bus, addr, i⟩ = true := by
  simp only [nodePoints, List.mem_map, List.mem_range, PointRef.mk.injEq, true_and, pointDefined]
  cases pointCount c bus addr <;> simp

theorem contactMark_getPoint_ne {new : Contact} {down : Bool} {p r : PointRef} {s : State}
    (apart : pointKey r ≠ pointKey p) : getPoint (contactMark new down p s) r = getPoint s r := by
  rw [getPoint, contactMark_points, slotGet_slotChange, if_neg apart, getPoint]

section

variable {new : Contact} {down : Bool}

/-- The marks of points with different keys mark each record once, and no other. -/
theorem marks_points {ps : List PointRef} (nodup : (ps.map pointKey).Nodup) (s : State) (k : Nat) :
    slotGet (forEach ps (contactMark new down) s).points k
      = if k ∈ ps.map pointKey then (slotGet s.points k).map (markedPoint new down) else slotGet s.points k := by
  induction ps generalizing s with
  | nil => rfl
  | cons p rest ih =>
    obtain ⟨once, nodup⟩ := List.nodup_cons.mp nodup
    rw [forEach_cons, ih nodup, contactMark_points, slotGet_slotChange]
    by_cases here : k = pointKey p
    · subst here
      rw [if_neg once, if_pos rfl, List.map_cons, if_pos List.mem_cons_self]
    · rw [if_neg here, List.map_cons]
      simp only [List.mem_cons, here, false_or]

theorem marks_loses (ps : List PointRef) (s : State) : DoorsLose s (forEach ps (contactMark new down) s) :=
  forEach_related .refl .trans _ (contactMark_loses new down) ps s

theorem marks_isUnknown {ps : List PointRef} (nodup : (ps.map pointKey).Nodup) {p : PointRef} {q : PointRec}
    {s : State} {n : Nat} {x : DoorRec} (listed : p ∈ ps) (found : getPoint s p = some q) (before : q.status ≠ .stale)
    (after : (markedPoint new down q).status = .stale) (member : n ∈ doorsAt s.config p)
    (door : slotGet s.doors n = some x) : isUnknown (forEach ps (contactMark new down) s) n := by
  induction ps generalizing s x with
  | nil => cases listed
  | cons a rest ih =>
    obtain ⟨once, nodup⟩ := List.nodup_cons.mp nodup
    rw [forEach_cons]
    rcases List.mem_cons.mp listed with rfl | later
    · exact (marks_loses rest _).unknown (contactMark_isUnknown found before after member door)
    · have apart : pointKey p ≠ pointKey a := fun same => once (same ▸ List.mem_map_of_mem later)
      have moved := contactMark_loses new down a s
      obtain ⟨y, doorY, -⟩ := moved.doors n x door
      exact ih nodup later ((contactMark_getPoint_ne apart).trans found) (by rw [moved.config]; exact member) doorY

end

theorem doorContact_loses (bus : Bus) (addr : Nat) (new : Contact) (s : State) :
    DoorsLose s (doorContact bus addr new s) := by
  unfold doorContact
  dsimp only
  split
  · exact .refl s
  · exact forEach_doorUnknown_loses _ _ _
  · exact forEach_doorUnknown_loses _ _ _
  · exact forEach_doorUnknown_loses _ _ _

/-! ## A report to the loads of a node -/

/-- The record of a point but for its last write. -/
def unwritten (q : PointRec) : PointRec := { q with lastWrite := .none }

/-- What loads on a field line can change of points and doors: they queue writes. -/
structure WriteSide (s t : State) : Prop where
  config : t.config = s.config
  doors : t.doors = s.doors
  points : ∀ k, (slotGet t.points k).map unwritten = (slotGet s.points k).map unwritten

theorem WriteSide.refl (s : State) : WriteSide s s := ⟨rfl, rfl, fun _ => rfl⟩

theorem WriteSide.trans {a b c : State} (h : WriteSide a b) (k : WriteSide b c) : WriteSide a c :=
  ⟨k.config.trans h.config, k.doors.trans h.doors, fun i => (k.points i).trans (h.points i)⟩

theorem queueWrite_writes (l : LineId) (node point value : Nat) (origin : Origin) (s : State) :
    WriteSide s (queueWrite l node point value origin s) := by
  rw [queueWrite_eq, setLine_frame]
  refine ⟨rfl, rfl, fun k => ?_⟩
  simp only [slotGet_slotChange]
  split
  · rename_i same
    rw [same]
    cases slotGet s.points (pointKey ⟨busOf l, node, point⟩) <;> rfl
  · rfl

theorem changeLoad_writes (k : Nat) (f : LoadRec → LoadRec) (s : State) : WriteSide s (changeLoad k f s) :=
  ⟨rfl, rfl, fun _ => rfl⟩

/-- The load, where it is defined, is bound to a node of the line. -/
def onLine (c : RunningConfig) (l : LineId) (k : Nat) : Prop :=
  ∀ d, slotGet c.loads k = some d → d.binding.bus = busOf l

theorem issueCommand_writes {l : LineId} {k : Nat} {s : State} (field : onLine s.config l k) :
    WriteSide s (issueCommand k s) := by
  cases defined : slotGet s.config.loads k with
  | none =>
    simp only [issueCommand, defined]
    exact .refl s
  | some d =>
    cases found : slotGet s.loads k with
    | none =>
      simp only [issueCommand, defined, found]
      exact .refl s
    | some r =>
      rw [issueCommand_field defined found (field d defined)]
      exact (changeLoad_writes _ _ _).trans (queueWrite_writes _ _ _ _ _ _)

theorem checkCommand_writes {l : LineId} {k : Nat} {s : State} (field : onLine s.config l k) :
    WriteSide s (checkCommand k s) := by
  unfold checkCommand
  split
  · exact issueCommand_writes field
  · exact .refl s

theorem loadTakesContact_writes {l : LineId} {k : Nat} {s : State} (new : Contact) (field : onLine s.config l k) :
    WriteSide s (loadTakesContact new k s) := by
  unfold loadTakesContact
  split
  · split
    · exact .refl s
    · split
      · exact changeLoad_writes _ _ _
      · exact (changeLoad_writes _ _ _).trans (checkCommand_writes (l := l) field)
  · exact .refl s

theorem loadsTakeContact_writes {l : LineId} {ks : List Nat} {s : State} (new : Contact)
    (field : ∀ k ∈ ks, onLine s.config l k) : WriteSide s (forEach ks (loadTakesContact new) s) := by
  induction ks generalizing s with
  | nil => exact .refl s
  | cons k rest ih =>
    have first := loadTakesContact_writes new (field k List.mem_cons_self)
    exact first.trans (ih fun j member => by
      rw [first.config]
      exact field j (List.mem_cons_of_mem k member))

theorem nodeLoads_onLine {c : RunningConfig} (ordered : slotWf c.loads = true) (l : LineId) (addr : Nat) :
    ∀ k ∈ slotsWhere (fun d => d.binding.bus == busOf l && d.binding.addr == addr) c.loads, onLine c l k := by
  intro k member d defined
  obtain ⟨e, found, passes⟩ := (mem_slotsWhere_iff ordered).mp member
  obtain rfl : e = d := Option.some.inj (found.symm.trans defined)
  rw [Bool.and_eq_true, beq_iff_eq] at passes
  exact passes.1

theorem loadContact_writes {l : LineId} {s : State} (ordered : slotWf s.config.loads = true) (addr : Nat)
    (new : Contact) : WriteSide s (loadContact (busOf l) addr new s) :=
  loadsTakeContact_writes new (nodeLoads_onLine ordered l addr)

/-! ## A report as a whole (R44) -/

section

variable {l : LineId} {addr : Nat} {s : State}

theorem reportContact_same {bus : Bus} {old : Contact} (same : contactOf s bus addr = old) :
    reportContact bus addr old s = s := if_pos same

/-- What a report does to points and doors: the marks of the point table, then doors that are lost, then writes. -/
theorem reportContact_parts {old : Contact} (changed : contactOf s (busOf l) addr ≠ old)
    (ordered : slotWf s.config.loads = true) : ∃ t,
      DoorsLose (pointContact (busOf l) addr (contactOf s (busOf l) addr) s) t
      ∧ t.points = (pointContact (busOf l) addr (contactOf s (busOf l) addr) s).points
      ∧ WriteSide t (reportContact (busOf l) addr old s) := by
  have marked : DoorsLose s (pointContact (busOf l) addr (contactOf s (busOf l) addr) s) := marks_loses _ s
  have doors := doorContact_loses (busOf l) addr (contactOf s (busOf l) addr)
    (pointContact (busOf l) addr (contactOf s (busOf l) addr) s)
  have side := doorContact_side (busOf l) addr (contactOf s (busOf l) addr)
    (pointContact (busOf l) addr (contactOf s (busOf l) addr) s)
  have presence := presenceContact_pres (busOf l) addr (contactOf s (busOf l) addr)
    (doorContact (busOf l) addr (contactOf s (busOf l) addr)
      (pointContact (busOf l) addr (contactOf s (busOf l) addr) s))
  refine ⟨_, doors.trans (.of_doors presence.config presence.doors), presence.points.trans side.points, ?_⟩
  simp only [reportContact, if_neg changed]
  refine loadContact_writes ?_ _ _
  rw [presence.config, doors.config, marked.config]
  exact ordered

theorem busDown_busOf (l : LineId) (s : State) : busDown s (busOf l) = isDown (getLine s l) := by
  cases l <;> rfl

theorem pointContact_points (l : LineId) (addr : Nat) (new : Contact) (s : State) (k : Nat) :
    slotGet (pointContact (busOf l) addr new s).points k
      = if k ∈ (nodePoints s.config (busOf l) addr).map pointKey
        then (slotGet s.points k).map (markedPoint new (isDown (getLine s l))) else slotGet s.points k := by
  rw [pointContact, busDown_busOf]
  exact marks_points (nodePoints_nodup _ _ _) s k

/-- Points that agree but for their last write differ in that alone. -/
theorem eq_of_unwritten {q r : PointRec} (h : unwritten q = unwritten r) : q = { r with lastWrite := q.lastWrite } := by
  obtain ⟨_, _, _, _, _, _, _⟩ := q
  obtain ⟨_, _, _, _, _, _, _⟩ := r
  simp only [unwritten, PointRec.mk.injEq] at h
  obtain ⟨rfl, rfl, rfl, rfl, -, rfl, rfl⟩ := h
  rfl

theorem WriteSide.found {s t : State} (h : WriteSide s t) {k : Nat} {q : PointRec}
    (found : slotGet s.points k = some q) :
    ∃ q', slotGet t.points k = some q' ∧ q' = { q with lastWrite := q'.lastWrite } := by
  have agree := h.points k
  rw [found] at agree
  obtain ⟨q', foundQ, same⟩ := Option.map_eq_some_iff.mp agree
  exact ⟨q', foundQ, eq_of_unwritten same⟩

theorem contactReachesPoints_holds (l : LineId) (addr : Nat) (old : Contact) (s : State) :
    Claims.contactReachesPoints l addr old s := by
  refine ⟨reportContact_same, fun changed ordered few => ?_⟩
  obtain ⟨t, lost, points, writes⟩ := reportContact_parts changed ordered
  refine ⟨fun i q defined found => ?_, fun k other => ?_⟩
  · have listed := mem_nodePoints.mpr defined
    have marked : slotGet t.points (pointKey ⟨busOf l, addr, i⟩)
        = some (markedPoint (contactOf s (busOf l) addr) (isDown (getLine s l)) q) := by
      rw [points, pointContact_points, if_pos (List.mem_map_of_mem listed)]
      exact congrArg (Option.map _) found
    obtain ⟨q', foundQ, same⟩ := writes.found marked
    refine ⟨q', foundQ, same, fun before after n member x door => ?_⟩
    have stale : (markedPoint (contactOf s (busOf l) addr) (busDown s (busOf l)) q).status = .stale := by
      rw [busDown_busOf]
      rw [same] at after
      exact after
    obtain ⟨y, doorY, unknown⟩ := lost.unknown (marks_isUnknown (nodePoints_nodup s.config (busOf l) addr) listed found
      before stale member door)
    exact ⟨y, by rw [writes.doors]; exact doorY, unknown⟩
  · have apart : k ∉ (nodePoints s.config (busOf l) addr).map pointKey := fun member => by
      obtain ⟨p, listed, rfl⟩ := List.mem_map.mp member
      obtain ⟨i, inRange, rfl⟩ := List.mem_map.mp listed
      rw [List.mem_range] at inRange
      cases count : pointCount s.config (busOf l) addr with
      | none => simp [count] at inRange
      | some n =>
        rw [count, Option.getD_some] at inRange
        have := few n count
        refine other ?_
        simp only [pointKey]
        omega
    have agree := congrArg (Option.map fun q => (q.value, q.time, q.status)) (writes.points k)
    rw [points, pointContact_points, if_neg apart, Option.map_map, Option.map_map] at agree
    exact agree

end

end Sys2Proof.Machine

namespace Sys2Proof.Proofs

open Sys2Proof.Machine Sys2Proof.Claims

section

variable {p : PointRef} {r : PointRec} {s : State}

theorem deliverRead_output (found : getPoint s p = some r) (output : isOutput s.config p = true) (v : Int) :
    deliverRead p v s = changePoint p (fun r => { r with readback := some v.toNat }) s := by
  rw [deliverRead, found, if_neg (by simp), if_pos output]

/-- R68: the record of an INPUT point with the value read. -/
theorem deliverRead_input (found : getPoint s p = some r) (input : isOutput s.config p = false) (v : Int) :
    deliverRead p v s = handDoors p v (changePoint p (fun r => { r with
      value := some v, time := some s.now, status := deliveredStatus (contactOf s p.bus p.addr) }) s) := by
  rw [deliverRead, found, if_neg (by simp), if_neg (by simp [input])]
  rfl

theorem changePoint_found (found : getPoint s p = some r) (f : PointRec → PointRec) :
    getPoint (changePoint p f s) p = some (f r) := by
  rw [getPoint, changePoint, slotGet_slotChange, if_pos rfl]
  exact congrArg (Option.map f) found

theorem handDoors_fresh (found : getPoint s p = some r) (fresh : r.status = .fresh) (v : Int) :
    handDoors p v s = forEach (doorsAt s.config p) (fun d => doorValue d (v != 0)) s := by
  rw [handDoors, found, Option.any_some, fresh]
  rfl

theorem handDoors_other (found : getPoint s p = some r) (other : r.status ≠ .fresh) (v : Int) :
    handDoors p v s = s := by
  rw [handDoors, found, Option.any_some, if_neg (by simpa using other)]

theorem staleAt_running {period time : Nat} (found : getPoint s p = some r)
    (scanned : scanPeriod s.config p = some period) (fresh : r.status = .fresh) (input : isOutput s.config p = false)
    (taken : r.time = some time) : staleAt s p = some (time + max (3 * period) 2000) := by
  simp only [staleAt, found, scanned, fresh, input, taken]
  rfl

theorem staleAt_none (found : getPoint s p = some r) (still : scanPeriod s.config p = none ∨ r.status ≠ .fresh
    ∨ isOutput s.config p = true ∨ r.time = none) : staleAt s p = none := by
  simp only [staleAt, found]
  cases scanned : scanPeriod s.config p with
  | none => rfl
  | some period =>
    simp only [scanned, reduceCtorEq, false_or] at still
    rcases still with other | output | untimed
    · simp [other]
    · simp [output]
    · simp [untimed]

end

/-- Settles O50: the reports by `contactReachesPoints_holds`, a delivery by the status it leaves, the timer by
`staleAt`. -/
theorem pointsTakeValuesAndGoStale : Obligations.PointsTakeValuesAndGoStale := by
  refine ⟨contactReachesPoints_holds, fun p r s found => ⟨fun v output => deliverRead_output found output v, ?fresh,
    ?service, ?stale, ?terminal, ?expires, ?still⟩⟩
  case fresh =>
    intro v input contact
    rw [deliverRead_input found input, contact]
    exact handDoors_fresh (changePoint_found found _) rfl v
  case service =>
    intro v input contact
    rw [deliverRead_input found input, contact]
    exact handDoors_other (changePoint_found found _) (by simp [deliveredStatus]) v
  case stale =>
    intro v input notContact notService
    have status : deliveredStatus (contactOf s p.bus p.addr) = .stale := by
      cases contact : contactOf s p.bus p.addr with
      | inContact => exact absurd contact notContact
      | inService => exact absurd contact notService
      | unconfirmed => rfl
      | unreachable => rfl
    rw [deliverRead_input found input, status]
    exact handDoors_other (changePoint_found found _) (by simp) v
  case terminal =>
    rintro t v rfl
    exact deliverTerminal_found found v
  case expires =>
    intro period time scanned fresh input taken on due
    have holds : r.status ≠ staleStatus r.status := by simp [fresh, staleStatus]
    have marked : changePoint p (fun x => { x with status := staleStatus x.status }) s
        = changePoint p (fun x => { x with status := .stale }) s := by
      simp only [changePoint]
      rw [slotChange_eq _ (fun x => { x with status := .stale }) _ _ r found (by simp [fresh, staleStatus])]
    refine (powered_on on).trans ?_
    simp only [staleAt_running found scanned fresh input taken]
    rw [whenDue_due due, markStale_goes found holds, marked]
    rfl
  case still =>
    intro _ still
    refine powered_still ?_
    simp only [staleAt_none found still]

end Sys2Proof.Proofs


/-! SUPPORT and PROOFS. The event filter (R76 to R81). -/

namespace Sys2Proof.Machine

/-! ## The tests (R78) -/

theorem suitsDoor_iff (e : FieldEvent) : suitsDoor e = false
    ↔ ¬ (e.kind = .doorOpened ∧ e.value = 1) ∧ ¬ (e.kind = .doorClosed ∧ e.value = 0) := by
  unfold suitsDoor
  cases e.kind <;> simp

theorem failsIntegrity_iff (c : RunningConfig) (p : PointRef) (e : FieldEvent) : failsIntegrity c p e = true
    ↔ pointDefined c p = false
      ∨ (doorsAt c p ≠ [] ∧ ¬ (e.kind = .doorOpened ∧ e.value = 1) ∧ ¬ (e.kind = .doorClosed ∧ e.value = 0))
      ∨ (presenceZonesAt c p ≠ [] ∧ e.kind ≠ .presence)
      ∨ loadsAt c p ≠ [] ∨ isTemperaturePoint c p = true ∨ isGasPoint c p = true ∨ isDaylightPoint c p = true := by
  simp only [failsIntegrity, Bool.or_eq_true, Bool.and_eq_true, Bool.not_eq_true', List.isEmpty_eq_false_iff,
    suitsDoor_iff, bne_iff_ne, or_assoc]

theorem inClosedZone_iff (s : State) (p : PointRef) : inClosedZone s p = true
    ↔ ∃ z r, z ∈ presenceZonesAt s.config p ∧ slotGet s.zones z = some r ∧ r.state = .closed := by
  simp only [inClosedZone, List.any_eq_true, Option.any_eq_true, beq_iff_eq]
  exact ⟨fun ⟨z, listed, r, found, closed⟩ => ⟨z, r, listed, found, closed⟩,
    fun ⟨z, r, listed, found, closed⟩ => ⟨z, listed, r, found, closed⟩⟩

theorem decideOutcome_eq (f : FilterCfg) (m : MatchSet) : decideOutcome f m
    = if m.f1 = true then .rejectedIntegrity
      else if f.f2 = true ∧ m.f2 = true then .acceptedService
      else if f.f3 = true ∧ m.f3 = true then .rejectedUnbound
      else if f.f4 = true ∧ m.f4 = true then .rejectedStorm
      else if f.f5 = true ∧ m.f5 = true then .rejectedStale
      else if f.f6 = true ∧ m.f6 = true then .acceptedAlert
      else .accepted := by
  simp only [decideOutcome, Bool.and_eq_true]

/-! ## The outcome (R79) -/

theorem actOn_rejected {p : PointRef} {kind : EventKind} {outcome : FilterOutcome} (notAccepted : outcome ≠ .accepted)
    (notAlert : outcome ≠ .acceptedAlert) (s : State) : actOn p kind outcome s = s := by
  unfold actOn
  split
  · exact absurd rfl notAccepted
  · exact absurd rfl notAlert
  · rfl

theorem alertZone_closed {p : PointRef} {z : Nat} {s : State}
    (closed : ∃ r, slotGet s.zones z = some r ∧ r.state = .closed) :
    alertZone p z s = raise .closedZonePresence (.zone z) (nodeValue p.bus p.addr) (some p.point)
      (presenceEvent z p true s) := by
  obtain ⟨r, found, closed⟩ := closed
  rw [alertZone, found, Option.any_some, closed]
  rfl

theorem alertZone_other {p : PointRef} {z : Nat} {s : State}
    (other : ∀ r, slotGet s.zones z = some r → r.state ≠ .closed) :
    alertZone p z s = presenceEvent z p true s := by
  refine if_neg fun alert => ?_
  obtain ⟨r, found, closed⟩ := (Option.any_eq_true _ _).mp alert
  exact other r found (by simpa using closed)

theorem actOn_recent (p : PointRef) (kind : EventKind) (outcome : FilterOutcome) (s : State) :
    (actOn p kind outcome s).recent = s.recent := by
  rw [(actOn_side p kind outcome s).frame]

end Sys2Proof.Machine

namespace Sys2Proof.Proofs

open Sys2Proof.Machine

/-- Settles O51: the tests by their conditions, and then what `actOn` does with the outcome. -/
theorem theFilterTakesEveryEvent : Obligations.TheFilterTakesEveryEvent := by
  intro bus addr e s p w m outcome taken
  have took : takeEvent bus addr e s = actOn p e.kind outcome taken := by
    simp only [takeEvent, decideOutcome_eq]
    rfl
  have accepts : outcome = .accepted → takeEvent bus addr e s = handAccepted p e.kind taken := fun accepted => by
    rw [took, accepted]
    rfl
  refine ⟨failsIntegrity_iff s.config p e, beq_iff_eq, ?unbound, decide_eq_true_iff, decide_eq_true_iff, ?alert,
    fun notAccepted notAlert => took.trans (actOn_rejected notAccepted notAlert taken), ?opened, ?closed, ?presence,
    ?alerted, fun z x => ⟨alertZone_closed, alertZone_other⟩, ?recent⟩
  case unbound => simp [m, matchSet, p]
  case alert => simp [m, matchSet, p, inClosedZone_iff]
  case opened =>
    intro accepted kind
    rw [accepts accepted, kind]
    rfl
  case closed =>
    intro accepted kind
    rw [accepts accepted, kind]
    rfl
  case presence =>
    intro accepted kind
    rw [accepts accepted, kind]
    rfl
  case alerted =>
    intro alert
    rw [took, alert]
    rfl
  case recent =>
    rw [took, actOn_recent]

end Sys2Proof.Proofs


/-! SUPPORT and PROOFS. The presence table and the zones: what events, doors and reports do to entries (R103, R104,
R106, R112), and how a zone is judged and goes DORMANT (R109 to R111). -/

namespace Sys2Proof.Machine

/-! ## Eviction (R106) -/

theorem isDynamic_iff (e : PresenceEntry) : isDynamic e = true ↔ e.life ≠ .pinned := by
  unfold isDynamic
  cases e.life <;> simp

/-- An entry goes before another: less life left, or as much and a lower number. -/
def goesBefore (now : Nat) (a b : Nat × PresenceEntry) : Prop :=
  remainingLife now a.2 < remainingLife now b.2
    ∨ (remainingLife now a.2 = remainingLife now b.2 ∧ a.1 ≤ b.1)

theorem evictionChoice_least {now : Nat} {table : Table PresenceEntry} {b : Nat × PresenceEntry}
    (ordered : slotWf table = true) (chosen : evictionChoice now table = some b) :
    isDynamic b.2 = true ∧ ∀ x ∈ table, isDynamic x.2 = true → goesBefore now b x := by
  induction table generalizing b with
  | nil => cases chosen
  | cons e rest ih =>
    obtain ⟨above, ordered⟩ := slotWf_cons.mp ordered
    simp only [evictionChoice] at chosen
    split at chosen
    · rename_i dynamic
      split at chosen
      · rename_i alone
        obtain rfl := Option.some.inj chosen
        refine ⟨dynamic, fun x member dynamicX => ?_⟩
        rcases List.mem_cons.mp member with rfl | later
        · exact .inr ⟨rfl, le_rfl⟩
        · exact absurd dynamicX (by simp [evictionChoice_none alone x later])
      · rename_i c found
        obtain ⟨dynamicC, least⟩ := ih ordered found
        split at chosen
        · rename_i less
          obtain rfl := Option.some.inj chosen
          refine ⟨dynamic, fun x member dynamicX => ?_⟩
          rcases List.mem_cons.mp member with rfl | later
          · exact .inr ⟨rfl, le_rfl⟩
          · have number := above x later
            have after := least x later dynamicX
            unfold goesBefore at after ⊢
            omega
        · rename_i more
          obtain rfl := Option.some.inj chosen
          refine ⟨dynamicC, fun x member dynamicX => ?_⟩
          rcases List.mem_cons.mp member with rfl | later
          · exact .inl (Nat.lt_of_not_le more)
          · exact least x later dynamicX
    · rename_i still
      obtain ⟨dynamicB, least⟩ := ih ordered chosen
      refine ⟨dynamicB, fun x member dynamicX => ?_⟩
      rcases List.mem_cons.mp member with rfl | later
      · exact absurd dynamicX still
      · exact least x later dynamicX

/-- The dynamic entry that goes before every other is the one chosen. -/
theorem evictionChoice_eq {now : Nat} {table : Table PresenceEntry} {slot : Nat} {v : PresenceEntry}
    (ordered : slotWf table = true) (found : slotGet table slot = some v) (dynamic : isDynamic v = true)
    (first : ∀ x ∈ table, isDynamic x.2 = true → goesBefore now (slot, v) x) :
    evictionChoice now table = some (slot, v) := by
  have member := slotGet_mem _ _ _ found
  cases chosen : evictionChoice now table with
  | none => exact absurd dynamic (by simp [evictionChoice_none chosen _ member])
  | some b =>
    obtain ⟨k, w⟩ := b
    obtain ⟨dynamicB, least⟩ := evictionChoice_least ordered chosen
    have memberB := evictionChoice_mem chosen
    have before := least _ member dynamic
    have after := first _ memberB dynamicB
    have same : k = slot := by
      unfold goesBefore at before after
      dsimp only at before after
      omega
    subst same
    have other := slotGet_of_mem ordered memberB
    obtain rfl := Option.some.inj (other.symm.trans found)
    rfl

/-- The slot freed in a table without gaps is its lowest free slot. -/
theorem lowestFreeFrom_slotFree {α : Type} {table : Table α} {k n slot : Nat}
    (numbers : slotNumbers table = List.range' k n) (low : k ≤ slot) (high : slot < k + n) :
    lowestFreeFrom (slotFree table slot) k = slot := by
  induction n generalizing table k with
  | zero => omega
  | succ n ih =>
    cases table with
    | nil => cases numbers
    | cons e rest =>
      obtain ⟨j, v⟩ := e
      rw [List.range'_succ] at numbers
      obtain ⟨rfl, numbers⟩ := List.cons.inj numbers
      by_cases here : slot = j
      · subst here
        rw [slotFree, if_pos rfl]
        cases rest with
        | nil => rfl
        | cons e rest =>
          cases n with
          | zero => cases numbers
          | succ n =>
            obtain ⟨next, -⟩ := List.cons.inj (numbers.trans (List.range'_succ ..))
            have above : slot < e.1 := by
              have : e.1 = slot + 1 := next
              omega
            simp only [lowestFreeFrom, if_pos above]
      · rw [slotFree, if_neg here]
        simp only [lowestFreeFrom, lt_irrefl, if_false, if_true]
        exact ih numbers (by omega) (by omega)

/-- R106: an eviction. -/
def evicted (slot : Nat) (v : PresenceEntry) (s : State) : State :=
  judgeZone v.zone { s with
    presence := slotFree s.presence slot, evictedDoors := withEvicted v.source s.evictedDoors }

theorem makeRoom_room {z : Nat} {s : State} (room : s.presence.length < 96) : makeRoom z s = s := if_pos room

theorem makeRoom_evicts {z slot : Nat} {v : PresenceEntry} {s : State} (full : 96 ≤ s.presence.length)
    (chosen : evictionChoice s.now s.presence = some (slot, v)) : makeRoom z s = if s.fullReported
      then evicted slot v s
      else { raise .presenceTableFull (.zone z) (some v.zone) (some 96) (evicted slot v s) with
        fullReported := true } := by
  simp only [makeRoom, if_neg (show ¬ s.presence.length < Config.presenceSlots from Nat.not_lt.mpr full), chosen]
  rfl

theorem makeRoom_evicts_presence {z slot : Nat} {v : PresenceEntry} {s : State} (full : 96 ≤ s.presence.length)
    (chosen : evictionChoice s.now s.presence = some (slot, v)) :
    (makeRoom z s).presence = slotFree s.presence slot := by
  rw [makeRoom_evicts full chosen]
  split <;> rfl

theorem withoutEvicted_eq (source : PresenceSource) (doors : List Nat) :
    withoutEvicted source doors = doors.filter fun n => decide (source ≠ .door n) := by
  cases source with
  | door d =>
    refine List.filter_congr fun n _ => ?_
    rw [Bool.eq_iff_iff, bne_iff_ne, decide_eq_true_iff]
    exact not_congr ⟨fun same => congrArg _ same.symm, fun same => (PresenceSource.door.inj same).symm⟩
  | sensor p => exact (List.filter_eq_self.mpr fun n _ => by simp).symm
  | host => exact (List.filter_eq_self.mpr fun n _ => by simp).symm

/-! ## Reports (R112) -/

theorem sourceOn_iff (c : RunningConfig) (bus : Bus) (addr : Nat) (e : PresenceEntry) : sourceOn c bus addr e = true
    ↔ (∃ p, e.source = .sensor p ∧ p.bus = bus ∧ p.addr = addr)
      ∨ ∃ n d, e.source = .door n ∧ slotGet c.doors n = some d ∧ d.binding.bus = bus ∧ d.binding.addr = addr := by
  unfold sourceOn
  cases e.source with
  | sensor p => simp
  | door n => simp [Option.any_eq_true]
  | host => simp

theorem presenceContact_notices {bus : Bus} {addr : Nat} {new : Contact} {s : State} (other : new ≠ .inContact) :
    presenceContact bus addr new s = { s with presence := slotMap (fun _ e =>
      if sourceOn s.config bus addr e then fastAged s.now e else e) s.presence } := if_neg other

end Sys2Proof.Machine

namespace Sys2Proof.Proofs

open Sys2Proof.Machine Sys2Proof.Claims

theorem presenceMoves_hold {s : State} (ordered : slotWf s.presence = true) : presenceMoves s := by
  refine ⟨fun z p d defined => ⟨?refreshed, ?made, ?marked⟩, fun z door seconds defined => ⟨?held, ?heldNew⟩,
    fun z door seconds undefined => if_neg (by simp [undefined]), fun z door ms => ⟨?released, ?notReleased⟩,
    ?room, ?full, fun bus addr => rfl, fun bus addr new other => ⟨?frame, ?aged⟩⟩
  case refreshed =>
    intro slot present
    simp only [presenceEvent, defined, refreshEntry, present]
    rfl
  case made =>
    intro absent
    simp only [presenceEvent, defined, refreshEntry, absent]
    rfl
  case marked =>
    simp only [presenceEvent, defined, changeZone, beq_iff_eq]
    rfl
  case held =>
    intro slot present
    rw [holdEntry, if_pos defined, refreshEntry, present]
  case heldNew =>
    intro absent
    rw [holdEntry, if_pos defined, refreshEntry, absent]
  case released =>
    intro slot present
    rw [releaseEntry, present]
  case notReleased =>
    intro absent
    rw [releaseEntry, absent]
  case room =>
    intro e room
    rw [createEntry_eq, makeRoom_room room, withEntry, withoutEvicted_eq]
  case full =>
    intro e slot v numbers found mortal first t
    have full : s.presence.length = 96 := by
      rw [← List.length_map (f := Prod.fst), ← List.length_range' (s := 1) (n := 96) (step := 1)]
      exact congrArg List.length numbers
    have slotInRange : 1 ≤ slot ∧ slot < 1 + 96 := by
      have listed : slot ∈ slotNumbers s.presence := List.mem_map_of_mem (slotGet_mem _ _ _ found)
      rw [numbers, List.mem_range'_1] at listed
      exact listed
    have chosen : evictionChoice s.now s.presence = some (slot, v) :=
      evictionChoice_eq ordered found ((isDynamic_iff v).mpr mortal)
        fun x member dynamic => first x member ((isDynamic_iff x.2).mp dynamic)
    have lowest : lowestFree (slotFree s.presence slot) = slot :=
      lowestFreeFrom_slotFree numbers slotInRange.1 slotInRange.2
    have noted : t = evicted slot v s := by
      have doors : withEvicted v.source s.evictedDoors = (match v.source with
          | .door n => if n ∈ s.evictedDoors then s.evictedDoors else s.evictedDoors ++ [n]
          | _ => s.evictedDoors) := by
        cases v.source <;> simp [withEvicted]
      rw [evicted, doors] <;> rfl
    rw [createEntry_eq, makeRoom_evicts_presence full.ge chosen, lowest, withEntry, withoutEvicted_eq,
      makeRoom_evicts full.ge chosen, noted]
    refine ⟨fun reported => ?_, fun reported => ?_⟩
    · rw [if_pos reported]
    · rw [if_neg (by simp [reported])]
  case frame => rw [presenceContact_notices other]
  case aged =>
    intro slot e found onNode
    have entry : slotGet (presenceContact bus addr new s).presence slot
        = some (if sourceOn s.config bus addr e then fastAged s.now e else e) := by
      rw [presenceContact_notices other, slotGet_slotMap, found]
      rfl
    rw [entry]
    refine ⟨fun ages => ?_, fun stays => ?_⟩
    · obtain ⟨mortal, source⟩ := ages
      rw [if_pos ((sourceOn_iff _ _ _ _).mpr source), fastAged, if_pos ((isDynamic_iff e).mpr mortal)]
      rfl
    · split
      · rename_i source
        have pinned : ¬ isDynamic e = true := fun dynamic =>
          stays ⟨(isDynamic_iff e).mp dynamic, (sourceOn_iff _ _ _ _).mp source⟩
        rw [fastAged, if_neg pinned]
      · rfl

section

variable {s : State} {z : Nat} {r : ZoneRec}

theorem judged_closed (closed : inZones s.plan.openZones z = false) :
    (judged s z r).state = .closed ∧ (judged s z r).vacantSince = none ∧ (judged s z r).dormancyAt = none := by
  simp only [judged, judgedFlag, judgedZone, closed]
  exact ⟨rfl, rfl, rfl⟩

theorem judged_occupied (open_ : inZones s.plan.openZones z = true) (entry : hasEntry s z = true) :
    (judged s z r).state = .occupied ∧ (judged s z r).vacantSince = none ∧ (judged s z r).dormancyAt = none := by
  simp only [judged, judgedFlag, judgedZone, open_, entry]
  exact ⟨rfl, rfl, rfl⟩

theorem judged_stays (open_ : inZones s.plan.openZones z = true) (empty : hasEntry s z = false)
    (idle : r.state = .vacant ∨ r.state = .dormant) : (judged s z r).state = r.state
      ∧ (judged s z r).vacantSince = r.vacantSince ∧ (judged s z r).dormancyAt = r.dormancyAt := by
  have still : judgedZone true false s.now (dormancyMs s z) r = r := by
    rcases idle with state | state <;> simp [judgedZone, state]
  simp only [judged, judgedFlag, open_, empty, still, and_self]

theorem judged_vacates (open_ : inZones s.plan.openZones z = true) (empty : hasEntry s z = false)
    (busy : r.state = .closed ∨ r.state = .occupied) : (judged s z r).state = .vacant
      ∧ (judged s z r).vacantSince = some s.now ∧ (judged s z r).dormancyAt = some (s.now + dormancyMs s z) := by
  have vacated : judgedZone true false s.now (dormancyMs s z) r = { r with
      state := .vacant, vacantSince := some s.now, dormancyAt := some (s.now + dormancyMs s z) } := by
    rcases busy with state | state <;> simp [judgedZone, state]
  simp only [judged, judgedFlag, open_, empty, vacated, and_self]

theorem dormancyMs_defined {d : ZoneDef} (defined : slotGet s.config.zones z = some d) :
    dormancyMs s z = d.dormancy * 1000 := by
  rw [dormancyMs, defined]
  rfl

end

/-- Settles O55: the moves of the table, the judgement of a zone by its cases, and the two timers. -/
theorem zonesAreJudgedAndGoDormant : Obligations.ZonesAreJudgedAndGoDormant := by
  intro s
  refine ⟨presenceMoves_hold, fun z r found => ⟨judged s z r, slotGet_judgeZone found, judgeZone_frame z s,
    judged_closed, judged_occupied, judged_stays, fun d open_ empty busy defined => ?vacates, judged_intruded s z r⟩,
    ?lifeEnds, ?lifeRuns, ?dormant, ?awake⟩
  case vacates =>
    rw [← dormancyMs_defined defined]
    exact judged_vacates open_ empty busy
  case lifeEnds =>
    intro n e t on found life due
    refine (powered_on on).trans ?_
    simp only [found, Option.map_some, life]
    rw [whenDue_due due, removeEntry_found found]
  case lifeRuns =>
    intro n e on found later
    refine powered_still ?_
    simp only [found, Option.map_some]
    split
    · rename_i t life
      exact whenDue_early (later t (Option.some.inj life))
    · rfl
  case dormant =>
    intro z r t on found vacant at_ due
    refine (powered_on on).trans ?_
    simp only [found, Option.bind_some, at_]
    have falls : becomeDormant r = { r with state := .dormant, dormancyAt := none } := if_pos vacant
    rw [whenDue_due due, changeZone, slotChange_eq becomeDormant (fun _ => _) _ _ r found falls]
  case awake =>
    intro z r _ found none
    refine powered_still ?_
    simp only [found, Option.bind_some, none]

end Sys2Proof.Proofs


/-! SUPPORT and PROOFS. Meters (R59, R60, R129). -/

namespace Sys2Proof.Machine

/-! ## Terminals -/

theorem getTerminal_found {t : Nat} {r : TermRec} {s : State} (found : slotGet s.terminals t = some r) :
    getTerminal s t = r := by
  rw [getTerminal, found]
  rfl

theorem changeTerminal_found {t : Nat} {r : TermRec} {s : State} (found : slotGet s.terminals t = some r)
    (f : TermRec → TermRec) : slotGet (changeTerminal t f s).terminals t = some (f r) := by
  rw [changeTerminal, slotGet_slotChange, if_pos rfl, found]
  rfl

theorem deliverTerminal_terminals (t : Nat) (v : Int) (s : State) :
    (deliverTerminal t v s).terminals = s.terminals := by
  rw [(deliverTerminal_side t v s).frame]

theorem deliverTerminal_window (t : Nat) (v : Int) (s : State) : (deliverTerminal t v s).window = s.window := by
  rw [(deliverTerminal_side t v s).frame]

/-- R68: a delivery of the terminal block changes of the points only the terminal's. -/
theorem deliverTerminal_points (t : Nat) (v : Int) (s : State) : (deliverTerminal t v s).points
    = slotChange (freshAt s.now v) s.points (pointKey (terminalPoint t)) := by
  rw [deliverTerminal_eq, (handDoors_side _ _ _).points]
  rfl

/-! ## The measured power (R60) -/

theorem setPower_same {t power : Nat} {r : TermRec} {s : State} (found : slotGet s.terminals t = some r)
    (same : r.power = power) : setPower t power s = s := by
  rw [setPower, getTerminal_found found, if_pos same]

theorem setPower_changes {t power : Nat} {r : TermRec} {s : State} (found : slotGet s.terminals t = some r)
    (differs : r.power ≠ power) :
    setPower t power s = deliverTerminal t power (changeTerminal t (fun r => { r with power := power }) s) := by
  rw [setPower, getTerminal_found found, if_neg differs]

theorem setPower_found {t power : Nat} {r : TermRec} {s : State} (found : slotGet s.terminals t = some r) :
    slotGet (setPower t power s).terminals t = some { r with power := power } := by
  by_cases same : r.power = power
  · rw [setPower_same found same, found, ← same]
  · rw [setPower_changes found same, deliverTerminal_terminals, changeTerminal_found found]

theorem setPower_window (t power : Nat) (s : State) : (setPower t power s).window = s.window := by
  unfold setPower
  split
  · rfl
  · exact deliverTerminal_window _ _ _

/-! ## Pulses (R59) -/

section

variable {t w : Nat} {r : TermRec} {s : State}

theorem takePulse_ignored (meter : functionOf s.config t = .meterPulse w) (found : slotGet s.terminals t = some r)
    {last : Nat} (pulse : r.lastPulse = some last) (soon : s.now < last + 20) : takePulse t s = s := by
  simp only [takePulse, meter, getTerminal_found found, pulse, Option.any_some]
  exact if_pos (decide_eq_true soon)

theorem takePulse_accepted (meter : functionOf s.config t = .meterPulse w) (found : slotGet s.terminals t = some r)
    (accepted : ∀ last, r.lastPulse = some last → last + 20 ≤ s.now) : takePulse t s = acceptPulse t w s := by
  simp only [takePulse, meter, getTerminal_found found]
  refine if_neg fun locked => ?_
  obtain ⟨last, pulse, soon⟩ := (Option.any_eq_true _ _).mp locked
  have early : s.now < last + 20 := of_decide_eq_true soon
  have := accepted last pulse
  omega

theorem acceptPulse_first (found : slotGet s.terminals t = some r) (first : r.lastPulse = none) :
    acceptPulse t w s = changeTerminal t (fun x => { x with lastPulse := some s.now, zeroAt := some (s.now + 60000) })
      (addEnergy (36 * w) s) := by
  simp only [acceptPulse, getTerminal_found found, first]
  rfl

/-- From the second pulse on, the power follows from the interval. -/
theorem acceptPulse_later (found : slotGet s.terminals t = some r) {last : Nat} (pulse : r.lastPulse = some last) :
    acceptPulse t w s = changeTerminal t (fun x => { x with
        lastPulse := some s.now, zeroAt := some (s.now + min 60000 (10 * (s.now - last))) })
      (setPower t (measuredPower w (s.now - last))
        (changeTerminal t (fun x => { x with lastInterval := some (s.now - last) }) (addEnergy (36 * w) s))) := by
  simp only [acceptPulse, getTerminal_found found, pulse]
  rfl

end

theorem isMeter_true {t w : Nat} {s : State} (meter : functionOf s.config t = .meterPulse w) : isMeter s t = true := by
  simp only [isMeter, meter]

theorem isMeter_false {t : Nat} {s : State} (other : ∀ w, functionOf s.config t ≠ .meterPulse w) :
    isMeter s t = false := by
  unfold isMeter
  split
  · rename_i w meter
    exact absurd meter (other w)
  · rfl

end Sys2Proof.Machine

namespace Sys2Proof.Proofs

open Sys2Proof.Machine Sys2Proof.Claims

theorem exec_meterPulse {t w : Nat} {s : State} (on : s.powered = true)
    (meter : functionOf s.config t = .meterPulse w) :
    exec (.meterPulse t) s = .next (takePulse t (setPin t (fun p => { p with closed := true }) s)) := by
  refine congrArg Host.Outcome.next ((if_pos (isMeter_true meter)).trans ?_)
  exact if_pos on

theorem exec_meterZero {t e : Nat} {r : TermRec} {s : State} (on : s.powered = true)
    (found : slotGet s.terminals t = some r) (at_ : r.zeroAt = some e) (due : e ≤ s.now) :
    exec (.meterZeroTimerExpires t) s
      = .next (setPower t 0 (changeTerminal t (fun r => { r with zeroAt := none }) s)) := by
  refine (powered_on on).trans ?_
  simp only [getTerminal_found found, at_]
  exact congrArg _ (whenDue_due due)

/-- Settles O53: a pulse by its lockout and its interval, the zero timer by the power that stands. -/
theorem meterPulsesGiveEnergyAndPower : Obligations.MeterPulsesGiveEnergyAndPower := by
  intro t w r s on meter found u window
  have pulse : exec (.meterPulse t) s = .next (takePulse t u) := exec_meterPulse on meter
  refine ⟨?locked, ?first, ?later, ?stays, ?falls, ?idle, ?other⟩
  case locked =>
    intro last at_ soon
    rw [pulse, takePulse_ignored (s := u) meter found at_ soon]
  case first =>
    intro first
    rw [pulse, takePulse_accepted (s := u) meter found (fun last at_ => absurd (first.symm.trans at_) (by simp)),
      acceptPulse_first (s := u) found first]
    rfl
  case later =>
    intro last at_ late interval power
    have timed : slotGet (changeTerminal t (fun x => { x with lastInterval := some interval })
        (addEnergy (36 * w) u)).terminals t = some { r with lastInterval := some interval } :=
      changeTerminal_found (s := addEnergy (36 * w) u) found _
    refine ⟨acceptPulse t w u, ?_, ?_, ?_, ?_, ?_⟩
    · rw [pulse, takePulse_accepted (s := u) meter found fun x same => by
        obtain rfl : last = x := Option.some.inj (at_.symm.trans same)
        exact late]
    · rw [acceptPulse_later (s := u) found at_]
      exact setPower_window _ _ _
    · rw [acceptPulse_later (s := u) found at_]
      exact changeTerminal_found (setPower_found timed) _
    · intro same
      rw [acceptPulse_later (s := u) found at_]
      have still := congrArg State.points (setPower_same timed same)
      exact still
    · intro q differs point
      rw [acceptPulse_later (s := u) found at_]
      refine ⟨freshAt s.now power q, ?_, rfl, rfl⟩
      have changed := congrArg (fun x => slotGet x.points (pointKey (terminalPoint t))) (setPower_changes timed differs)
      refine changed.trans ?_
      rw [deliverTerminal_points, slotGet_slotChange, if_pos rfl]
      exact congrArg (Option.map _) point
  case stays =>
    intro e at_ due zero
    rw [exec_meterZero on found at_ due, setPower_same (changeTerminal_found found _) (by exact zero)]
    rfl
  case falls =>
    intro e at_ due power
    rw [exec_meterZero on found at_ due, setPower_changes (changeTerminal_found found _) (by exact power)]
    rfl
  case idle =>
    intro idle
    refine powered_still ?_
    simp only [getTerminal_found found, idle]
  case other =>
    intro t' notMeter
    exact congrArg Host.Outcome.next (if_neg (by simp [isMeter_false notMeter]))

end Sys2Proof.Proofs


/-! SUPPORT and PROOFS. The judgement of a good reply (R22, R23, R26). -/

namespace Sys2Proof.Machine

open Sys2Proof.Claims

/-- R26: a reply of its function, whole and below the cutoff of R25, is judged by its content. -/
theorem judgeReply_checked (d : NodeDef) {node : Nat} {work : TxnWork} {code : Nat} (status : Word16)
    {body : List Word16} {content : ReplyContent} (function : code = functionCode work) (short : body.length ≤ 17)
    (fits : contentOf d work (body.map BitVec.toNat) = some content) :
    judgeReply d node work (bytesOf (checked (BitVec.ofNat 16 (node * 256 + code) :: status :: body))) false
      = (.good, some ⟨status.toNat % 256, content⟩) := by
  have uncut : 2 * (checked (BitVec.ofNat 16 (node * 256 + code) :: status :: body)).length < cutoffBytes := by
    simp only [checked, List.length_append, List.length_cons, List.length_nil, cutoffBytes]
    omega
  have good : goodReply d node work (checked (BitVec.ofNat 16 (node * 256 + code) :: status :: body))
      = some ⟨status.toNat % 256, content⟩ := by
    simp [checked, goodReply, function, fits]
  simp [judgeReply, uncut, good]

theorem ofNat_toNat_of_le {n : Nat} (h : n ≤ 65535) : (BitVec.ofNat 16 n).toNat = n := by
  rw [BitVec.toNat_ofNat, Nat.mod_eq_of_lt (by omega)]

theorem map_toNat_words {vs : List Nat} (h : ∀ v ∈ vs, v ≤ 65535) :
    (vs.map (BitVec.ofNat 16)).map BitVec.toNat = vs := by
  induction vs with
  | nil => rfl
  | cons v vs ih =>
    rw [List.map_cons, List.map_cons, ofNat_toNat_of_le (h v (by simp)), ih fun w hw => h w (by simp [hw])]

theorem eventKindOf_code (k : EventKind) : eventKindOf (k.ctorIdx + 1) = some k := by
  cases k <;> rfl

/-- R23: the words of an event of a FETCH EVENTS reply. -/
def eventWords (e : FieldEvent) : List Word16 :=
  [BitVec.ofNat 16 e.point, BitVec.ofNat 16 (e.kind.ctorIdx + 1), BitVec.ofNat 16 e.age, BitVec.ofNat 16 e.value]

theorem eventsOf_eventWords {es : List FieldEvent}
    (h : ∀ e ∈ es, e.point ≤ 15 ∧ e.age ≤ 65535 ∧ e.value ≤ 65535) :
    eventsOf ((es.flatMap eventWords).map BitVec.toNat) = some es := by
  induction es with
  | nil => rfl
  | cons e es ih =>
    obtain ⟨point, age, value⟩ := h e (by simp)
    have kind : e.kind.ctorIdx + 1 ≤ 65535 := by cases e.kind <;> decide
    simp only [List.flatMap_cons, eventWords, List.cons_append, List.nil_append, List.map_cons]
    rw [ofNat_toNat_of_le (by omega), ofNat_toNat_of_le kind, ofNat_toNat_of_le age, ofNat_toNat_of_le value,
      eventsOf, if_neg (by omega), eventKindOf_code]
    have later := ih fun x hx => h x (by simp [hx])
    simp only [later]

theorem length_eventWords (es : List FieldEvent) : (es.flatMap eventWords).length = 4 * es.length := by
  induction es with
  | nil => rfl
  | cons e es ih =>
    simp only [List.flatMap_cons, List.length_append, ih, eventWords, List.length_cons, List.length_nil]
    omega

end Sys2Proof.Machine

namespace Sys2Proof.Proofs

open Sys2Proof.Machine Sys2Proof.Claims

/-- Settles O49: `judgeReply_checked` leaves for each function what `contentOf` makes of its words. -/
theorem repliesAreReadAsTheyWereSent : Obligations.RepliesAreReadAsTheyWereSent := by
  intro d node status _
  refine ⟨fun first count oneOff vs length few values => ?read, fun e point value => ?write,
    fun es few ranges => ?fetch, fun kind count kinds one most defined fixed => ?probe⟩
  case read =>
    refine judgeReply_checked d (body := vs.map (BitVec.ofNat 16)) status rfl (by rw [List.length_map]; omega) ?_
    rw [map_toNat_words values, contentOf, if_pos length]
  case write =>
    refine judgeReply_checked d status rfl (by simp) ?_
    simp only [List.map_cons, List.map_nil, ofNat_toNat_of_le (show e.point ≤ 65535 by omega),
      ofNat_toNat_of_le value, contentOf, and_self, if_true]
  case fetch =>
    refine judgeReply_checked d (body := BitVec.ofNat 16 es.length :: es.flatMap eventWords) status rfl ?_ ?_
    · rw [List.length_cons, length_eventWords]
      omega
    · have whole : es.length ≤ fetchMaximum ∧ ((es.flatMap eventWords).map BitVec.toNat).length = 4 * es.length :=
        ⟨few, by rw [List.length_map, length_eventWords]⟩
      rw [List.map_cons, ofNat_toNat_of_le (by omega), contentOf, if_pos whole, eventsOf_eventWords ranges,
        Option.map_some]
  case probe =>
    refine judgeReply_checked d status rfl (by simp) ?_
    have fits : probeFits d kind count = true := by
      simp only [probeFits, Bool.and_eq_true, decide_eq_true_eq]
      refine ⟨⟨⟨⟨kinds, one⟩, most⟩, defined⟩, ?_⟩
      cases known : d.kind with
      | none => rfl
      | some k => exact beq_iff_eq.mpr (fixed k known)
    simp only [List.map_cons, List.map_nil, ofNat_toNat_of_le (show kind ≤ 65535 by omega),
      ofNat_toNat_of_le (show count ≤ 65535 by omega), contentOf, fits, if_true]

end Sys2Proof.Proofs


/-! SUPPORT and PROOFS. What the arbiter of a free line grants (R29). -/

namespace Sys2Proof.Machine

/-! ## The work a line has -/

/-- R29: no node has a probe that has come due. -/
def noProbeDue (now : Nat) (nodes : Table NodeRec) : Prop := ∀ e ∈ nodes, ∀ t, e.2.probeDue = some t → now < t

theorem dueProbe_none {now : Nat} {nodes : Table NodeRec} (h : noProbeDue now nodes) : dueProbe now nodes = none := by
  induction nodes with
  | nil => rfl
  | cons e rest ih =>
    have later := ih fun x hx => h x (List.mem_cons_of_mem e hx)
    rw [dueProbe, later]
    cases due : e.2.probeDue with
    | none => rfl
    | some t => exact if_pos (h e List.mem_cons_self t due)

theorem dueProbe_some {now : Nat} {nodes : Table NodeRec} {addr t : Nat} (h : dueProbe now nodes = some (addr, t)) :
    ∃ n, (addr, n) ∈ nodes ∧ n.probeDue = some t := by
  induction nodes with
  | nil => cases h
  | cons e rest ih =>
    have tail (found : dueProbe now rest = some (addr, t)) : ∃ n, (addr, n) ∈ e :: rest ∧ n.probeDue = some t := by
      obtain ⟨n, mem, due⟩ := ih found
      exact ⟨n, List.mem_cons_of_mem e mem, due⟩
    have head {u : Nat} (due : e.2.probeDue = some u) (same : some (e.1, u) = some (addr, t)) :
        ∃ n, (addr, n) ∈ e :: rest ∧ n.probeDue = some t := by
      cases same
      exact ⟨e.2, List.mem_cons_self, due⟩
    rw [dueProbe] at h
    split at h
    next => exact tail h
    next u due =>
      split at h
      next => exact tail h
      next =>
        split at h
        next => exact head due h
        next found =>
          split at h
          next => exact head due h
          next => exact tail (found.trans h)

/-- R29: the probe due longest, of the lowest address among equals, is the one that is due. -/
theorem dueProbe_least {now : Nat} {nodes : Table NodeRec} {addr t : Nat} {n : NodeRec} (mem : (addr, n) ∈ nodes)
    (wf : slotWf nodes = true) (due : n.probeDue = some t) (come : t ≤ now)
    (least : ∀ e ∈ nodes, ∀ t', e.2.probeDue = some t' → t < t' ∨ (t = t' ∧ addr ≤ e.1)) :
    dueProbe now nodes = some (addr, t) := by
  induction nodes with
  | nil => cases mem
  | cons e rest ih =>
    obtain ⟨below, ordered⟩ := slotWf_cons.mp wf
    rcases List.mem_cons.mp mem with rfl | inRest
    · simp only [dueProbe, due, if_neg (Nat.not_lt.mpr come)]
      cases found : dueProbe now rest with
      | none => rfl
      | some x =>
        obtain ⟨m, memM, dueM⟩ := dueProbe_some found
        have : t ≤ x.2 := by
          rcases least (x.1, m) (List.mem_cons_of_mem _ memM) x.2 dueM with h | h <;> omega
        exact if_pos this
    · have later := ih inRest ordered fun x hx => least x (List.mem_cons_of_mem e hx)
      rw [dueProbe, later]
      cases dueE : e.2.probeDue with
      | none => rfl
      | some u =>
        have after : ¬ u ≤ t := by
          have : e.1 < addr := below _ inRest
          rcases least e List.mem_cons_self u dueE with h | h <;> omega
        simp only [if_neg after, ite_self]

/-! ## A grant -/

/-- R25, R29: the line with the work in flight. -/
def granted (now : Nat) (cfg : LineCfg) (node : Nat) (work : TxnWork) (line : Line) : Line := { line with
  noiseCounted := false
  inFlight := some ⟨node, work, .waiting (replyExpiry now cfg node work), false⟩ }

theorem grantLine_busy {now : Nat} {cfg : LineCfg} {line : Line} (h : isDown line = true ∨ line.inFlight ≠ none) :
    grantLine now cfg line = line := by
  refine if_pos ?_
  rcases h with h | h
  · rw [h, Bool.true_or]
  · rw [Option.isSome_iff_ne_none.mpr h, Bool.or_true]

theorem grantLine_works {now : Nat} {cfg : LineCfg} {line : Line} {node : Nat} {work : TxnWork}
    (up : isDown line = false) (free : line.inFlight = none) (next : nextWork now cfg line = some (node, work)) :
    grantLine now cfg line = granted now cfg node work (takeWork now cfg node work line) := by
  simp [grantLine, up, free, next, granted]

theorem grantLine_rests {now : Nat} {cfg : LineCfg} {line : Line} (next : nextWork now cfg line = none) :
    grantLine now cfg line = line := by
  rw [grantLine, next]
  exact ite_self _

theorem find?_worked_none {line : Line} (h : ∀ e ∈ line.queue, nodeWorked line e.node = false) :
    line.queue.find? (fun e => nodeWorked line e.node) = none :=
  find?_none h

/-- R29: a queued write whose node is not worked is not the one granted. -/
theorem erase_first {α : Type} [BEq α] [LawfulBEq α] {before after : List α} {x : α} (absent : x ∉ before) :
    (before ++ x :: after).erase x = before ++ after := by
  rw [List.erase_append_right _ absent, List.erase_cons_head]

theorem entryPeriod_first {cfg : LineCfg} {before after : List ScanDef} {e : ScanDef}
    (split : cfg.scan = before ++ e :: after) (earlier : ∀ b ∈ before, ¬ (b.node = e.node ∧ b.first = e.first)) :
    entryPeriod cfg e.node e.first = periodMs e.period := by
  rw [entryPeriod, find?_first split (fun b hb => by simpa using earlier b hb) (by simp)]
  rfl

end Sys2Proof.Machine

namespace Sys2Proof.Claims

open Sys2Proof.Machine

/-! ## The order of R29 -/

section

variable {now : Nat} {cfg : LineCfg} {line : Line} (up : isDown line = false) (free : line.inFlight = none)

include up free

theorem grantLine_write {before after : List QueueEntry} {e : QueueEntry} (split : line.queue = before ++ e :: after)
    (earlier : ∀ b ∈ before, nodeWorked line b.node = false) (worked : nodeWorked line e.node = true) :
    grantLine now cfg line
      = granted now cfg e.node (.writePoint e) { line with queue := before ++ after } := by
  have absent : e ∉ before := fun h => by simp [earlier e h] at worked
  have next : nextWork now cfg line = some (e.node, .writePoint e) := by
    simp only [nextWork, find?_first (p := fun e => nodeWorked line e.node) split earlier worked]
  rw [grantLine_works up free next, takeWork, split, erase_first absent]

variable (noWrite : ∀ e ∈ line.queue, nodeWorked line e.node = false)

include noWrite

theorem grantLine_fetch {addr : Nat} {rest : List Nat} (first : line.fetch = addr :: rest)
    (worked : nodeWorked line addr = true) :
    grantLine now cfg line = granted now cfg addr .fetchEvents { line with fetch := rest } := by
  have next : nextWork now cfg line = some (addr, .fetchEvents) := by
    simp only [nextWork, find?_worked_none noWrite, fetchHead, first, worked, if_true]
  rw [grantLine_works up free next, takeWork, first, List.erase_cons_head]

variable (noFetch : fetchHead line = none)

include noFetch

theorem grantLine_probe {addr t : Nat} {n : NodeRec} (mem : (addr, n) ∈ line.nodes) (wf : slotWf line.nodes = true)
    (due : n.probeDue = some t) (come : t ≤ now)
    (least : ∀ e ∈ line.nodes, ∀ t', e.2.probeDue = some t' → t < t' ∨ (t = t' ∧ addr ≤ e.1)) :
    grantLine now cfg line
      = granted now cfg addr .probe { line with nodes := slotChange probeIssued line.nodes addr } := by
  have next : nextWork now cfg line = some (addr, .probe) := by
    simp only [nextWork, find?_worked_none noWrite, noFetch, dueProbe_least mem wf due come least]
  rw [grantLine_works up free next, takeWork]

variable (noProbe : noProbeDue now line.nodes)

include noProbe

theorem grantLine_oneOff {p : NodePoint} {rest : List NodePoint} (first : line.oneOffs = p :: rest)
    (worked : nodeWorked line p.node = true) :
    grantLine now cfg line
      = granted now cfg p.node (.readPoints p.point 1 true) { line with oneOffs := rest } := by
  have next : nextWork now cfg line = some (p.node, .readPoints p.point 1 true) := by
    simp only [nextWork, find?_worked_none noWrite, noFetch, dueProbe_none noProbe, oneOffHead, first, worked, if_true]
  rw [grantLine_works up free next, takeWork, first, List.erase_cons_head]

variable (noOneOff : oneOffHead line = none)

include noOneOff

theorem grantLine_scan {before after : List ScanDef} {e : ScanDef} (split : cfg.scan = before ++ e :: after)
    (earlier : ∀ b ∈ before, scanDue now line b = false ∨ nodeWorked line b.node = false)
    (due : scanDue now line e = true) (worked : nodeWorked line e.node = true)
    (single : ∀ b ∈ before, ¬ (b.node = e.node ∧ b.first = e.first)) :
    grantLine now cfg line = granted now cfg e.node (.readPoints e.first e.count false) { line with
      scan := slotChange (fun _ => ⟨some now, now + periodMs e.period⟩) line.scan (scanKey e.node e.first) } := by
  have found := find?_first (p := fun e => scanDue now line e && nodeWorked line e.node) split
    (fun b hb => by rcases earlier b hb with h | h <;> simp [h]) (by simp [due, worked])
  have next : nextWork now cfg line = some (e.node, .readPoints e.first e.count false) := by
    simp only [nextWork, find?_worked_none noWrite, noFetch, dueProbe_none noProbe, noOneOff, found]
  rw [grantLine_works up free next, takeWork, entryPeriod_first split single]
  rfl

omit up free in
theorem grantLine_nothing (noScan : ∀ e ∈ cfg.scan, scanDue now line e = false ∨ nodeWorked line e.node = false) :
    grantLine now cfg line = line := by
  refine grantLine_rests ?_
  have found := find?_none (p := fun e => scanDue now line e && nodeWorked line e.node)
    fun e he => by rcases noScan e he with h | h <;> simp [h]
  simp only [nextWork, find?_worked_none noWrite, noFetch, dueProbe_none noProbe, noOneOff, found]

end

/-! ## The timers (R33, R41, R42) -/

theorem exec_probeTimerExpires {l : LineId} {addr t : Nat} {n : NodeRec} {s : State} (on : s.powered = true)
    (found : slotGet (getLine s l).nodes addr = some n) (due : n.probeDue = some t) (come : t ≤ s.now) :
    exec (.probeTimerExpires l addr) s = .next (grantLines s) := by
  refine (powered_on on).trans ?_
  simp only [found, Option.bind_some, due]
  exact congrArg _ (whenDue_due come)

theorem exec_scanPeriodExpires {l : LineId} {addr first : Nat} {t : ScanTime} {s : State} (on : s.powered = true)
    (found : slotGet (getLine s l).scan (scanKey addr first) = some t) (come : t.due ≤ s.now) :
    exec (.scanPeriodExpires l addr first) s = .next (grantLines s) := by
  refine (powered_on on).trans ?_
  simp only [found]
  exact congrArg _ (whenDue_due come)

end Sys2Proof.Claims

namespace Sys2Proof.Proofs

open Sys2Proof.Machine Sys2Proof.Claims

/-- Settles O47: one lemma per kind of work, each under the absence of the kinds before it. The claim writes the sending
time as twenty bits a word. -/
theorem theArbiterGrantsInOrder : Obligations.TheArbiterGrantsInOrder := by
  refine ⟨fun now cfg line => ?order, fun l s on => ⟨rfl, fun _ _ _ found due => exec_probeTimerExpires on found due,
    fun _ _ _ found => exec_scanPeriodExpires on found⟩⟩
  have told : (fun (node : Nat) (work : TxnWork) (rest : Line) => ({ rest with
      noiseCounted := false
      inFlight := some ⟨node, work, .waiting (now
        + ceilDiv ((requestFrame node work).length * 20000) (bitsPerSecond cfg.bitRate) + cfg.timeout), false⟩ }
        : Line)) = granted now cfg := by
    funext node work rest
    rw [granted, replyExpiry, sendMs, Nat.mul_assoc, Nat.mul_assoc]
  intro grantOf
  have same : grantOf = granted now cfg := told
  rw [same]
  exact ⟨grantLine_busy, fun up free => ⟨fun _ _ _ => grantLine_write up free, fun noWrite =>
    ⟨fun _ _ => grantLine_fetch up free noWrite, fun noFetch =>
      ⟨fun _ _ _ => grantLine_probe up free noWrite noFetch, fun noProbe =>
        ⟨fun _ _ => grantLine_oneOff up free noWrite noFetch noProbe, fun noOneOff =>
          ⟨fun _ _ _ => grantLine_scan up free noWrite noFetch noProbe noOneOff,
            grantLine_nothing noWrite noFetch noProbe noOneOff⟩⟩⟩⟩⟩⟩

end Sys2Proof.Proofs


/-! SUPPORT. What happens to the queue of notices (R199) as a state follows another by raising notices of some kinds
alone. -/

namespace Sys2Proof.Machine

/-! ## The queue as notices are pushed -/

/-- R199: the queue and the lost count after a list of notices. -/
def pushAll (ns : List Notice) (queue : List Notice × Nat) : List Notice × Nat :=
  ns.foldl (fun q n => pushNotice n q.1 q.2) queue

theorem pushAll_cons (n : Notice) (ns : List Notice) (q : List Notice × Nat) :
    pushAll (n :: ns) q = pushAll ns (pushNotice n q.1 q.2) := rfl

theorem countLost_grows (lost : Nat) : lost < countLost lost ∨ countLost lost = 255 := by
  unfold countLost
  omega

theorem countLost_most (lost : Nat) : countLost lost ≤ 255 := Nat.min_le_right _ _

theorem pushNotice_lost (n : Notice) (queue : List Notice) (lost : Nat) :
    ((pushNotice n queue lost).2 = lost ∧ (pushNotice n queue lost).1 = queue ++ [n])
      ∨ (pushNotice n queue lost).2 = countLost lost := by
  unfold pushNotice
  split
  · exact .inl ⟨rfl, rfl⟩
  · split
    · exact .inr rfl
    · split <;> exact .inr rfl

/-- A notice that is raised stands in the queue, or is counted as lost. -/
theorem pushNotice_told (n : Notice) (queue : List Notice) (lost : Nat) :
    n ∈ (pushNotice n queue lost).1 ∨ lost < (pushNotice n queue lost).2 ∨ (pushNotice n queue lost).2 = 255 := by
  rcases pushNotice_lost n queue lost with ⟨_, joined⟩ | counted
  · exact .inl (by simp [joined])
  · rw [counted]
    exact .inr (countLost_grows lost)

theorem pushNotice_mem {n m : Notice} {queue : List Notice} {lost : Nat} (h : m ∈ (pushNotice n queue lost).1) :
    m ∈ queue ∨ m = n := by
  unfold pushNotice at h
  split at h
  · simpa using h
  · split at h
    · exact .inl h
    · split at h
      · exact .inl h
      · rcases List.mem_append.mp h with old | new
        · exact .inl (List.mem_of_mem_eraseP old)
        · exact .inr (List.mem_singleton.mp new)

theorem pushNotice_plain {n : Notice} (plain : isPriority n.kind = false) (queue : List Notice) (lost : Nat) :
    queue <+: (pushNotice n queue lost).1 := by
  unfold pushNotice
  split
  · exact List.prefix_append _ _
  · rw [if_pos (by simp [plain])]

theorem pushAll_lost (ns : List Notice) (q : List Notice × Nat) :
    (pushAll ns q).2 = q.2 ∨ (q.2 < (pushAll ns q).2 ∧ (pushAll ns q).2 ≤ 255) ∨ (pushAll ns q).2 = 255 := by
  induction ns generalizing q with
  | nil => exact .inl rfl
  | cons n ns ih =>
    have first : (pushNotice n q.1 q.2).2 = q.2 ∨ (q.2 < (pushNotice n q.1 q.2).2 ∧ (pushNotice n q.1 q.2).2 ≤ 255)
        ∨ (pushNotice n q.1 q.2).2 = 255 := by
      rcases pushNotice_lost n q.1 q.2 with ⟨same, _⟩ | counted
      · exact .inl same
      · rw [counted]
        have := countLost_most q.2
        rcases countLost_grows q.2 with h | h <;> omega
    have later := ih (pushNotice n q.1 q.2)
    rw [pushAll_cons]
    omega

theorem pushAll_told {ns : List Notice} {n : Notice} {q : List Notice × Nat} (h : n ∈ q.1 ∨ n ∈ ns) :
    n ∈ (pushAll ns q).1 ∨ q.2 < (pushAll ns q).2 ∨ (pushAll ns q).2 = 255 := by
  induction ns generalizing q with
  | nil => exact .inl (h.resolve_right List.not_mem_nil)
  | cons m ns ih =>
    have lost := pushAll_lost ns (pushNotice m q.1 q.2)
    rw [pushAll_cons]
    have first : (n ∈ (pushNotice m q.1 q.2).1 ∨ n ∈ ns) ∧ (pushNotice m q.1 q.2).2 = q.2
        ∨ q.2 < (pushNotice m q.1 q.2).2 ∨ (pushNotice m q.1 q.2).2 = 255 := by
      rcases pushNotice_lost m q.1 q.2 with ⟨same, joined⟩ | counted
      · refine .inl ⟨?_, same⟩
        rw [joined]
        simpa [or_assoc] using h
      · rw [counted]
        exact .inr (countLost_grows q.2)
    rcases first with ⟨there, same⟩ | grown
    · rcases ih there with h | h | h
      · exact .inl h
      · omega
      · omega
    · omega

theorem pushAll_mem {ns : List Notice} {m : Notice} {q : List Notice × Nat} (h : m ∈ (pushAll ns q).1) :
    m ∈ q.1 ∨ m ∈ ns := by
  induction ns generalizing q with
  | nil => exact .inl h
  | cons n ns ih =>
    rcases ih (q := pushNotice n q.1 q.2) h with old | new
    · rcases pushNotice_mem old with older | rfl
      · exact .inl older
      · exact .inr List.mem_cons_self
    · exact .inr (List.mem_cons_of_mem n new)

theorem pushAll_plain {ns : List Notice} (plain : ∀ n ∈ ns, isPriority n.kind = false) (q : List Notice × Nat) :
    q.1 <+: (pushAll ns q).1 := by
  induction ns generalizing q with
  | nil => exact List.prefix_rfl
  | cons n ns ih =>
    exact (pushNotice_plain (plain n List.mem_cons_self) q.1 q.2).trans
      (ih (fun m hm => plain m (List.mem_cons_of_mem n hm)) (pushNotice n q.1 q.2))

/-! ## A state that follows another -/

/-- `t` follows `s` by raising notices that satisfy `P`, one after another. -/
def Raises (P : Notice → Prop) (s t : State) : Prop :=
  ∃ ns, (∀ n ∈ ns, P n) ∧ (t.notices, t.lost) = pushAll ns (s.notices, s.lost)

namespace Raises

variable {P : Notice → Prop} {s t u : State}

theorem of_same (notices : t.notices = s.notices) (lost : t.lost = s.lost) : Raises P s t :=
  ⟨[], by simp, by rw [notices, lost]; rfl⟩

theorem refl (s : State) : Raises P s s := of_same rfl rfl

theorem trans (h : Raises P s t) (k : Raises P t u) : Raises P s u := by
  obtain ⟨ns, good, pushed⟩ := h
  obtain ⟨ms, well, later⟩ := k
  refine ⟨ns ++ ms, fun n hn => (List.mem_append.mp hn).elim (good n) (well n), ?_⟩
  rw [later, pushed]
  exact (List.foldl_append ..).symm

theorem mono {Q : Notice → Prop} (weaker : ∀ n, P n → Q n) (h : Raises P s t) : Raises Q s t := by
  obtain ⟨ns, good, pushed⟩ := h
  exact ⟨ns, fun n hn => weaker n (good n hn), pushed⟩

theorem raised {kind : NoticeKind} {subject : Subject} {a b : Option Int} (h : P ⟨kind, s.now, subject, a, b⟩) :
    Raises P s (raise kind subject a b s) :=
  ⟨[⟨kind, s.now, subject, a, b⟩], by simpa using h, rfl⟩

theorem each {α : Type} {f : α → State → State} (h : ∀ x s, Raises P s (f x s)) (items : List α) (s : State) :
    Raises P s (forEach items f s) := forEach_related refl trans f h items s

/-- Where none of the raised notices has priority, the queue only grows at its end. -/
theorem grows (plain : ∀ n, P n → isPriority n.kind = false) (h : Raises P s t) : s.notices <+: t.notices := by
  obtain ⟨ns, good, pushed⟩ := h
  have := pushAll_plain (fun n hn => plain n (good n hn)) (s.notices, s.lost)
  rwa [← pushed] at this

theorem lost (h : Raises P s t) : t.lost = s.lost ∨ (s.lost < t.lost ∧ t.lost ≤ 255) ∨ t.lost = 255 := by
  obtain ⟨ns, _, pushed⟩ := h
  have := pushAll_lost ns (s.notices, s.lost)
  rwa [← pushed] at this

theorem kept {n : Notice} (h : Raises P s t) (member : n ∈ s.notices) :
    n ∈ t.notices ∨ s.lost < t.lost ∨ t.lost = 255 := by
  obtain ⟨ns, _, pushed⟩ := h
  have := pushAll_told (ns := ns) (q := (s.notices, s.lost)) (.inl member)
  rwa [← pushed] at this

theorem origin {n : Notice} (h : Raises P s t) (member : n ∈ t.notices) : n ∈ s.notices ∨ P n := by
  obtain ⟨ns, good, pushed⟩ := h
  have inQueue : n ∈ (pushAll ns (s.notices, s.lost)).1 := pushed ▸ member
  exact (pushAll_mem inQueue).imp_right (good n)

end Raises

/-- A notice stands in the queue of `t`, or the lost count since `s` tells of it (R199). -/
def Told (n : Notice) (s t : State) : Prop := n ∈ t.notices ∨ s.lost < t.lost ∨ t.lost = 255

theorem told_raise (kind : NoticeKind) (subject : Subject) (a b : Option Int) (s : State) :
    Told ⟨kind, s.now, subject, a, b⟩ s (raise kind subject a b s) := pushNotice_told _ _ _

/-- What one step of a run tells is told by the run. -/
theorem Told.within {P Q R : Notice → Prop} {n : Notice} {s a b t : State} (h : Told n a b) (before : Raises P s a)
    (step : Raises Q a b) (after : Raises R b t) : Told n s t := by
  have first := before.lost
  have second := step.lost
  have third := after.lost
  rcases h with there | h
  · rcases after.kept there with still | h
    · exact .inl still
    · exact .inr (by omega)
  · exact .inr (by omega)

/-- What is told stays told as more notices are raised. -/
theorem Told.after {P Q : Notice → Prop} {n : Notice} {s t u : State} (h : Told n s t) (step : Raises P s t)
    (later : Raises Q t u) : Told n s u := h.within (Raises.refl (P := P) s) step later

/-! ## The operations of the field side -/

/-- R88, R90, R106: what the doors and the presence table raise. -/
def FieldNotice (n : Notice) : Prop :=
  n.kind = .doorChatter ∨ n.kind = .doorUnknown ∨ n.kind = .doorHeldOpen ∨ n.kind = .presenceTableFull

theorem FieldNotice.plain {n : Notice} (h : FieldNotice n) : isPriority n.kind = false := by
  rcases h with h | h | h | h <;> rw [h] <;> rfl

section

variable {P : Notice → Prop} (covers : ∀ n, FieldNotice n → P n)

include covers

theorem makeRoom_raises (z : Nat) (s : State) : Raises P s (makeRoom z s) := by
  unfold makeRoom
  split
  · exact .refl s
  · split
    · exact .refl s
    · dsimp only
      split
      · exact .of_same rfl rfl
      · refine .trans ?_ (.trans (.raised (covers _ (by simp [FieldNotice]))) (.of_same rfl rfl))
        exact .of_same rfl rfl

theorem refreshEntry_raises (z : Nat) (source : PresenceSource) (life : PresenceLife) (s : State) :
    Raises P s (refreshEntry z source life s) := by
  unfold refreshEntry
  split
  · exact .of_same rfl rfl
  · exact (makeRoom_raises covers z s).trans (.of_same rfl rfl)

theorem holdEntry_raises (z door seconds : Nat) (s : State) : Raises P s (holdEntry z door seconds s) := by
  unfold holdEntry
  split
  · exact refreshEntry_raises covers _ _ _ s
  · exact .refl s

omit covers in
theorem releaseEntry_raises (z door ms : Nat) (s : State) : Raises P s (releaseEntry z door ms s) := by
  unfold releaseEntry
  split <;> exact .of_same rfl rfl

omit covers in
theorem presenceContact_raises (bus : Bus) (addr : Nat) (new : Contact) (s : State) :
    Raises P s (presenceContact bus addr new s) := by
  unfold presenceContact
  split <;> exact .of_same rfl rfl

omit covers in
theorem changeLine_raises (l : LineId) (f : Line → Line) (s : State) : Raises P s (changeLine l f s) := by
  cases l <;> exact .of_same rfl rfl

omit covers in
theorem queueWrite_raises (l : LineId) (node point value : Nat) (origin : Origin) (s : State) :
    Raises P s (queueWrite l node point value origin s) :=
  (changeLine_raises l _ s).trans (.of_same rfl rfl)

theorem doorsClosed_raises : DoorsClosed (Raises P) where
  refl := .refl
  trans := .trans
  hold := holdEntry_raises covers
  release := releaseEntry_raises
  doorNotice kind d a b s h := .raised (covers _ (by rcases h with h | h | h <;> simp [FieldNotice, h]))
  door _ _ _ := .of_same rfl rfl
  point _ _ _ := .of_same rfl rfl

theorem reportsClosed_raises : ReportsClosed (Raises P) where
  toDoorsClosed := doorsClosed_raises covers
  contact := presenceContact_raises
  terminal _ _ _ := .of_same rfl rfl
  queue l _ _ _ s := queueWrite_raises l _ _ _ _ s
  command _ _ _ _ := .of_same rfl rfl
  lose _ _ _ _ _ _ _ := .of_same rfl rfl
  readmit _ _ _ _ _ _ _ := .of_same rfl rfl

end

end Sys2Proof.Machine


/-! SUPPORT. The hand-offs of EMERGENCY (R158, R179, R180): what they make of the loads and of the stages. -/

namespace Sys2Proof.Machine

/-! ## Loops over a table -/

theorem forEach_append {α : Type} (f : α → State → State) (xs ys : List α) (s : State) :
    forEach (xs ++ ys) f s = forEach ys f (forEach xs f s) := by
  induction xs generalizing s with
  | nil => rfl
  | cons x xs ih => exact ih (f x s)

/-- A loop whose step changes only the record of its own number, to the same however often, leaves each record that it
names changed once. -/
theorem forEach_table {β : Type} {table : State → Table β} {f : Nat → State → State} {g : Nat → β → β}
    {I : State → Prop} (keeps : ∀ k s, I s → I (f k s))
    (own : ∀ k s r, I s → slotGet (table s) k = some r → slotGet (table (f k s)) k = some (g k r))
    (other : ∀ k j s, I s → j ≠ k → slotGet (table (f k s)) j = slotGet (table s) j)
    (settled : ∀ k r, g k (g k r) = g k r) {k : Nat} (ks : List Nat) {r : β} {s : State} (holds : I s)
    (found : slotGet (table s) k = some r) :
    slotGet (table (forEach ks f s)) k = some (if k ∈ ks then g k r else r) := by
  induction ks generalizing r s with
  | nil => simpa using found
  | cons j ks ih =>
    rw [forEach_cons]
    by_cases same : k = j
    · subst same
      rw [ih (keeps k s holds) (own k s r holds found), settled, ite_self, if_pos List.mem_cons_self]
    · rw [ih (keeps j s holds) ((other j k s holds same).trans found)]
      simp only [List.mem_cons, same, false_or]

theorem mem_slotNumbers_of_found {β : Type} {t : Table β} {k : Nat} {r : β} (found : slotGet t k = some r) :
    k ∈ slotNumbers t := List.mem_map_of_mem (slotGet_mem _ _ _ found)

/-! ## Loads -/

/-- R140: the record of a load that has been checked for a command. -/
def afterCheck (now : Nat) (r : LoadRec) : LoadRec := if commandDue now r then commanded now r.applied r else r

theorem commandDue_commanded (now : Nat) (r : LoadRec) : commandDue now (commanded now r.applied r) = false := by
  simp [commandDue, commanded, distance]

/-- R140: a check for a command changes of the loads the record of its own alone. -/
theorem checkCommand_other {k j : Nat} (apart : j ≠ k) (s : State) :
    slotGet (checkCommand k s).loads j = slotGet s.loads j := by
  unfold checkCommand
  split
  · cases defined : slotGet s.config.loads k with
    | none => simp only [issueCommand, defined]
    | some d =>
      cases found : slotGet s.loads k with
      | none => simp only [issueCommand, defined, found]
      | some r => rw [issueCommand_loads defined found, slotGet_slotChange, if_neg apart]
  · rfl

/-- R140: a load whose applied fraction has been set is checked for a command. -/
theorem checkCommand_changed {k : Nat} {d : LoadDef} {r : LoadRec} {s : State}
    (defined : slotGet s.config.loads k = some d) (found : slotGet s.loads k = some r) (f : LoadRec → LoadRec) :
    slotGet (checkCommand k (changeLoad k f s)).loads k = some (afterCheck s.now (f r)) := by
  have changed : slotGet (changeLoad k f s).loads k = some (f r) := by
    rw [changeLoad, slotGet_slotChange, if_pos rfl, found]
    rfl
  exact checkCommand_load (s := changeLoad k f s) defined changed

theorem changeLoad_other {k j : Nat} (apart : j ≠ k) (f : LoadRec → LoadRec) (s : State) :
    slotGet (changeLoad k f s).loads j = slotGet s.loads j := by
  rw [changeLoad, slotGet_slotChange, if_neg apart]

/-- R158, R179: what EMERGENCY makes of the record of a load. -/
def emergencyRecord (now : Nat) (c : RunningConfig) (k : Nat) (r : LoadRec) : LoadRec :=
  match slotGet c.loads k with
  | none => r
  | some d => afterCheck now (emergencyLoad c.climate.vent d.kind r)

theorem emergencyLoad_applied (vent : EmergencyVent) (kind : LoadKind) (r : LoadRec) :
    (emergencyLoad vent kind r).applied = emergencyFraction vent kind := by
  unfold emergencyLoad
  dsimp only
  split <;> rfl

theorem emergencyLoad_lastCommand (vent : EmergencyVent) (kind : LoadKind) (r : LoadRec) :
    (emergencyLoad vent kind r).lastCommand = r.lastCommand := by
  unfold emergencyLoad
  dsimp only
  split <;> rfl

theorem emergencyLoad_refreshAt (vent : EmergencyVent) (kind : LoadKind) (r : LoadRec) :
    (emergencyLoad vent kind r).refreshAt = r.refreshAt := by
  unfold emergencyLoad
  dsimp only
  split <;> rfl

theorem emergencyLoad_twice (vent : EmergencyVent) (kind : LoadKind) (r : LoadRec) :
    emergencyLoad vent kind (emergencyLoad vent kind r) = emergencyLoad vent kind r := by
  cases kind <;> cases vent <;> rfl

theorem emergencyLoad_commanded (vent : EmergencyVent) (kind : LoadKind) (now f : Nat) (r : LoadRec) :
    emergencyLoad vent kind (commanded now f r) = commanded now f (emergencyLoad vent kind r) := by
  cases kind <;> cases vent <;> rfl

theorem afterCheck_due {now : Nat} {r : LoadRec} (due : commandDue now r = true) :
    afterCheck now r = commanded now r.applied r := if_pos due

theorem afterCheck_early {now : Nat} {r : LoadRec} (early : commandDue now r = false) : afterCheck now r = r :=
  if_neg (by simp [early])

/-- A second entry finds the load at its value, and no command due. -/
theorem emergencyRecord_twice (now : Nat) (c : RunningConfig) (k : Nat) (r : LoadRec) :
    emergencyRecord now c k (emergencyRecord now c k r) = emergencyRecord now c k r := by
  unfold emergencyRecord
  cases slotGet c.loads k with
  | none => rfl
  | some d =>
    dsimp only
    cases due : commandDue now (emergencyLoad c.climate.vent d.kind r) with
    | true =>
      rw [afterCheck_due due, emergencyLoad_commanded, emergencyLoad_twice]
      exact afterCheck_early (commandDue_commanded _ _)
    | false =>
      rw [afterCheck_early due, emergencyLoad_twice]
      exact afterCheck_early due

/-- The state stands at this moment under this configuration. -/
def StandsAt (now : Nat) (c : RunningConfig) (s : State) : Prop := s.now = now ∧ s.config = c

theorem ComfortSide.now {s t : State} (h : ComfortSide s t) : t.now = s.now := by rw [h.frame]

theorem ComfortSide.config {s t : State} (h : ComfortSide s t) : t.config = s.config := by rw [h.frame]

theorem ComfortSide.standsAt {s t : State} {now : Nat} {c : RunningConfig} (h : ComfortSide s t)
    (at_ : StandsAt now c s) : StandsAt now c t := ⟨h.now.trans at_.1, h.config.trans at_.2⟩

theorem enterEmergencyLoad_own {k : Nat} {r : LoadRec} {s : State} (found : slotGet s.loads k = some r) :
    slotGet (enterEmergencyLoad k s).loads k = some (emergencyRecord s.now s.config k r) := by
  unfold enterEmergencyLoad emergencyRecord
  cases defined : slotGet s.config.loads k with
  | none => exact found
  | some d => exact checkCommand_changed defined found _

theorem enterEmergencyLoad_other {k j : Nat} (apart : j ≠ k) (s : State) :
    slotGet (enterEmergencyLoad k s).loads j = slotGet s.loads j := by
  unfold enterEmergencyLoad
  split
  · rfl
  · exact (checkCommand_other apart _).trans (changeLoad_other apart _ s)

/-- R158, R179: each load of the list takes its emergency value. -/
theorem enterEmergencyLoads {k : Nat} {r : LoadRec} {s : State} (ks : List Nat)
    (found : slotGet s.loads k = some r) : slotGet (forEach ks enterEmergencyLoad s).loads k
      = some (if k ∈ ks then emergencyRecord s.now s.config k r else r) := by
  refine forEach_table (table := State.loads) (I := StandsAt s.now s.config)
    (fun k u => (enterEmergencyLoad_side k u).comfort.standsAt) (fun k u x at_ seen => ?_)
    (fun k j u _ apart => enterEmergencyLoad_other apart u) (emergencyRecord_twice _ _) ks ⟨rfl, rfl⟩ found
  rw [enterEmergencyLoad_own seen, at_.1, at_.2]

theorem enterEmergencyLoads_side (ks : List Nat) (s : State) : LoadSide s (forEach ks enterEmergencyLoad s) :=
  forEach_related .refl .trans _ enterEmergencyLoad_side _ _

theorem enterEmergencyLoad_raises (k : Nat) (s : State) : Raises FieldNotice s (enterEmergencyLoad k s) := by
  unfold enterEmergencyLoad
  split
  · exact .refl s
  · refine .trans ?_ ((reportsClosed_raises fun _ => id).checkCommand k _)
    exact .of_same rfl rfl

/-! ## Stages -/

/-- R179: the stage of a zone under STOP. -/
def stopped (now : Nat) (c : ClimateRec) : ClimateRec := { c with
  stage := 0
  stageAt := if c.stage = 0 then c.stageAt else now
  dwell := none
  purgeClear := none
  gasStale := false }

/-- R179: the end of a purge. -/
def purgeEnd (now z : Nat) (c : ClimateRec) : Notice :=
  ⟨.gasPurgeEnd, now, .zone z, quantity c.gasIndex, quantity ((now - c.stageAt) / 1000)⟩

theorem stopVentilation_climate (z : Nat) (s : State) :
    (stopVentilation z s).climate = slotChange (stopped s.now) s.climate z := by
  unfold stopVentilation
  cases found : slotGet s.climate z with
  | none => exact (slotChange_id fun r at_ => nomatch found.symm.trans at_).symm
  | some r =>
    dsimp only
    split <;> rfl

theorem stopVentilation_told {z : Nat} {c : ClimateRec} {s : State} (found : slotGet s.climate z = some c)
    (purges : c.stage = 4) : Told (purgeEnd s.now z c) s (stopVentilation z s) := by
  have ends : stopVentilation z s = raise .gasPurgeEnd (.zone z) (quantity c.gasIndex)
      (quantity ((s.now - c.stageAt) / 1000)) (changeClimate z (stopped s.now) s) := by
    simp only [stopVentilation, found, purges, if_true]
    rfl
  rw [ends]
  exact told_raise _ _ _ _ (changeClimate z (stopped s.now) s)

/-- What the fall of a stage raises. -/
def StageNotice (n : Notice) : Prop := n.kind = .gasPurgeEnd

theorem StageNotice.plain {n : Notice} (h : StageNotice n) : isPriority n.kind = false := by rw [h]; rfl

theorem stopVentilation_raises (z : Nat) (s : State) : Raises StageNotice s (stopVentilation z s) := by
  unfold stopVentilation
  split
  · exact .refl s
  · dsimp only
    split
    · refine .trans ?_ (.raised rfl)
      exact .of_same rfl rfl
    · exact .of_same rfl rfl

theorem stopped_twice (now : Nat) (c : ClimateRec) : stopped now (stopped now c) = stopped now c := by
  simp [stopped]

theorem slotGet_slotChange_ne {β : Type} {f : β → β} {t : Table β} {k j : Nat} (apart : j ≠ k) :
    slotGet (slotChange f t k) j = slotGet t j := by
  rw [slotGet_slotChange, if_neg apart]

theorem slotGet_slotChange_same {β : Type} {f : β → β} {t : Table β} {k : Nat} {r : β} (found : slotGet t k = some r) :
    slotGet (slotChange f t k) k = some (f r) := by
  rw [slotGet_slotChange, if_pos rfl, found]
  rfl

theorem stopVentilations {z : Nat} {c : ClimateRec} {s : State} (zs : List Nat) (found : slotGet s.climate z = some c) :
    slotGet (forEach zs stopVentilation s).climate z = some (if z ∈ zs then stopped s.now c else c) := by
  refine forEach_table (table := State.climate) (I := StandsAt s.now s.config) (g := fun _ => stopped s.now)
    (fun z u => (stopVentilation_side z u).standsAt) (fun z u x at_ seen => ?_) (fun z j u _ apart => ?_)
    (fun _ => stopped_twice _) zs ⟨rfl, rfl⟩ found
  · rw [stopVentilation_climate, slotGet_slotChange_same seen, at_.1]
  · rw [stopVentilation_climate, slotGet_slotChange_ne apart]

theorem stopVentilations_raise (zs : List Nat) (s : State) :
    Raises StageNotice s (forEach zs stopVentilation s) := .each stopVentilation_raises _ _

theorem stopVentilations_side (zs : List Nat) (s : State) : ComfortSide s (forEach zs stopVentilation s) :=
  forEach_related .refl .trans _ stopVentilation_side _ _

/-- The first visit to a zone in purge ends it. -/
theorem stopVentilations_told {z : Nat} {c : ClimateRec} {s : State} {zs : List Nat} (member : z ∈ zs)
    (found : slotGet s.climate z = some c) (purges : c.stage = 4) :
    Told (purgeEnd s.now z c) s (forEach zs stopVentilation s) := by
  obtain ⟨before, after, rfl, absent⟩ := List.eq_append_cons_of_mem member
  rw [forEach_append, forEach_cons]
  have still : slotGet (forEach before stopVentilation s).climate z = some c := by
    rw [stopVentilations before found, if_neg absent]
  have told := stopVentilation_told still purges
  rw [(stopVentilations_side before s).now] at told
  exact told.within (stopVentilations_raise before s) (stopVentilation_raises z _) (stopVentilations_raise after _)

theorem emergencyStages_stop {s : State} (vent : s.config.climate.vent = .stop) :
    emergencyStages s = forEach (slotNumbers s.climate) stopVentilation s := by
  rw [emergencyStages, vent]

theorem emergencyStages_extract {s : State} (vent : s.config.climate.vent = .extract) : emergencyStages s = s := by
  rw [emergencyStages, vent]

theorem emergencyStages_raises (s : State) : Raises StageNotice s (emergencyStages s) := by
  unfold emergencyStages
  split
  · exact stopVentilations_raise _ s
  · exact .refl s

theorem emergencyStages_loads (s : State) : (emergencyStages s).loads = s.loads := by
  have one : ∀ z u, (fun a b : State => b.loads = a.loads) u (stopVentilation z u) := fun z u => by
    unfold stopVentilation
    split
    · rfl
    · dsimp only
      split <;> rfl
  unfold emergencyStages
  split
  · exact forEach_related (R := fun a b => b.loads = a.loads) (fun _ => rfl) (fun h k => k.trans h) _ one _ _
  · rfl

end Sys2Proof.Machine

namespace Sys2Proof.Claims

open Sys2Proof.Machine

/-- R179: what a hand-off makes of the stages, in the words of the claim. -/
theorem emergencyStages_set (s : State) : stagesSet s (emergencyStages s) s.config.climate.vent := by
  refine ⟨fun vent => ?_, fun vent z c found => ?_⟩
  · rw [emergencyStages_extract vent]
  · rw [emergencyStages_stop vent]
    have member := mem_slotNumbers_of_found found
    refine ⟨?_, fun purges => stopVentilations_told member found purges⟩
    rw [stopVentilations _ found, if_pos member]
    rfl

/-- The claim on the stages holds of a longer run that leaves the stages alone before and after. -/
theorem stagesSet_within {P Q R : Notice → Prop} {s a b t : State} {vent : EmergencyVent} (h : stagesSet a b vent)
    (before : Raises P s a) (step : Raises Q a b) (after : Raises R b t) (now : a.now = s.now)
    (first : a.climate = s.climate) (last : t.climate = b.climate) : stagesSet s t vent := by
  obtain ⟨extract, stop⟩ := h
  refine ⟨fun is => by rw [last, extract is, first], fun is z c found => ?_⟩
  obtain ⟨stage, told⟩ := stop is z c (first ▸ found)
  rw [last, ← now]
  exact ⟨stage, fun purges => Told.within (told purges) before step after⟩

end Sys2Proof.Claims


/-! SUPPORT. The entry into EMERGENCY (R158, R179, R189), and the signals of the terminal block (R61, R62). -/

namespace Sys2Proof.Machine

/-! ## Commands under EMERGENCY -/

/-- R140: when a load needs no command. -/
theorem commandDue_false {now : Nat} {r : LoadRec} : commandDue now r = false
    ↔ ∃ last, r.lastCommand = some last ∧ now < r.refreshAt ∧ r.applied < last + 10 ∧ last < r.applied + 10
      ∧ (r.applied = 0 ∨ r.applied = 1000 → r.applied = last) := by
  unfold commandDue distance
  cases r.lastCommand with
  | none => simp
  | some last =>
    simp only [Bool.or_eq_false_iff, decide_eq_false_iff_not, Bool.and_eq_false_iff, bne_eq_false_iff_eq,
      beq_eq_false_iff_ne, Option.some.injEq, exists_eq_left']
    omega

/-- R158, R179: the hand-off leaves each load at its emergency value, checked for a command. -/
theorem handEmergency_load {k : Nat} {l : LoadDef} {r : LoadRec} {s : State}
    (defined : slotGet s.config.loads k = some l) (found : slotGet s.loads k = some r) :
    slotGet (handEmergency s).loads k = some (afterCheck s.now (emergencyLoad s.config.climate.vent l.kind r)) := by
  rw [handEmergency, emergencyStages_loads, enterEmergencyLoads _ found, if_pos (mem_slotNumbers_of_found defined),
    emergencyRecord, defined]

/-- What the hand-offs of EMERGENCY raise. -/
def HandOffNotice (n : Notice) : Prop := FieldNotice n ∨ StageNotice n

theorem HandOffNotice.plain {n : Notice} (h : HandOffNotice n) : isPriority n.kind = false :=
  h.elim FieldNotice.plain StageNotice.plain

theorem enterEmergencyLoads_raise (ks : List Nat) (s : State) :
    Raises HandOffNotice s (forEach ks enterEmergencyLoad s) :=
  .each (fun k u => (enterEmergencyLoad_raises k u).mono fun _ => .inl) _ _

theorem emergencyStages_handOff (s : State) : Raises HandOffNotice s (emergencyStages s) :=
  (emergencyStages_raises s).mono fun _ => .inr

theorem handEmergency_raises (s : State) : Raises HandOffNotice s (handEmergency s) :=
  (enterEmergencyLoads_raise _ s).trans (emergencyStages_handOff _)

theorem LoadSide.now {s t : State} (h : LoadSide s t) : t.now = s.now := by rw [h.frame]

theorem LoadSide.climate {s t : State} (h : LoadSide s t) : t.climate = s.climate := by rw [h.frame]

theorem LoadSide.config {s t : State} (h : LoadSide s t) : t.config = s.config := by rw [h.frame]

/-! ## Terminals under load commands -/

section

variable {t : Nat} {c : RunningConfig} (relay : functionOf c t ≠ .relayOut) (dim : functionOf c t ≠ .dimOut)

include relay dim

/-- R64: a drive changes the terminals only of a function that is driven. -/
theorem driveTerminal_terminal (j v : Nat) {s : State} (config : s.config = c) :
    slotGet (driveTerminal j v s).terminals t = slotGet s.terminals t := by
  have kept : ∀ v u, (driven j v u).terminals = u.terminals := fun v u => by
    rw [driven, deliverTerminal_terminals, changePoint]
  unfold driveTerminal
  split
  · rename_i driven_
    rw [kept, changeTerminal, slotGet_slotChange_ne fun same => relay (by rw [same, ← config, driven_])]
  · rename_i driven_
    rw [kept, changeTerminal, slotGet_slotChange_ne fun same => dim (by rw [same, ← config, driven_])]
  · rfl

theorem issueCommand_terminal_kept (k : Nat) {s : State} (config : s.config = c) :
    slotGet (issueCommand k s).terminals t = slotGet s.terminals t := by
  unfold issueCommand
  split
  · dsimp only
    split
    · exact driveTerminal_terminal relay dim _ _ (by exact config)
    · rw [queueWrite_eq, setLine_frame]
      rfl
  · rfl

theorem enterEmergencyLoad_terminal (k : Nat) {s : State} (config : s.config = c) :
    slotGet (enterEmergencyLoad k s).terminals t = slotGet s.terminals t := by
  unfold enterEmergencyLoad
  split
  · rfl
  · unfold checkCommand
    split
    · exact issueCommand_terminal_kept relay dim k (by exact config)
    · rfl

theorem enterEmergencyLoads_terminal (ks : List Nat) {s : State} (config : s.config = c) :
    slotGet (forEach ks enterEmergencyLoad s).terminals t = slotGet s.terminals t := by
  induction ks generalizing s with
  | nil => rfl
  | cons k ks ih =>
    exact (ih ((enterEmergencyLoad_side k s).config.trans config)).trans
      (enterEmergencyLoad_terminal relay dim k config)

omit relay dim in
theorem emergencyStages_terminals (s : State) : (emergencyStages s).terminals = s.terminals := by
  have one : ∀ z u, (stopVentilation z u).terminals = u.terminals := fun z u => by
    unfold stopVentilation
    split
    · rfl
    · dsimp only
      split <;> rfl
  unfold emergencyStages
  split
  · exact forEach_related (R := fun a b => b.terminals = a.terminals) (fun _ => rfl) (fun h k => k.trans h) _ one _ _
  · rfl

theorem handEmergency_terminal {s : State} (config : s.config = c) :
    slotGet (handEmergency s).terminals t = slotGet s.terminals t := by
  rw [handEmergency, emergencyStages_terminals, enterEmergencyLoads_terminal relay dim _ config]

end

/-! ## The signals (R61, R62) -/

theorem mem_terminalNumbers {t : Nat} : t ∈ terminalNumbers ↔ 1 ≤ t ∧ t ≤ 16 := by
  simp only [terminalNumbers, List.mem_cons, List.not_mem_nil, or_false]
  omega

theorem getTerminal_debounced {t : Nat} {s : State} {b : Bool} : (getTerminal s t).debounced = some b
    ↔ ∃ r, slotGet s.terminals t = some r ∧ r.debounced = some b := by
  unfold getTerminal
  cases slotGet s.terminals t with
  | none => simp [idleTerminal]
  | some r => simp

theorem emergencyActive_iff {t : Nat} {s : State} : emergencyActive s t = true ↔ functionOf s.config t = .emergencyIn
    ∧ ∃ r, slotGet s.terminals t = some r ∧ r.debounced = some false := by
  unfold emergencyActive
  split
  · rename_i is
    rw [beq_iff_eq, getTerminal_debounced]
    simp [is]
  · rename_i other
    simp only [Bool.false_eq_true, false_iff]
    exact fun h => other h.1

theorem emergencySignal_iff {s : State} : emergencySignal s = true ↔ ∃ t r, 1 ≤ t ∧ t ≤ 16
    ∧ functionOf s.config t = .emergencyIn ∧ slotGet s.terminals t = some r ∧ r.debounced = some false := by
  simp only [emergencySignal, List.any_eq_true, mem_terminalNumbers, emergencyActive_iff]
  constructor
  · rintro ⟨t, ⟨low, high⟩, is, r, found, level⟩
    exact ⟨t, r, low, high, is, found, level⟩
  · rintro ⟨t, r, low, high, is, found, level⟩
    exact ⟨t, ⟨low, high⟩, is, r, found, level⟩

theorem curtailCap_iff {t cap : Nat} {s : State} : curtailCap s t = some cap ↔ functionOf s.config t = .curtailIn cap
    ∧ ∃ r, slotGet s.terminals t = some r ∧ r.debounced = some true := by
  unfold curtailCap
  split
  · rename_i c is
    rw [← getTerminal_debounced]
    simp only [is, TermFunction.curtailIn.injEq]
    split <;> simp_all
  · rename_i other
    simp only [reduceCtorEq, false_iff]
    exact fun h => other cap h.1

theorem handSignal_same {t : Nat} {s : State} (same : emergencySignal s = s.signal) : handSignal t s = s := by
  unfold handSignal
  exact if_pos same

theorem handSignal_rises {t : Nat} {s : State} (new : emergencySignal s = true) (old : s.signal = false) :
    handSignal t s = signalActive t { s with signal := true } := by
  simp only [handSignal, new, old, Bool.true_eq_false, if_false, if_true]

theorem handSignal_falls {t : Nat} {s : State} (new : emergencySignal s = false) (old : s.signal = true) :
    handSignal t s = signalInactive { s with signal := false } := by
  simp only [handSignal, new, old, Bool.false_eq_true, if_false]

theorem signalActive_enters {t : Nat} {s : State} (notEmergency : s.mode ≠ .emergency) (notStart : s.mode ≠ .start) :
    signalActive t s = enterEmergency t s := by
  unfold signalActive
  split
  · rename_i is
    exact absurd is notEmergency
  · rename_i is
    exact absurd is notStart
  · rfl

theorem signalActive_stays {t : Nat} {s : State} (mode : s.mode = .emergency) :
    signalActive t s = { s with releaseAt := none } := by
  simp only [signalActive, mode]

/-- R189: the state in which the entry into EMERGENCY hands off. -/
def emergencyNoted (t : Nat) (s : State) : State :=
  raise .modeChanged (.mode .emergency) (some s.mode.ctorIdx) (some ModeCause.emergencyEntry.ctorIdx)
    (raise .emergencyBegin (.terminal t) (some s.mode.ctorIdx) none
      { s with returnMode := some s.mode, emergencyAt := some s.now, mode := .emergency })

theorem enterEmergency_eq (t : Nat) (s : State) : enterEmergency t s = handEmergency (emergencyNoted t s) := rfl

theorem emergencyNoted_raises (t : Nat) (s : State) : Raises (fun _ => True) s (emergencyNoted t s) := by
  unfold emergencyNoted
  refine .trans (.trans ?_ (.raised trivial)) (.raised trivial)
  exact .of_same rfl rfl

end Sys2Proof.Machine

namespace Sys2Proof.Claims

open Sys2Proof.Machine

theorem curtailLaw_holds (s : State) : curtailLaw s := by
  unfold curtailLaw
  intro active
  have mem (c : Nat) : c ∈ terminalNumbers.filterMap (curtailCap s) ↔ ∃ t, active t c := by
    simp only [List.mem_filterMap, mem_terminalNumbers, curtailCap_iff, active, and_assoc]
  have empty : terminalOrder s = none ↔ ∀ t cap, ¬ active t cap := by
    rw [terminalOrder, List.min?_eq_none_iff, List.eq_nil_iff_forall_not_mem]
    simp only [mem, not_exists]
    exact ⟨fun h t cap => h cap t, fun h cap t => h t cap⟩
  refine ⟨empty, fun cap => ?_⟩
  rw [terminalOrder, List.min?_eq_some_iff, mem]
  simp only [mem]
  exact and_congr_right fun _ => ⟨fun h t other is => h other ⟨t, is⟩, fun h other ⟨t, is⟩ => h t other is⟩

/-- R140: the claim on a command holds of a load that has been checked. -/
theorem afterCheck_checked {now : Nat} {r x : LoadRec} (command : x.lastCommand = r.lastCommand)
    (refresh : x.refreshAt = r.refreshAt) : commandChecked now r (afterCheck now x) := by
  have applied : (afterCheck now x).applied = x.applied := by
    unfold afterCheck
    split <;> rfl
  have early := commandDue_false (now := now) (r := x)
  unfold commandChecked
  intro stands
  have same : stands ↔ commandDue now x = false := by
    rw [early, command, refresh]
    simp only [stands, applied]
  rw [same]
  cases due : commandDue now x with
  | true =>
    rw [afterCheck_due due]
    exact ⟨fun h => absurd h (by simp), fun _ => ⟨rfl, rfl⟩⟩
  | false =>
    rw [afterCheck_early due]
    exact ⟨fun _ => ⟨command, refresh⟩, fun h => absurd rfl h⟩

/-- R158, R179: the record of a load under EMERGENCY, in the words of the claim. -/
theorem emergencyLoad_claim (now : Nat) (vent : EmergencyVent) (kind : LoadKind) (r : LoadRec) :
    let runs := kind = .light ∨ (kind = .exhaustFan ∧ vent = .extract)
    let f := if runs then 1000 else 0
    let r' := afterCheck now (emergencyLoad vent kind r)
    r' = { r with
      posted := f
      goal := f
      applied := f
      light := if kind = .light then some ⟨.emergency, 1000, 1000⟩ else r.light
      reason := if runs then .emergency else r.reason
      exempt := if runs then true else r.exempt
      lastCommand := r'.lastCommand
      refreshAt := r'.refreshAt } := by
  intro runs f r'
  have shape : r' = { emergencyLoad vent kind r with lastCommand := r'.lastCommand, refreshAt := r'.refreshAt } := by
    simp only [r', afterCheck]
    split <;> rfl
  rw [shape]
  simp only [runs, f]
  clear shape
  generalize r' = x
  cases kind <;> cases vent <;> simp [emergencyLoad, emergencyFraction, emergencyExempt]

/-- R158, R179, R189: the entry into EMERGENCY, from a state that differs from `s` only in what a delivery changes. -/
theorem enterEmergency_entered {t : Nat} {s v : State} (side : PointSide { s with terminals := v.terminals } v)
    (told : Raises (fun _ => True) s v) (is : functionOf s.config t = .emergencyIn) :
    emergencyEntered t s v (grantLines (enterEmergency t { v with signal := true })) := by
  have same := side.frame
  have config : v.config = s.config := by rw [same]
  have now : v.now = s.now := by rw [same]
  have mode : v.mode = s.mode := by rw [same]
  have loads : v.loads = s.loads := by rw [same]
  have climate : v.climate = s.climate := by rw [same]
  have noted : (emergencyNoted t { v with signal := true }).config = s.config := config
  have handed := (handEmergency_side (emergencyNoted t { v with signal := true })).frame
  rw [enterEmergency_eq]
  refine ⟨?mode, ?returns, ?entered, ?signal, ?notices, ?load, ?stages, ?terminal, ?frame⟩
  case mode => exact (congrArg State.mode handed)
  case returns => exact (congrArg State.returnMode handed).trans (congrArg some mode)
  case entered => exact (congrArg State.emergencyAt handed).trans (congrArg some now)
  case signal => exact (congrArg State.signal handed)
  case notices =>
    rw [← mode]
    exact (handEmergency_raises _).grows fun _ => HandOffNotice.plain
  case load =>
    intro k l r defined found
    rw [← config] at defined
    rw [← loads] at found
    have loaded := handEmergency_load (s := emergencyNoted t { v with signal := true }) defined found
    refine ⟨_, loaded, ?_, ?_⟩
    · rw [← now]
      exact afterCheck_checked (emergencyLoad_lastCommand _ _ _) (emergencyLoad_refreshAt _ _ _)
    · rw [← config]
      exact emergencyLoad_claim _ _ l.kind r
  case stages =>
    rw [← config]
    have after := enterEmergencyLoads_side (slotNumbers v.config.loads) (emergencyNoted t { v with signal := true })
    have set := emergencyStages_set (forEach (slotNumbers v.config.loads) enterEmergencyLoad
      (emergencyNoted t { v with signal := true }))
    rw [after.config] at set
    refine stagesSet_within set (P := fun _ => True) ?_ (emergencyStages_handOff _) (R := fun _ => True)
      (.of_same rfl rfl) (after.now.trans now) (after.climate.trans climate) rfl
    refine told.trans (.trans ?_ (.trans (emergencyNoted_raises t _)
      ((enterEmergencyLoads_raise _ _).mono fun _ _ => trivial)))
    exact .of_same rfl rfl
  case terminal =>
    exact handEmergency_terminal (c := s.config) (by rw [is]; simp) (by rw [is]; simp) noted
  case frame =>
    have granted (u : State) : grantLines u = { u with lineA := (grantLines u).lineA, lineB := (grantLines u).lineB } :=
      rfl
    rw [granted, handed, emergencyNoted, same]
    rfl

end Sys2Proof.Claims


/-! SUPPORT and PROOFS. The inputs of the terminal block (R55, R56, R57, R59, R61, R62, R63). -/

namespace Sys2Proof.Machine

theorem pinOf_found {t : Nat} {pin : InputPin} {s : State} (found : slotGet s.inputs t = some pin) :
    pinOf s t = pin := by
  rw [pinOf, found]
  rfl

/-! ## The pin (R55, R59) -/

section

variable {t : Nat} {pin : InputPin} {s : State} (found : slotGet s.inputs t = some pin)

include found

theorem rawChange_same : rawChange t pin.closed s = s := by
  rw [rawChange, pinOf_found found, if_pos rfl]

theorem rawChange_moves {closed : Bool} (moves : pin.closed ≠ closed) (on : s.powered = true) :
    rawChange t closed s = if isContactInput (functionOf s.config t) then
      changeTerminal t (fun r => { r with debounceAt := some (s.now + 50) })
        (setPin t (fun p => { p with closed := closed }) s)
    else if closed then takePulse t (setPin t (fun p => { p with closed := closed }) s)
    else setPin t (fun p => { p with closed := closed }) s := by
  unfold rawChange
  simp only [pinOf_found found, if_neg moves, on, Bool.not_true, Bool.false_eq_true, if_false]
  rfl

theorem rawChange_unpowered {closed : Bool} (moves : pin.closed ≠ closed) (off : s.powered = false) :
    rawChange t closed s = setPin t (fun p => { p with closed := closed }) s := by
  unfold rawChange
  simp only [pinOf_found found, if_neg moves, off, Bool.not_false, if_true]

end

theorem takePulse_other {t : Nat} {s : State} (other : ∀ w, functionOf s.config t ≠ .meterPulse w) :
    takePulse t s = s := by
  unfold takePulse
  split
  · rename_i w meter
    exact absurd meter (other w)
  · rfl

/-! ## A level (R55) -/

/-- R55: the terminal has taken the level, and delivered it. -/
def levelTaken (t : Nat) (closed : Bool) (s : State) : State :=
  deliverTerminal t (contactValue (functionOf s.config t) closed) { s with
    terminals := slotChange (fun r => { r with debounceAt := none, debounced := some closed }) s.terminals t }

section

variable (t : Nat) (closed : Bool) (s : State)

theorem levelTaken_side :
    PointSide { s with terminals := (levelTaken t closed s).terminals } (levelTaken t closed s) := by
  have side := deliverTerminal_side t (contactValue (functionOf s.config t) closed) { s with
    terminals := slotChange (fun r => { r with debounceAt := none, debounced := some closed }) s.terminals t }
  have terminals : (levelTaken t closed s).terminals
      = slotChange (fun r => { r with debounceAt := none, debounced := some closed }) s.terminals t :=
    deliverTerminal_terminals _ _ _
  rw [terminals]
  exact side

theorem levelTaken_config : (levelTaken t closed s).config = s.config := by
  rw [(levelTaken_side t closed s).frame]

theorem levelTaken_now : (levelTaken t closed s).now = s.now := by rw [(levelTaken_side t closed s).frame]

theorem levelTaken_mode : (levelTaken t closed s).mode = s.mode := by rw [(levelTaken_side t closed s).frame]

theorem levelTaken_signal : (levelTaken t closed s).signal = s.signal := by rw [(levelTaken_side t closed s).frame]

theorem levelTaken_terminals : (levelTaken t closed s).terminals
    = slotChange (fun r => { r with debounceAt := none, debounced := some closed }) s.terminals t :=
  deliverTerminal_terminals _ _ _

theorem levelTaken_raises : Raises (fun _ => True) s (levelTaken t closed s) := by
  refine .trans ?_ ((doorsClosed_raises fun _ _ => trivial).deliverTerminal t _ _)
  exact .of_same rfl rfl

end

/-- R55: an expiry of the debounce timer that finds the level as it was. -/
theorem settleLevel_same {t : Nat} {pin : InputPin} {r : TermRec} {s : State} (wired : slotGet s.inputs t = some pin)
    (found : slotGet s.terminals t = some r) (same : r.debounced = some pin.closed) :
    settleLevel t s = changeTerminal t (fun x => { x with debounceAt := none }) s := by
  simp only [settleLevel, getTerminal_found found, same, pinOf_found wired, if_true]

/-- R55: an expiry of the debounce timer that finds another level, or the first. -/
theorem settleLevel_takes {t : Nat} {pin : InputPin} {r : TermRec} {s : State} (wired : slotGet s.inputs t = some pin)
    (found : slotGet s.terminals t = some r) (new : r.debounced ≠ some pin.closed) : settleLevel t s
      = grantLines (levelRule t (functionOf s.config t) r.debounced.isNone pin.closed
        (levelTaken t pin.closed s)) := by
  have taken_ (first : Bool) : takeLevel t (functionOf s.config t) first pin.closed
      (changeTerminal t (fun x => { x with debounceAt := none }) s)
      = levelRule t (functionOf s.config t) first pin.closed (levelTaken t pin.closed s) := by
    simp only [takeLevel, levelTaken, changeTerminal, slotChange_slotChange]
  cases level : r.debounced with
  | none => simp only [settleLevel, getTerminal_found found, level, pinOf_found wired, taken_, Option.isNone_none]
  | some b =>
    have differs : b ≠ pin.closed := fun same => new (by rw [level, same])
    simp only [settleLevel, getTerminal_found found, level, pinOf_found wired, taken_, Option.isNone_some,
      if_neg differs]

/-- R63: the restart input by the level it takes, and the record it had before. -/
theorem restartLevel_taken {t : Nat} {r : TermRec} {closed : Bool} {s : State}
    (found : slotGet s.terminals t = some r) :
    changeTerminal t (restartLevel (levelTaken t closed s).now r.debounced.isNone closed) (levelTaken t closed s)
      = changeTerminal t (fun x => if closed = false then { x with armed := true, restartAt := none }
          else if r.debounced ≠ none ∧ r.armed = true then
            { x with restartAt := some ((levelTaken t closed s).now + 2000) }
          else x) (levelTaken t closed s) := by
  unfold changeTerminal
  have taken_ : slotGet (levelTaken t closed s).terminals t
      = some { r with debounceAt := none, debounced := some closed } := by
    rw [levelTaken_terminals, slotGet_slotChange_same found]
  rw [slotChange_eq _ _ _ _ _ taken_]
  unfold restartLevel
  cases closed with
  | false => rfl
  | true => cases r.debounced <;> cases r.armed <;> rfl

/-! ## The signal as a terminal takes a level (R61) -/

/-- R61: another terminal keeps the signal active. -/
def othersActive (s : State) (t : Nat) : Prop := ∃ t' r', 1 ≤ t' ∧ t' ≤ 16 ∧ t' ≠ t
  ∧ functionOf s.config t' = .emergencyIn ∧ slotGet s.terminals t' = some r' ∧ r'.debounced = some false

theorem emergencySignal_taken {t : Nat} {r : TermRec} {closed : Bool} {s : State}
    (found : slotGet s.terminals t = some r) (is : functionOf s.config t = .emergencyIn) (low : 1 ≤ t) (high : t ≤ 16) :
    emergencySignal (levelTaken t closed s) = true ↔ closed = false ∨ othersActive s t := by
  rw [emergencySignal_iff, levelTaken_config, levelTaken_terminals]
  constructor
  · rintro ⟨j, x, one, most, function, at_, level⟩
    by_cases same : j = t
    · subst same
      rw [slotGet_slotChange_same found] at at_
      cases at_
      exact .inl (Option.some.inj level)
    · rw [slotGet_slotChange_ne same] at at_
      exact .inr ⟨j, x, one, most, same, function, at_, level⟩
  · rintro (rfl | ⟨j, x, one, most, other, function, at_, level⟩)
    · exact ⟨t, _, low, high, is, slotGet_slotChange_same found, rfl⟩
    · exact ⟨j, x, one, most, function, (slotGet_slotChange_ne other).trans at_, level⟩

/-! ## Conversions (R57) -/

theorem rawValue_clamped (mv : Int) : ((rawValue mv : Nat) : Int) = min (max (mv / 10) 0) 1000 := by
  unfold rawValue
  omega

theorem conversion_rests {t : Nat} {s : State} (rests : (getTerminal s t).convertAt = none
    ∨ ∃ e, (getTerminal s t).convertAt = some e ∧ s.now < e) : conversion t s = s := by
  unfold conversion
  rcases rests with none_ | ⟨e, at_, early⟩
  · rw [none_]
  · rw [at_]
    exact whenDue_early early

theorem conversion_due {t e : Nat} {r : TermRec} {s : State} (found : slotGet s.terminals t = some r)
    (at_ : r.convertAt = some e) (due : e ≤ s.now) :
    conversion t s = convert t (changeTerminal t (fun r => { r with convertAt := some (e + 100) }) s) := by
  simp only [conversion, getTerminal_found found, at_]
  exact whenDue_due due

theorem convert_analog {t : Nat} {use : AnalogUse} {offset span : Int} {pin : InputPin} {s : State}
    (is : functionOf s.config t = .analogIn use offset span) (wired : slotGet s.inputs t = some pin) :
    convert t s = deliverTerminal t (max (useRange use).1 (min (useRange use).2
      (offset + ((min (max (pin.millivolts / 10) 0) 1000) * span) / 1000))) s := by
  simp only [convert, is, pinOf_found wired, scaledValue, rawValue_clamped]

end Sys2Proof.Machine

namespace Sys2Proof.Proofs

open Sys2Proof.Machine Sys2Proof.Claims

section

variable {t : Nat} {pin : InputPin} {r : TermRec} {s : State}

theorem exec_debounceTimer {e : Nat} (on : s.powered = true) (found : slotGet s.terminals t = some r)
    (at_ : r.debounceAt = some e) (due : e ≤ s.now) : exec (.debounceTimerExpires t) s = .next (settleLevel t s) := by
  refine (powered_on on).trans ?_
  simp only [debounceExpiry, getTerminal_found found, at_]
  exact congrArg _ (whenDue_due due)

theorem exec_debounceTimer_stopped (on : s.powered = true) (found : slotGet s.terminals t = some r)
    (at_ : r.debounceAt = none) : exec (.debounceTimerExpires t) s = .next s := by
  refine (powered_on on).trans ?_
  simp only [debounceExpiry, getTerminal_found found, at_]

theorem exec_repeatDelivery {e : Nat} (on : s.powered = true) (found : slotGet s.terminals t = some r)
    (at_ : r.repeatAt = some e) (due : e ≤ s.now) :
    exec (.terminalRepeatDelivery t) s = .next (repeatDelivery t e s) := by
  refine (powered_on on).trans ?_
  simp only [getTerminal_found found, at_]
  exact congrArg _ (whenDue_due due)

theorem exec_restartTimer {e : Nat} (on : s.powered = true) (found : slotGet s.terminals t = some r)
    (at_ : r.restartAt = some e) (due : e ≤ s.now) : exec (.restartTimerExpires t) s = .next { s with
      terminals := slotChange (fun r => { r with restartAt := none }) s.terminals t
      restartRequested := true } := by
  refine (powered_on on).trans ?_
  simp only [getTerminal_found found, at_]
  exact congrArg _ (whenDue_due due)

theorem exec_restartTimer_stopped (on : s.powered = true) (found : slotGet s.terminals t = some r)
    (at_ : r.restartAt = none) : exec (.restartTimerExpires t) s = .next s := by
  refine (powered_on on).trans ?_
  simp only [getTerminal_found found, at_]

theorem repeatDelivery_level {e : Nat} {level : Bool} (input : isContactInput (functionOf s.config t) = true)
    (found : slotGet s.terminals t = some r) (stands : r.debounced = some level) :
    repeatDelivery t e s = deliverTerminal t (contactValue (functionOf s.config t) level)
      (changeTerminal t (fun r => { r with repeatAt := some (e + 100) }) s) := by
  have value : repeatedValue s t = some (contactValue (functionOf s.config t) level) := by
    unfold repeatedValue
    rw [getTerminal_found found, stands]
    split
    · rename_i meter
      rw [meter] at input
      cases input
    · rfl
  simp only [repeatDelivery, value]
  rfl

theorem repeatDelivery_none {e : Nat} (input : isContactInput (functionOf s.config t) = true)
    (found : slotGet s.terminals t = some r) (stands : r.debounced = none) :
    repeatDelivery t e s = changeTerminal t (fun r => { r with repeatAt := some (e + 100) }) s := by
  have value : repeatedValue s t = none := by
    unfold repeatedValue
    rw [getTerminal_found found, stands]
    split
    · rename_i meter
      rw [meter] at input
      cases input
    · rfl
  simp only [repeatDelivery, value]
  rfl

theorem repeatDelivery_meter {e w : Nat} (meter : functionOf s.config t = .meterPulse w)
    (found : slotGet s.terminals t = some r) : repeatDelivery t e s
      = deliverTerminal t r.power (changeTerminal t (fun r => { r with repeatAt := some (e + 100) }) s) := by
  simp only [repeatDelivery, repeatedValue, meter, getTerminal_found found]
  rfl

theorem exec_analogConversion {e : Nat} {use : AnalogUse} {offset span mv : Int} (wired : slotGet s.inputs t = some pin)
    (found : slotGet s.terminals t = some r) (on : s.powered = true) (at_ : r.convertAt = some e) (due : e ≤ s.now)
    (is : functionOf s.config t = .analogIn use offset span) :
    exec (.analogConversion t mv) s = .next (deliverTerminal t
      (max (useRange use).1 (min (useRange use).2 (offset + ((min (max (mv / 10) 0) 1000) * span) / 1000)))
      (changeTerminal t (fun r => { r with convertAt := some (e + 100) })
        (setPin t (fun p => { p with millivolts := mv }) s))) := by
  have pinned : slotGet (changeTerminal t (fun r => { r with convertAt := some (e + 100) })
      (setPin t (fun p => { p with millivolts := mv }) s)).inputs t = some { pin with millivolts := mv } :=
    slotGet_slotChange_same wired
  have due_ := conversion_due (s := setPin t (fun p => { p with millivolts := mv }) s) found at_ due
  rw [convert_analog (s := changeTerminal t _ (setPin t _ s)) is pinned] at due_
  exact congrArg Host.Outcome.next ((if_pos on).trans due_)

theorem exec_analogConversion_early (found : slotGet s.terminals t = some r) (mv : Int)
    (rests : r.convertAt = none ∨ ∃ e, r.convertAt = some e ∧ s.now < e) :
    exec (.analogConversion t mv) s = .next (setPin t (fun p => { p with millivolts := mv }) s) := by
  have same : getTerminal (setPin t (fun p => { p with millivolts := mv }) s) t = r := getTerminal_found found
  have still : conversion t (setPin t (fun p => { p with millivolts := mv }) s)
      = setPin t (fun p => { p with millivolts := mv }) s := conversion_rests (by rw [same]; exact rests)
  exact congrArg Host.Outcome.next ((congrArg (fun x => if s.powered = true then x else _) still).trans (ite_self _))

/-- R61: what the mode controller makes of the signal as an EMERGENCY_IN terminal takes a level. -/
theorem emergencyLevel (found : slotGet s.terminals t = some r) (is : functionOf s.config t = .emergencyIn)
    (low : 1 ≤ t) (high : t ≤ 16) (closed : Bool) :
    let v := levelTaken t closed s
    (closed = true → s.signal = true → ¬ othersActive s t → s.mode = .emergency →
      handSignal t v = { v with signal := false, releaseAt := some (s.now + 30000) })
    ∧ (closed = true → s.signal = true → ¬ othersActive s t → s.mode ≠ .emergency →
      handSignal t v = { v with signal := false })
    ∧ (closed = true → s.signal = false → ¬ othersActive s t → handSignal t v = v)
    ∧ (closed = true → s.signal = true → othersActive s t → handSignal t v = v)
    ∧ (closed = false → s.signal = false → s.mode = .emergency →
      handSignal t v = { v with signal := true, releaseAt := none })
    ∧ (closed = false → s.signal = true → handSignal t v = v) := by
  intro v
  have signal : v.signal = s.signal := levelTaken_signal t closed s
  have mode : v.mode = s.mode := levelTaken_mode t closed s
  have now : v.now = s.now := levelTaken_now t closed s
  have active := emergencySignal_taken (closed := closed) found is low high
  have silent (up : closed = true) (alone : ¬ othersActive s t) : emergencySignal v = false := by
    rw [← Bool.not_eq_true, active]
    simp [up, alone]
  refine ⟨?_, ?_, ?_, ?_, ?_, ?_⟩
  · intro up was alone stands
    rw [handSignal_falls (silent up alone) (signal.trans was), signalInactive, if_pos (mode.trans stands), ← now]
    rfl
  · intro up was alone other
    rw [handSignal_falls (silent up alone) (signal.trans was), signalInactive]
    exact if_neg fun stands => other (mode.symm.trans stands)
  · intro up was alone
    exact handSignal_same ((silent up alone).trans (signal.trans was).symm)
  · intro up was others
    exact handSignal_same ((active.mpr (.inr others)).trans (signal.trans was).symm)
  · intro down was stands
    rw [handSignal_rises (active.mpr (.inl down)) (signal.trans was)]
    exact signalActive_stays (s := { v with signal := true }) (mode.trans stands)
  · intro down was
    exact handSignal_same ((active.mpr (.inl down)).trans (signal.trans was).symm)

end

/-- Settles O52: the pin by `rawChange`, a level by `settleLevel_takes` and the rule of the function, the signal by
`emergencySignal_taken`, the entry into EMERGENCY by `enterEmergency_entered`. -/
theorem terminalInputsAreDebouncedAndDelivered : Obligations.TerminalInputsAreDebouncedAndDelivered := by
  refine ⟨curtailLaw_holds, fun t pin r s wired found => ?_⟩
  have moves : pin.closed ≠ !pin.closed := by cases pin.closed <;> simp
  refine ⟨?same, ?contact, ?meter, ?other, ?off, ?stopped, ?level, ?repeats, ?restart, ?noRestart, ?converts, ?rests⟩
  case same => exact congrArg _ (rawChange_same wired)
  case contact =>
    intro input on
    exact congrArg _ ((rawChange_moves wired moves on).trans (if_pos input))
  case meter =>
    intro w meter on
    have input : ¬ isContactInput (functionOf s.config t) = true := by rw [meter]; simp [isContactInput]
    refine ⟨fun opens => ?_, fun closes => ?_⟩
    · rw [exec_meterPulse on meter]
      exact congrArg _ ((rawChange_moves wired (by simp [opens]) on).trans (if_neg input))
    · exact congrArg _ ((rawChange_moves wired (by simp [closes]) on).trans (if_neg input))
  case other =>
    intro input noMeter on
    refine congrArg _ ((rawChange_moves wired moves on).trans ((if_neg (by simp [input])).trans ?_))
    rw [takePulse_other (by exact noMeter), ite_self]
    rfl
  case off =>
    intro off
    exact congrArg _ (rawChange_unpowered wired moves off)
  case stopped =>
    intro on stops
    exact exec_debounceTimer_stopped on found stops
  case level =>
    intro e on at_ due u v
    have fires : exec (.debounceTimerExpires t) s = .next (settleLevel t s) := exec_debounceTimer on found at_ due
    refine ⟨fun same => by rw [fires, settleLevel_same wired found same]; rfl, fun new => ?_⟩
    rw [fires, settleLevel_takes wired found new]
    have taken_ : levelTaken t pin.closed s = v := rfl
    refine ⟨?digital, ?first, ?door, ?presence, ?leaves, ?restarts, ?enters, ?signal, ?curtail⟩
    case digital => intro is; rw [is]; rfl
    case first =>
      rintro (is | is) none_
      · rw [is, none_]; rfl
      · rw [is, none_]; rfl
    case door =>
      intro is some_
      rw [is, Option.isNone_eq_false_iff.mpr (Option.isSome_iff_ne_none.mpr some_)]
      rfl
    case presence =>
      intro is some_ closed
      rw [is, Option.isNone_eq_false_iff.mpr (Option.isSome_iff_ne_none.mpr some_), levelRule]
      simp only [closed, Bool.not_true, Bool.or_self, Bool.false_eq_true, if_false]
      rw [← taken_, closed]
    case leaves =>
      intro is closed
      rw [is, levelRule]
      simp only [closed, Bool.not_false, Bool.or_true, if_true]
      rw [← taken_, closed]
    case restarts =>
      intro is
      rw [is, levelRule, restartLevel_taken found, taken_]
    case enters =>
      intro is opens high low was notEmergency notStart
      refine ⟨_, rfl, ?_⟩
      have rises : emergencySignal v = true := (emergencySignal_taken found is low high).mpr (.inl opens)
      have mode : v.mode = s.mode := levelTaken_mode t pin.closed s
      rw [is, levelRule, taken_, handSignal_rises rises ((levelTaken_signal t pin.closed s).trans was),
        signalActive_enters (s := { v with signal := true }) (by rw [mode]; exact notEmergency)
          (by rw [mode]; exact notStart)]
      exact enterEmergency_entered (levelTaken_side t pin.closed s) (levelTaken_raises t pin.closed s) is
    case signal =>
      intro is high low others
      obtain ⟨releases, falls, idle, held, again, stays⟩ := emergencyLevel found is low high pin.closed
      rw [is, levelRule]
      exact ⟨fun a b c d => congrArg (fun x => Host.Outcome.next (grantLines x)) (releases a b c d),
        fun a b c d => congrArg (fun x => Host.Outcome.next (grantLines x)) (falls a b c d),
        fun a b c => congrArg (fun x => Host.Outcome.next (grantLines x)) (idle a b c),
        fun a b c => congrArg (fun x => Host.Outcome.next (grantLines x)) (held a b c),
        fun a b c => congrArg (fun x => Host.Outcome.next (grantLines x)) (again a b c),
        fun a b => congrArg (fun x => Host.Outcome.next (grantLines x)) (stays a b)⟩
    case curtail => intro cap is; rw [is]; rfl
  case repeats =>
    intro e on at_ due u
    rw [exec_repeatDelivery on found at_ due]
    exact ⟨fun level input stands => congrArg _ (repeatDelivery_level input found stands),
      fun input stands => congrArg _ (repeatDelivery_none input found stands),
      fun w meter => congrArg _ (repeatDelivery_meter meter found)⟩
  case restart =>
    intro e on at_ due
    exact exec_restartTimer on found at_ due
  case noRestart =>
    intro on stops
    exact exec_restartTimer_stopped on found stops
  case converts =>
    intro e use offset span mv on at_ due is
    exact exec_analogConversion wired found on at_ due is
  case rests =>
    intro mv rests
    exact exec_analogConversion_early found mv rests

end Sys2Proof.Proofs


/-! SUPPORT and PROOFS. The functions of the terminals (R53, R54, R59, R61, R62, R65). -/

namespace Sys2Proof.Machine

/-! ## Tables -/

theorem slotSet_slotSet {α : Type} (table : Table α) (k : Nat) (v w : α) :
    slotSet (slotSet table k v) k w = slotSet table k w := by
  induction table with
  | nil => simp [slotSet]
  | cons e rest ih =>
    by_cases below : k < e.1
    · simp [slotSet, below]
    · by_cases same : k = e.1
      · simp [slotSet, same]
      · simp [slotSet, below, same, ih]

theorem slotChange_slotSet {α : Type} (f : α → α) (table : Table α) (k : Nat) (v : α) :
    slotChange f (slotSet table k v) k = slotSet table k (f v) := by
  induction table with
  | nil => simp [slotSet, slotChange]
  | cons e rest ih =>
    by_cases below : k < e.1
    · simp [slotSet, slotChange, below]
    · by_cases same : k = e.1
      · simp [slotSet, slotChange, same]
      · simp [slotSet, slotChange, below, same, ih]

theorem slotGet_slotSet_same {α : Type} (table : Table α) (k : Nat) (v : α) :
    slotGet (slotSet table k v) k = some v := by
  rw [slotGet_slotSet, if_pos rfl]

theorem slotGet_slotSet_ne {α : Type} {table : Table α} {k j : Nat} {v : α} (apart : j ≠ k) :
    slotGet (slotSet table k v) j = slotGet table j := by
  rw [slotGet_slotSet, if_neg apart]

/-! ## The request (R53) -/

/-- R53: a function with its parameters as the request names it. -/
def rawFunctionOf : TermFunction → RawFunction
  | .meterPulse w => .meter w
  | .curtailIn cap => .curtail cap
  | .analogIn u offset span => .analog u.ctorIdx offset span
  | f => .plain f.ctorIdx

/-- R53: the parameters of a function lie in their ranges. -/
structure FunctionFits (f : TermFunction) : Prop where
  meter : ∀ w, f = .meterPulse w → 1 ≤ w ∧ w ≤ 1000
  curtail : ∀ c, f = .curtailIn c → c ≤ 65535
  analog : ∀ u offset span, f = .analogIn u offset span →
    scaleFits offset = true ∧ scaleFits span = true ∧ span ≠ 0

theorem scaleFits_iff {i : Int} : scaleFits i = true ↔ -4000 ≤ i ∧ i ≤ 4000 := by
  simp only [scaleFits, Bool.and_eq_true, decide_eq_true_eq]

theorem takeAnalog_bytes (u : AnalogUse) {offset span : Int} (first : scaleFits offset = true)
    (second : scaleFits span = true) :
    takeAnalog (byteOf u.ctorIdx :: signedBytes offset ++ signedBytes span)
      = some (.analog u.ctorIdx offset span, []) := by
  have small : u.ctorIdx < 256 := by cases u <;> decide
  obtain ⟨low, high⟩ := scaleFits_iff.mp first
  obtain ⟨least, most⟩ := scaleFits_iff.mp second
  rw [takeAnalog, List.cons_append, Claims.reader_step (takeByte_byteOf _ _ small),
    Claims.reader_step (takeSigned_signedBytes offset _ (by omega) (by omega)),
    Claims.reader_step (takeSigned_end span (by omega) (by omega))]
  rfl

/-- R53: the bytes of a function are read as it was named. -/
theorem readFunction_bytes {t : Nat} {f : TermFunction} (small : t < 256) (fits : FunctionFits f) :
    readFunction (byteOf t :: functionBytes f) = some (t, rawFunctionOf f) := by
  cases f with
  | meterPulse w =>
    obtain ⟨low, high⟩ := fits.meter w rfl
    have read : readWhole (functionReader 4) (wordBytes w) = some (.meter w) :=
      readWhole_eq _ _ _ (by rw [functionReader, Claims.reader_step (takeWord_end w (by omega))]; rfl)
    refine (congrArg (Option.map _) read).trans ?_
    simp [byteOf_toNat t small, rawFunctionOf]
  | curtailIn cap =>
    have := fits.curtail cap rfl
    have read : readWhole (functionReader 6) (wordBytes cap) = some (.curtail cap) :=
      readWhole_eq _ _ _ (by rw [functionReader, Claims.reader_step (takeWord_end cap (by omega))]; rfl)
    refine (congrArg (Option.map _) read).trans ?_
    simp [byteOf_toNat t small, rawFunctionOf]
  | analogIn u offset span =>
    obtain ⟨first, second, _⟩ := fits.analog u offset span rfl
    have read : readWhole (functionReader 8) (byteOf u.ctorIdx :: signedBytes offset ++ signedBytes span)
        = some (.analog u.ctorIdx offset span) := readWhole_eq _ _ _ (takeAnalog_bytes u first second)
    refine (congrArg (Option.map _) read).trans ?_
    simp [byteOf_toNat t small, rawFunctionOf]
  | _ => exact congrArg (fun n => some (n, _)) (byteOf_toNat t small)

theorem functionOfRaw_raw {f : TermFunction} (fits : FunctionFits f) : functionOfRaw (rawFunctionOf f) = some f := by
  cases f with
  | meterPulse w => exact if_pos (fits.meter w rfl)
  | analogIn u offset span =>
    obtain ⟨first, second, third⟩ := fits.analog u offset span rfl
    have use : useOf u.ctorIdx = some u := by cases u <;> rfl
    simp [rawFunctionOf, functionOfRaw, first, second, third, use]
  | _ => rfl

/-- R53: a request whose checks pass is taken. -/
theorem handleSetFunction_fits {t : Nat} {f : TermFunction} {s : State} (fits : FunctionFits f)
    (allowed : isAllowed t f = true) (free : isBound s.config (terminalPoint t) = true
      → sameFunction (functionOf s.config t) f = true ∧ analogUse (functionOf s.config t) = analogUse f) :
    handleSetFunction (t, rawFunctionOf f) s = done (putFunction t f s) := by
  have keeps : (isBound s.config (terminalPoint t) && changesBinding (functionOf s.config t) f) = false := by
    cases bound : isBound s.config (terminalPoint t) with
    | false => rfl
    | true =>
      obtain ⟨same, use⟩ := free bound
      simp [changesBinding, same, use]
  simp only [handleSetFunction, functionOfRaw_raw fits, allowed, keeps, Bool.not_true, Bool.false_eq_true, if_false]

theorem doorsAt_unbound {c : RunningConfig} {p : PointRef} (free : isBound c p = false) : doorsAt c p = [] := by
  simp only [isBound, Bool.or_eq_false_iff, Bool.not_eq_false', List.isEmpty_iff] at free
  exact free.1.1.1.1.1

/-! ## The orders (R62) -/

theorem takeTerminalOrder_frame (order : Option Nat) (s : State) : takeTerminalOrder order s = { s with
    termOrder := order, notices := (takeTerminalOrder order s).notices, lost := (takeTerminalOrder order s).lost } := by
  unfold takeTerminalOrder
  dsimp only
  split <;> rfl

/-- R62: the hand-over of the order sees the configuration, the terminals and the signal only in the order itself. -/
theorem takeTerminalOrder_with (order : Option Nat) (c : RunningConfig) (terminals : Table TermRec) (signal : Bool)
    (s : State) : takeTerminalOrder order { s with config := c, terminals := terminals, signal := signal }
      = { takeTerminalOrder order s with config := c, terminals := terminals, signal := signal } := by
  unfold takeTerminalOrder
  dsimp only
  split <;> rfl

theorem takeTerminalOrder_config (order : Option Nat) (c : RunningConfig) (s : State) :
    takeTerminalOrder order { s with config := c } = { takeTerminalOrder order s with config := c } := by
  unfold takeTerminalOrder
  dsimp only
  split <;> rfl

theorem handOrder_frame (s : State) : handOrder s = { s with
    termOrder := (handOrder s).termOrder, notices := (handOrder s).notices, lost := (handOrder s).lost } := by
  unfold handOrder
  split
  · rfl
  · rw [takeTerminalOrder_frame]

/-- R62: the order that the terminals give, by configuration and terminals. -/
theorem terminalOrder_congr {s t : State} (config : s.config = t.config)
    (levels : ∀ j, (getTerminal s j).debounced = (getTerminal t j).debounced) : terminalOrder s = terminalOrder t := by
  have caps : curtailCap s = curtailCap t := by
    funext j
    unfold curtailCap
    rw [config, levels j]
  rw [terminalOrder, terminalOrder, caps]

theorem functionStart_debounced (now : Nat) (f : TermFunction) : (functionStart now f).debounced = none := by
  unfold functionStart
  split
  · rfl
  · split <;> rfl

theorem functionStart_relay (now : Nat) (f : TermFunction) : (functionStart now f).relayClosed = false := by
  unfold functionStart
  split
  · rfl
  · split <;> rfl

/-- Two records without a debounced level stand for the same levels. -/
theorem levels_slotSet {a b : State} {terminals : Table TermRec} {t : Nat} {x y : TermRec}
    (first : a.terminals = slotSet terminals t x) (second : b.terminals = slotSet terminals t y)
    (levels : x.debounced = y.debounced) (j : Nat) : (getTerminal a j).debounced = (getTerminal b j).debounced := by
  simp only [getTerminal, first, second, slotGet_slotSet]
  split
  · exact levels
  · rfl

theorem functionOf_slotSet {c : RunningConfig} {t j : Nat} {f : TermFunction} :
    functionOf { c with functions := slotSet c.functions t f } j = if j = t then f else functionOf c j := by
  unfold functionOf
  rw [slotGet_slotSet]
  split <;> rfl

/-! ## The start of a function (R54, R59, R65) -/

/-- R54, R65: the record with which a function starts. -/
def startedRecord (now : Nat) (strain : Bool) (f : TermFunction) : TermRec :=
  { functionStart now f with relayClosed := decide (f = .strainOut) && strain }

/-- R54, R59, R65: the point of a terminal whose function has started. -/
def startedPoint (now : Nat) (strain : Bool) (f : TermFunction) : PointRec :=
  match f with
  | .meterPulse _ => { freshPoint with value := some 0, status := .fresh, time := some now }
  | .strainOut =>
    if strain = true then
      { freshPoint with value := some 1, status := .fresh, time := some now, lastWrite := .ok, tries := 1 }
    else freshPoint
  | _ => freshPoint

theorem startedRecord_other {now : Nat} {strain : Bool} {f : TermFunction} (other : f ≠ .strainOut) :
    startedRecord now strain f = functionStart now f := by
  have open_ := functionStart_relay now f
  simp only [startedRecord, decide_eq_false other, Bool.false_and]
  rw [← open_]

theorem startedRecord_debounced (now : Nat) (strain : Bool) (f : TermFunction) :
    (startedRecord now strain f).debounced = none := functionStart_debounced now f

/-- R54: a function starts on a terminal without doors whose point has been made afresh. -/
theorem startFunction_afresh {t : Nat} {f : TermFunction} {s : State} (is : functionOf s.config t = f)
    (none_ : doorsAt s.config (terminalPoint t) = []) :
    startFunction t (changePoint (terminalPoint t) (fun _ => freshPoint) s) = { s with
      terminals := slotSet s.terminals t (startedRecord s.now s.strain f)
      points := slotChange (fun _ => startedPoint s.now s.strain f) s.points (pointKey (terminalPoint t)) } := by
  have begins : startFunction t (changePoint (terminalPoint t) (fun _ => freshPoint) s)
      = firstDelivery t f { changePoint (terminalPoint t) (fun _ => freshPoint) s with
        terminals := slotSet s.terminals t (functionStart s.now f) } := by
    rw [← is]
    rfl
  rw [begins]
  cases f with
  | meterPulse w =>
    rw [firstDelivery, deliverTerminal_none (by exact none_), startedRecord_other (by simp)]
    simp only [changePoint, slotChange_slotChange]
    rfl
  | strainOut =>
    cases strain : s.strain with
    | false =>
      simp only [firstDelivery, changePoint, strain]
      rw [startedRecord, Bool.and_false, ← functionStart_relay s.now .strainOut]
      rfl
    | true =>
      simp only [firstDelivery, changePoint, strain, if_true, switchStrainOut, driven]
      rw [deliverTerminal_none (by exact none_)]
      simp only [changePoint, changeTerminal, slotChange_slotChange, slotChange_slotSet]
      rfl
  | _ =>
    rw [startedRecord_other (by simp)]
    rfl

end Sys2Proof.Machine

namespace Sys2Proof.Claims

open Sys2Proof.Machine

theorem exec_setTerminalFunction {t : Nat} {f : TermFunction} {s : State} (ready : canDefine s) (small : t ≤ 16)
    (fits : FunctionFits f) (allowed : isAllowed t f = true) (free : isBound s.config (terminalPoint t) = true
      → sameFunction (functionOf s.config t) f = true ∧ analogUse (functionOf s.config t) = analogUse f) :
    exec (.setTerminalFunction (byteOf t :: functionBytes f)) s
      = taken 0x25 .configuring .ok [] (putFunction t f s) := by
  have short : (byteOf t :: functionBytes f).length ≤ 1024 := by
    cases f <;> simp [functionBytes, wordBytes, signedBytes]
  refine Eq.trans (b := serve 0x25 .configuring true (byteOf t :: functionBytes f)
    ((readFunction (byteOf t :: functionBytes f)).map handleSetFunction) s) rfl ?_
  rw [readFunction_bytes (by omega) fits, Option.map_some, serve_defining ready short,
    handleSetFunction_fits fits allowed free]
  rfl

end Sys2Proof.Claims

namespace Sys2Proof.Proofs

open Sys2Proof.Machine Sys2Proof.Claims

section

variable {t : Nat} {f : TermFunction} {s : State}

/-- R54: the state in which a terminal's old function has ended. -/
def functionEnded (t : Nat) (f : TermFunction) (s : State) : State := { s with
  config := { s.config with functions := slotSet s.config.functions t f }
  terminals := slotSet s.terminals t idleTerminal }

/-- R61: without its old function a terminal keeps no signal active. -/
theorem emergencySignal_ended : emergencySignal (functionEnded t f s) = true ↔ othersActive s t := by
  rw [emergencySignal_iff]
  constructor
  · rintro ⟨j, x, low, high, is, found, level⟩
    by_cases same : j = t
    · subst same
      rw [functionEnded, slotGet_slotSet_same] at found
      cases found
      cases level
    · rw [functionEnded, slotGet_slotSet_ne same] at found
      rw [functionEnded, functionOf_slotSet, if_neg same] at is
      exact ⟨j, x, low, high, same, is, found, level⟩
  · rintro ⟨j, x, low, high, other, is, found, level⟩
    refine ⟨j, x, low, high, ?_, (slotGet_slotSet_ne other).trans found, level⟩
    rw [functionEnded, functionOf_slotSet, if_neg other, is]

/-- R62: the order that a terminal which starts a function leaves, handed to the budget unit. -/
theorem handOrder_ended (x : TermRec) (level : x.debounced = none) (signal : Bool) :
    let terminals := slotSet s.terminals t x
    let order := terminalOrder { s with config := (functionEnded t f s).config, terminals := terminals }
    handOrder { functionEnded t f s with signal := signal }
      = { (if order = s.termOrder then s else takeTerminalOrder order s) with
        config := (functionEnded t f s).config, terminals := (functionEnded t f s).terminals, signal := signal } := by
  intro terminals order
  have same : terminalOrder { functionEnded t f s with signal := signal } = order :=
    terminalOrder_congr rfl (levels_slotSet rfl rfl level.symm)
  unfold handOrder
  rw [same]
  split
  · rename_i stands
    rw [if_pos (show order = s.termOrder from stands)]
    rfl
  · rename_i moves
    rw [if_neg (show ¬ order = s.termOrder from moves)]
    exact takeTerminalOrder_with order _ _ signal s

/-- R54: what a change of function leaves, where the signal enters no mode. -/
theorem changeFunction_quiet (unbound : isBound s.config (terminalPoint t) = false) {signal : Bool}
    (handed : handSignal t (functionEnded t f s) = { functionEnded t f s with signal := signal }) :
    let config := { s.config with functions := slotSet s.config.functions t f }
    let terminals := slotSet s.terminals t (startedRecord s.now s.strain f)
    let order := terminalOrder { s with config := config, terminals := terminals }
    changeFunction t f s = { (if order = s.termOrder then s else takeTerminalOrder order s) with
      config := config, terminals := terminals, signal := signal
      points := slotChange (fun _ => startedPoint s.now s.strain f) s.points (pointKey (terminalPoint t)) } := by
  intro config terminals order
  have ordered := handOrder_ended (t := t) (f := f) (s := s) (startedRecord s.now s.strain f)
    (startedRecord_debounced _ _ _) signal
  have began : changeFunction t f s = startFunction t (changePoint (terminalPoint t) (fun _ => freshPoint)
      (handOrder { functionEnded t f s with signal := signal })) := by
    rw [← handed]
    rfl
  have is : functionOf config t = f := by rw [functionOf_slotSet, if_pos rfl]
  have frame : (if order = s.termOrder then s else takeTerminalOrder order s) = { s with
      termOrder := (if order = s.termOrder then s else takeTerminalOrder order s).termOrder
      notices := (if order = s.termOrder then s else takeTerminalOrder order s).notices
      lost := (if order = s.termOrder then s else takeTerminalOrder order s).lost } := by
    split
    · rfl
    · rw [takeTerminalOrder_frame]
  rw [began, ordered, startFunction_afresh (by exact is) (doorsAt_unbound (by exact unbound))]
  change _ = ({ (if order = s.termOrder then s else takeTerminalOrder order s) with
    config := config, terminals := terminals, signal := signal, points := _ } : State)
  rw [show (if terminalOrder { s with config := (functionEnded t f s).config, terminals := terminals } = s.termOrder
    then s else takeTerminalOrder (terminalOrder { s with
      config := (functionEnded t f s).config, terminals := terminals }) s)
    = (if order = s.termOrder then s else takeTerminalOrder order s) from rfl, frame]
  simp only [functionEnded, slotSet_slotSet]
  rfl

/-- R54, R61: a change of function that makes the signal active. -/
theorem changeFunction_enters (mode : s.mode = .hold) (others : othersActive s t) (was : s.signal = false)
    (unbound : isBound s.config (terminalPoint t) = false) :
    let u := changeFunction t f s
    u.mode = .emergency ∧ u.returnMode = some .hold ∧ u.signal = true
      ∧ u.config = { s.config with functions := slotSet s.config.functions t f }
      ∧ slotGet u.terminals t = some (startedRecord s.now s.strain f) := by
  intro u
  have handed : handSignal t (functionEnded t f s)
      = handEmergency (emergencyNoted t { functionEnded t f s with signal := true }) := by
    rw [handSignal_rises (emergencySignal_ended.mpr others) was, ← enterEmergency_eq]
    exact signalActive_enters (by exact fun h => by rw [functionEnded, mode] at h; cases h)
      (by exact fun h => by rw [functionEnded, mode] at h; cases h)
  have side := (handEmergency_side (emergencyNoted t { functionEnded t f s with signal := true })).frame
  have began : u = startFunction t (changePoint (terminalPoint t) (fun _ => freshPoint)
      (handOrder (handEmergency (emergencyNoted t { functionEnded t f s with signal := true })))) := by
    rw [← handed]
    rfl
  have config : (handOrder (handEmergency (emergencyNoted t { functionEnded t f s with signal := true }))).config
      = { s.config with functions := slotSet s.config.functions t f } := by
    rw [handOrder_frame, side]
    rfl
  have is : functionOf (handOrder (handEmergency (emergencyNoted t
      { functionEnded t f s with signal := true }))).config t = f := by
    rw [config, functionOf_slotSet, if_pos rfl]
  have none_ := doorsAt_unbound unbound
  rw [startFunction_afresh is (by rw [config]; exact none_)] at began
  rw [began, handOrder_frame, side]
  refine ⟨rfl, congrArg some mode, rfl, rfl, ?_⟩
  rw [slotGet_slotSet_same]
  rfl

/-- R61: the signal after the end of a function in HOLD, where no other terminal has raised it. -/
theorem handSignal_ended (mode : s.mode = .hold) (alone : ¬ othersActive s t) :
    handSignal t (functionEnded t f s) = { functionEnded t f s with signal := false } := by
  have silent : emergencySignal (functionEnded t f s) = false := by
    rw [← Bool.not_eq_true, emergencySignal_ended]
    exact alone
  cases was : s.signal with
  | false =>
    rw [handSignal_same (silent.trans was.symm), ← was]
    rfl
  | true =>
    rw [handSignal_falls silent was, signalInactive]
    exact if_neg (by exact fun h => by rw [functionEnded, mode] at h; cases h)

end

/-- Settles O32: the request by `exec_setTerminalFunction`; a change of function by what the signal of the other
terminals makes of the mode, and by `startFunction_afresh`. -/
theorem terminalFunctionsStartAfresh : Obligations.TerminalFunctionsStartAfresh := by
  intro t f s ready small allowed meter curtail analog old free c ordered
  refine ⟨putFunction t f s, exec_setTerminalFunction ready small ⟨meter, curtail, analog⟩ allowed free, ?same, ?change⟩
  case same =>
    intro same
    rw [putFunction, if_pos same, changeParameters, handOrder]
    simp only [ordered]
    split
    · rfl
    · exact takeTerminalOrder_config _ c s
  case change =>
    intro differs others start terminals afresh point started
    have unbound : isBound s.config (terminalPoint t) = false := by
      by_contra bound
      exact absurd (free (by simpa using bound)).1 (by simp [old, differs])
    have changes : putFunction t f s = changeFunction t f s := if_neg (by simp [old, differs])
    have points : point = startedPoint s.now s.strain f := by cases f <;> rfl
    obtain ⟨_, mode⟩ := ready
    rw [changes]
    refine ⟨fun others was => ?_, fun alone => ?_, fun others was => ?_⟩
    · have handed : handSignal t (functionEnded t f s) = { functionEnded t f s with signal := s.signal } :=
        handSignal_same ((emergencySignal_ended.mpr others).trans was.symm)
      have kept : (ordered terminals).signal = s.signal := by
        simp only [ordered]
        split
        · rfl
        · rw [takeTerminalOrder_frame]
      rw [changeFunction_quiet unbound handed]
      simp only [started, points]
      exact congrArg (fun b => ({ ordered terminals with
        config := c, terminals := terminals, signal := b
        points := slotChange (fun _ => startedPoint s.now s.strain f) s.points (pointKey (terminalPoint t)) } : State))
        kept.symm
    · rw [changeFunction_quiet unbound (handSignal_ended mode alone)]
      simp only [started, points]
      rfl
    · obtain ⟨entered, returns, signal, config, started_⟩ := changeFunction_enters (f := f) mode others was unbound
      exact ⟨entered, returns, signal, config, started_⟩

end Sys2Proof.Proofs


/-! SUPPORT. The door group, which acts at once on the doors that are held open under it (R86). -/

namespace Sys2Proof.Machine

/-! ## A door that becomes HELD_OPEN (R90) -/

/-- R86: the held-open expiry of an OPEN door lies in the past. -/
def IsLate (now heldOpen : Nat) (r : DoorRec) : Prop :=
  r.state = .open_ ∧ ∃ since ∈ r.openSince, since + heldOpen * 1000 < now

/-- R90, R94: the record of a door that has become HELD_OPEN. -/
def heldRecord (now : Nat) (d : DoorDef) (r : DoorRec) : DoorRec :=
  Claims.curtainAsked d { r with state := .heldOpen, heldFlag := true, entered := now }

theorem heldRecord_eq (now : Nat) (d : DoorDef) (r : DoorRec) : heldRecord now d r = { r with
    state := .heldOpen
    heldFlag := true
    entered := now
    request := if d.curtain = none then r.request else 1000
    runOn := if d.curtain = none then r.runOn else none } := by
  unfold heldRecord Claims.curtainAsked
  split <;> rfl

section

variable {n : Nat} {d : DoorDef} {r : DoorRec} {s : State}

theorem becomeHeldOpen_doors (defined : slotGet s.config.doors n = some d) (found : slotGet s.doors n = some r) :
    (becomeHeldOpen n s).doors = slotChange (fun _ => heldRecord s.now d r) s.doors n := by
  rw [becomeHeldOpen_found defined found]
  exact (holdEntry_pres _ _ _ _).doors

theorem becomeHeldOpen_undefined (undefined_ : slotGet s.config.doors n = none) : becomeHeldOpen n s = s := by
  simp only [becomeHeldOpen, undefined_]

theorem becomeHeldOpen_told (defined : slotGet s.config.doors n = some d) (found : slotGet s.doors n = some r) :
    Told ⟨.doorHeldOpen, s.now, .door n, some (d.zone : Int), quantity s.config.doorParams.heldOpen⟩ s
      (becomeHeldOpen n s) := by
  rw [becomeHeldOpen_found defined found]
  have held := holdEntry_raises (P := fun _ => True) (fun _ _ => trivial) d.zone n s.config.doorParams.presence
    (withDoor n (heldRecord s.now d r) s)
  have told := told_raise .doorHeldOpen (.door n) (some (d.zone : Int)) (quantity s.config.doorParams.heldOpen)
    (holdEntry d.zone n s.config.doorParams.presence (withDoor n (heldRecord s.now d r) s))
  have now : (holdEntry d.zone n s.config.doorParams.presence (withDoor n (heldRecord s.now d r) s)).now = s.now := by
    rw [(holdEntry_pres _ _ _ _).frame]
    rfl
  rw [now] at told
  have first : Raises (fun _ => True) s (withDoor n (heldRecord s.now d r) s) := .of_same rfl rfl
  exact told.within (first.trans held) (Raises.raised (P := fun _ => True) trivial)
    (Raises.refl (P := fun _ => True) _)

/-! ## A door under the new time (R86) -/

theorem catchHeldOpen_late (found : slotGet s.doors n = some r) (late : IsLate s.now s.config.doorParams.heldOpen r) :
    catchHeldOpen n s = becomeHeldOpen n s := by
  obtain ⟨open_, since, member, past⟩ := late
  have expiry : heldOpenAt s.config r = some (since + s.config.doorParams.heldOpen * 1000) := by
    rw [heldOpenAt, if_pos open_, Option.mem_def.mp member]
    rfl
  simp only [catchHeldOpen, found, Option.bind_some, expiry]
  exact if_pos past

theorem catchHeldOpen_early (found : slotGet s.doors n = some r)
    (early : ¬ IsLate s.now s.config.doorParams.heldOpen r) : catchHeldOpen n s = s := by
  simp only [catchHeldOpen, found, Option.bind_some]
  split
  · rfl
  · rename_i t expiry
    rw [heldOpenAt] at expiry
    split at expiry
    · rename_i open_
      obtain ⟨since, opened, rfl⟩ := Option.map_eq_some_iff.mp expiry
      exact if_neg fun past => early ⟨open_, since, opened, past⟩
    · cases expiry

end

theorem becomeHeldOpen_other {n j : Nat} (apart : j ≠ n) (s : State) :
    slotGet (becomeHeldOpen n s).doors j = slotGet s.doors j := by
  cases defined : slotGet s.config.doors n with
  | none => rw [becomeHeldOpen_undefined defined]
  | some d =>
    cases found : slotGet s.doors n with
    | none =>
      have idle : enterDoorState n .heldOpen (fun r => { r with heldFlag := true }) s = s := by
        simp only [enterDoorState, found]
      simp only [becomeHeldOpen, defined, idle]
      rfl
    | some r => rw [becomeHeldOpen_doors defined found, slotGet_slotChange_ne apart]

theorem catchHeldOpen_cases (n : Nat) (s : State) : catchHeldOpen n s = s ∨ catchHeldOpen n s = becomeHeldOpen n s := by
  unfold catchHeldOpen
  split
  · exact .inl rfl
  · split
    · exact .inr rfl
    · exact .inl rfl

theorem catchHeldOpen_other {n j : Nat} (apart : j ≠ n) (s : State) :
    slotGet (catchHeldOpen n s).doors j = slotGet s.doors j := by
  rcases catchHeldOpen_cases n s with same | held
  · rw [same]
  · rw [held, becomeHeldOpen_other apart]

theorem catchHeldOpen_raises (n : Nat) (s : State) : Raises FieldNotice s (catchHeldOpen n s) := by
  rcases catchHeldOpen_cases n s with same | held
  · rw [same]
    exact .refl s
  · rw [held]
    exact (doorsClosed_raises fun _ => id).becomeHeldOpen n s

/-! ## All the doors (R86) -/

open Classical in
/-- R86: the record of a door after the group has been taken. -/
noncomputable def caughtRecord (now : Nat) (c : RunningConfig) (n : Nat) (r : DoorRec) : DoorRec :=
  match slotGet c.doors n with
  | none => r
  | some d => if IsLate now c.doorParams.heldOpen r then heldRecord now d r else r

theorem caughtRecord_early {now n : Nat} {c : RunningConfig} {r : DoorRec}
    (early : ¬ IsLate now c.doorParams.heldOpen r) : caughtRecord now c n r = r := by
  unfold caughtRecord
  split
  · rfl
  · exact if_neg early

theorem caughtRecord_late {now n : Nat} {c : RunningConfig} {d : DoorDef} {r : DoorRec}
    (defined : slotGet c.doors n = some d) (late : IsLate now c.doorParams.heldOpen r) :
    caughtRecord now c n r = heldRecord now d r := by
  simp only [caughtRecord, defined, if_pos late]

theorem heldRecord_notLate {now heldOpen : Nat} {d : DoorDef} {r : DoorRec} :
    ¬ IsLate now heldOpen (heldRecord now d r) := fun late => by
  have state := late.1
  rw [heldRecord_eq] at state
  cases state

theorem caughtRecord_twice (now : Nat) (c : RunningConfig) (n : Nat) (r : DoorRec) :
    caughtRecord now c n (caughtRecord now c n r) = caughtRecord now c n r := by
  cases defined : slotGet c.doors n with
  | none => simp only [caughtRecord, defined]
  | some d =>
    by_cases late : IsLate now c.doorParams.heldOpen r
    · rw [caughtRecord_late defined late, caughtRecord_early heldRecord_notLate]
    · rw [caughtRecord_early late, caughtRecord_early late]

theorem DoorSide.standsAt {s t : State} {now : Nat} {c : RunningConfig} (h : DoorSide s t)
    (at_ : StandsAt now c s) : StandsAt now c t := ⟨h.now.trans at_.1, h.config.trans at_.2⟩

theorem catchHeldOpen_own {n : Nat} {r : DoorRec} {s : State} (found : slotGet s.doors n = some r) :
    slotGet (catchHeldOpen n s).doors n = some (caughtRecord s.now s.config n r) := by
  by_cases late : IsLate s.now s.config.doorParams.heldOpen r
  · rw [catchHeldOpen_late found late]
    cases defined : slotGet s.config.doors n with
    | none =>
      rw [becomeHeldOpen_undefined defined]
      simp only [found, caughtRecord, defined]
    | some d =>
      rw [becomeHeldOpen_doors defined found, slotGet_slotChange_same found, caughtRecord_late defined late]
  · rw [catchHeldOpen_early found late, caughtRecord_early late, found]

/-- R86: each door of the list takes the new time. -/
theorem catchHeldOpens {n : Nat} {r : DoorRec} {s : State} (ns : List Nat) (found : slotGet s.doors n = some r) :
    slotGet (forEach ns catchHeldOpen s).doors n = some (if n ∈ ns then caughtRecord s.now s.config n r else r) := by
  refine forEach_table (table := State.doors) (I := StandsAt s.now s.config)
    (fun n u => (catchHeldOpen_side n u).standsAt) (fun n u x at_ seen => ?_)
    (fun n j u _ apart => catchHeldOpen_other apart u) (caughtRecord_twice _ _) ns ⟨rfl, rfl⟩ found
  rw [catchHeldOpen_own seen, at_.1, at_.2]

theorem catchHeldOpens_side (ns : List Nat) (s : State) : DoorSide s (forEach ns catchHeldOpen s) :=
  forEach_related .refl .trans _ catchHeldOpen_side _ _

theorem catchHeldOpens_told {n : Nat} {d : DoorDef} {r : DoorRec} {s : State} {ns : List Nat} (member : n ∈ ns)
    (defined : slotGet s.config.doors n = some d) (found : slotGet s.doors n = some r)
    (late : IsLate s.now s.config.doorParams.heldOpen r) :
    Told ⟨.doorHeldOpen, s.now, .door n, some (d.zone : Int), quantity s.config.doorParams.heldOpen⟩ s
      (forEach ns catchHeldOpen s) := by
  obtain ⟨before, after, rfl, absent⟩ := List.eq_append_cons_of_mem member
  rw [forEach_append, forEach_cons]
  have side := catchHeldOpens_side before s
  have still : slotGet (forEach before catchHeldOpen s).doors n = some r := by
    rw [catchHeldOpens before found, if_neg absent]
  have told := becomeHeldOpen_told (s := forEach before catchHeldOpen s) (by rw [side.config]; exact defined) still
  rw [side.now, side.config, ← catchHeldOpen_late still (by rw [side.now, side.config]; exact late)] at told
  exact told.within (Raises.each catchHeldOpen_raises before s) (catchHeldOpen_raises n _)
    (Raises.each catchHeldOpen_raises after _)

/-- Doors that are not late stay as they are, so the late ones alone are visited. -/
theorem catchHeldOpens_filter {s : State} {late : Nat → Bool} {ns : List Nat} (apart : ns.Nodup)
    (marked : ∀ n ∈ ns, ∃ r, slotGet s.doors n = some r
      ∧ (late n = true ↔ IsLate s.now s.config.doorParams.heldOpen r)) :
    forEach ns catchHeldOpen s = forEach (ns.filter late) becomeHeldOpen s := by
  induction ns generalizing s with
  | nil => rfl
  | cons n ns ih =>
    obtain ⟨absent, distinct⟩ := List.nodup_cons.mp apart
    obtain ⟨r, found, same⟩ := marked n List.mem_cons_self
    have later (u : State) (config : u.config = s.config) (now : u.now = s.now)
        (kept : ∀ j, j ≠ n → slotGet u.doors j = slotGet s.doors j) :
        forEach ns catchHeldOpen u = forEach (ns.filter late) becomeHeldOpen u := by
      refine ih distinct fun j inList => ?_
      obtain ⟨x, seen, marks⟩ := marked j (List.mem_cons_of_mem n inList)
      refine ⟨x, (kept j fun h => absent (h ▸ inList)).trans seen, ?_⟩
      rw [config, now]
      exact marks
    rw [forEach_cons]
    cases h : late n with
    | true =>
      rw [List.filter_cons_of_pos h, forEach_cons, catchHeldOpen_late found (same.mp h)]
      have side := becomeHeldOpen_side n s
      exact later _ side.config side.now fun j other => becomeHeldOpen_other other s
    | false =>
      rw [List.filter_cons_of_neg (by simp [h]), catchHeldOpen_early found fun is => by simp [same.mpr is] at h]
      exact later s rfl rfl fun _ _ => rfl

/-- The numbers of the entries that pass a test, by the records that the table gives. -/
theorem slotNumbers_filter {α : Type} {table : Table α} (ordered : slotWf table = true) (p : α → Bool) :
    slotNumbers (table.filter fun e => p e.2)
      = (slotNumbers table).filter fun k => (slotGet table k).any p := by
  rw [slotNumbers, slotNumbers, List.filter_map]
  refine congrArg (List.map Prod.fst) (List.filter_congr fun e member => ?_)
  simp only [Function.comp, slotGet_of_mem ordered (show (e.1, e.2) ∈ table from member), Option.any_some]

end Sys2Proof.Machine


/-! SUPPORT and PROOFS. The groups of SET PARAMETERS that act at once: door, occupancy, climate, budget (R86, R101,
R162, R180, R142, R130). -/

namespace Sys2Proof.Machine

/-! ## The occupancy group (R101) -/

section

variable {now ms : Nat} {r : ZoneRec}

theorem redormant_vacant {since : Nat} (vacant : r.state = .vacant) (from_ : r.vacantSince = some since) :
    redormant now ms r = if since + ms < now then { r with state := .dormant, dormancyAt := none }
      else { r with dormancyAt := some (since + ms) } := by
  simp only [redormant, vacant, from_]

theorem redormant_other (other : r.state ≠ .vacant) : redormant now ms r = r := by
  unfold redormant
  split
  · rename_i vacant _
    exact absurd vacant other
  · rfl

end

/-- A change of one record sets it, whatever the record was. -/
theorem slotChange_sets {α : Type} (f : α → α) (table : Table α) (k : Nat) (v : α) :
    ∃ x, slotChange f table k = slotChange (fun _ => x) table k := by
  cases found : slotGet table k with
  | none =>
    exact ⟨v, (slotChange_id fun r at_ => nomatch found.symm.trans at_).trans
      (slotChange_id fun r at_ => nomatch found.symm.trans at_).symm⟩
  | some r => exact ⟨f r, slotChange_eq f (fun _ => f r) _ _ r found rfl⟩

/-! ## The climate group (R180) -/

/-- R180: the hand-off of a new setting leaves each load that is no fan. -/
theorem handVentilation_other {k : Nat} {l : LoadDef} {r : LoadRec} {s : State} (ordered : slotWf s.config.loads = true)
    (defined : slotGet s.config.loads k = some l) (found : slotGet s.loads k = some r) (other : isFan l.kind = false) :
    slotGet (handVentilation s).loads k = some r := by
  have absent : k ∉ slotsWhere (fun d => isFan d.kind) s.config.loads := by
    rw [mem_slotsWhere_iff ordered]
    rintro ⟨d, at_, fan⟩
    cases defined.symm.trans at_
    simp [other] at fan
  rw [handVentilation, emergencyStages_loads, enterEmergencyLoads _ found, if_neg absent]

theorem handVentilation_fan {k : Nat} {l : LoadDef} {r : LoadRec} {s : State} (ordered : slotWf s.config.loads = true)
    (defined : slotGet s.config.loads k = some l) (found : slotGet s.loads k = some r) (fan : isFan l.kind = true) :
    slotGet (handVentilation s).loads k
      = some (afterCheck s.now (emergencyLoad s.config.climate.vent l.kind r)) := by
  have member : k ∈ slotsWhere (fun d => isFan d.kind) s.config.loads :=
    (mem_slotsWhere_iff ordered).mpr ⟨l, defined, fan⟩
  rw [handVentilation, emergencyStages_loads, enterEmergencyLoads _ found, if_pos member, emergencyRecord, defined]

/-- R140: a load that is off, or runs in full, needs no command only where its last one asked for that. -/
theorem afterCheck_extreme {now f : Nat} {r : LoadRec} (extreme : f = 0 ∨ f = 1000) (applied : r.applied = f) :
    afterCheck now r = { r with
      lastCommand := some f
      refreshAt := if r.lastCommand = some f ∧ now < r.refreshAt then r.refreshAt else now + 30000 } := by
  have early : commandDue now r = false ↔ r.lastCommand = some f ∧ now < r.refreshAt := by
    rw [commandDue_false, applied]
    constructor
    · rintro ⟨last, command, soon, _, _, same⟩
      exact ⟨command.trans (congrArg some (same extreme).symm), soon⟩
    · rintro ⟨command, soon⟩
      exact ⟨f, command, soon, by omega, by omega, fun _ => rfl⟩
  cases due : commandDue now r with
  | true =>
    rw [afterCheck_due due, if_neg fun h => by simp [early.mpr h] at due]
    subst applied
    rfl
  | false =>
    obtain ⟨command, soon⟩ := early.mp due
    rw [afterCheck_early due, if_pos ⟨command, soon⟩, ← command]

/-! ## The budget group (R142, R130) -/

/-- R122, R142: the node hold expiry of a load lies in the past. -/
def HoldPast (now nodeHold : Nat) (r : LoadRec) : Prop :=
  ∃ since, r.holdRunning = true ∧ r.unreachableSince = some since ∧ since + nodeHold * 1000 < now

open Classical in
/-- R142: the record of a load after the group has been taken. -/
noncomputable def caughtHold (now : Nat) (c : RunningConfig) (k : Nat) (r : LoadRec) : LoadRec :=
  match slotGet c.loads k with
  | none => r
  | some d =>
    if HoldPast now c.budget.nodeHold r then { r with assumed := some d.fallback, holdRunning := false } else r

theorem nodeHoldAt_eq {c : RunningConfig} {r : LoadRec} {t : Nat} : nodeHoldAt c r = some t
    ↔ ∃ since, r.holdRunning = true ∧ r.unreachableSince = some since ∧ t = since + c.budget.nodeHold * 1000 := by
  unfold nodeHoldAt
  cases r.holdRunning with
  | false => simp
  | true => simp [eq_comm]

theorem caughtHold_past {now k : Nat} {c : RunningConfig} {d : LoadDef} {r : LoadRec}
    (defined : slotGet c.loads k = some d) (past : HoldPast now c.budget.nodeHold r) :
    caughtHold now c k r = { r with assumed := some d.fallback, holdRunning := false } := by
  simp only [caughtHold, defined, if_pos past]

theorem caughtHold_other {now k : Nat} {c : RunningConfig} {r : LoadRec} (other : ¬ HoldPast now c.budget.nodeHold r) :
    caughtHold now c k r = r := by
  unfold caughtHold
  split
  · rfl
  · exact if_neg other

theorem caughtHold_twice (now : Nat) (c : RunningConfig) (k : Nat) (r : LoadRec) :
    caughtHold now c k (caughtHold now c k r) = caughtHold now c k r := by
  cases defined : slotGet c.loads k with
  | none => simp only [caughtHold, defined]
  | some d =>
    by_cases past : HoldPast now c.budget.nodeHold r
    · rw [caughtHold_past defined past]
      refine caughtHold_other ?_
      rintro ⟨since, running, -⟩
      cases running
    · rw [caughtHold_other past, caughtHold_other past]

theorem catchNodeHold_past {k : Nat} {r : LoadRec} {s : State} (found : slotGet s.loads k = some r)
    (past : HoldPast s.now s.config.budget.nodeHold r) : catchNodeHold k s = takeFallback k s := by
  obtain ⟨since, running, lost, gone⟩ := past
  have expiry := (nodeHoldAt_eq (c := s.config)).mpr ⟨since, running, lost, rfl⟩
  simp only [catchNodeHold, found, Option.bind_some, expiry]
  exact if_pos gone

theorem catchNodeHold_still {k : Nat} {r : LoadRec} {s : State} (found : slotGet s.loads k = some r)
    (other : ¬ HoldPast s.now s.config.budget.nodeHold r) : catchNodeHold k s = s := by
  simp only [catchNodeHold, found, Option.bind_some]
  split
  · rfl
  · rename_i t expiry
    obtain ⟨since, running, lost, rfl⟩ := nodeHoldAt_eq.mp expiry
    exact if_neg fun gone => other ⟨since, running, lost, gone⟩

theorem takeFallback_frame (k : Nat) (s : State) : takeFallback k s = { s with loads := (takeFallback k s).loads } := by
  unfold takeFallback
  split <;> rfl

theorem catchNodeHold_cases (k : Nat) (s : State) : catchNodeHold k s = s ∨ catchNodeHold k s = takeFallback k s := by
  unfold catchNodeHold
  split
  · exact .inl rfl
  · split
    · exact .inr rfl
    · exact .inl rfl

theorem catchNodeHold_frame (k : Nat) (s : State) :
    catchNodeHold k s = { s with loads := (catchNodeHold k s).loads } := by
  rcases catchNodeHold_cases k s with same | taken_
  · rw [same]
  · rw [taken_, takeFallback_frame]

theorem catchNodeHolds_frame (ks : List Nat) (s : State) :
    forEach ks catchNodeHold s = { s with loads := (forEach ks catchNodeHold s).loads } := by
  refine forEach_related (R := fun a b => b = { a with loads := b.loads }) (fun _ => rfl) (fun {a b c} h k => ?_) _
    catchNodeHold_frame ks s
  rw [k, h]

theorem catchNodeHold_own {k : Nat} {r : LoadRec} {s : State} (found : slotGet s.loads k = some r) :
    slotGet (catchNodeHold k s).loads k = some (caughtHold s.now s.config k r) := by
  by_cases past : HoldPast s.now s.config.budget.nodeHold r
  · rw [catchNodeHold_past found past]
    unfold takeFallback
    split
    · rename_i undefined_
      rw [found]
      simp only [caughtHold, undefined_]
    · rename_i d defined
      rw [caughtHold_past defined past, changeLoad, slotGet_slotChange_same found]
  · rw [catchNodeHold_still found past, caughtHold_other past, found]

theorem catchNodeHold_other {k j : Nat} (apart : j ≠ k) (s : State) :
    slotGet (catchNodeHold k s).loads j = slotGet s.loads j := by
  rcases catchNodeHold_cases k s with same | taken_
  · rw [same]
  · rw [taken_]
    unfold takeFallback
    split
    · rfl
    · exact changeLoad_other apart _ s

theorem catchNodeHolds {k : Nat} {r : LoadRec} {s : State} (ks : List Nat) (found : slotGet s.loads k = some r) :
    slotGet (forEach ks catchNodeHold s).loads k = some (if k ∈ ks then caughtHold s.now s.config k r else r) := by
  refine forEach_table (table := State.loads) (I := StandsAt s.now s.config)
    (fun k u => (catchNodeHold_side k u).comfort.standsAt) (fun k u x at_ seen => ?_)
    (fun k j u _ apart => catchNodeHold_other apart u) (caughtHold_twice _ _) ks ⟨rfl, rfl⟩ found
  rw [catchNodeHold_own seen, at_.1, at_.2]

/-- R130: a window that is realigned opens at the clock's second, and the one that was open joins the history. -/
theorem realignWindow_eq (second : Nat) (s : State) : realignWindow second s = { s with
    window := some (openedWindow s.config.budget.windowLength (secondNumber s.clock.reading) true)
    history := match s.window with
      | none => s.history
      | some w => logWindow ⟨w.start, second - w.start, w.used, (activeRecord s).windowLimit, true⟩ s.history } := by
  cases stood : s.window with
  | none =>
    simp only [realignWindow, closeWindow, stood]
    rfl
  | some w =>
    simp only [realignWindow, closeWindow, stood, Bool.or_true]
    rfl

/-- R130: a change of the window length realigns the window where the clock is SET. -/
theorem changeWindowLength_eq (old : Nat) (s : State) : changeWindowLength old s = { s with
    window := if s.config.budget.windowLength ≠ old ∧ s.clock.isSet = true
      then some (openedWindow s.config.budget.windowLength (secondNumber s.clock.reading) true) else s.window
    history := if s.config.budget.windowLength ≠ old ∧ s.clock.isSet = true
      then match s.window with
        | none => s.history
        | some w => logWindow ⟨w.start, secondNumber s.clock.reading - w.start, w.used, (activeRecord s).windowLimit,
          true⟩ s.history
      else s.history } := by
  unfold changeWindowLength
  by_cases changes : s.config.budget.windowLength ≠ old ∧ s.clock.isSet = true
  · simp only [if_pos changes]
    exact realignWindow_eq _ s
  · simp only [if_neg changes]

end Sys2Proof.Machine

namespace Sys2Proof.Claims

open Sys2Proof.Machine

/-! ## The requests (R195) -/

section

variable {s : State} (ready : canConfigure s)

include ready

theorem exec_setParametersDoor {p : DoorParams} (heldLow : 30 ≤ p.heldOpen) (heldHigh : p.heldOpen ≤ 1800)
    (limitLow : 2 ≤ p.chatterLimit) (limitHigh : p.chatterLimit ≤ 60) (runOn : p.runOn ≤ 120)
    (presenceLow : 10 ≤ p.presence) (presenceHigh : p.presence ≤ 600) :
    exec (.setParametersDoor (wordBytes p.heldOpen ++ [byteOf p.chatterLimit, byteOf p.runOn]
      ++ wordBytes p.presence)) s = taken 0x28 .configuring .ok [] (putDoorParams p s) := by
  refine (serve_waiting_read (handle := handleDoorParams) (x := p) ready ?_ (by simp [wordBytes])).trans ?_
  · rw [takeDoorParams, List.append_assoc, reader_step (takeWord_wordBytes _ _ (by omega)), List.cons_append,
      reader_step (takeByte_byteOf _ _ (by omega)), List.cons_append, reader_step (takeByte_byteOf _ _ (by omega)),
      List.nil_append, reader_step (takeWord_end _ (by omega))]
    rfl
  · have fits : doorParamsFit p = true := by
      simp [doorParamsFit, isWithin_true heldLow heldHigh, isWithin_true limitLow limitHigh, runOn,
        isWithin_true presenceLow presenceHigh]
    rw [handleDoorParams, if_pos fits]
    rfl

theorem exec_setParametersOccupancy {z aging dormancy : Nat} {d : ZoneDef} (zone : isZone z)
    (defined : slotGet s.config.zones z = some d) (agingLow : 30 ≤ aging) (agingHigh : aging ≤ 3600)
    (dormancyLow : 60 ≤ dormancy) (dormancyHigh : dormancy ≤ 7200) :
    exec (.setParametersOccupancy ([byteOf z] ++ wordBytes aging ++ wordBytes dormancy)) s
      = taken 0x28 .configuring .ok [] (putOccupancy ⟨z, aging, dormancy⟩ s) := by
  have small := zone.2
  refine (serve_waiting_read (handle := handleOccupancy) (x := ⟨z, aging, dormancy⟩) ready ?_
    (by simp [wordBytes])).trans ?_
  · rw [takeOccupancy, List.append_assoc, List.singleton_append, reader_step (takeByte_byteOf _ _ (by omega)),
      reader_step (takeWord_wordBytes _ _ (by omega)), reader_step (takeWord_end _ (by omega))]
    rfl
  · have fits : occupancyFits ⟨z, aging, dormancy⟩ = true := by
      simp [occupancyFits, zoneInRange_true zone, isWithin_true agingLow agingHigh,
        isWithin_true dormancyLow dormancyHigh]
    simp only [handleOccupancy, fits, defined]
    rfl

theorem exec_setParametersClimate {p : ClimateParams} (bandLow : 5 ≤ p.band) (bandHigh : p.band ≤ 100)
    (holdLow : 60 ≤ p.holdTime) (holdHigh : p.holdTime ≤ 1800) (coLow : 10 ≤ p.coRef) (coHigh : p.coRef ≤ 500)
    (no2Low : 10 ≤ p.no2Ref) (no2High : p.no2Ref ≤ 2000) (makeUp : p.makeUp ≤ 1000) :
    exec (.setParametersClimate ([byteOf p.band] ++ wordBytes p.holdTime ++ wordBytes p.coRef
      ++ wordBytes p.no2Ref ++ wordBytes p.makeUp ++ [byteOf p.vent.ctorIdx])) s
      = taken 0x28 .configuring .ok [] (putClimate p s) := by
  have vent : p.vent.ctorIdx < 256 := by cases p.vent <;> decide
  refine (serve_waiting_read (handle := handleClimate)
    (x := ⟨p.band, p.holdTime, p.coRef, p.no2Ref, p.makeUp, p.vent.ctorIdx⟩) ready ?_ (by simp [wordBytes])).trans ?_
  · simp only [takeClimate, List.append_assoc, List.cons_append, List.nil_append]
    rw [reader_step (takeByte_byteOf _ _ (by omega)), reader_step (takeWord_wordBytes _ _ (by omega)),
      reader_step (takeWord_wordBytes _ _ (by omega)), reader_step (takeWord_wordBytes _ _ (by omega)),
      reader_step (takeWord_wordBytes _ _ (by omega)), reader_step (takeByte_single vent)]
    rfl
  · have setting : ventOf p.vent.ctorIdx = some p.vent := by cases p.vent <;> rfl
    have fits : climateOf ⟨p.band, p.holdTime, p.coRef, p.no2Ref, p.makeUp, p.vent.ctorIdx⟩ = some p := by
      simp [climateOf, isWithin_true bandLow bandHigh, isWithin_true holdLow holdHigh, isWithin_true coLow coHigh,
        isWithin_true no2Low no2High, makeUp, setting]
    simp only [handleClimate, fits]
    rfl

theorem exec_setParametersBudget {p : BudgetParams} (restoreLow : 1 ≤ p.restore) (restoreHigh : p.restore ≤ 65535)
    (beginLow : 50 ≤ p.strainBegin) (beginHigh : p.strainBegin ≤ 150) (endLow : 30 ≤ p.strainEnd)
    (apart : p.strainEnd + 5 ≤ p.strainBegin) (hold : p.nodeHold ≤ 600) (windowLow : 300 ≤ p.windowLength)
    (windowHigh : p.windowLength ≤ 3600) :
    exec (.setParametersBudget (wordBytes p.restore ++ [byteOf p.strainBegin, byteOf p.strainEnd]
      ++ wordBytes p.nodeHold ++ wordBytes p.windowLength)) s
      = taken 0x28 .configuring .ok [] (putBudget p s) := by
  refine (serve_waiting_read (handle := handleBudget) (x := p) ready ?_ (by simp [wordBytes])).trans ?_
  · simp only [takeBudget, List.append_assoc, List.cons_append, List.nil_append]
    rw [reader_step (takeWord_wordBytes _ _ (by omega)), reader_step (takeByte_byteOf _ _ (by omega)),
      reader_step (takeByte_byteOf _ _ (by omega)), reader_step (takeWord_wordBytes _ _ (by omega)),
      reader_step (takeWord_end _ (by omega))]
    rfl
  · have fits : budgetFits p = true := by
      simp [budgetFits, restoreLow, isWithin_true beginLow beginHigh,
        isWithin_true endLow (show p.strainEnd ≤ p.strainBegin - 5 by omega), hold,
        isWithin_true windowLow windowHigh]
    rw [handleBudget, if_pos fits]
    rfl

end

/-- R180: a change of the setting in EMERGENCY, in the words of the claim. -/
theorem handVentilation_changed {s : State} (ordered : slotWf s.config.loads = true) :
    ventilationChanged s (handVentilation s) s.config.climate.vent := by
  refine ⟨fun k l r defined found => ⟨handVentilation_other ordered defined found, fun fan => ?_⟩, ?_⟩
  · rw [handVentilation_fan ordered defined found fan, afterCheck_extreme (f := emergencyFraction
      s.config.climate.vent l.kind) ?_ (emergencyLoad_applied _ _ _)]
    · cases kind : l.kind <;> cases vent : s.config.climate.vent <;>
        simp_all [isFan, emergencyLoad, emergencyFraction, emergencyExempt]
    · cases l.kind <;> cases s.config.climate.vent <;> simp [emergencyFraction]
  · have side := enterEmergencyLoads_side (slotsWhere (fun d => isFan d.kind) s.config.loads) s
    have set := emergencyStages_set (forEach (slotsWhere (fun d => isFan d.kind) s.config.loads) enterEmergencyLoad s)
    rw [side.config] at set
    exact stagesSet_within set (enterEmergencyLoads_raise _ s) (emergencyStages_handOff _)
      (Raises.refl (P := fun _ => True) _) side.now side.climate rfl

end Sys2Proof.Claims

namespace Sys2Proof.Proofs

open Sys2Proof.Machine Sys2Proof.Claims

/-- R86: the doors after the door group has been taken. -/
theorem putDoorParams_door {p : DoorParams} {n : Nat} {d : DoorDef} {r : DoorRec} {s : State}
    (held : p.heldOpen ≤ 65535) (defined : slotGet s.config.doors n = some d) (found : slotGet s.doors n = some r) :
    let u := putDoorParams p s
    (¬ IsLate s.now p.heldOpen r → slotGet u.doors n = some r)
    ∧ (IsLate s.now p.heldOpen r → slotGet u.doors n = some (heldRecord s.now d r)
      ∧ Told ⟨.doorHeldOpen, s.now, .door n, some (d.zone : Int), some (p.heldOpen : Int)⟩ s u) := by
  intro u
  have member := mem_slotNumbers_of_found found
  have taken_ : slotGet u.doors n
      = some (caughtRecord s.now { s.config with doorParams := p } n r) := by
    refine (catchHeldOpens (s := { s with config := { s.config with doorParams := p } }) _ found).trans ?_
    rw [if_pos member]
  refine ⟨fun early => ?_, fun late => ⟨?_, ?_⟩⟩
  · exact taken_.trans (congrArg some (caughtRecord_early (c := { s.config with doorParams := p }) early))
  · exact taken_.trans (congrArg some (caughtRecord_late (c := { s.config with doorParams := p }) defined late))
  · rw [← quantity_of_le held]
    exact catchHeldOpens_told (s := { s with config := { s.config with doorParams := p } }) member defined found late

/-- R86: the door group visits the late doors by rising number. -/
theorem putDoorParams_late {p : DoorParams} {s : State} (ordered : slotWf s.doors = true) {late : DoorRec → Bool}
    (marks : ∀ r, late r = true ↔ IsLate s.now p.heldOpen r) : putDoorParams p s
      = forEach (slotNumbers (s.doors.filter fun e => late e.2)) becomeHeldOpen
        { s with config := { s.config with doorParams := p } } := by
  rw [slotNumbers_filter ordered]
  refine catchHeldOpens_filter (s := { s with config := { s.config with doorParams := p } }) (slotWf_nodup ordered)
    fun n member => ?_
  obtain ⟨e, inTable, rfl⟩ := List.mem_map.mp member
  have found : slotGet s.doors e.1 = some e.2 := slotGet_of_mem ordered inTable
  refine ⟨e.2, found, ?_⟩
  rw [found]
  exact marks e.2

/-- R142, R130: the loads and the window after the budget group has been taken. -/
theorem putBudget_eq (p : BudgetParams) (s : State) :
    let length := p.windowLength / 60 * 60
    let v := { s with config := { s.config with budget := { p with windowLength := length } } }
    putBudget p s = { v with
      loads := (forEach (slotNumbers s.loads) catchNodeHold v).loads
      window := if length ≠ s.config.budget.windowLength ∧ s.clock.isSet = true
        then some (openedWindow length (secondNumber s.clock.reading) true) else s.window
      history := if length ≠ s.config.budget.windowLength ∧ s.clock.isSet = true
        then match s.window with
          | none => s.history
          | some w => logWindow ⟨w.start, secondNumber s.clock.reading - w.start, w.used, (activeRecord s).windowLimit,
            true⟩ s.history
        else s.history } := by
  intro length v
  have frame := catchNodeHolds_frame (slotNumbers s.loads) v
  have begins : putBudget p s
      = changeWindowLength s.config.budget.windowLength (forEach (slotNumbers s.loads) catchNodeHold v) := rfl
  rw [begins, frame, changeWindowLength_eq]
  rfl

/-- Settles O34: the doors by `putDoorParams_door`, the zone by `redormant`, the fans and stages by
`handVentilation_changed`, the loads and the window by `putBudget_eq`. -/
theorem actingParameterGroupsTakeEffectAtOnce : Obligations.ActingParameterGroupsTakeEffectAtOnce := by
  refine fun s ready => ⟨?door, ?occupancy, ?climate, ?budget⟩
  case door =>
    intro p heldLow heldHigh limitLow limitHigh runOn presenceLow presenceHigh v isLate
    refine ⟨putDoorParams p s, exec_setParametersDoor ready heldLow heldHigh limitLow limitHigh runOn presenceLow
      presenceHigh, ?_, fun ordered => putDoorParams_late ordered (late := fun r => decide (isLate r))
      fun r => @decide_eq_true_iff (isLate r) _, fun n d r defined found => ?_⟩
    · exact (catchHeldOpens_side _ v).frame
    · obtain ⟨early, late⟩ := putDoorParams_door (p := p) (by omega) defined found
      refine ⟨early, fun is => ?_⟩
      rw [← heldRecord_eq]
      exact late is
  case occupancy =>
    intro z aging dormancy d zone defined agingLow agingHigh dormancyLow dormancyHigh
    refine ⟨putOccupancy ⟨z, aging, dormancy⟩ s, exec_setParametersOccupancy ready zone defined agingLow agingHigh
      dormancyLow dormancyHigh, fun r since found vacant from_ => ?_, fun r found other => ?_, ?_, ?_⟩
    · have taken_ : slotGet (putOccupancy ⟨z, aging, dormancy⟩ s).zones z
          = some (redormant s.now (dormancy / 10 * 10 * 1000) r) := slotGet_slotChange_same found
      rw [taken_, redormant_vacant vacant from_]
      exact ⟨fun past => by rw [if_pos past], fun early => by rw [if_neg (by omega)]⟩
    · refine slotChange_id fun x at_ => ?_
      cases found.symm.trans at_
      exact redormant_other other
    · exact slotChange_sets _ _ _ ⟨.closed, false, none, none⟩
    · have set : slotChange (fun d => { d with aging := aging, dormancy := dormancy / 10 * 10 }) s.config.zones z
          = slotChange (fun _ => { d with aging := aging, dormancy := dormancy / 10 * 10 }) s.config.zones z :=
        slotChange_eq _ _ _ _ d defined rfl
      rw [← set]
      rfl
  case climate =>
    intro p bandLow bandHigh holdLow holdHigh coLow coHigh no2Low no2High makeUp
    have still (quiet : s.mode ≠ .emergency ∨ p.vent = s.config.climate.vent) :
        putClimate p s = { s with config := { s.config with climate := p } } := by
      refine if_neg fun acts => ?_
      exact quiet.elim (fun h => h acts.1) fun h => acts.2 h
    have acts (mode : s.mode = .emergency) (new : p.vent ≠ s.config.climate.vent) :
        putClimate p s = grantLines (handVentilation { s with config := { s.config with climate := p } }) :=
      if_pos ⟨mode, new⟩
    have side := (handVentilation_side { s with config := { s.config with climate := p } }).frame
    refine ⟨putClimate p s, exec_setParametersClimate ready bandLow bandHigh holdLow holdHigh coLow coHigh no2Low
      no2High makeUp, ?_, fun quiet => ?_, fun mode new ordered => ?_, ?_⟩
    · by_cases quiet : s.mode ≠ .emergency ∨ p.vent = s.config.climate.vent
      · rw [still quiet]
      · obtain ⟨mode, new⟩ := not_or.mp quiet
        rw [acts (not_not.mp mode) new]
        exact congrArg State.config side
    · rw [still quiet]
    · rw [acts mode new]
      obtain ⟨loads, stages⟩ := handVentilation_changed
        (s := { s with config := { s.config with climate := p } }) ordered
      exact ⟨loads, stages⟩
    · by_cases quiet : s.mode ≠ .emergency ∨ p.vent = s.config.climate.vent
      · rw [still quiet]
      · obtain ⟨mode, new⟩ := not_or.mp quiet
        have granted (u : State) :
            grantLines u = { u with lineA := (grantLines u).lineA, lineB := (grantLines u).lineB } := rfl
        rw [acts (not_not.mp mode) new, granted, side]
  case budget =>
    intro p restoreLow restoreHigh beginLow beginHigh endLow apart hold windowLow windowHigh length second changes
    refine ⟨putBudget p s, exec_setParametersBudget ready restoreLow restoreHigh beginLow beginHigh endLow apart hold
      windowLow windowHigh, ?_⟩
    rw [putBudget_eq]
    refine ⟨rfl, fun k d r defined found => ?_, fun same => ?_, fun moves => ?_, rfl⟩
    · have caught : slotGet (forEach (slotNumbers s.loads) catchNodeHold { s with
          config := { s.config with budget := { p with windowLength := length } } }).loads k
          = some (caughtHold s.now { s.config with budget := { p with windowLength := length } } k r) := by
        refine (catchNodeHolds (s := { s with
          config := { s.config with budget := { p with windowLength := length } } }) _ found).trans ?_
        rw [if_pos (mem_slotNumbers_of_found found)]
      exact ⟨_, caught, fun past => caughtHold_past defined past, fun other => caughtHold_other other⟩
    · exact ⟨if_neg same, if_neg same⟩
    · refine ⟨if_pos moves, fun none_ => ?_, fun w some_ => ?_⟩
      · refine (if_pos moves).trans ?_
        rw [none_]
      · refine (if_pos moves).trans ?_
        rw [some_]
        rfl

end Sys2Proof.Proofs


/-! SUPPORT and PROOFS. The requests that define and remove (R193), and DEFINE_LOAD (R118, R119, R144, R64). -/

namespace Sys2Proof.Claims

open Sys2Proof.Machine

/-! ## Requests with an action byte (R193) -/

section

variable {α β : Type} {code : Nat} {cls : RequestClass} {definition : Reader α} {removal : Reader β}
  {handle : Action α β → State → Served} {s : State} {body : List Byte}

theorem serve_define {x : α} (ready : canDefine s) (read : definition body = some (x, []))
    (fits : body.length ≤ 1023) :
    serve code cls true (0 :: body) ((readAction definition removal (0 :: body)).map handle) s
      = .next (finishRequest code cls (handle (.define x) s)) := by
  have operand : readAction definition removal (0 :: body) = some (.define x) :=
    congrArg (Option.map _) (readWhole_eq _ _ _ read)
  rw [operand, Option.map_some, serve_defining ready (by rw [List.length_cons]; omega)]

theorem serve_remove {y : β} (ready : canDefine s) (read : removal body = some (y, [])) (fits : body.length ≤ 1023) :
    serve code cls true (1 :: body) ((readAction definition removal (1 :: body)).map handle) s
      = .next (finishRequest code cls (handle (.remove y) s)) := by
  have operand : readAction definition removal (1 :: body) = some (.remove y) :=
    congrArg (Option.map _) (readWhole_eq _ _ _ read)
  rw [operand, Option.map_some, serve_defining ready (by rw [List.length_cons]; omega)]

end

end Sys2Proof.Claims

namespace Sys2Proof.Machine

open Sys2Proof.Claims

/-! ## The fields of a load (R118) -/

theorem takeByte_optByte {n : Option Nat} (small : ∀ x, n = some x → x < 255) (rest : List Byte) :
    takeByte (optByte n :: rest) = some (n.getD 255, rest) := by
  refine takeByte_byteOf _ _ ?_
  cases n with
  | none => decide
  | some x => exact Nat.lt_succ_of_lt (small x rfl)

theorem byteOrNone_getD {n : Option Nat} (small : ∀ x, n = some x → x < 255) : byteOrNone (n.getD 255) = n := by
  cases n with
  | none => rfl
  | some x => exact if_neg (Nat.ne_of_lt (small x rfl))

theorem takeWord_optWord {n : Option Nat} (small : ∀ x, n = some x → x < 65535) (rest : List Byte) :
    takeWord (optWord n ++ rest) = some (n.getD 65535, rest) := by
  refine takeWord_wordBytes _ _ ?_
  cases n with
  | none => decide
  | some x => exact Nat.lt_succ_of_lt (small x rfl)

theorem wordOrNone_getD {n : Option Nat} (small : ∀ x, n = some x → x < 65535) : wordOrNone (n.getD 65535) = n := by
  cases n with
  | none => rfl
  | some x => exact if_neg (Nat.ne_of_lt (small x rfl))

theorem all_le {n : Option Nat} {m : Nat} (h : ∀ x, n = some x → x ≤ m) : n.all (fun x => decide (x ≤ m)) = true := by
  cases n with
  | none => rfl
  | some x => exact decide_eq_true (h x rfl)

/-- R118: the fields of a load lie in their ranges. -/
structure LoadFieldsFit (k : Nat) (f : LoadFields) : Prop where
  load : 1 ≤ k ∧ k ≤ 64
  zone : isZone f.zone
  point : isPoint f.binding
  rating : 1 ≤ f.rating ∧ f.rating ≤ 5000
  cls : ∀ c, f.cls = some c → c ≤ 3
  hold : ∀ h, f.hold = some h → h ≤ 1000
  fallback : ∀ h, f.fallback = some h → h ≤ 1000

/-- R118: the definition as its body carries it. -/
def rawLoad (k : Nat) (f : LoadFields) : RawLoad where
  load := k
  kind := f.kind.ctorIdx
  zone := f.zone
  binding := rawPoint f.binding
  rating := f.rating
  drive := f.drive.ctorIdx
  cls := f.cls.getD 255
  exempt := f.exempt.toNat
  hold := f.hold.getD 65535
  fallback := f.fallback.getD 65535

/-- R118: the bytes of the definition. -/
def loadBody (k : Nat) (f : LoadFields) : List Byte :=
  [byteOf k, byteOf f.kind.ctorIdx, byteOf f.zone] ++ pointBytes f.binding ++ wordBytes f.rating
    ++ [byteOf f.drive.ctorIdx, optByte f.cls, flagByte f.exempt] ++ optWord f.hold ++ optWord f.fallback

theorem takeByte_flagByte (b : Bool) (rest : List Byte) : takeByte (flagByte b :: rest) = some (b.toNat, rest) := by
  cases b <;> rfl

section

variable {k : Nat} {f : LoadFields} (fits : LoadFieldsFit k f)

include fits

theorem takeLoad_body : takeLoad (loadBody k f) = some (rawLoad k f, []) := by
  obtain ⟨⟨low, high⟩, ⟨zoneLow, zoneHigh⟩, point, ⟨ratingLow, ratingHigh⟩, cls, hold, fallback⟩ := fits
  have kind : f.kind.ctorIdx < 256 := by cases f.kind <;> decide
  have drive : f.drive.ctorIdx < 256 := by cases f.drive <;> decide
  have last : takeWord (optWord f.fallback) = some (f.fallback.getD 65535, []) := by
    simpa using takeWord_optWord (fun x is => by have := fallback x is; omega) []
  simp only [takeLoad, loadBody, List.append_assoc, List.cons_append, List.nil_append]
  rw [reader_step (takeByte_byteOf _ _ (by omega)), reader_step (takeByte_byteOf _ _ kind),
    reader_step (takeByte_byteOf _ _ (by omega)),
    reader_step (takePoint_pointBytes _ _ (pointInRange_of_isPoint point)),
    reader_step (takeWord_wordBytes _ _ (by omega)), reader_step (takeByte_byteOf _ _ drive),
    reader_step (takeByte_optByte (fun x is => by have := cls x is; omega) _), reader_step (takeByte_flagByte _ _),
    reader_step (takeWord_optWord (fun x is => by have := hold x is; omega) _), reader_step last]
  rfl

theorem loadFieldsOf_raw : loadFieldsOf (rawLoad k f) = some f := by
  obtain ⟨⟨low, high⟩, zone, point, ⟨ratingLow, ratingHigh⟩, cls, hold, fallback⟩ := fits
  have kind : loadKindOf f.kind.ctorIdx = some f.kind := by cases f.kind <;> rfl
  have drive : driveOf f.drive.ctorIdx = some f.drive := by cases f.drive <;> rfl
  have exempt : flagOf f.exempt.toNat = some f.exempt := by cases f.exempt <;> rfl
  have clsRead : byteOrNone (f.cls.getD 255) = f.cls := byteOrNone_getD fun x is => by have := cls x is; omega
  have holdRead : wordOrNone (f.hold.getD 65535) = f.hold := wordOrNone_getD fun x is => by have := hold x is; omega
  have fallbackRead : wordOrNone (f.fallback.getD 65535) = f.fallback :=
    wordOrNone_getD fun x is => by have := fallback x is; omega
  have ranges : loadFits (rawLoad k f) = true := by
    simp [loadFits, rawLoad, clsRead, holdRead, fallbackRead, loadInRange_true low high, zoneInRange_true zone,
      ratingLow, ratingHigh, all_le cls, all_le hold, all_le fallback]
  rw [loadFieldsOf, ranges]
  simp only [Bool.not_true, Bool.false_eq_true, if_false, rawLoad, kind, drive, exempt, clsRead, holdRead,
    fallbackRead, pointOfRaw_rawPoint _ (pointInRange_of_isPoint point)]
  rfl

end

theorem isNamedCurtain_false {c : RunningConfig} {k : Nat} (free : ∀ e ∈ c.doors, e.2.curtain ≠ some k) :
    isNamedCurtain c k = false := by
  have none_ : curtainDoors c k = [] := by
    rw [List.eq_nil_iff_forall_not_mem]
    intro n member
    obtain ⟨d, inTable, names⟩ := (mem_slotsWhere _ _ _).mp member
    exact free (n, d) inTable (by simpa using names)
  simp [isNamedCurtain, none_]

theorem loadConflicts_false {c : RunningConfig} {k : Nat} {f : LoadFields} (exempt : f.exempt = true → f.kind = .light)
    (curtain : f.kind ≠ .curtain → ∀ e ∈ c.doors, e.2.curtain ≠ some k) : loadConflicts c k f = false := by
  have first : (f.exempt && f.kind != .light) = false := by
    cases is : f.exempt with
    | false => rfl
    | true => simp [exempt is]
  have second : (isNamedCurtain c k && f.kind != .curtain) = false := by
    by_cases is : f.kind = .curtain
    · simp [is]
    · rw [isNamedCurtain_false (curtain is), Bool.false_and]
  rw [loadConflicts, first, second]
  rfl

/-! ## A terminal output without a load (R64) -/

theorem loadsAt_empty {c : RunningConfig} {p : PointRef} :
    (loadsAt c p).isEmpty = true ↔ ∀ e ∈ c.loads, e.2.binding ≠ p := by
  rw [List.isEmpty_iff, List.eq_nil_iff_forall_not_mem]
  simp only [loadsAt, mem_slotsWhere, decide_eq_true_eq, not_exists, not_and]
  exact ⟨fun h e member => h e.1 e.2 member, fun h k d member => h (k, d) member⟩

theorem isDriven_iff {f : TermFunction} : isDriven f = true ↔ f = .relayOut ∨ f = .dimOut := by
  cases f <;> simp [isDriven]

/-- R64: the terminals after a load has left its point, in the words of the claim. -/
theorem leaveOutput_left {k : Nat} {s t : State} (config : t.config.functions = s.config.functions)
    (terminals : t.terminals = s.terminals) :
    leaveOutput (bindingOf s.config k) t = { t with terminals := terminalsLeft s k t.config } := by
  have kept : t = { t with terminals := s.terminals } := by rw [← terminals]
  have function (j : Nat) : functionOf t.config j = functionOf s.config j := by rw [functionOf, functionOf, config]
  unfold terminalsLeft bindingOf
  cases slotGet s.config.loads k with
  | none => exact kept
  | some old =>
    simp only [Option.map_some, leaveOutput, Bool.and_eq_true, beq_iff_eq, loadsAt_empty, isDriven_iff, function,
      and_assoc]
    split
    · rw [changeTerminal, terminals]
      rfl
    · exact kept

end Sys2Proof.Machine

namespace Sys2Proof.Proofs

open Sys2Proof.Machine Sys2Proof.Claims

theorem defaultTable_holds : defaultTable :=
  ⟨fun z => by cases z <;> decide, rfl, rfl, rfl, rfl, rfl, rfl⟩

theorem exec_defineLoad {k : Nat} {f : LoadFields} {z : ZoneDef} {s : State} (ready : canDefine s)
    (fits : LoadFieldsFit k f) (zone : slotGet s.config.zones f.zone = some z)
    (exempt : f.exempt = true → f.kind = .light)
    (curtain : f.kind ≠ .curtain → ∀ e ∈ s.config.doors, e.2.curtain ≠ some k) :
    exec (.defineLoad (0 :: loadBody k f)) s = taken 0x22 .configuring .ok [] (putLoad k (loadOf f z.kind) s) := by
  have short : (loadBody k f).length ≤ 1023 := by simp [loadBody, pointBytes, wordBytes, optWord]
  refine (serve_define (handle := handleDefineLoad) ready (takeLoad_body fits) short).trans ?_
  have fields : loadFieldsOf (rawLoad k f) = some f := loadFieldsOf_raw fits
  have free : loadConflicts s.config (rawLoad k f).load f = false := loadConflicts_false exempt curtain
  simp only [handleDefineLoad, fields, zone, free, Bool.false_eq_true, if_false]
  rfl

theorem exec_removeLoad {k : Nat} {s : State} (ready : canDefine s) (low : 1 ≤ k) (high : k ≤ 64)
    (used : slotUsed s.config.loads k = true) (free : ∀ e ∈ s.config.doors, e.2.curtain ≠ some k) :
    exec (.defineLoad [1, byteOf k]) s = taken 0x22 .configuring .ok [] (removeLoad k s) := by
  refine (serve_remove (handle := handleDefineLoad) ready (takeByte_single (by omega)) (by simp)).trans ?_
  simp only [handleDefineLoad, loadInRange_true low high, used, isNamedCurtain_false free, Bool.not_true,
    Bool.false_eq_true, if_false]
  rfl

/-- R144: a daylight assignment is kept from LIGHT to LIGHT alone. -/
theorem daylightAfter_kept {c : RunningConfig} {k : Nat} {old : LoadDef} (found : slotGet c.loads k = some old)
    (was : old.kind = .light) : daylightAfter c k .light = c.daylight := by
  simp [daylightAfter, found, isLight, was]

theorem daylightAfter_freed {c : RunningConfig} {k : Nat} {kind : LoadKind}
    (other : kind ≠ .light ∨ ¬ ∃ old, slotGet c.loads k = some old ∧ old.kind = .light) :
    daylightAfter c k kind = slotFree c.daylight k := by
  refine if_neg ?_
  rintro ⟨is, was⟩
  obtain ⟨old, found, light⟩ := (Option.any_eq_true _ _).mp was
  exact other.elim (fun h => h is) fun h => h ⟨old, found, by simpa [isLight] using light⟩

/-- R119: the record of a new load, in the words of the claim. -/
theorem freshLoad_new (now nodeHold : Nat) (contact : Contact) (d : LoadDef) : freshLoad now contact nodeHold d
    = newLoad now nodeHold (decide (contact = .inContact ∨ contact = .unconfirmed)) d := by
  cases contact <;> simp [freshLoad, newLoad, isControlledIn, loseLoad]

/-- Settles O30: the requests by `exec_defineLoad` and `exec_removeLoad`, the terminals by `leaveOutput_left`. -/
theorem loadDefinitionsTakeAndFreeTheirSlot : Obligations.LoadDefinitionsTakeAndFreeTheirSlot := by
  refine ⟨defaultTable_holds, fun k s ready low high => ⟨?define, ?remove⟩⟩
  case define =>
    intro f z zone found point ratingLow ratingHigh cls hold fallback exempt curtain d wasLight contact
    have fits : LoadFieldsFit k f := ⟨⟨low, high⟩, zone, point, ⟨ratingLow, ratingHigh⟩, cls, hold, fallback⟩
    refine ⟨{ s.config with
      loads := slotSet s.config.loads k d, daylight := daylightAfter s.config k f.kind }, rfl, ?_, ?_, ?_⟩
    · rintro is ⟨old, at_, light⟩
      rw [is]
      exact daylightAfter_kept at_ light
    · exact daylightAfter_freed
    · refine (exec_defineLoad ready fits found exempt curtain).trans (congrArg _ ?_)
      rw [putLoad, freshLoad_new]
      exact (leaveOutput_left (s := s) (by rfl) (by rfl)).trans rfl
  case remove =>
    intro used free c
    rw [exec_removeLoad ready low high used free, removeLoad]
    exact congrArg _ (leaveOutput_left (s := s) (by rfl) (by rfl))

end Sys2Proof.Proofs


/-! SUPPORT and PROOFS. DEFINE_DOOR (R84, R85, R97). -/

namespace Sys2Proof.Machine

open Sys2Proof.Claims

/-! ## The old presence entry (R85) -/

/-- Freeing the slot of one entry of a table in order leaves the others. -/
theorem slotFree_split {α : Type} {before after : Table α} {k : Nat} {v : α}
    (ordered : slotWf (before ++ (k, v) :: after) = true) :
    slotFree (before ++ (k, v) :: after) k = before ++ after := by
  have apart := slotWf_nodup ordered
  rw [slotNumbers, List.map_append, List.map_cons] at apart
  have absent : ∀ e ∈ before ++ after, e.1 ≠ k := by
    intro e member same
    have distinct := List.nodup_middle.mp apart
    exact (List.nodup_cons.mp distinct).1 (by
      rw [← List.map_append]
      exact List.mem_map.mpr ⟨e, member, same⟩)
  rw [slotFree_eq_filter k ordered, List.filter_append, List.filter_cons_of_neg (by simp), ← List.filter_append]
  exact List.filter_eq_self.mpr fun e member => by simpa using absent e member

theorem bne_eq_decide {α : Type} [DecidableEq α] (y : α) : (fun x : α => x != y) = fun x => decide (x ≠ y) := by
  funext x
  by_cases same : x = y <;> simp [same]

/-- R104: the door's note of an evicted entry goes. -/
def unnoted (n : Nat) (s : State) : State :=
  { s with evictedDoors := s.evictedDoors.filter fun x => decide (x ≠ n) }

theorem dropDoorEntry_undefined {n : Nat} {s : State} (undefined_ : slotGet s.config.doors n = none) :
    dropDoorEntry n s = unnoted n s := by
  simp only [dropDoorEntry, undefined_, bne_eq_decide]
  rfl

theorem dropDoorEntry_defined {n : Nat} {old : DoorDef} {s : State} (defined : slotGet s.config.doors n = some old) :
    dropDoorEntry n s = dropEntry old.zone (.door n) (unnoted n s) := by
  simp only [dropDoorEntry, defined, bne_eq_decide]
  rfl

theorem dropEntry_absent {z : Nat} {source : PresenceSource} {s : State}
    (absent : ∀ e ∈ s.presence, ¬ (e.2.zone = z ∧ e.2.source = source)) : dropEntry z source s = s := by
  have none_ : entrySlot s z source = none := by
    have unseen := find?_none (p := fun e : Nat × PresenceEntry => e.2.zone == z && e.2.source == source)
      fun e member => by simpa using fun zone => fun same => absent e member ⟨zone, same⟩
    rw [entrySlot, unseen]
    rfl
  simp only [dropEntry, none_]

/-- R105, R106, R109: the first entry of its zone and source leaves, and its zone is judged. -/
theorem dropEntry_found {z slot : Nat} {source : PresenceSource} {e : PresenceEntry}
    {before after : Table PresenceEntry} {s : State} (ordered : slotWf s.presence = true)
    (split : s.presence = before ++ (slot, e) :: after) (is : e.zone = z ∧ e.source = source)
    (earlier : ∀ x ∈ before, ¬ (x.2.zone = z ∧ x.2.source = source)) :
    dropEntry z source s = judgeZone z { s with
      presence := before ++ after
      fullReported := s.fullReported && decide (96 ≤ (before ++ after).length) } := by
  have first : entrySlot s z source = some slot := by
    have seen := find?_first (p := fun e : Nat × PresenceEntry => e.2.zone == z && e.2.source == source) split
      (fun x member => by simpa using fun zone => fun same => earlier x member ⟨zone, same⟩) (by simp [is])
    rw [entrySlot, seen]
    rfl
  have found : slotGet s.presence slot = some e := slotGet_of_mem ordered (by rw [split]; simp)
  have left : slotFree s.presence slot = before ++ after := by
    rw [split] at ordered ⊢
    exact slotFree_split ordered
  simp only [dropEntry, first, removeEntry_found found, left, is.1]

end Sys2Proof.Machine

namespace Sys2Proof.Claims

open Sys2Proof.Machine

theorem doorEntryDropped_holds (n : Nat) (s : State) : doorEntryDropped n s := by
  refine ⟨dropDoorEntry_undefined, fun old defined =>
    ⟨fun absent => ?_, fun before slot e after ordered split is first => ?_⟩⟩
  · rw [dropDoorEntry_defined defined]
    exact dropEntry_absent absent
  · rw [dropDoorEntry_defined defined]
    exact dropEntry_found (s := unnoted n s) ordered split is first

end Sys2Proof.Claims

namespace Sys2Proof.Machine

open Sys2Proof.Claims

/-! ## The request (R85) -/

/-- R85: the fields of a door lie in their ranges. -/
structure DoorFits (n : Nat) (d : DoorDef) : Prop where
  door : 1 ≤ n ∧ n ≤ 48
  point : isPoint d.binding
  zone : isZone d.zone
  neighbours : d.neighbours.length ≤ 4 ∧ (∀ z ∈ d.neighbours, isZone z) ∧ d.neighbours.Nodup
  curtain : ∀ k, d.curtain = some k → 1 ≤ k ∧ k ≤ 64
  boost : d.boost ≤ 500

/-- R85: the definition as its body carries it. -/
def rawDoor (n : Nat) (d : DoorDef) : RawDoor :=
  ⟨n, rawPoint d.binding, d.zone, d.neighbours, d.curtain.getD 255, d.boost⟩

/-- R85: the bytes of the definition. -/
def doorBody (n : Nat) (d : DoorDef) : List Byte :=
  [byteOf n] ++ pointBytes d.binding ++ [byteOf d.zone] ++ listBytes (fun z => [byteOf z]) d.neighbours
    ++ [optByte d.curtain] ++ wordBytes d.boost

section

variable {n : Nat} {d : DoorDef} (fits : DoorFits n d)

include fits

theorem takeDoor_body : takeDoor (doorBody n d) = some (rawDoor n d, []) := by
  obtain ⟨⟨low, high⟩, point, ⟨zoneLow, zoneHigh⟩, ⟨few, zones, _⟩, curtain, boost⟩ := fits
  have neighbours (rest : List Byte) : takeList takeByte (listBytes (fun z => [byteOf z]) d.neighbours ++ rest)
      = some (d.neighbours, rest) := by
    have read := takeList_listBytes takeByte (fun z => [byteOf z]) id d.neighbours rest (by omega)
      fun z member more => takeByte_byteOf z more (by have := (zones z member).2; omega)
    rwa [List.map_id] at read
  simp only [takeDoor, doorBody, List.append_assoc, List.cons_append, List.nil_append]
  rw [reader_step (takeByte_byteOf _ _ (by omega)),
    reader_step (takePoint_pointBytes _ _ (pointInRange_of_isPoint point)),
    reader_step (takeByte_byteOf _ _ (by omega)), reader_step (neighbours _),
    reader_step (takeByte_optByte (fun k is => by have := (curtain k is).2; omega) _),
    reader_step (takeWord_end _ (by omega))]
  rfl

theorem doorOf_raw : doorOf (rawDoor n d) = some d := by
  obtain ⟨⟨low, high⟩, point, zone, ⟨few, zones, apart⟩, curtain, boost⟩ := fits
  have curtainRead : byteOrNone (d.curtain.getD 255) = d.curtain :=
    byteOrNone_getD fun k is => by have := (curtain k is).2; omega
  have load : d.curtain.all loadInRange = true := by
    cases is : d.curtain with
    | none => rfl
    | some k => exact loadInRange_true (curtain k is).1 (curtain k is).2
  have ranges : doorFits (rawDoor n d) = true := by
    have inRange : d.neighbours.all zoneInRange = true :=
      List.all_eq_true.mpr fun z member => zoneInRange_true (zones z member)
    simp [doorFits, rawDoor, doorInRange, low, high, zoneInRange_true zone, few, inRange, hasRepeat, apart, boost,
      curtainRead, load]
  rw [doorOf, if_pos ranges]
  simp only [rawDoor, pointOfRaw_rawPoint _ (pointInRange_of_isPoint point), curtainRead]
  rfl

end

theorem doorConflicts_false {c : RunningConfig} {n : Nat} {d : DoorDef} (apart : d.zone ∉ d.neighbours)
    (curtain : ∀ k, d.curtain = some k → (∃ l, slotGet c.loads k = some l ∧ l.kind = .curtain)
      ∧ ∀ e ∈ c.doors, e.1 ≠ n → e.2.curtain ≠ some k) : doorConflicts c n d = false := by
  have free : d.curtain.any (curtainTaken c n) = false := by
    cases is : d.curtain with
    | none => rfl
    | some k =>
      obtain ⟨⟨l, found, kind⟩, single⟩ := curtain k is
      have unshared : c.doors.any (fun e => e.1 != n && e.2.curtain == some k) = false :=
        List.any_eq_false.mpr fun e member => by simpa using single e member
      simp [curtainTaken, found, kind, unshared]
  simp [doorConflicts, apart, free]

theorem curtainMissing_false {c : RunningConfig} {d : DoorDef}
    (curtain : ∀ k, d.curtain = some k → ∃ l, slotGet c.loads k = some l ∧ l.kind = .curtain) :
    curtainMissing c d = false := by
  unfold curtainMissing
  cases is : d.curtain with
  | none => rfl
  | some k =>
    obtain ⟨l, found, _⟩ := curtain k is
    simp [slotUsed, found]

end Sys2Proof.Machine

namespace Sys2Proof.Proofs

open Sys2Proof.Machine Sys2Proof.Claims

theorem exec_defineDoor {n : Nat} {d : DoorDef} {s : State} (ready : canDefine s) (fits : DoorFits n d)
    (apart : d.zone ∉ d.neighbours)
    (curtain : ∀ k, d.curtain = some k → (∃ l, slotGet s.config.loads k = some l ∧ l.kind = .curtain)
      ∧ ∀ e ∈ s.config.doors, e.1 ≠ n → e.2.curtain ≠ some k) :
    exec (.defineDoor (0 :: doorBody n d)) s = taken 0x21 .configuring .ok [] (putDoor n d s) := by
  have few := fits.neighbours.1
  have short : (doorBody n d).length ≤ 1023 := by
    simp only [doorBody, listBytes, pointBytes, wordBytes, List.length_append, List.length_cons, List.length_nil,
      List.length_flatMap, List.map_const', List.sum_replicate, smul_eq_mul]
    omega
  refine (serve_define (handle := handleDefineDoor) ready (takeDoor_body fits) short).trans ?_
  have fields : doorOf (rawDoor n d) = some d := doorOf_raw fits
  have present : curtainMissing s.config d = false := curtainMissing_false fun k is => (curtain k is).1
  have free : doorConflicts s.config (rawDoor n d).door d = false := doorConflicts_false apart curtain
  simp only [handleDefineDoor, fields, present, free, Bool.false_eq_true, if_false]
  rfl

theorem exec_removeDoor {n : Nat} {s : State} (ready : canDefine s) (low : 1 ≤ n) (high : n ≤ 48)
    (used : slotUsed s.config.doors n = true) :
    exec (.defineDoor [1, byteOf n]) s = taken 0x21 .configuring .ok [] (removeDoor n s) := by
  refine (serve_remove (handle := handleDefineDoor) ready (takeByte_single (by omega)) (by simp)).trans ?_
  have inRange : doorInRange n = true := by simp [doorInRange, low, high]
  simp only [handleDefineDoor, inRange, used, Bool.not_true, Bool.false_eq_true, if_false]
  rfl

/-- R85: the old entry changes nothing that a definition reads. -/
theorem dropDoorEntry_frame (n : Nat) (s : State) : dropDoorEntry n s = { s with
    presence := (dropDoorEntry n s).presence, zones := (dropDoorEntry n s).zones
    fullReported := (dropDoorEntry n s).fullReported, evictedDoors := (dropDoorEntry n s).evictedDoors } := by
  cases defined : slotGet s.config.doors n with
  | none => rw [dropDoorEntry_undefined defined, unnoted]
  | some old =>
    rw [dropDoorEntry_defined defined]
    unfold dropEntry
    split
    · rw [removeEntry_frame]
      rfl
    · rfl

/-- Settles O29: the old entry by `doorEntryDropped_holds`, the requests by `exec_defineDoor` and `exec_removeDoor`. -/
theorem doorDefinitionsTakeAndFreeTheirSlot : Obligations.DoorDefinitionsTakeAndFreeTheirSlot := by
  refine ⟨doorEntryDropped_holds, fun n s ready low high => ⟨?define, fun used => ?remove⟩⟩
  case define =>
    intro d point zone few zones distinct apart boost curtain
    have fits : DoorFits n d := ⟨⟨low, high⟩, point, zone, ⟨few, zones, distinct⟩,
      fun k is => ⟨(curtain k is).1, (curtain k is).2.1⟩, boost⟩
    refine (exec_defineDoor ready fits apart fun k is => (curtain k is).2.2).trans ?_
    rw [putDoor, dropDoorEntry_frame]
    rfl
  case remove =>
    rw [exec_removeDoor ready low high used, removeDoor, dropDoorEntry_frame]

end Sys2Proof.Proofs


/-! SUPPORT. DEFINE_ZONE: the fields of a zone, and what a definition makes of its entries and its record (R98, R99,
R109, R111). -/

namespace Sys2Proof.Machine

open Sys2Proof.Claims

/-! ## The fields of a zone (R99) -/

/-- R99: the definition as its body carries it. -/
def rawZone (z : Nat) (d : ZoneDef) : RawZone where
  zone := z
  kind := d.kind.ctorIdx
  temperature := (d.temperature.map rawPoint).getD noPoint
  gas := d.gas.map fun g => ⟨rawPoint g.point, g.gas.ctorIdx⟩
  presence := d.presence.map rawPoint

/-- R99: the bytes of the definition. -/
def zoneBody (z : Nat) (d : ZoneDef) : List Byte :=
  [byteOf z, byteOf d.kind.ctorIdx] ++ optPoint d.temperature
    ++ listBytes (fun g => pointBytes g.point ++ [byteOf g.gas.ctorIdx]) d.gas ++ listBytes pointBytes d.presence

/-- R99: the fields of a zone lie in their ranges. -/
structure ZoneFits (z : Nat) (d : ZoneDef) : Prop where
  zone : isZone z
  points : ∀ p ∈ zonePoints d, isPoint p
  gas : d.gas.length ≤ 3
  presence : d.presence.length ≤ 8

theorem takePoint_optPoint {p : Option PointRef} (point : ∀ q, p = some q → isPoint q) (rest : List Byte) :
    takePoint (optPoint p ++ rest) = some ((p.map rawPoint).getD noPoint, rest) := by
  cases p with
  | none => exact takePoint_none rest
  | some q => exact takePoint_pointBytes q rest (pointInRange_of_isPoint (point q rfl))

theorem optPointOf_raw {p : Option PointRef} (point : ∀ q, p = some q → isPoint q) :
    optPointOf ((p.map rawPoint).getD noPoint) = some p := by
  cases p with
  | none => rfl
  | some q =>
    have read := pointOfRaw_rawPoint q (pointInRange_of_isPoint (point q rfl))
    simp only [optPointOf, Option.map_some, Option.getD_some, if_neg (rawPoint_ne_none q), read]

theorem mapM_map_some {α β : Type} {f : β → Option α} {g : α → β} {xs : List α} (h : ∀ x ∈ xs, f (g x) = some x) :
    (xs.map g).mapM f = some xs := by
  induction xs with
  | nil => rfl
  | cons x xs ih =>
    rw [List.map_cons, List.mapM_cons, h x List.mem_cons_self, ih fun y member => h y (List.mem_cons_of_mem x member)]
    rfl

section

variable {z : Nat} {d : ZoneDef} (fits : ZoneFits z d)

include fits

theorem ZoneFits.temperature (q : PointRef) (is : d.temperature = some q) : isPoint q :=
  fits.points q (by simp [zonePoints, is])

theorem ZoneFits.gasPoint (g : GasPoint) (member : g ∈ d.gas) : pointInRange g.point = true :=
  pointInRange_of_isPoint (fits.points _ (by
    simp only [zonePoints, List.mem_append, List.mem_map]
    exact .inl (.inr ⟨g, member, rfl⟩)))

theorem ZoneFits.sensor (p : PointRef) (member : p ∈ d.presence) : pointInRange p = true :=
  pointInRange_of_isPoint (fits.points p (by simp [zonePoints, member]))

theorem takeZone_body : takeZone (zoneBody z d) = some (rawZone z d, []) := by
  have small := fits.zone.2
  have kind : d.kind.ctorIdx < 256 := by cases d.kind <;> decide
  have gas (rest : List Byte) : takeList takeGas
      (listBytes (fun g : GasPoint => pointBytes g.point ++ [byteOf g.gas.ctorIdx]) d.gas ++ rest)
      = some (d.gas.map fun g => ⟨rawPoint g.point, g.gas.ctorIdx⟩, rest) := by
    refine takeList_listBytes takeGas _ _ d.gas rest (by have := fits.gas; omega) fun g member more => ?_
    have code : g.gas.ctorIdx < 256 := by cases g.gas <;> decide
    rw [List.append_assoc, List.singleton_append, takeGas,
      reader_step (takePoint_pointBytes _ _ (fits.gasPoint g member)), reader_step (takeByte_byteOf _ _ code)]
    rfl
  have presence : takeList takePoint (listBytes pointBytes d.presence) = some (d.presence.map rawPoint, []) := by
    have read := takeList_listBytes takePoint pointBytes rawPoint d.presence [] (by have := fits.presence; omega)
      fun p member more => takePoint_pointBytes p more (fits.sensor p member)
    rwa [List.append_nil] at read
  simp only [takeZone, zoneBody, List.append_assoc, List.cons_append, List.nil_append]
  rw [reader_step (takeByte_byteOf _ _ (by omega)), reader_step (takeByte_byteOf _ _ kind),
    reader_step (takePoint_optPoint fits.temperature _), reader_step (gas _), reader_step presence]
  rfl

theorem zoneOf_raw : zoneOf (rawZone z d) = some { d with aging := 300, dormancy := 900 } := by
  have kind : zoneKindOf d.kind.ctorIdx = some d.kind := by cases d.kind <;> rfl
  have gas : (d.gas.map fun g => (⟨rawPoint g.point, g.gas.ctorIdx⟩ : RawGas)).mapM gasPointOf = some d.gas := by
    refine mapM_map_some fun g member => ?_
    have code : gasOf g.gas.ctorIdx = some g.gas := by cases g.gas <;> rfl
    simp only [gasPointOf, pointOfRaw_rawPoint _ (fits.gasPoint g member), code]
  have presence : (d.presence.map rawPoint).mapM pointOfRaw = some d.presence :=
    mapM_map_some fun p member => pointOfRaw_rawPoint p (fits.sensor p member)
  have ranges : (!zoneInRange (rawZone z d).zone || decide (3 < (rawZone z d).gas.length)
      || decide (8 < (rawZone z d).presence.length)) = false := by
    simp [rawZone, zoneInRange_true fits.zone, fits.gas, fits.presence]
  rw [zoneOf, ranges]
  simp only [rawZone, kind, optPointOf_raw fits.temperature, gas, presence]
  rfl

end

/-! ## The entries that leave (R99, R106) -/

theorem isOrphan_eq (z : Nat) (d : ZoneDef) : isOrphan z d.presence = lostSensor z d := by
  funext e
  unfold isOrphan lostSensor
  cases e.source <;> simp

/-- R106: the flag as entries leave the table. -/
theorem removeEntries_full (slots : List Nat) (s : State) :
    let t := forEach slots removeEntry s
    (t.presence = s.presence ∧ t.fullReported = s.fullReported)
      ∨ (t.presence.length < s.presence.length
        ∧ t.fullReported = (s.fullReported && decide (96 ≤ t.presence.length))) := by
  induction slots generalizing s with
  | nil => exact .inl ⟨rfl, rfl⟩
  | cons slot slots ih =>
    intro t
    cases found : slotGet s.presence slot with
    | none =>
      have same : t = forEach slots removeEntry s := congrArg (forEach slots removeEntry) (removeEntry_absent found)
      rw [same]
      exact ih s
    | some e =>
      have shorter : (removeEntry slot s).presence.length < s.presence.length := by
        rw [removeEntry_presence]
        have := length_slotFree found
        omega
      have flag : (removeEntry slot s).fullReported
          = (s.fullReported && decide (96 ≤ (removeEntry slot s).presence.length)) := by
        rw [removeEntry_found found]
        rfl
      right
      rcases ih (removeEntry slot s) with ⟨presence, full⟩ | ⟨less, full⟩
      · have presence : t.presence = (removeEntry slot s).presence := presence
        exact ⟨by rw [presence]; exact shorter, by rw [presence, ← flag]; exact full⟩
      · refine ⟨Nat.lt_trans less shorter, full.trans ?_⟩
        rw [flag, Bool.and_assoc, ← Bool.decide_and]
        exact congrArg _ (decide_eq_decide.mpr ⟨fun h => h.2, fun h => ⟨Nat.le_of_lt (Nat.lt_of_le_of_lt h less), h⟩⟩)

end Sys2Proof.Machine


/-! SUPPORT and PROOFS. DEFINE_ZONE: the records that it makes and takes away (R99, R100, R109, R111, R161). -/

namespace Sys2Proof.Machine

open Sys2Proof.Claims

/-! ## The record of a zone that loses entries (R109) -/

theorem hasEntry_iff {s : State} {z : Nat} : hasEntry s z = true ↔ ∃ e ∈ s.presence, e.2.zone = z := by
  simp [hasEntry, entryIn]

/-- A zone that is not VACANT from before: it holds entries, is CLOSED, or went VACANT at this moment. -/
def LeavesNow (now ms : Nat) (x : ZoneRec) : Prop :=
  x.state = .closed ∨ x.state = .occupied
    ∨ (x.state = .vacant ∧ x.vacantSince = some now ∧ x.dormancyAt = some (now + ms))

theorem LeavesNow.judged {s : State} {z : Nat} {x : ZoneRec} (h : LeavesNow s.now (dormancyMs s z) x) :
    LeavesNow s.now (dormancyMs s z) (judged s z x) := by
  cases open_ : inZones s.plan.openZones z with
  | false => exact .inl (Proofs.judged_closed open_).1
  | true =>
    cases entry : hasEntry s z with
    | true => exact .inr (.inl (Proofs.judged_occupied open_ entry).1)
    | false =>
      rcases h with closed | occupied | ⟨vacant, since, expiry⟩
      · exact .inr (.inr (Proofs.judged_vacates open_ entry (.inl closed)))
      · exact .inr (.inr (Proofs.judged_vacates open_ entry (.inr occupied)))
      · obtain ⟨state, from_, until_⟩ := Proofs.judged_stays open_ entry (.inl vacant)
        exact .inr (.inr ⟨state.trans vacant, from_.trans since, until_.trans expiry⟩)

/-- The zones of two states differ in zone `z` at most. -/
def ZoneOnly (z : Nat) (s t : State) : Prop := ∃ f, t.zones = slotChange f s.zones z

theorem ZoneOnly.refl (z : Nat) (s : State) : ZoneOnly z s s := ⟨id, (slotChange_id fun _ _ => rfl).symm⟩

theorem ZoneOnly.trans {z : Nat} {a b c : State} (h : ZoneOnly z a b) (k : ZoneOnly z b c) : ZoneOnly z a c := by
  obtain ⟨f, hf⟩ := h
  obtain ⟨g, hg⟩ := k
  exact ⟨fun x => g (f x), by rw [hg, hf, slotChange_slotChange]⟩

theorem judgeZone_zoneOnly (z : Nat) (s : State) : ZoneOnly z s (judgeZone z s) := ⟨_, rfl⟩

/-- What a removal of entries of zone `z` keeps. -/
structure LosesEntries (z : Nat) (s t : State) : Prop where
  frame : RemovalFrame s t
  zones : ZoneOnly z s t
  record : ∀ r, slotGet s.zones z = some r → ∃ x, slotGet t.zones z = some x
    ∧ (LeavesNow s.now (dormancyMs s z) r → LeavesNow s.now (dormancyMs s z) x)

theorem LosesEntries.refl (z : Nat) (s : State) : LosesEntries z s s :=
  ⟨rfl, .refl z s, fun r found => ⟨r, found, id⟩⟩

theorem dormancyMs_congr {s t : State} (h : t.config = s.config) (z : Nat) : dormancyMs t z = dormancyMs s z := by
  rw [dormancyMs, dormancyMs, h]

theorem LosesEntries.trans {z : Nat} {a b c : State} (h : LosesEntries z a b) (k : LosesEntries z b c) :
    LosesEntries z a c := by
  have now : b.now = a.now := by rw [h.frame]
  have config : b.config = a.config := by rw [h.frame]
  refine ⟨h.frame.trans k.frame, h.zones.trans k.zones, fun r found => ?_⟩
  obtain ⟨x, seen, leaves⟩ := h.record r found
  obtain ⟨y, last, later⟩ := k.record x seen
  rw [now, dormancyMs_congr config] at later
  exact ⟨y, last, later ∘ leaves⟩

theorem removeEntry_loses {z slot : Nat} {s : State} (inZone : ∀ e, slotGet s.presence slot = some e → e.zone = z) :
    LosesEntries z s (removeEntry slot s) := by
  cases found : slotGet s.presence slot with
  | none =>
    rw [removeEntry_absent found]
    exact .refl z s
  | some e =>
    refine ⟨removeEntry_frame slot s, ?_, fun r seen => ?_⟩
    · rw [removeEntry_found found, inZone e found]
      exact ⟨_, rfl⟩
    · rw [removeEntry_found found, inZone e found]
      exact ⟨_, slotGet_judgeZone (by exact seen), fun h => LeavesNow.judged (s := { s with
        presence := slotFree s.presence slot
        fullReported := s.fullReported && decide (96 ≤ (slotFree s.presence slot).length) }) h⟩

theorem removeEntries_lose {z : Nat} {slots : List Nat} {s : State} (ordered : slotWf s.presence = true)
    (inZone : ∀ slot ∈ slots, ∀ e, slotGet s.presence slot = some e → e.zone = z) :
    LosesEntries z s (forEach slots removeEntry s) := by
  induction slots generalizing s with
  | nil => exact .refl z s
  | cons slot slots ih =>
    have still : slotWf (removeEntry slot s).presence = true := by
      rw [removeEntry_presence]
      exact slotWf_sublist (slotFree_sublist _ _) ordered
    refine (removeEntry_loses (inZone slot List.mem_cons_self)).trans (ih still fun k member e found => ?_)
    rw [removeEntry_presence, slotGet_slotFree _ _ _ ordered] at found
    split at found
    · cases found
    · exact inZone k (List.mem_cons_of_mem slot member) e found

/-! ## A zone that is judged after its definition (R109, R111) -/

/-- R111: the intruded flag is lowered. -/
def lowered (r : ZoneRec) : ZoneRec := { r with intruded := false }

theorem lowered_eq {r : ZoneRec} {state : Occupancy} {since expiry : Option Nat} (h : r.state = state)
    (from_ : r.vacantSince = since) (until_ : r.dormancyAt = expiry) :
    lowered r = ⟨state, false, since, expiry⟩ := by
  rw [← h, ← from_, ← until_]
  rfl

/-! ## A new zone, and a zone defined again (R99, R161) -/

theorem endPurge_eq (z : Nat) (s : State) : endPurge z s = purgeEnded z s := by
  unfold endPurge purgeEnded
  cases slotGet s.climate z <;> rfl

theorem purgeEnded_frame (z : Nat) (s : State) :
    purgeEnded z s = { s with notices := (purgeEnded z s).notices, lost := (purgeEnded z s).lost } := by
  unfold purgeEnded
  split
  · rfl
  · split <;> rfl

theorem freshClimate_new (now : Nat) (d : ZoneDef) : freshClimate now d = newClimate now d := by
  cases gas : d.gas <;> simp [freshClimate, newClimate, gas]

/-- R109: the record of a zone that has just been defined. -/
theorem judged_new {s : State} {z : Nat} {d : ZoneDef} (defined : slotGet s.config.zones z = some d) :
    judged s z startZone = if inZones s.plan.openZones z = false then ⟨.closed, false, none, none⟩
      else if ∃ e ∈ s.presence, e.2.zone = z then ⟨.occupied, false, none, none⟩
      else ⟨.vacant, false, some s.now, some (s.now + d.dormancy * 1000)⟩ := by
  have flag : ∀ x : ZoneRec, judgedFlag (hasDynamic s z) startZone x = lowered x := fun x => by
    simp [judgedFlag, startZone, lowered]
  rw [judged, flag, dormancyMs, defined]
  cases open_ : inZones s.plan.openZones z with
  | false => rfl
  | true =>
    by_cases held : ∃ e ∈ s.presence, e.2.zone = z
    · rw [hasEntry_iff.mpr held, if_neg (by simp), if_pos held]
      rfl
    · rw [Bool.eq_false_iff.mpr (mt hasEntry_iff.mp held), if_neg (by simp), if_neg held]
      rfl

theorem createZone_eq (z : Nat) {d : ZoneDef} (s : State) {ms : Nat} (dormancy : d.dormancy * 1000 = ms) :
    createZone z d s = { s with
    config := { s.config with zones := slotSet s.config.zones z d }
    zones := slotSet s.zones z (if inZones s.plan.openZones z = false then ⟨.closed, false, none, none⟩
      else if ∃ e ∈ s.presence, e.2.zone = z then ⟨.occupied, false, none, none⟩
      else ⟨.vacant, false, some s.now, some (s.now + ms)⟩)
    climate := slotSet s.climate z (newClimate s.now d) } := by
  have made := judged_new (s := { s with
    config := { s.config with zones := slotSet s.config.zones z d }
    zones := slotSet s.zones z startZone
    climate := slotSet s.climate z (freshClimate s.now d) }) (slotGet_slotSet_same s.config.zones z d)
  rw [dormancy] at made
  unfold createZone judgeZone changeZone
  rw [slotChange_slotSet, freshClimate_new]
  rw [freshClimate_new] at made
  exact congrArg (fun x => ({ s with
    config := { s.config with zones := slotSet s.config.zones z d }
    zones := slotSet s.zones z x
    climate := slotSet s.climate z (newClimate s.now d) } : State)) made

/-- R99: the state of a zone that is defined again, before its entries are looked through. -/
def redefined (z : Nat) (old d : ZoneDef) (s : State) : State := { purgeEnded z s with
  config := { s.config with
    zones := slotChange (fun _ => { d with aging := old.aging, dormancy := old.dormancy }) s.config.zones z }
  climate := slotChange (fun _ => newClimate s.now d) s.climate z }

/-- R99: the slots of the entries whose point the definition does not list. -/
def orphans (z : Nat) (d : ZoneDef) (s : State) : List Nat := slotsWhere (lostSensor z d) s.presence

theorem replaceZone_eq (z : Nat) (old d : ZoneDef) (s : State) : replaceZone z old d s
    = changeZone z lowered (judgeZone z (forEach (orphans z d s) removeEntry (redefined z old d s))) := by
  have purged := purgeEnded_frame z s
  have start : ({ endPurge z s with
      config := { (endPurge z s).config with
        zones := slotChange (fun _ => { d with aging := old.aging, dormancy := old.dormancy })
          (endPurge z s).config.zones z }
      climate := slotChange (fun _ => freshClimate (endPurge z s).now d) (endPurge z s).climate z } : State)
      = redefined z old d s := by
    rw [endPurge_eq, redefined, freshClimate_new, purged]
  have presence : (endPurge z s).presence = s.presence := by
    rw [endPurge_eq, purged]
  unfold replaceZone
  dsimp only
  rw [start, presence, isOrphan_eq]
  rfl

theorem removeZone_eq (z : Nat) (s : State) :
    let kept := s.presence.filter fun e => e.2.zone != z
    removeZone z s = { purgeEnded z s with
      config := { s.config with
        zones := slotFree s.config.zones z, pins := s.config.pins.filter (fun p => p != z) }
      zones := slotFree s.zones z
      climate := slotFree s.climate z
      presence := kept
      fullReported := s.fullReported && decide (96 ≤ kept.length)
      lightOverrides := slotFree s.lightOverrides z } := by
  intro kept
  have purged := purgeEnded_frame z s
  unfold removeZone clearFullReported
  dsimp only
  rw [endPurge_eq, purged]
  rfl

section

variable {z : Nat} {old d : ZoneDef} {s : State}

theorem redefined_presence : (redefined z old d s).presence = s.presence := by rw [redefined, purgeEnded_frame]

theorem redefined_zones : (redefined z old d s).zones = s.zones := by rw [redefined, purgeEnded_frame]

theorem redefined_now : (redefined z old d s).now = s.now := by rw [redefined, purgeEnded_frame]

theorem redefined_plan : (redefined z old d s).plan = s.plan := by rw [redefined, purgeEnded_frame]

theorem redefined_full : (redefined z old d s).fullReported = s.fullReported := by rw [redefined, purgeEnded_frame]

theorem redefined_dormancy (defined : slotGet s.config.zones z = some old) :
    dormancyMs (redefined z old d s) z = old.dormancy * 1000 := by
  rw [dormancyMs, redefined, slotGet_slotChange_same defined]
  rfl

/-- R99: the state of a zone that is defined again, its entries looked through. -/
def lookedThrough (z : Nat) (old d : ZoneDef) (s : State) : State :=
  forEach (orphans z d s) removeEntry (redefined z old d s)

theorem replaceZone_frame : replaceZone z old d s = { purgeEnded z s with
    config := { s.config with
      zones := slotChange (fun _ => { d with aging := old.aging, dormancy := old.dormancy }) s.config.zones z }
    climate := slotChange (fun _ => newClimate s.now d) s.climate z
    zones := (replaceZone z old d s).zones
    presence := (replaceZone z old d s).presence
    fullReported := (replaceZone z old d s).fullReported
    evictedDoors := (replaceZone z old d s).evictedDoors } := by
  have frame : RemovalFrame (redefined z old d s) (lookedThrough z old d s) := removeEntries_frame _ _
  have whole : replaceZone z old d s = { lookedThrough z old d s with zones := (replaceZone z old d s).zones } := by
    rw [replaceZone_eq]
    rfl
  rw [whole, frame, redefined]

theorem replaceZone_presence : (replaceZone z old d s).presence = (lookedThrough z old d s).presence := by
  rw [replaceZone_eq]
  rfl

theorem replaceZone_full : (replaceZone z old d s).fullReported = (lookedThrough z old d s).fullReported := by
  rw [replaceZone_eq]
  rfl

variable (ordered : slotWf s.presence = true)

include ordered

theorem lookedThrough_presence :
    (lookedThrough z old d s).presence = s.presence.filter fun e => !lostSensor z d e.2 := by
  have left := removeWhere_presence (s := redefined z old d s) (by rw [redefined_presence]; exact ordered)
    (lostSensor z d)
  rw [redefined_presence] at left
  exact left

theorem lookedThrough_loses : LosesEntries z (redefined z old d s) (lookedThrough z old d s) := by
  refine removeEntries_lose (by rw [redefined_presence]; exact ordered) fun slot member e found => ?_
  rw [redefined_presence] at found
  obtain ⟨x, seen, lost⟩ := (mem_slotsWhere_iff ordered).mp member
  cases found.symm.trans seen
  unfold lostSensor at lost
  split at lost
  · simp only [Bool.and_eq_true, beq_iff_eq] at lost
    exact lost.1
  · cases lost

/-- A zone without entries loses none. -/
theorem lookedThrough_empty (empty : ¬ ∃ e ∈ s.presence, e.2.zone = z) :
    lookedThrough z old d s = redefined z old d s := by
  have none_ : orphans z d s = [] := by
    rw [List.eq_nil_iff_forall_not_mem]
    intro slot member
    obtain ⟨x, seen, lost⟩ := (mem_slotsWhere_iff ordered).mp member
    have inZone : x.zone = z := by
      unfold lostSensor at lost
      split at lost
      · simp only [Bool.and_eq_true, beq_iff_eq] at lost
        exact lost.1
      · cases lost
    exact empty ⟨(slot, x), slotGet_mem _ _ _ seen, inZone⟩
  rw [lookedThrough, none_]
  rfl

/-- R99, R109, R111: the record of a zone that is defined again, in the words of the claim. -/
theorem replaceZone_record (defined : slotGet s.config.zones z = some old) {r : ZoneRec}
    (found : slotGet s.zones z = some r) : ∃ r', slotGet (replaceZone z old d s).zones z = some r'
      ∧ redefinedZone s z old.dormancy (replaceZone z old d s).presence r r' := by
  have loses := lookedThrough_loses (z := z) (old := old) (d := d) ordered
  have frame := loses.frame
  obtain ⟨x, seen, leaves⟩ := loses.record r (by rw [redefined_zones]; exact found)
  have now : (lookedThrough z old d s).now = s.now := by
    rw [frame]
    exact redefined_now (old := old) (d := d)
  have plan : (lookedThrough z old d s).plan = s.plan := by
    rw [frame]
    exact redefined_plan (old := old) (d := d)
  have dormancy : dormancyMs (lookedThrough z old d s) z = old.dormancy * 1000 := by
    have config : (lookedThrough z old d s).config = (redefined z old d s).config := by rw [frame]
    rw [dormancyMs_congr config, redefined_dormancy defined]
  rw [redefined_now, redefined_dormancy defined] at leaves
  refine ⟨lowered (judged (lookedThrough z old d s) z x), ?_, ?_⟩
  · rw [replaceZone_eq]
    exact slotGet_slotChange_same (slotGet_judgeZone seen)
  rw [replaceZone_presence]
  refine ⟨fun shut => ?_, fun open_ held => ?_, fun open_ empty busy => ?_, fun open_ empty idle => ?_⟩
  · obtain ⟨state, since, expiry⟩ := Proofs.judged_closed (s := lookedThrough z old d s) (z := z) (r := x)
      (by rw [plan]; simpa using shut)
    exact lowered_eq state since expiry
  · obtain ⟨state, since, expiry⟩ := Proofs.judged_occupied (s := lookedThrough z old d s) (z := z) (r := x)
      (by rw [plan]; exact open_) (hasEntry_iff.mpr held)
    exact lowered_eq state since expiry
  · have opens : inZones (lookedThrough z old d s).plan.openZones z = true := by rw [plan]; exact open_
    have none_ : hasEntry (lookedThrough z old d s) z = false := Bool.eq_false_iff.mpr (mt hasEntry_iff.mp empty)
    rcases leaves (busy.elim .inl fun h => .inr (.inl h)) with closed | occupied | ⟨vacant, since, expiry⟩
    · obtain ⟨state, from_, until_⟩ := Proofs.judged_vacates (s := lookedThrough z old d s) opens none_ (.inl closed)
      rw [now] at from_
      rw [now, dormancy] at until_
      exact lowered_eq state from_ until_
    · obtain ⟨state, from_, until_⟩ :=
        Proofs.judged_vacates (s := lookedThrough z old d s) opens none_ (.inr occupied)
      rw [now] at from_
      rw [now, dormancy] at until_
      exact lowered_eq state from_ until_
    · obtain ⟨state, from_, until_⟩ := Proofs.judged_stays (s := lookedThrough z old d s) opens none_ (.inl vacant)
      exact lowered_eq (state.trans vacant) (from_.trans since) (until_.trans expiry)
  · have same := lookedThrough_empty (old := old) (d := d) ordered empty
    have kept : x = r := by
      rw [same, redefined_zones] at seen
      exact Option.some.inj (seen.symm.trans found)
    subst kept
    have opens : inZones (lookedThrough z old d s).plan.openZones z = true := by rw [plan]; exact open_
    have none_ : hasEntry (lookedThrough z old d s) z = false := by
      refine Bool.eq_false_iff.mpr (mt hasEntry_iff.mp ?_)
      rw [same, redefined_presence]
      exact empty
    obtain ⟨state, from_, until_⟩ := Proofs.judged_stays (s := lookedThrough z old d s) opens none_ idle
    exact lowered_eq state from_ until_

end

end Sys2Proof.Machine

namespace Sys2Proof.Proofs

open Sys2Proof.Machine Sys2Proof.Claims

theorem exec_defineZone {z : Nat} {d : ZoneDef} {s : State} (ready : canDefine s) (fits : ZoneFits z d)
    (apart : (zonePoints d).Nodup) : exec (.defineZone (0 :: zoneBody z d)) s
      = taken 0x20 .configuring .ok [] (putZone z { d with aging := 300, dormancy := 900 } s) := by
  have gas := fits.gas
  have presence := fits.presence
  have short : (zoneBody z d).length ≤ 1023 := by
    have point : (optPoint d.temperature).length = 3 := by cases d.temperature <;> rfl
    simp only [zoneBody, listBytes, point, pointBytes, List.length_append, List.length_cons, List.length_nil,
      List.length_flatMap, List.map_const', List.sum_replicate, smul_eq_mul]
    omega
  refine (serve_define (handle := handleDefineZone) ready (takeZone_body fits) short).trans ?_
  have fields : zoneOf (rawZone z d) = some { d with aging := 300, dormancy := 900 } := zoneOf_raw fits
  have distinct : hasRepeat (zonePoints { d with aging := 300, dormancy := 900 }) = false :=
    decide_eq_false (not_not.mpr apart)
  simp only [handleDefineZone, fields, distinct, Bool.false_eq_true, if_false]
  rfl

theorem exec_removeZone {z : Nat} {s : State} (ready : canDefine s) (zone : isZone z) :
    exec (.defineZone [1, byteOf z]) s = .next (finishRequest 0x20 .configuring
      (if slotUsed s.config.zones z = false then refuse .notFound s
        else if zoneNamed s.config z = true then refuse .conflict s else done (removeZone z s))) := by
  refine (serve_remove (handle := handleDefineZone) ready (takeByte_single (by have := zone.2; omega))
    (by simp)).trans ?_
  simp only [handleDefineZone, zoneInRange_true zone, Bool.not_true, Bool.false_eq_true, if_false,
    Bool.not_eq_true']

/-- Settles O28: the requests by `exec_defineZone` and `exec_removeZone`, a new zone by `createZone_eq`, one that is
defined again by `replaceZone_frame` and `replaceZone_record`. -/
theorem zoneDefinitionsTakeAndFreeTheirSlot : Obligations.ZoneDefinitionsTakeAndFreeTheirSlot := by
  intro z s ready zone
  refine ⟨fun d points gas presence apart => ?define, fun used free => ?remove, fun used named => ?named,
    fun free => ?free⟩
  case define =>
    intro body
    have taken_ := exec_defineZone ready ⟨zone, points, gas, presence⟩ apart
    refine ⟨fun free => ?_, fun old defined => ?_⟩
    · refine taken_.trans (congrArg _ ?_)
      simp only [putZone, free]
      exact createZone_eq z s (by norm_num)
    · refine ⟨replaceZone z old { d with aging := 300, dormancy := 900 } s, ?_, replaceZone_frame, fun ordered => ?_⟩
      · refine taken_.trans (congrArg _ ?_)
        simp only [putZone, defined]
      · have full := removeEntries_full (orphans z { d with aging := 300, dormancy := 900 } s)
          (redefined z old { d with aging := 300, dormancy := 900 } s)
        rw [redefined_presence, redefined_full] at full
        refine ⟨?_, fun same => ?_, fun differs => ?_, ?_⟩
        · rw [replaceZone_presence]
          exact lookedThrough_presence ordered
        · rw [replaceZone_presence] at same
          rw [replaceZone_full]
          rcases full with ⟨_, flag⟩ | ⟨less, _⟩
          · exact flag
          · exact absurd (congrArg List.length same) (Nat.ne_of_lt less)
        · rw [replaceZone_presence] at differs ⊢
          rw [replaceZone_full]
          rcases full with ⟨presence_, _⟩ | ⟨_, flag⟩
          · exact absurd presence_ differs
          · exact flag
        · have only : ZoneOnly z s (replaceZone z old { d with aging := 300, dormancy := 900 } s) := by
            have zones := (lookedThrough_loses (z := z) (old := old) (d := { d with aging := 300, dormancy := 900 })
              ordered).zones
            refine ZoneOnly.trans ?_ (zones.trans ((judgeZone_zoneOnly z _).trans ?_))
            · exact ⟨id, by rw [redefined_zones]; exact (slotChange_id fun _ _ => rfl).symm⟩
            · rw [replaceZone_eq]
              exact ⟨_, rfl⟩
          obtain ⟨f, changed⟩ := only
          obtain ⟨r', sets⟩ := slotChange_sets f s.zones z ⟨.closed, false, none, none⟩
          refine ⟨r', changed.trans sets, fun r found => ?_⟩
          obtain ⟨x, seen, claim⟩ := replaceZone_record (d := { d with aging := 300, dormancy := 900 }) ordered defined
            found
          rw [changed.trans sets, slotGet_slotChange_same found] at seen
          rw [Option.some.inj seen]
          exact claim
  case remove =>
    intro kept
    rw [exec_removeZone ready zone, if_neg (by simp [used]), if_neg (by simp [free]), removeZone_eq]
    rfl
  case named =>
    rw [exec_removeZone ready zone, if_neg (by simp [used]), if_pos named]
    rfl
  case free =>
    rw [exec_removeZone ready zone, if_pos free]
    rfl

end Sys2Proof.Proofs


/-! SUPPORT and PROOFS. DEFINE_NODE and DEFINE_SCAN_ENTRY (R32, R33, R38, R41, R44, R67, R69, R77). -/

namespace Sys2Proof.Machine

open Sys2Proof.Claims

/-! ## The points of a node (R67) -/

theorem slotGet_filter_key {α : Type} (p : Nat → Bool) (table : Table α) (k : Nat) :
    slotGet (table.filter fun e => p e.1) k = if p k = true then slotGet table k else none := by
  induction table with
  | nil => simp [slotGet]
  | cons e rest ih =>
    obtain ⟨j, v⟩ := e
    by_cases kept : p j = true
    · rw [List.filter_cons_of_pos (by exact kept)]
      by_cases same : k = j
      · subst same
        simp [slotGet, kept]
      · simp [slotGet, same, ih]
    · rw [List.filter_cons_of_neg (by exact kept), ih]
      by_cases same : k = j
      · subst same
        simp [kept]
      · simp [slotGet, same]

theorem removePoints_get (bus : Bus) (addr k : Nat) (points : Table PointRec) :
    slotGet (removePoints bus addr points) k = if k / 16 = nodeKey bus addr then none else slotGet points k := by
  rw [removePoints, slotGet_filter_key fun j => j / 16 != nodeKey bus addr]
  by_cases same : k / 16 = nodeKey bus addr <;> simp [same]

theorem createPoints_get (bus : Bus) (addr count k : Nat) (points : Table PointRec) :
    slotGet (createPoints bus addr count points) k
      = if ∃ i, i < count ∧ k = pointKey ⟨bus, addr, i⟩ then some freshPoint else slotGet points k := by
  induction count with
  | zero => simp [createPoints]
  | succ n ih =>
    have last : createPoints bus addr (n + 1) points
        = slotSet (createPoints bus addr n points) (pointKey ⟨bus, addr, n⟩) freshPoint := by
      simp only [createPoints, List.range_succ, List.foldl_append, List.foldl_cons, List.foldl_nil]
    rw [last, slotGet_slotSet]
    by_cases here : k = pointKey ⟨bus, addr, n⟩
    · rw [if_pos here, if_pos ⟨n, Nat.lt_succ_self n, here⟩]
    · rw [if_neg here, ih]
      refine if_congr ⟨?_, ?_⟩ rfl rfl
      · rintro ⟨i, small, is⟩
        exact ⟨i, Nat.lt_succ_of_lt small, is⟩
      · rintro ⟨i, small, is⟩
        rcases Nat.lt_succ_iff_lt_or_eq.mp small with less | rfl
        · exact ⟨i, less, is⟩
        · exact absurd is here

/-- R67: the points of a node are made afresh, and no other record changes. -/
theorem newPoints_own (bus : Bus) {addr count i : Nat} (small : i < 16) (points : Table PointRec) :
    slotGet (createPoints bus addr count (removePoints bus addr points)) (pointKey ⟨bus, addr, i⟩)
      = if i < count then some freshPoint else none := by
  rw [createPoints_get, removePoints_get]
  have own : pointKey ⟨bus, addr, i⟩ / 16 = nodeKey bus addr := by
    simp only [pointKey]
    omega
  by_cases listed : i < count
  · rw [if_pos listed, if_pos ⟨i, listed, rfl⟩]
  · rw [if_neg listed, if_pos own, if_neg]
    rintro ⟨j, less, same⟩
    simp only [pointKey] at same
    omega

theorem newPoints_other {bus : Bus} {addr count k : Nat} (fits : count ≤ 16) (other : k / 16 ≠ nodeKey bus addr)
    (points : Table PointRec) :
    slotGet (createPoints bus addr count (removePoints bus addr points)) k = slotGet points k := by
  rw [createPoints_get, removePoints_get, if_neg other, if_neg]
  rintro ⟨j, less, same⟩
  simp only [pointKey] at same
  omega

/-! ## A report to points without a value (R44, R70) -/

theorem contactMark_fresh {new : Contact} {down : Bool} {p : PointRef} {q : PointRec} {s : State}
    (found : getPoint s p = some q) (fresh : q.status = .neverRead) : contactMark new down p s = s := by
  have stale : markStale p s = s := by
    have same : q.status = staleStatus q.status := by rw [fresh]; rfl
    simp only [markStale, found, ne_eq, ← same, not_true, if_false]
    exact congrArg (fun points => ({ s with points := points } : State)) (slotChange_id fun r at_ => by
      cases found.symm.trans at_
      rw [← same])
  unfold contactMark
  split
  · have service : ((getPoint s p).any fun r => r.status == .service) = false := by
      rw [found, Option.any_some, fresh]
      rfl
    rw [inContactMark, if_neg (by simp [service])]
  · exact congrArg (fun points => ({ s with points := points } : State)) (slotChange_id fun r at_ => by
      cases found.symm.trans at_
      have same : serviceStatus q.status = q.status := by rw [fresh]; rfl
      rw [same])
  · exact stale

theorem contactMarks_fresh {new : Contact} {down : Bool} {ps : List PointRef} {s : State}
    (fresh : ∀ p ∈ ps, ∃ q, getPoint s p = some q ∧ q.status = .neverRead) :
    forEach ps (contactMark new down) s = s := by
  induction ps with
  | nil => rfl
  | cons p ps ih =>
    obtain ⟨q, found, status⟩ := fresh p List.mem_cons_self
    rw [forEach_cons, contactMark_fresh found status]
    exact ih fun r member => fresh r (List.mem_cons_of_mem p member)

/-! ## The nodes of the lines -/

/-- The nodes of the lines stay. -/
def NodesKept (s t : State) : Prop := ∀ l, (getLine t l).nodes = (getLine s l).nodes

theorem NodesKept.of_lines {s t : State} (a : t.lineA = s.lineA) (b : t.lineB = s.lineB) : NodesKept s t :=
  fun l => by rw [getLine_congr a b]

theorem queueWrite_nodes (l : LineId) (node point value : Nat) (origin : Origin) (s : State) :
    NodesKept s (queueWrite l node point value origin s) := by
  intro other
  cases l <;> cases other <;> rfl

theorem reportsClosed_nodes : ReportsClosed NodesKept where
  refl _ _ := rfl
  trans h k l := (k l).trans (h l)
  hold z d seconds s := .of_lines (by rw [(holdEntry_pres z d seconds s).frame])
    (by rw [(holdEntry_pres z d seconds s).frame])
  release z d ms s := .of_lines (by rw [(releaseEntry_pres z d ms s).frame])
    (by rw [(releaseEntry_pres z d ms s).frame])
  doorNotice _ _ _ _ _ _ := .of_lines rfl rfl
  door _ _ _ := .of_lines rfl rfl
  point _ _ _ := .of_lines rfl rfl
  contact bus addr new s := .of_lines (by rw [(presenceContact_pres bus addr new s).frame])
    (by rw [(presenceContact_pres bus addr new s).frame])
  terminal _ _ _ := .of_lines rfl rfl
  queue l node point value s := queueWrite_nodes l node point value .internal s
  command _ _ _ _ := .of_lines rfl rfl
  lose _ _ _ _ _ _ _ := .of_lines rfl rfl
  readmit _ _ _ _ _ _ _ := .of_lines rfl rfl

/-- R29: a grant changes of a line's nodes the probe times alone. -/
theorem grantLine_nodes (now : Nat) (cfg : LineCfg) (line : Line) :
    (grantLine now cfg line).nodes = line.nodes
      ∨ ∃ addr, (grantLine now cfg line).nodes = slotChange probeIssued line.nodes addr := by
  unfold grantLine
  split
  · exact .inl rfl
  · split
    · exact .inl rfl
    · rename_i node work _
      cases work with
      | probe => exact .inr ⟨node, rfl⟩
      | readPoints first count oneOff => cases oneOff <;> exact .inl rfl
      | writePoint e => exact .inl rfl
      | fetchEvents => exact .inl rfl

theorem getLine_grantLines (l : LineId) (s : State) :
    getLine (grantLines s) l = grantLine s.now (lineCfg s.config l) (getLine s l) := by
  cases l <;> rfl

theorem grantLines_node {l : LineId} {addr : Nat} {n : NodeRec} {s : State}
    (found : slotGet (getLine s l).nodes addr = some n) : ∃ n', slotGet (getLine (grantLines s) l).nodes addr = some n'
      ∧ n' = { n with probeDue := n'.probeDue } := by
  rw [getLine_grantLines]
  rcases grantLine_nodes s.now (lineCfg s.config l) (getLine s l) with same | ⟨other, changed⟩
  · exact ⟨n, by rw [same, found], rfl⟩
  · rw [changed, slotGet_slotChange]
    split
    · rename_i here
      exact ⟨probeIssued n, by rw [← here, found]; rfl, rfl⟩
    · exact ⟨n, found, rfl⟩

@[simp] theorem lineCfg_setLineCfg (c : RunningConfig) (l : LineId) (d : LineCfg) :
    lineCfg (setLineCfg c l d) l = d := by
  cases l <;> rfl

theorem setLineCfg_doors (c : RunningConfig) (l : LineId) (d : LineCfg) : (setLineCfg c l d).doors = c.doors := by
  cases l <;> rfl

theorem setLineCfg_loads (c : RunningConfig) (l : LineId) (d : LineCfg) : (setLineCfg c l d).loads = c.loads := by
  cases l <;> rfl

/-! ## A node that takes a definition (R38) -/

/-- R38: the work of a line for the points that a node no longer has. -/
theorem cutNodeWork_without (l : LineId) (addr count : Nat) (s : State) :
    cutNodeWork addr (fun e => decide (count ≤ e.point)) (getLine s l) = lineWithout l addr count s := by
  have fetch : (fun a : Nat => a != addr) = fun a => decide (a ≠ addr) := bne_eq_decide addr
  have oneOffs : (fun q : NodePoint => q.node != addr) = fun q => decide (q.node ≠ addr) :=
    funext fun q => congrFun (bne_eq_decide addr) q.node
  have queue : (fun e : QueueEntry => !(e.node == addr && decide (count ≤ e.point)))
      = fun e => decide (e.node ≠ addr ∨ e.point < count) := by
    funext e
    by_cases node : e.node = addr <;> by_cases point : count ≤ e.point <;> simp [node, point]
    all_goals omega
  rw [cutNodeWork, lineWithout, fetch, oneOffs, queue]

/-- R38, R41, R67, R77: the state once a node has its definition, before its contact state is reported. -/
def newNode (l : LineId) (addr : Nat) (d : NodeDef) (s : State) : State :=
  { setLine s l { lineWithout l addr d.count s with
      nodes := slotSet (lineWithout l addr d.count s).nodes addr (freshNode s.now) } with
    config := setLineCfg s.config l { lineCfg s.config l with nodes := slotSet (lineCfg s.config l).nodes addr d }
    points := createPoints (busOf l) addr d.count (removePoints (busOf l) addr s.points)
    windows := slotFree s.windows (nodeKey (busOf l) addr) }

theorem putNode_eq (l : LineId) (addr : Nat) (d : NodeDef) (s : State) :
    putNode l addr d s = reportContact (busOf l) addr (contactOf s (busOf l) addr) (newNode l addr d s) := by
  have node : (lineWithout l addr d.count s).nodes = (getLine s l).nodes := rfl
  unfold putNode newNode changeLine
  dsimp only
  rw [cutNodeWork_without, node, setLine_frame]

theorem removeNode_eq (l : LineId) (addr : Nat) (s : State) : removeNode l addr s
    = { setLine s l { lineWithout l addr 0 s with nodes := slotFree (lineWithout l addr 0 s).nodes addr } with
        config := setLineCfg s.config l { lineCfg s.config l with nodes := slotFree (lineCfg s.config l).nodes addr }
        points := removePoints (busOf l) addr s.points
        windows := slotFree s.windows (nodeKey (busOf l) addr) } := by
  have all : (fun e : QueueEntry => decide (0 ≤ e.point)) = fun _ => true :=
    funext fun e => decide_eq_true (Nat.zero_le _)
  have cut := cutNodeWork_without l addr 0 s
  rw [all] at cut
  have node : (lineWithout l addr 0 s).nodes = (getLine s l).nodes := rfl
  unfold removeNode changeLine
  dsimp only
  rw [cut, node, setLine_frame]

section

variable {l : LineId} {addr : Nat} {d : NodeDef} {s : State}

theorem newNode_nodes : (getLine (newNode l addr d s) l).nodes
    = slotSet (lineWithout l addr d.count s).nodes addr (freshNode s.now) := by
  cases l <;> rfl

theorem newNode_contact : contactOf (newNode l addr d s) (busOf l) addr
    = if isDown (getLine s l) = true then .unreachable else .unconfirmed := by
  have line : contactOf (newNode l addr d s) (busOf l) addr = lineContact (getLine (newNode l addr d s) l) addr := by
    cases l <;> rfl
  have state : (getLine (newNode l addr d s) l).state = (getLine s l).state := by cases l <;> rfl
  rw [line, lineContact, newNode_nodes, slotGet_slotSet_same, state, isDown]
  cases (getLine s l).state <;> rfl

theorem newNode_points : nodePoints (newNode l addr d s).config (busOf l) addr
    = (List.range d.count).map fun i => ⟨busOf l, addr, i⟩ := by
  have count : pointCount (newNode l addr d s).config (busOf l) addr = some d.count := by
    have config : (newNode l addr d s).config
        = setLineCfg s.config l { lineCfg s.config l with nodes := slotSet (lineCfg s.config l).nodes addr d } := rfl
    rw [config]
    cases l <;> simp [pointCount, busOf, nodeDef, lineOf, setLineCfg, lineCfg, slotGet_slotSet_same]
  rw [nodePoints, count]
  rfl

theorem newNode_unmarked (few : d.count ≤ 16) (new : Contact) :
    pointContact (busOf l) addr new (newNode l addr d s) = newNode l addr d s := by
  rw [pointContact, newNode_points]
  refine contactMarks_fresh fun p member => ?_
  obtain ⟨i, small, rfl⟩ := List.mem_map.mp member
  have listed := List.mem_range.mp small
  refine ⟨freshPoint, ?_, rfl⟩
  refine (newPoints_own (busOf l) (by omega) s.points).trans ?_
  rw [if_pos listed]

end

/-! ## The scan list (R32, R69) -/

/-- R69: a change of the scan list leaves the points of a node as they are listed. -/
theorem nodePoints_scan (c : RunningConfig) (l : LineId) (scan : List ScanDef) (node : Nat) :
    nodePoints (setLineCfg c l { lineCfg c l with scan := scan }) (busOf l) node = nodePoints c (busOf l) node := by
  cases l <;> rfl

theorem addScan_eq (l : LineId) (e : ScanDef) (s : State) : addScan l e s
    = forEach (nodePoints s.config (busOf l) e.node) restale
      { setLine s l { getLine s l with scan := slotSet (getLine s l).scan (scanKey e.node e.first) ⟨none, s.now⟩ } with
        config := setLineCfg s.config l { lineCfg s.config l with scan := (lineCfg s.config l).scan ++ [e] } } := by
  rw [← nodePoints_scan s.config l ((lineCfg s.config l).scan ++ [e]) e.node]
  unfold addScan restaleNode changeLine
  dsimp only
  rw [setLine_frame]

theorem removeScan_eq (l : LineId) (node first : Nat) (s : State) : removeScan l node first s
    = forEach (nodePoints s.config (busOf l) node) restale
      { setLine s l { getLine s l with scan := slotFree (getLine s l).scan (scanKey node first) } with
        config := setLineCfg s.config l { lineCfg s.config l with
          scan := (lineCfg s.config l).scan.filter fun e => !isEntry node first e } } := by
  rw [← nodePoints_scan s.config l ((lineCfg s.config l).scan.filter fun e => !isEntry node first e) node]
  unfold removeScan restaleNode changeLine
  dsimp only
  rw [setLine_frame]

end Sys2Proof.Machine

namespace Sys2Proof.Claims

open Sys2Proof.Machine

theorem restaled_holds (p : PointRef) (s : State) : restaled p s := by
  refine ⟨?_, fun early => ?_⟩
  · rintro ⟨r, period, time, found, scanned, fresh, input, taken_, past⟩
    have expiry := Proofs.staleAt_running found scanned fresh input taken_
    have goes : restale p s = markStale p s := by
      simp only [restale, expiry]
      exact if_pos past
    rw [goes, markStale_goes found (by rw [fresh]; simp [staleStatus]), changePoint]
    have same : slotChange (fun x : PointRec => { x with status := staleStatus x.status }) s.points (pointKey p)
        = slotChange (fun x => { x with status := .stale }) s.points (pointKey p) :=
      slotChange_eq _ _ _ _ r found (by rw [fresh, staleStatus])
    rw [same]
  · cases expiry : staleAt s p with
    | none => simp only [restale, expiry]
    | some t =>
      simp only [restale, expiry]
      refine if_neg fun past => early ?_
      unfold staleAt at expiry
      split at expiry
      · rename_i r period found scanned
        split at expiry
        · rename_i runs
          obtain ⟨time, taken_, rfl⟩ := Option.map_eq_some_iff.mp expiry
          simp only [Bool.and_eq_true, decide_eq_true_eq, Bool.not_eq_true'] at runs
          exact ⟨r, period, time, found, scanned, runs.1, runs.2, taken_, past⟩
        · cases expiry
      · cases expiry

/-- R119: the definitions bound to a node, by the two tests. -/
theorem slotsWhere_node {α : Type} (binding : α → PointRef) (table : Table α) (bus : Bus) (addr : Nat) :
    slotsWhere (fun d => (binding d).bus == bus && (binding d).addr == addr) table
      = slotNumbers (table.filter fun e => decide ((binding e.2).bus = bus ∧ (binding e.2).addr = addr)) := by
  refine congrArg slotNumbers (List.filter_congr fun e _ => ?_)
  simp only [Bool.decide_and, beq_eq_decide]

/-- R44, R119: the report of a newly defined node, in the words of the claim. -/
theorem contactReported_holds {l : LineId} {addr : Nat} {d : NodeDef} {s : State} (few : d.count ≤ 16) :
    contactReported l addr s (newNode l addr d s) (putNode l addr d s) := by
  have new := newNode_contact (l := l) (addr := addr) (d := d) (s := s)
  have doors : (newNode l addr d s).config.doors = s.config.doors := setLineCfg_doors _ _ _
  have loads : (newNode l addr d s).config.loads = s.config.loads := setLineCfg_loads _ _ _
  rw [putNode_eq]
  refine ⟨fun same => ?_, fun differs => ?_⟩
  · rw [reportContact, new, if_pos same.symm]
  · rw [reportContact, new, if_neg (Ne.symm differs), newNode_unmarked few, loadContact]
    have told (v : State) (config : v.config = (newNode l addr d s).config) (contact : Contact) :
        (presenceContact (busOf l) addr contact v).config.loads = s.config.loads := by
      rw [(presenceContact_pres (busOf l) addr contact v).frame]
      exact (congrArg RunningConfig.loads config).trans loads
    by_cases down : isDown (getLine s l) = true
    · simp only [if_pos down]
      have side := forEach_doorUnknown_side (slotsWhere (fun d : DoorDef => d.binding.bus == busOf l
        && d.binding.addr == addr) (newNode l addr d s).config.doors) .unreachable (newNode l addr d s)
      rw [doorContact, told _ side.config, doors, slotsWhere_node LoadDef.binding, slotsWhere_node DoorDef.binding]
    · simp only [if_neg down]
      have side := forEach_doorUnknown_side (slotsWhere (fun d : DoorDef => d.binding.bus == busOf l
        && d.binding.addr == addr) (newNode l addr d s).config.doors) .unconfirmed (newNode l addr d s)
      rw [doorContact, told _ side.config, doors, slotsWhere_node LoadDef.binding, slotsWhere_node DoorDef.binding]

theorem nodeTaken_holds {l : LineId} {addr : Nat} {d : NodeDef} {s : State} (few : d.count ≤ 16) :
    nodeTaken l addr d s (newNode l addr d s) :=
  ⟨rfl, fun _ small => newPoints_own (busOf l) small s.points, fun _ other => newPoints_other few other s.points⟩

end Sys2Proof.Claims

namespace Sys2Proof.Proofs

open Sys2Proof.Machine Sys2Proof.Claims

section

variable {l : LineId} {s : State} (ready : canDefine s)

include ready

theorem exec_defineNode {addr : Nat} {d : NodeDef} (low : 1 ≤ addr) (high : addr ≤ 31) (one : 1 ≤ d.count)
    (few : d.count ≤ 16) (kind : ∀ k, d.kind = some k → k ≤ 254)
    (referred : refersBeyond s.config l addr d.count = false) :
    exec (.defineNode [0, byteOf l.ctorIdx, byteOf addr, optByte d.kind, byteOf d.count]) s
      = taken 0x23 .configuring .ok [] (grantLines (putNode l addr d s)) := by
  have line : l.ctorIdx < 256 := by cases l <;> decide
  have small (x : Nat) (is : d.kind = some x) : x < 255 := Nat.lt_succ_of_le (kind x is)
  refine (serve_define (handle := handleDefineNode) (x := ⟨l.ctorIdx, addr, d.kind.getD 255, d.count⟩) ready ?_
    (by simp)).trans ?_
  · rw [takeNode, reader_step (takeByte_byteOf _ _ line), reader_step (takeByte_byteOf _ _ (by omega)),
      reader_step (takeByte_optByte small _), reader_step (takeByte_single (by omega))]
    rfl
  · have fields : nodeOf ⟨l.ctorIdx, addr, d.kind.getD 255, d.count⟩ = some d := by
      simp [nodeOf, addrInRange, low, high, one, few, byteOrNone_getD small]
    simp only [handleDefineNode, lineOfByte_ctorIdx, fields, referred, Bool.false_eq_true, if_false]
    rfl

theorem exec_removeNode {addr : Nat} (low : 1 ≤ addr) (high : addr ≤ 31) :
    exec (.defineNode [1, byteOf l.ctorIdx, byteOf addr]) s = .next (finishRequest 0x23 .configuring
      (if slotUsed (lineCfg s.config l).nodes addr = false then refuse .notFound s
        else if isReferred s.config l addr = true then refuse .conflict s
        else done (grantLines (removeNode l addr s)))) := by
  have line : l.ctorIdx < 256 := by cases l <;> decide
  refine (serve_remove (handle := handleDefineNode) (y := (l.ctorIdx, addr)) ready ?_ (by simp)).trans ?_
  · rw [takeLineAddr, reader_step (takeByte_byteOf _ _ line), reader_step (takeByte_single (by omega))]
    rfl
  · have range : addrInRange addr = true := by simp [addrInRange, low, high]
    simp only [handleDefineNode, lineOfByte_ctorIdx, range, Bool.not_eq_true']

theorem exec_addScan {node first count : Nat} {p : PeriodClass} {d : NodeDef} (nodeByte : node ≤ 255)
    (firstByte : first ≤ 255) (found : slotGet (lineCfg s.config l).nodes node = some d) (one : 1 ≤ count)
    (few : count ≤ 16) (fits : first + count ≤ d.count)
    (new : (lineCfg s.config l).scan.any (isEntry node first) = false) (room : (lineCfg s.config l).scan.length < 48) :
    exec (.defineScanEntry [0, byteOf l.ctorIdx, byteOf node, byteOf first, byteOf count, byteOf p.ctorIdx]) s
      = taken 0x24 .configuring .ok [] (grantLines (addScan l ⟨node, first, count, p⟩ s)) := by
  have line : l.ctorIdx < 256 := by cases l <;> decide
  have code : p.ctorIdx < 256 := by cases p <;> decide
  refine (serve_define (handle := handleDefineScan) (x := ⟨l.ctorIdx, node, first, count, p.ctorIdx⟩) ready ?_
    (by simp)).trans ?_
  · rw [takeScan, reader_step (takeByte_byteOf _ _ line), reader_step (takeByte_byteOf _ _ (by omega)),
      reader_step (takeByte_byteOf _ _ (by omega)), reader_step (takeByte_byteOf _ _ (by omega)),
      reader_step (takeByte_single code)]
    rfl
  · have period : periodOf p.ctorIdx = some p := by cases p <;> rfl
    have ranges : ¬ (count = 0 ∨ 16 < count ∨ d.count < first + count) := by omega
    have space : ¬ scanEntries ≤ (lineCfg s.config l).scan.length := Nat.not_le.mpr room
    simp only [handleDefineScan, lineOfByte_ctorIdx, addChecked, found, period, if_neg ranges, new, if_neg space,
      Bool.false_eq_true, if_false]
    rfl

theorem exec_removeScan {node first : Nat} (nodeByte : node ≤ 255) (firstByte : first ≤ 255) :
    exec (.defineScanEntry [1, byteOf l.ctorIdx, byteOf node, byteOf first]) s
      = .next (finishRequest 0x24 .configuring
        (if (lineCfg s.config l).scan.any (isEntry node first) = true
          then done (grantLines (removeScan l node first s)) else refuse .notFound s)) := by
  have line : l.ctorIdx < 256 := by cases l <;> decide
  refine (serve_remove (handle := handleDefineScan) (y := (l.ctorIdx, node, first)) ready ?_ (by simp)).trans ?_
  · rw [takeScanKey, reader_step (takeByte_byteOf _ _ line), reader_step (takeByte_byteOf _ _ (by omega)),
      reader_step (takeByte_single (by omega))]
    rfl
  · simp only [handleDefineScan, lineOfByte_ctorIdx]

end

/-- Settles O31: a node by `putNode_eq` and its report by `contactReported_holds`, the scan list by its two requests. -/
theorem lineDefinitionsTakeAndFreeTheirSlot : Obligations.LineDefinitionsTakeAndFreeTheirSlot := by
  refine ⟨restaled_holds, fun l addr s ready low high => ⟨?define, ?remove, ?free⟩,
    fun l node first s ready nodeByte firstByte => ⟨?add, ?drop, ?absent⟩⟩
  case define =>
    intro d one few kind referred
    have found : slotGet (getLine (newNode l addr d s) l).nodes addr = some (freshNode s.now) := by
      rw [newNode_nodes, slotGet_slotSet_same]
    have kept : slotGet (getLine (putNode l addr d s) l).nodes addr = some (freshNode s.now) := by
      rw [putNode_eq, reportsClosed_nodes.reportContact _ _ _ _ l, found]
    obtain ⟨n, granted_, same⟩ := grantLines_node kept
    refine ⟨newNode l addr d s, putNode l addr d s, n, nodeTaken_holds few, contactReported_holds few,
      exec_defineNode ready low high one few kind referred, granted_, ?_⟩
    rw [same]
    exact ⟨rfl, rfl, rfl⟩
  case remove =>
    intro used free cfg line
    rw [exec_removeNode ready low high, if_neg (by simp [used]), if_neg (by simp [free]), removeNode_eq]
    rfl
  case free =>
    intro free
    rw [exec_removeNode ready low high, if_pos free]
    rfl
  case add =>
    intro count p d found one few fits new room
    rw [exec_addScan ready nodeByte firstByte found one few fits new room, addScan_eq]
  case drop =>
    intro listed
    rw [exec_removeScan ready nodeByte firstByte, if_pos listed, removeScan_eq]
    rfl
  case absent =>
    intro unlisted
    rw [exec_removeScan ready nodeByte firstByte, if_neg (by simp [unlisted])]
    rfl

end Sys2Proof.Proofs


/-! SUPPORT. What the points and the doors of a line become as its nodes are lost (R70, R75, R92): points fade, doors go
UNKNOWN with their notices, and nothing else moves but presence entries, which are released. -/

namespace Sys2Proof.Machine

/-! ## Points that fade -/

/-- The statuses that a STALE mark and the end of a one-off read leave. -/
def StatusFades (a b : PointStatus) : Prop := b = a ∨ b = staleStatus a ∨ (a = .pending ∧ b = .neverRead)

theorem StatusFades.trans {a b c : PointStatus} (h : StatusFades a b) (k : StatusFades b c) : StatusFades a c := by
  unfold StatusFades at *
  cases a <;> cases b <;> cases c <;> simp_all [staleStatus]

/-- A point that keeps its value and the attempts of its write, and whose status only fades. -/
structure Fades (q q' : PointRec) : Prop where
  fields : q' = { q with status := q'.status, oneOffWaiting := q'.oneOffWaiting, lastWrite := q'.lastWrite }
  status : StatusFades q.status q'.status
  oneOff : q.oneOffWaiting = false → q'.oneOffWaiting = false

theorem Fades.refl (q : PointRec) : Fades q q := ⟨rfl, .inl rfl, id⟩

theorem Fades.trans {a b c : PointRec} (h : Fades a b) (k : Fades b c) : Fades a c :=
  ⟨k.fields.trans (by rw [h.fields]), h.status.trans k.status, k.oneOff ∘ h.oneOff⟩

/-- R70: the record of a point after a STALE mark. -/
def stalePoint (q : PointRec) : PointRec := { q with status := staleStatus q.status }

/-- R75: the record of a point whose one-off read has ended. -/
def oneOffDone (q : PointRec) : PointRec :=
  { q with oneOffWaiting := false, status := if q.status = .pending then .neverRead else q.status }

theorem stalePoint_fades (q : PointRec) : Fades q (stalePoint q) := ⟨rfl, .inr (.inl rfl), id⟩

theorem oneOffDone_fades (q : PointRec) : Fades q (oneOffDone q) := by
  refine ⟨rfl, ?_, fun _ => rfl⟩
  by_cases pending : q.status = .pending
  · exact .inr (.inr ⟨pending, if_pos pending⟩)
  · exact .inl (if_neg pending)

/-- What a status that fades can come to, where it was. -/
theorem StatusFades.of_stale {a b : PointStatus} (h : StatusFades (staleStatus a) b)
    (held : a = .fresh ∨ a = .stale ∨ a = .service) : b = .stale := by
  unfold StatusFades at h
  rcases held with rfl | rfl | rfl <;> simpa [staleStatus] using h

theorem StatusFades.neverRead {a b : PointStatus} (h : StatusFades a b) (never : a = .neverRead) : b = .neverRead := by
  subst never
  simpa [StatusFades, staleStatus] using h

theorem StatusFades.not_pending {a b : PointStatus} (h : StatusFades a b) (other : a ≠ .pending) : b ≠ .pending := by
  rintro rfl
  unfold StatusFades at h
  cases a <;> simp_all [staleStatus]

theorem StatusFades.read {a b : PointStatus} (h : StatusFades a b) (pending : a = .pending) (left_ : b ≠ .pending) :
    b = .neverRead := by
  subst pending
  simpa [StatusFades, staleStatus, left_] using h

/-! ## States that fade -/

/-- The notice that door `n` has gone UNKNOWN, for a stale point or for the cause `u`, is told. -/
def ToldUnknown (u : UnknownCause) (n : Nat) (r : DoorRec) (s t : State) : Prop := ∃ cause,
  (cause = .stalePoint ∨ cause = u)
    ∧ Told ⟨.doorUnknown, s.now, .door n, some r.state.ctorIdx, some cause.ctorIdx⟩ s t

/-- R199: a notice about a door. -/
def AboutDoor (n : Notice) : Prop := ∃ d, n.subject = .door d

/-- `t` follows `s` as points fade and doors go UNKNOWN for a stale point or for the cause `u`. -/
structure FadeSide (u : UnknownCause) (s t : State) : Prop where
  frame : t = { s with
    points := t.points, doors := t.doors, presence := t.presence, loads := t.loads, notices := t.notices
    lost := t.lost }
  raises : Raises AboutDoor s t
  points : ∀ k q, slotGet s.points k = some q →
    ∃ q', slotGet t.points k = some q' ∧ Fades q q' ∧ q'.lastWrite = q.lastWrite
  doors : ∀ n r, slotGet s.doors n = some r → ∃ r', slotGet t.doors n = some r'
    ∧ (r' = r ∨ (r'.state = .unknown ∧ (r.state ≠ .unknown → ToldUnknown u n r s t)))

namespace FadeSide

variable {u : UnknownCause} {s t v : State}

theorem config (h : FadeSide u s t) : t.config = s.config := by rw [h.frame]

theorem now (h : FadeSide u s t) : t.now = s.now := by rw [h.frame]

theorem lineA (h : FadeSide u s t) : t.lineA = s.lineA := by rw [h.frame]

theorem lineB (h : FadeSide u s t) : t.lineB = s.lineB := by rw [h.frame]

theorem line (h : FadeSide u s t) (l : LineId) : getLine t l = getLine s l := getLine_congr h.lineA h.lineB l

theorem contact (h : FadeSide u s t) (bus : Bus) (addr : Nat) : contactOf t bus addr = contactOf s bus addr := by
  rw [h.frame]
  rfl

theorem refl (s : State) : FadeSide u s s :=
  ⟨rfl, .refl s, fun _ q found => ⟨q, found, .refl q, rfl⟩, fun _ r found => ⟨r, found, .inl rfl⟩⟩

theorem trans (h : FadeSide u s t) (k : FadeSide u t v) : FadeSide u s v where
  frame := k.frame.trans (by rw [h.frame])
  raises := h.raises.trans k.raises
  points i q found := by
    obtain ⟨q', found', fades, written⟩ := h.points i q found
    obtain ⟨q'', found'', fades', written'⟩ := k.points i q' found'
    exact ⟨q'', found'', fades.trans fades', written'.trans written⟩
  doors n r found := by
    obtain ⟨r', found', first⟩ := h.doors n r found
    obtain ⟨r'', found'', second⟩ := k.doors n r' found'
    refine ⟨r'', found'', ?_⟩
    rcases first with rfl | ⟨unknown, told⟩
    · rcases second with rfl | ⟨unknown, told⟩
      · exact .inl rfl
      · refine .inr ⟨unknown, fun known => ?_⟩
        obtain ⟨cause, which, told⟩ := told known
        rw [h.now] at told
        exact ⟨cause, which, told.within h.raises k.raises (.refl (P := AboutDoor) v)⟩
    · have still : r''.state = .unknown := by
        rcases second with rfl | ⟨unknown', -⟩
        · exact unknown
        · exact unknown'
      refine .inr ⟨still, fun known => ?_⟩
      obtain ⟨cause, which, told⟩ := told known
      exact ⟨cause, which, told.after h.raises k.raises⟩

theorem each {α : Type} {f : α → State → State} (h : ∀ x s, FadeSide u s (f x s)) (items : List α) (s : State) :
    FadeSide u s (forEach items f s) := forEach_related refl trans f h items s

/-- A change of the presence entries or of the loads alone. -/
theorem of_unmoved (frame : t = { s with presence := t.presence, loads := t.loads }) : FadeSide u s t where
  frame := frame.trans (by rw [frame])
  raises := .of_same (by rw [frame]) (by rw [frame])
  points _ q found := ⟨q, by rw [frame]; exact found, .refl q, rfl⟩
  doors _ r found := ⟨r, by rw [frame]; exact found, .inl rfl⟩

/-- A change of one point that fades. -/
theorem point {f : PointRec → PointRec} (fades : ∀ q, Fades q (f q)) (kept : ∀ q, (f q).lastWrite = q.lastWrite)
    (p : PointRef) (s : State) : FadeSide u s (changePoint p f s) where
  frame := rfl
  raises := .of_same rfl rfl
  points k q found := by
    by_cases own : k = pointKey p
    · subst own
      exact ⟨f q, slotGet_slotChange_same found, fades q, kept q⟩
    · exact ⟨q, (slotGet_slotChange_ne own).trans found, .refl q, rfl⟩
  doors _ r found := ⟨r, found, .inl rfl⟩

end FadeSide

/-! ## The operations -/

section

variable {u : UnknownCause}

theorem handPresence_unknown_frame (n zone : Nat) (old : DoorState) (s : State) :
    handPresence n zone old .unknown s = { s with presence := (handPresence n zone old .unknown s).presence } := by
  rw [handPresence_unknown]
  unfold releaseEntry
  split
  · split <;> rfl
  · rfl

theorem doorUnknown_fades (n : Nat) {cause : UnknownCause} (which : cause = .stalePoint ∨ cause = u) (s : State) :
    FadeSide u s (doorUnknown n cause s) := by
  cases found : slotGet s.doors n with
  | none =>
    rw [doorUnknown_absent found]
    exact .refl s
  | some r =>
    by_cases unknown : r.state = .unknown
    · rw [doorUnknown_still found unknown]
      exact .refl s
    cases defined : slotGet s.config.doors n with
    | none =>
      simp only [doorUnknown, found, if_neg unknown, enterDoorState, defined]
      exact ⟨rfl, .raised ⟨n, rfl⟩, fun _ q found => ⟨q, found, .refl q, rfl⟩, fun _ r found => ⟨r, found, .inl rfl⟩⟩
    | some d =>
      have entered := handPresence_unknown_frame n d.zone r.state (withDoor n (curtainMoved s d r.state .unknown
        { r with state := .unknown, level := none, openSince := none, heldFlag := false, window := none
                 entered := s.now }) s)
      have told := told_raise .doorUnknown (.door n) (some r.state.ctorIdx) (some cause.ctorIdx)
        (handPresence n d.zone r.state .unknown (withDoor n (curtainMoved s d r.state .unknown
        { r with state := .unknown, level := none, openSince := none, heldFlag := false, window := none
                 entered := s.now }) s))
      obtain ⟨x, isUnknown, doors⟩ := doorUnknown_doors defined found cause
      have frame : doorUnknown n cause s = { s with
          doors := (doorUnknown n cause s).doors, presence := (doorUnknown n cause s).presence
          notices := (doorUnknown n cause s).notices, lost := (doorUnknown n cause s).lost } := by
        rw [doorUnknown_enters defined found unknown, entered]
        rfl
      have toldAll : Told ⟨.doorUnknown, s.now, .door n, some r.state.ctorIdx, some cause.ctorIdx⟩ s
          (doorUnknown n cause s) := by
        rw [doorUnknown_enters defined found unknown]
        rw [entered] at told ⊢
        exact told
      have raises : Raises AboutDoor s (doorUnknown n cause s) := by
        rw [doorUnknown_enters defined found unknown]
        refine .trans ?_ (.raised ⟨n, rfl⟩)
        rw [entered]
        exact .of_same rfl rfl
      refine ⟨frame.trans (by rw [frame]), raises, fun k q at_ => ⟨q, ?_, .refl q, rfl⟩, fun m y at_ => ?_⟩
      · rw [frame]
        exact at_
      · by_cases own : m = n
        · subst own
          obtain rfl : r = y := Option.some.inj (found.symm.trans at_)
          refine ⟨x, by rw [doors]; exact slotGet_slotChange_same found, .inr ⟨isUnknown, fun _ => ?_⟩⟩
          exact ⟨cause, which, toldAll⟩
        · exact ⟨y, by rw [doors, slotGet_slotChange_ne own]; exact at_, .inl rfl⟩

theorem markStale_fades (p : PointRef) (s : State) : FadeSide u s (markStale p s) := by
  have marked : FadeSide u s (changePoint p stalePoint s) := .point stalePoint_fades (fun _ => rfl) p s
  unfold markStale
  split
  · exact .refl s
  · dsimp only
    split
    · exact marked.trans (.each (fun n t => doorUnknown_fades n (.inl rfl) t) _ _)
    · exact marked

theorem oneOffEnded_fades (p : PointRef) (s : State) : FadeSide u s (oneOffEnded p s) :=
  .point oneOffDone_fades (fun _ => rfl) p s

/-- The contact states of a lost node, and the cause that its doors take. -/
def lossCause : Contact → Option UnknownCause
  | .unreachable => some .unreachable
  | .unconfirmed => some .unconfirmed
  | _ => none

variable {new : Contact} (loss : lossCause new = some u)

include loss

theorem contactMark_fades (down : Bool) (p : PointRef) (s : State) : FadeSide u s (contactMark new down p s) := by
  cases new <;> cases loss <;> exact markStale_fades p s

theorem pointContact_fades (bus : Bus) (addr : Nat) (s : State) : FadeSide u s (pointContact bus addr new s) :=
  .each (fun p t => contactMark_fades loss _ p t) _ s

theorem doorContact_fades (bus : Bus) (addr : Nat) (s : State) : FadeSide u s (doorContact bus addr new s) := by
  cases new <;> cases loss <;> exact .each (fun n t => doorUnknown_fades n (.inr rfl) t) _ _

omit loss in
theorem presenceContact_fades (bus : Bus) (addr : Nat) (s : State) : FadeSide u s (presenceContact bus addr new s) := by
  unfold presenceContact
  split
  · exact .refl s
  · exact .of_unmoved rfl

/-- What a report does before it reaches the loads. -/
def reportedToDoors (bus : Bus) (addr : Nat) (new : Contact) (s : State) : State :=
  presenceContact bus addr new (doorContact bus addr new (pointContact bus addr new s))

theorem reportedToDoors_fades (bus : Bus) (addr : Nat) (s : State) :
    FadeSide u s (reportedToDoors bus addr new s) :=
  (pointContact_fades loss bus addr s).trans
    ((doorContact_fades loss bus addr _).trans (presenceContact_fades bus addr _))

omit loss in
theorem reportedToDoors_loads (bus : Bus) (addr : Nat) (s : State) :
    (reportedToDoors bus addr new s).loads = s.loads := by
  unfold reportedToDoors
  rw [(presenceContact_pres _ _ _ _).frame]
  dsimp only
  rw [(doorContact_side _ _ _ _).frame]
  dsimp only
  rw [(pointContact_side _ _ _ _).frame]

omit loss in
theorem reportContact_changed {bus : Bus} {addr : Nat} {old : Contact} {s : State}
    (reached : contactOf s bus addr = new) (changed : new ≠ old) :
    reportContact bus addr old s = loadContact bus addr new (reportedToDoors bus addr new s) := by
  subst reached
  exact if_neg changed

/-- A defined door on a node that is lost is UNKNOWN. -/
theorem doorContact_isUnknown {bus : Bus} {addr n : Nat} {d : DoorDef} {r : DoorRec} {s : State}
    (defined : slotGet s.config.doors n = some d) (found : slotGet s.doors n = some r)
    (bound : d.binding.bus = bus ∧ d.binding.addr = addr) : isUnknown (doorContact bus addr new s) n := by
  have member : n ∈ slotsWhere (fun d : DoorDef => d.binding.bus == bus && d.binding.addr == addr) s.config.doors :=
    (mem_slotsWhere _ _ _).mpr ⟨d, slotGet_mem _ _ _ defined, by simp [bound.1, bound.2]⟩
  have some_ : (slotGet s.config.doors n).isSome := by rw [defined]; rfl
  cases new <;> cases loss <;> exact forEach_doorUnknown_isUnknown member some_ found _

end

theorem FadeSide.isUnknown {u : UnknownCause} {s t : State} (h : FadeSide u s t) {n : Nat} (before : isUnknown s n) :
    isUnknown t n := by
  obtain ⟨r, found, unknown⟩ := before
  obtain ⟨r', found', rfl | ⟨unknown', -⟩⟩ := h.doors n r found
  · exact ⟨r', found', unknown⟩
  · exact ⟨r', found', unknown'⟩

theorem reportedToDoors_isUnknown {u : UnknownCause} {new : Contact} (loss : lossCause new = some u) {bus : Bus}
    {addr n : Nat} {d : DoorDef} {r : DoorRec} {s : State}
    (defined : slotGet s.config.doors n = some d) (found : slotGet s.doors n = some r)
    (bound : d.binding.bus = bus ∧ d.binding.addr = addr) : isUnknown (reportedToDoors bus addr new s) n := by
  have marked := pointContact_fades loss bus addr s
  obtain ⟨r', found', -⟩ := marked.doors n r found
  exact (presenceContact_fades (u := u) bus addr _).isUnknown
    (doorContact_isUnknown loss (by rw [marked.config]; exact defined) found' bound)

/-! ## The line (R70, R75) -/

section

variable {u : UnknownCause}

theorem markLineStale_fades (l : LineId) (s : State) : FadeSide u s (markLineStale l s) :=
  .each (fun _ t => .each markStale_fades _ t) _ s

/-- The record of a point under key `k` has been marked STALE at some moment between `s` and `t`. -/
def staledAt (k : Nat) (s t : State) : Prop := ∀ q, slotGet s.points k = some q →
  ∃ q', slotGet t.points k = some q' ∧ StatusFades (staleStatus q.status) q'.status

theorem StatusFades.staled {a b c : PointStatus} (h : StatusFades a b) (k : StatusFades (staleStatus b) c)
    : StatusFades (staleStatus a) c := by
  unfold StatusFades at *
  cases a <;> cases b <;> cases c <;> simp_all [staleStatus]

theorem staledAt_within {k : Nat} {s a b t : State} (before : FadeSide u s a) (h : staledAt k a b)
    (after : FadeSide u b t) : staledAt k s t := by
  intro q found
  obtain ⟨q₁, found₁, fades₁, -⟩ := before.points k q found
  obtain ⟨q₂, found₂, fades₂⟩ := h q₁ found₁
  obtain ⟨q₃, found₃, fades₃, -⟩ := after.points k q₂ found₂
  exact ⟨q₃, found₃, (fades₁.status.staled fades₂).trans fades₃.status⟩

theorem markStale_staled (p : PointRef) (s : State) : staledAt (pointKey p) s (markStale p s) := by
  intro q found
  exact ⟨stalePoint q, by rw [markStale_points]; exact slotGet_slotChange_same found, .inl rfl⟩

/-- What one step of a loop marks is marked by the loop. -/
theorem forEach_staled {α : Type} {f : α → State → State} {k : Nat} {x : α} (fades : ∀ y s, FadeSide u s (f y s))
    (marks : ∀ s, staledAt k s (f x s)) {items : List α} (member : x ∈ items) (s : State) :
    staledAt k s (forEach items f s) := by
  induction items generalizing s with
  | nil => cases member
  | cons y rest ih =>
    rw [forEach_cons]
    rcases List.mem_cons.mp member with rfl | later
    · exact staledAt_within (.refl s) (marks s) (.each fades rest _)
    · exact staledAt_within (fades y s) (ih later _) (.refl _)

end

/-- R70: every point of the line's nodes is marked. -/
theorem markLineStale_staled {l : LineId} {p : PointRef} {s : State} (bus : p.bus = busOf l)
    (used : slotUsed (getLine s l).nodes p.addr = true) (defined : pointDefined s.config p = true) :
    staledAt (pointKey p) s (markLineStale l s) := by
  obtain ⟨_, addr, i⟩ := p
  obtain rfl := bus
  obtain ⟨n, found⟩ := (slotUsed_iff _ _).mp used
  have own (t : State) : staledAt (pointKey ⟨busOf l, addr, i⟩) t
      (forEach (nodePoints s.config (busOf l) addr) markStale t) :=
    forEach_staled (u := .unreachable) markStale_fades (markStale_staled _) (mem_nodePoints.mpr defined) t
  exact forEach_staled (u := .unreachable) (f := fun addr => forEach (nodePoints s.config (busOf l) addr) markStale)
    (fun _ t => .each markStale_fades _ t) own (mem_slotNumbers_of_found found) s

theorem oneOffsEnded_fades {u : UnknownCause} (l : LineId) (gone : List NodePoint) (s : State) :
    FadeSide u s (forEach gone (fun x => oneOffEnded ⟨busOf l, x.node, x.point⟩) s) :=
  .each (fun _ t => oneOffEnded_fades _ t) gone s

theorem oneOffDone_not_pending (q : PointRec) : (oneOffDone q).status ≠ .pending := by
  unfold oneOffDone
  dsimp only
  split
  · simp
  · assumption

/-- R75: the one-off reads of a list are ended. -/
theorem oneOffsEnded_done {l : LineId} {gone : List NodePoint} {p : PointRef} (bus : p.bus = busOf l)
    (member : (⟨p.addr, p.point⟩ : NodePoint) ∈ gone) {q : PointRec} {s : State} (found : getPoint s p = some q) :
    ∃ q', getPoint (forEach gone (fun x => oneOffEnded ⟨busOf l, x.node, x.point⟩) s) p = some q'
      ∧ q'.oneOffWaiting = false ∧ q'.status ≠ .pending := by
  induction gone generalizing s q with
  | nil => cases member
  | cons x rest ih =>
    rw [forEach_cons]
    rcases List.mem_cons.mp member with rfl | within
    · have done : getPoint (oneOffEnded ⟨busOf l, p.addr, p.point⟩ s) p = some (oneOffDone q) := by
        rw [← bus]
        exact slotGet_slotChange_same found
      obtain ⟨q', found', fades, -⟩ := (oneOffsEnded_fades (u := .unreachable) l rest _).points _ _ done
      exact ⟨q', found', fades.oneOff rfl, fades.status.not_pending (oneOffDone_not_pending q)⟩
    · obtain ⟨q₁, found₁, -⟩ := (oneOffEnded_fades (u := .unreachable) ⟨busOf l, x.node, x.point⟩ s).points _ _ found
      exact ih within found₁

end Sys2Proof.Machine


/-! SUPPORT. A line that falls (R46, R47): its lists, its points, the doors and the loads of its nodes. -/

namespace Sys2Proof.Machine

open Sys2Proof.Claims

/-! ## A loop that reaches what one of its steps brings -/

theorem forEach_keeps {α : Type} {f : α → State → State} {P : State → Prop} {items : List α}
    (keeps : ∀ x ∈ items, ∀ s, P s → P (f x s)) {s : State} (holds : P s) : P (forEach items f s) := by
  induction items generalizing s with
  | nil => exact holds
  | cons x rest ih =>
    exact ih (fun y member => keeps y (List.mem_cons_of_mem x member)) (keeps x List.mem_cons_self s holds)

theorem forEach_reaches {α : Type} {f : α → State → State} {I Q : State → Prop} {x : α} {items : List α}
    (keeps : ∀ y ∈ items, ∀ s, I s → I (f y s)) (brings : ∀ s, I s → Q (f x s))
    (stays : ∀ y ∈ items, ∀ s, I s → Q s → Q (f y s)) (member : x ∈ items) {s : State} (holds : I s) :
    Q (forEach items f s) := by
  induction items generalizing s with
  | nil => cases member
  | cons y rest ih =>
    have keepsRest := fun z (listed : z ∈ rest) => keeps z (List.mem_cons_of_mem y listed)
    have staysRest := fun z (listed : z ∈ rest) => stays z (List.mem_cons_of_mem y listed)
    have first := keeps y List.mem_cons_self s holds
    rcases List.mem_cons.mp member with rfl | later
    · exact (forEach_keeps (P := fun s => I s ∧ Q s)
        (fun z listed t both => ⟨keepsRest z listed t both.1, staysRest z listed t both.1 both.2⟩)
        ⟨first, brings s holds⟩).2
    · exact ih keepsRest staysRest later first

/-! ## A node that is lost -/

/-- R44, R92, R122: `t` follows `s` as nodes of a line become UNREACHABLE. -/
structure FallSide (s t : State) : Prop extends FadeSide .unreachable s t where
  loads : ∀ k r, slotGet s.loads k = some r → slotGet t.loads k = some r ∨ (r.controlled = true
    ∧ ∃ d, slotGet s.config.loads k = some d
      ∧ slotGet t.loads k = some (lostLoad s.now s.config.budget.nodeHold d r))

namespace FallSide

variable {s t v : State}

theorem of_loads (h : FadeSide .unreachable s t) (same : t.loads = s.loads) : FallSide s t :=
  ⟨h, fun _ r found => .inl (by rw [same]; exact found)⟩

theorem refl (s : State) : FallSide s s := .of_loads (.refl s) rfl

theorem trans (h : FallSide s t) (k : FallSide t v) : FallSide s v := by
  refine ⟨h.toFadeSide.trans k.toFadeSide, fun i r found => ?_⟩
  rcases h.loads i r found with same | ⟨controlled, d, defined, lost⟩
  · rcases k.loads i r same with still | ⟨controlled, d, defined, lost⟩
    · exact .inl still
    · rw [h.config, h.now] at lost
      exact .inr ⟨controlled, d, by rw [← h.config]; exact defined, lost⟩
  · rcases k.loads i _ lost with still | ⟨again, -⟩
    · exact .inr ⟨controlled, d, defined, still⟩
    · cases again

end FallSide

theorem reportedToDoors_falls (bus : Bus) (addr : Nat) (s : State) :
    FallSide s (reportedToDoors bus addr .unreachable s) :=
  .of_loads (reportedToDoors_fades rfl bus addr s) (reportedToDoors_loads bus addr s)

/-- R122: one load of a node that is lost. -/
theorem loadTakesContact_falls (k : Nat) (s : State) : FallSide s (loadTakesContact .unreachable k s) := by
  cases defined : slotGet s.config.loads k with
  | none =>
    simp only [loadTakesContact, defined]
    exact .refl s
  | some d =>
    cases found : slotGet s.loads k with
    | none =>
      simp only [loadTakesContact, defined, found]
      exact .refl s
    | some r =>
      cases controlled : r.controlled with
      | false =>
        rw [loadTakesContact_same defined found (by rw [controlled]; rfl)]
        exact .refl s
      | true =>
        rw [loadTakesContact_loses defined found controlled rfl]
        refine ⟨.of_unmoved rfl, fun j x at_ => ?_⟩
        by_cases own : j = k
        · subst own
          obtain rfl : r = x := Option.some.inj (found.symm.trans at_)
          exact .inr ⟨controlled, d, defined, slotGet_slotChange_same found⟩
        · exact .inl ((slotGet_slotChange_ne own).trans at_)

theorem loadContact_falls (bus : Bus) (addr : Nat) (s : State) : FallSide s (loadContact bus addr .unreachable s) :=
  forEach_related .refl .trans _ (fun k t => loadTakesContact_falls k t) _ s

/-- What a defined load whose record is `r` in `s` is in `t` once its node is lost. -/
def lostIn (s : State) (k : Nat) (d : LoadDef) (r : LoadRec) (t : State) : Prop :=
  slotGet t.loads k = some (lostLoad s.now s.config.budget.nodeHold d r)

theorem FallSide.lostIn {s t v : State} (h : FallSide t v) {k : Nat} {d : LoadDef} {r : LoadRec}
    (lost : lostIn s k d r t) : lostIn s k d r v := by
  rcases h.loads k _ lost with same | ⟨controlled, -⟩
  · exact same
  · cases controlled

section

variable {s t : State} {k : Nat} {d : LoadDef} {r : LoadRec} (defined : slotGet s.config.loads k = some d)
  (found : slotGet s.loads k = some r) (controlled : r.controlled = true)

include defined found controlled

/-- A load that a report reaches is lost, if no earlier one has reached it. -/
theorem loadTakesContact_lost (before : FallSide s t) : lostIn s k d r (loadTakesContact .unreachable k t) := by
  have step := loadTakesContact_falls k t
  rcases before.loads k r found with same | ⟨-, e, here, lost⟩
  · have here : slotGet t.config.loads k = some d := by rw [before.config]; exact defined
    rw [loadTakesContact_loses here same controlled rfl, before.config, before.now]
    exact slotGet_slotChange_same same
  · obtain rfl : d = e := Option.some.inj (defined.symm.trans here)
    exact step.lostIn (s := s) lost

theorem loadContact_lost {bus : Bus} {addr : Nat} (bound : d.binding.bus = bus ∧ d.binding.addr = addr)
    (before : FallSide s t) : lostIn s k d r (loadContact bus addr .unreachable t) := by
  have member : k ∈ slotsWhere (fun d : LoadDef => d.binding.bus == bus && d.binding.addr == addr) t.config.loads := by
    rw [before.config]
    exact (mem_slotsWhere _ _ _).mpr ⟨d, slotGet_mem _ _ _ defined, by simp [bound.1, bound.2]⟩
  exact forEach_reaches (I := FallSide s) (fun y _ t h => h.trans (loadTakesContact_falls y t))
    (fun t h => loadTakesContact_lost defined found controlled h)
    (fun y _ t _ lost => (loadTakesContact_falls y t).lostIn lost) member before

end

/-! ## The nodes of the line that fell -/

/-- Line `l` is DOWN in `s`, with the nodes that it had on `before`. -/
def DownWith (l : LineId) (before : Line) (s : State) : Prop :=
  isDown (getLine s l) = true ∧ (getLine s l).nodes = before.nodes

theorem contactOf_busOf (s : State) (l : LineId) (addr : Nat) :
    contactOf s (busOf l) addr = lineContact (getLine s l) addr := by
  cases l <;> rfl

/-- R44: on a line that is DOWN a node in SERVICE is so still, and any other is UNREACHABLE. -/
theorem DownWith.contact {l : LineId} {before : Line} {s : State} (down : DownWith l before s) (addr : Nat) :
    (contactOf s (busOf l) addr = lineContact before addr ∧ lineContact before addr = .inService)
      ∨ contactOf s (busOf l) addr = .unreachable := by
  obtain ⟨isDown_, nodes⟩ := down
  rw [contactOf_busOf, lineContact, nodes, lineContact]
  cases slotGet before.nodes addr with
  | none => exact .inr rfl
  | some n =>
    unfold isDown at isDown_
    cases node : n.state <;> cases state : (getLine s l).state <;> simp_all [contactFrom]

section

variable {l : LineId} {before : Line}

theorem fallReport_falls {s : State} (down : DownWith l before s) (addr : Nat) :
    FallSide s (reportContact (busOf l) addr (lineContact before addr) s) := by
  by_cases same : contactOf s (busOf l) addr = lineContact before addr
  · rw [reportContact_same same]
    exact .refl s
  · rcases down.contact addr with ⟨kept, -⟩ | lost
    · exact absurd kept same
    · rw [reportContact_changed lost (by rw [← lost]; exact same)]
      exact (reportedToDoors_falls _ _ s).trans (loadContact_falls _ _ _)

theorem FallSide.downWith {s t : State} (h : FallSide s t) (down : DownWith l before s) : DownWith l before t := by
  unfold DownWith
  rw [h.line l]
  exact down

theorem fallReports_falls {s : State} (down : DownWith l before s) (addrs : List Nat) :
    FallSide s (forEach addrs (fun addr => reportContact (busOf l) addr (lineContact before addr)) s) :=
  forEach_keeps (P := FallSide s)
    (fun addr _ _ h => h.trans (fallReport_falls (h.downWith down) addr)) (.refl s)

theorem reportLine_falls {s : State} (down : DownWith l before s) : FallSide s (reportLine l before s) :=
  fallReports_falls down _

variable {addr : Nat} (held : lineContact before addr = .inContact ∨ lineContact before addr = .unconfirmed)

include held

theorem held_listed : addr ∈ slotNumbers before.nodes := by
  unfold lineContact at held
  split at held
  · rcases held with h | h <;> cases h
  · rename_i n found
    exact mem_slotNumbers_of_found found

/-- A report of a node that was held, once the line is DOWN. -/
theorem fallReport_eq {s : State} (down : DownWith l before s) :
    reportContact (busOf l) addr (lineContact before addr) s
      = loadContact (busOf l) addr .unreachable (reportedToDoors (busOf l) addr .unreachable s) := by
  have lost : contactOf s (busOf l) addr = .unreachable := by
    rcases down.contact addr with ⟨-, service⟩ | lost
    · rw [service] at held
      rcases held with h | h <;> cases h
    · exact lost
  exact reportContact_changed lost (by rcases held with h | h <;> rw [h] <;> simp)

/-- R92: the doors of a node that is lost with its line are UNKNOWN. -/
theorem reportLine_isUnknown {s : State} (down : DownWith l before s) {n : Nat} {d : DoorDef} {r : DoorRec}
    (defined : slotGet s.config.doors n = some d) (found : slotGet s.doors n = some r)
    (bound : d.binding.bus = busOf l ∧ d.binding.addr = addr) : isUnknown (reportLine l before s) n := by
  refine forEach_reaches (I := FallSide s) (fun y _ t h => h.trans (fallReport_falls (h.downWith down) y))
    (fun t h => ?_) (fun y _ t h => (fallReport_falls (h.downWith down) y).isUnknown) (held_listed held) (.refl s)
  obtain ⟨r', found', -⟩ := h.doors n r found
  rw [fallReport_eq held (h.downWith down)]
  exact (loadContact_falls _ _ _).isUnknown
    (reportedToDoors_isUnknown rfl (by rw [h.config]; exact defined) found' bound)

/-- R122: the loads of a node that is lost with its line are UNCONTROLLED. -/
theorem reportLine_lost {s : State} (down : DownWith l before s) {k : Nat} {d : LoadDef} {r : LoadRec}
    (defined : slotGet s.config.loads k = some d) (found : slotGet s.loads k = some r)
    (controlled : r.controlled = true) (bound : d.binding.bus = busOf l ∧ d.binding.addr = addr) :
    lostIn s k d r (reportLine l before s) := by
  refine forEach_reaches (I := FallSide s) (fun y _ t h => h.trans (fallReport_falls (h.downWith down) y))
    (fun t h => ?_) (fun y _ t h => (fallReport_falls (h.downWith down) y).lostIn) (held_listed held) (.refl s)
  rw [fallReport_eq held (h.downWith down)]
  exact loadContact_lost defined found controlled bound (h.trans (reportedToDoors_falls _ _ t))

end

/-! ## The fall (R47) -/

/-- R31, R34: the lists of a line are emptied. -/
theorem emptyLists_eq (l : LineId) (s : State) : emptyLists l s
    = forEach (getLine s l).oneOffs (fun q => oneOffEnded ⟨busOf l, q.node, q.point⟩)
      (changeLine l (fun line => { line with fetch := [], oneOffs := [] }) s) := by
  have all (xs : List NodePoint) : xs.filter (fun _ => true) = xs := List.filter_true xs
  have empty (xs : List NodePoint) : xs.filter (fun _ => !true) = [] := List.filter_false xs
  unfold emptyLists dropOneOffs
  dsimp only
  rw [all]
  cases l <;> simp only [changeLine, getLine, setLine, empty]

/-- R47: the line is DOWN, and the host is told. -/
def goneDown (l : LineId) (s : State) : State :=
  raise .lineDown (.line l) (some 255) none (changeLine l (fun line => { line with
    errors := 255, state := .down (.resting (s.now + Config.lineRestMs)) }) s)

/-- The state of a line at the moment of its fall, before its points, doors and loads are told. -/
def fallBase (l : LineId) (s : State) : State :=
  changeLine l (fun line => { line with fetch := [], oneOffs := [] }) (goneDown l s)

theorem abandon_idle {l : LineId} {s : State} (idle : (getLine s l).inFlight = none) : abandon l s = s := by
  rw [abandon, idle]

theorem enterLineDown_eq {l : LineId} {s : State} (idle : (getLine s l).inFlight = none) : enterLineDown l s
    = reportLine l (getLine s l) (markLineStale l (forEach (getLine s l).oneOffs
      (fun q => oneOffEnded ⟨busOf l, q.node, q.point⟩) (fallBase l s))) := by
  have inFlight : (getLine (goneDown l s) l).inFlight = (getLine s l).inFlight := by cases l <;> rfl
  have oneOffs : (getLine (goneDown l s) l).oneOffs = (getLine s l).oneOffs := by cases l <;> rfl
  have shape : enterLineDown l s
      = reportLine l (getLine s l) (markLineStale l (emptyLists l (abandon l (goneDown l s)))) := rfl
  rw [shape, abandon_idle (inFlight.trans idle), emptyLists_eq, oneOffs, fallBase]

end Sys2Proof.Machine


/-! SUPPORT. A line that falls by idle noise (R46, R47), in the words of its claim. -/

namespace Sys2Proof.Machine

/-! ## The base of the fall -/

section

variable {l : LineId} {s : State}

theorem fallBase_frame : fallBase l s = { s with
    lineA := (fallBase l s).lineA, lineB := (fallBase l s).lineB
    notices := (fallBase l s).notices, lost := (fallBase l s).lost } := by
  cases l <;> rfl

theorem fallBase_line : getLine (fallBase l s) l = { getLine s l with
    errors := 255, state := .down (.resting (s.now + 10000)), fetch := [], oneOffs := [] } := by
  cases l <;> rfl

theorem fallBase_other {other : LineId} (apart : other ≠ l) : getLine (fallBase l s) other = getLine s other := by
  cases l <;> cases other <;> first | exact absurd rfl apart | rfl

theorem goneDown_told : Told ⟨.lineDown, s.now, .line l, some 255, none⟩ s (goneDown l s) := by
  have told := told_raise .lineDown (.line l) (some 255) none (changeLine l (fun line => { line with
    errors := 255, state := .down (.resting (s.now + Config.lineRestMs)) }) s)
  cases l <;> exact told

theorem fallBase_told : Told ⟨.lineDown, s.now, .line l, some 255, none⟩ s (fallBase l s) := by
  have told := goneDown_told (l := l) (s := s)
  cases l <;> exact told

theorem fallBase_raises : Raises (fun _ => True) s (fallBase l s) := by
  have first : Raises (fun _ => True) s (changeLine l (fun line => { line with
      errors := 255, state := .down (.resting (s.now + Config.lineRestMs)) }) s) := changeLine_raises _ _ _
  exact (first.trans (.raised trivial)).trans (changeLine_raises _ _ _)

end

theorem markLineStale_loads (l : LineId) (s : State) : (markLineStale l s).loads = s.loads := by
  refine forEach_related (R := fun a b => b.loads = a.loads) (fun _ => rfl) (fun h k => k.trans h) _ (fun _ t => ?_) _ s
  refine forEach_related (R := fun a b => b.loads = a.loads) (fun _ => rfl) (fun h k => k.trans h) _ (fun p u => ?_) _ t
  rw [(markStale_side p u).frame]

theorem oneOffsEnded_loads (l : LineId) (gone : List NodePoint) (s : State) :
    (forEach gone (fun q => oneOffEnded ⟨busOf l, q.node, q.point⟩) s).loads = s.loads :=
  forEach_related (R := fun a b => b.loads = a.loads) (fun _ => rfl) (fun h k => k.trans h)
    (fun (q : NodePoint) => oneOffEnded ⟨busOf l, q.node, q.point⟩) (fun _ _ => rfl) gone s

/-! ## The steps of the fall -/

/-- The fall of line `l` on which noise has been counted, from `s` by its steps: the base `b`, the one-off reads ended,
the points marked, the nodes reported. -/
structure Falling (l : LineId) (s b e m t : State) : Prop where
  base : b = fallBase l (changeLine l (fun line => { line with noiseCounted := true }) s)
  ended : e = forEach (getLine s l).oneOffs (fun q => oneOffEnded ⟨busOf l, q.node, q.point⟩) b
  marked : m = markLineStale l e
  reported : t = reportLine l { getLine s l with noiseCounted := true } m

theorem falling (l : LineId) {s : State} (idle : (getLine s l).inFlight = none) : ∃ b e m, Falling l s b e m
    (enterLineDown l (changeLine l (fun line => { line with noiseCounted := true }) s)) := by
  have counted : getLine (changeLine l (fun line => { line with noiseCounted := true }) s) l
      = { getLine s l with noiseCounted := true } := getLine_changeLine _ _ _
  refine ⟨_, _, _, rfl, rfl, rfl, ?_⟩
  rw [enterLineDown_eq (by rw [counted]; exact idle), counted]

namespace Falling

variable {l : LineId} {s b e m t : State} (h : Falling l s b e m t)

include h

theorem base_frame : b = { s with lineA := b.lineA, lineB := b.lineB, notices := b.notices, lost := b.lost } := by
  rw [h.base]
  cases l <;> rfl

theorem base_line : getLine b l = { getLine s l with
    state := .down (.resting (s.now + 10000)), errors := 255, noiseCounted := true, fetch := [], oneOffs := [] } := by
  rw [h.base]
  cases l <;> rfl

theorem base_other {other : LineId} (apart : other ≠ l) : getLine b other = getLine s other := by
  rw [h.base, fallBase_other apart, getLine_changeLine_ne apart]

theorem base_raises : Raises (fun _ => True) s b := by
  rw [h.base]
  exact (changeLine_raises _ _ _).trans fallBase_raises

theorem base_told : Told ⟨.lineDown, s.now, .line l, some 255, none⟩ s b := by
  rw [h.base]
  have told := fallBase_told (l := l) (s := changeLine l (fun line => { line with noiseCounted := true }) s)
  cases l <;> exact told

theorem ends : FadeSide .unreachable b e := by
  rw [h.ended]
  exact oneOffsEnded_fades _ _ _

theorem marks : FadeSide .unreachable e m := by
  rw [h.marked]
  exact markLineStale_fades _ _

theorem down : DownWith l { getLine s l with noiseCounted := true } m := by
  unfold DownWith
  rw [h.marks.line l, h.ends.line l, h.base_line]
  exact ⟨rfl, rfl⟩

theorem reports : FallSide m t := by
  rw [h.reported]
  exact reportLine_falls h.down

theorem fades : FadeSide .unreachable b t := (h.ends.trans h.marks).trans h.reports.toFadeSide

theorem loads : m.loads = s.loads := by
  rw [h.marked, markLineStale_loads, h.ended, oneOffsEnded_loads, h.base_frame]

theorem told {n : Notice} (step : Told n b t) : Told n s t :=
  step.within h.base_raises h.fades.raises (.refl (P := AboutDoor) t)

/-- R70: a point of a node of the line is STALE where it held a value. -/
theorem point_staled {p : PointRef} {q : PointRec} (bus : p.bus = busOf l)
    (used : slotUsed (getLine s l).nodes p.addr = true) (defined : pointDefined s.config p = true)
    (found : getPoint s p = some q) :
    ∃ q', getPoint t p = some q' ∧ StatusFades (staleStatus q.status) q'.status := by
  have stale : staledAt (pointKey p) e m := by
    rw [h.marked]
    refine markLineStale_staled bus ?_ ?_
    · rw [h.ends.line l, h.base_line]
      exact used
    · rw [h.ends.config, h.base_frame]
      exact defined
  exact staledAt_within h.ends stale h.reports.toFadeSide q (by rw [h.base_frame]; exact found)

/-- R75: a one-off read of the line waits no longer. -/
theorem point_ended {p : PointRef} {q : PointRec} (bus : p.bus = busOf l)
    (listed : (⟨p.addr, p.point⟩ : NodePoint) ∈ (getLine s l).oneOffs) (found : getPoint s p = some q) :
    ∃ q', getPoint t p = some q' ∧ q'.oneOffWaiting = false ∧ q'.status ≠ .pending := by
  have inBase : getPoint b p = some q := by
    rw [h.base_frame]
    exact found
  obtain ⟨q₁, found₁, waiting, other⟩ := oneOffsEnded_done bus listed inBase
  rw [← h.ended] at found₁
  obtain ⟨q', found', fades, -⟩ := (h.marks.trans h.reports.toFadeSide).points _ _ found₁
  exact ⟨q', found', fades.oneOff waiting, fades.status.not_pending other⟩

/-- R92: the door of a node that the line held is UNKNOWN. -/
theorem door_unknown {n : Nat} {d : DoorDef} {r : DoorRec} (defined : slotGet s.config.doors n = some d)
    (found : slotGet s.doors n = some r) (bus : d.binding.bus = busOf l)
    (held : contactOf s (busOf l) d.binding.addr = .inContact ∨ contactOf s (busOf l) d.binding.addr = .unconfirmed) :
    isUnknown t n := by
  obtain ⟨r₁, found₁, -⟩ := (h.ends.trans h.marks).doors n r (by rw [h.base_frame]; exact found)
  rw [contactOf_busOf] at held
  rw [h.reported]
  refine reportLine_isUnknown (before := { getLine s l with noiseCounted := true }) held h.down ?_ found₁ ⟨bus, rfl⟩
  rw [h.marks.config, h.ends.config, h.base_frame]
  exact defined

/-- R122: a load of a node that the line held is UNCONTROLLED. -/
theorem load_lost {k : Nat} {d : LoadDef} {r : LoadRec} (defined : slotGet s.config.loads k = some d)
    (found : slotGet s.loads k = some r) (controlled : r.controlled = true) (bus : d.binding.bus = busOf l)
    (held : contactOf s (busOf l) d.binding.addr = .inContact ∨ contactOf s (busOf l) d.binding.addr = .unconfirmed) :
    slotGet t.loads k = some (Claims.lostLoad s.now s.config.budget.nodeHold d r) := by
  have config : m.config = s.config := by rw [h.marks.config, h.ends.config, h.base_frame]
  have now : m.now = s.now := by rw [h.marks.now, h.ends.now, h.base_frame]
  rw [contactOf_busOf] at held
  have lost := reportLine_lost (before := { getLine s l with noiseCounted := true }) held h.down
    (by rw [config]; exact defined) (by rw [h.loads]; exact found) controlled ⟨bus, rfl⟩
  rw [← h.reported] at lost
  rw [← config, ← now]
  exact lost

end Falling

end Sys2Proof.Machine

namespace Sys2Proof.Claims

open Sys2Proof.Machine

theorem lineFallen_of_falling {l : LineId} {s b e m t : State} (h : Falling l s b e m t) : lineFallen l s t := by
  have points : b.points = s.points := by rw [h.base_frame]
  have now : b.now = s.now := by rw [h.base_frame]
  refine ⟨?_, ?_, fun p q bus used defined found => ?_, fun n d r defined found ⟨bus, held⟩ => ?_,
    fun k d r defined found ⟨bus, held⟩ controlled => ?_, fun other apart => ?_, ?_⟩
  · rw [h.fades.line l, h.base_line]
  · exact h.base_told.after h.base_raises h.fades.raises
  · obtain ⟨q', found', stale⟩ := h.point_staled bus used defined found
    obtain ⟨q₁, found₁, fades, written⟩ := h.fades.points _ q (by rw [points]; exact found)
    obtain rfl : q' = q₁ := Option.some.inj (found'.symm.trans found₁)
    refine ⟨q', found', ?_, fun was => stale.of_stale was, fades.status.neverRead, fun listed => ?_⟩
    · have fields := fades.fields
      rw [written] at fields
      exact fields
    · obtain ⟨q₂, found₂, waiting, other⟩ := h.point_ended bus listed found
      obtain rfl : q' = q₂ := Option.some.inj (found'.symm.trans found₂)
      exact ⟨waiting, fun pending => fades.status.read pending other⟩
  · rw [bus] at held
    obtain ⟨r', found', unknown⟩ := h.door_unknown defined found bus held
    refine ⟨⟨r', found', unknown⟩, fun known => ?_⟩
    obtain ⟨r₁, found₁, same | ⟨-, told⟩⟩ := h.fades.doors n r (by rw [h.base_frame]; exact found)
    · obtain rfl : r' = r₁ := Option.some.inj (found'.symm.trans found₁)
      exact absurd (same ▸ unknown) known
    · obtain ⟨cause, which, told⟩ := told known
      rw [now] at told
      have toldAll := h.told told
      rcases which with rfl | rfl
      · exact .inl toldAll
      · exact .inr toldAll
  · rw [bus] at held
    exact h.load_lost defined found controlled bus held
  · rw [h.fades.line other, h.base_other apart]
  · refine h.fades.frame.trans ?_
    rw [h.fades.lineA, h.fades.lineB, h.base_frame]

/-- R47: the fall of a line on which nothing is in flight, once its noise has been counted. -/
theorem lineFallen_holds {l : LineId} {s : State} (idle : (getLine s l).inFlight = none) :
    lineFallen l s (enterLineDown l (changeLine l (fun line => { line with noiseCounted := true }) s)) := by
  obtain ⟨b, e, m, h⟩ := falling l idle
  exact lineFallen_of_falling h

end Sys2Proof.Claims


/-! SUPPORT. A line whose nodes are renewed (R48, R49): what the reports of its nodes make of its queue, of the points
and of the loads, which are readmitted (R123). -/

namespace Sys2Proof.Machine

open Sys2Proof.Claims

/-! ## The queue -/

/-- The node, the point and the origin of a queued write, which it keeps. -/
def identityOf (e : QueueEntry) : Nat × Nat × Origin := (e.node, e.point, e.origin)

/-- The point of a queued write. -/
def pointOf (l : LineId) (e : QueueEntry) : PointRef := ⟨busOf l, e.node, e.point⟩

theorem joinQueue_identities (node point value : Nat) (origin : Origin) (queue : List QueueEntry) :
    queue.map identityOf <+: (joinQueue node point value origin queue).map identityOf := by
  unfold joinQueue
  split
  · rw [List.map_map]
    have same : identityOf ∘ (fun e => if entryFor node point e then { e with value := value, tries := 0 } else e)
        = identityOf := by
      funext e
      simp only [Function.comp_apply]
      split <;> rfl
    rw [same]
  · rw [List.map_append]
    exact List.prefix_append _ _

/-- An entry of a queue that a write has joined stood there, perhaps with its value replaced, or is the write's. -/
theorem joinQueue_mem {node point value : Nat} {origin : Origin} {queue : List QueueEntry} {e : QueueEntry}
    (member : e ∈ joinQueue node point value origin queue) :
    (∃ e₀ ∈ queue, identityOf e = identityOf e₀ ∧ (e.tries = e₀.tries ∨ e.tries = 0))
      ∨ e = ⟨node, point, value, origin, 0⟩ := by
  unfold joinQueue at member
  split at member
  · obtain ⟨e₀, stood, rfl⟩ := List.mem_map.mp member
    refine .inl ⟨e₀, stood, ?_⟩
    split
    · exact ⟨rfl, .inr rfl⟩
    · exact ⟨rfl, .inl rfl⟩
  · rcases List.mem_append.mp member with stood | new
    · exact .inl ⟨e, stood, rfl, .inl rfl⟩
    · exact .inr (List.mem_singleton.mp new)

/-! ## Nodes that are reported in contact -/

/-- R44, R70, R123: `t` follows `s` as nodes of line `l` become UNCONFIRMED: their points fade, their doors go UNKNOWN
and their loads are readmitted, with their commands in the queue. -/
structure RenewSide (l : LineId) (s t : State) : Prop where
  frame : t = { s with
    lineA := t.lineA, lineB := t.lineB, points := t.points, doors := t.doors, presence := t.presence
    loads := t.loads, notices := t.notices, lost := t.lost }
  raises : Raises AboutDoor s t
  points : ∀ k q, slotGet s.points k = some q → ∃ q', slotGet t.points k = some q' ∧ Fades q q'
    ∧ ∀ p, pointKey p = k → spared s p → q'.lastWrite = q.lastWrite
  own : getLine t l = { getLine s l with queue := (getLine t l).queue }
  other : ∀ other, other ≠ l → getLine t other = getLine s other
  identities : (getLine s l).queue.map identityOf <+: (getLine t l).queue.map identityOf
  entries : ∀ e ∈ (getLine t l).queue,
    (∃ e₀ ∈ (getLine s l).queue, identityOf e = identityOf e₀ ∧ (e.tries = e₀.tries ∨ e.tries = 0))
      ∨ (e.origin = .internal ∧ e.tries = 0 ∧ ¬ spared s (pointOf l e))
  loads : ∀ k r, slotGet s.loads k = some r → ∃ r', slotGet t.loads k = some r' ∧ (r.controlled = true → r' = r)
  absent : ∀ k, slotGet s.loads k = none → slotGet t.loads k = none

theorem identityOf_pointOf {e f : QueueEntry} (same : identityOf e = identityOf f) (l : LineId) :
    pointOf l e = pointOf l f := by
  simp only [identityOf, Prod.mk.injEq] at same
  obtain ⟨node, point, -⟩ := same
  rw [pointOf, node, point, pointOf]

theorem identityOf_origin {e f : QueueEntry} (same : identityOf e = identityOf f) : e.origin = f.origin := by
  simp only [identityOf, Prod.mk.injEq] at same
  exact same.2.2

namespace RenewSide

variable {l : LineId} {s t v : State}

theorem config (h : RenewSide l s t) : t.config = s.config := by rw [h.frame]

theorem now (h : RenewSide l s t) : t.now = s.now := by rw [h.frame]

theorem nodes (h : RenewSide l s t) : (getLine t l).nodes = (getLine s l).nodes := by rw [h.own]

theorem state (h : RenewSide l s t) : (getLine t l).state = (getLine s l).state := by rw [h.own]

/-- A point that holds no load to be readmitted holds none later. -/
theorem spared (h : RenewSide l s t) {p : PointRef} (none_ : spared s p) : spared t p := by
  intro k d r defined found key
  rw [h.config] at defined
  cases stood : slotGet s.loads k with
  | none => cases found.symm.trans (h.absent k stood)
  | some r₀ =>
    have controlled := none_ k d r₀ defined stood key
    obtain ⟨r', found', same⟩ := h.loads k r₀ stood
    obtain rfl : r = r' := Option.some.inj (found.symm.trans found')
    rw [same controlled]
    exact controlled

theorem refl (s : State) : RenewSide l s s where
  frame := rfl
  raises := .refl s
  points _ q found := ⟨q, found, .refl q, fun _ _ _ => rfl⟩
  own := rfl
  other _ _ := rfl
  identities := List.prefix_rfl
  entries e member := .inl ⟨e, member, rfl, .inl rfl⟩
  loads _ r found := ⟨r, found, fun _ => rfl⟩
  absent _ := id

theorem trans (h : RenewSide l s t) (k : RenewSide l t v) : RenewSide l s v where
  frame := k.frame.trans (by rw [h.frame])
  raises := h.raises.trans k.raises
  points i q found := by
    obtain ⟨q', found', fades, kept⟩ := h.points i q found
    obtain ⟨q'', found'', fades', kept'⟩ := k.points i q' found'
    exact ⟨q'', found'', fades.trans fades', fun p key none_ =>
      (kept' p key (h.spared none_)).trans (kept p key none_)⟩
  own := k.own.trans (by rw [h.own])
  other o apart := (k.other o apart).trans (h.other o apart)
  identities := h.identities.trans k.identities
  entries e member := by
    rcases k.entries e member with ⟨e₁, member₁, same, tries⟩ | ⟨internal, tries, reached⟩
    · rcases h.entries e₁ member₁ with ⟨e₀, member₀, same₀, tries₀⟩ | ⟨internal, tries₀, reached⟩
      · refine .inl ⟨e₀, member₀, same.trans same₀, ?_⟩
        omega
      · refine .inr ⟨(identityOf_origin same).trans internal, by omega, ?_⟩
        rw [identityOf_pointOf same]
        exact reached
    · exact .inr ⟨internal, tries, reached ∘ h.spared⟩
  loads i r found := by
    obtain ⟨r', found', same⟩ := h.loads i r found
    obtain ⟨r'', found'', same'⟩ := k.loads i r' found'
    refine ⟨r'', found'', fun controlled => ?_⟩
    rw [same controlled] at same'
    exact same' controlled
  absent i none_ := k.absent i (h.absent i none_)

theorem of_fades {u : UnknownCause} (h : FadeSide u s t) (same : t.loads = s.loads) : RenewSide l s t where
  frame := h.frame.trans (by rw [h.frame])
  raises := h.raises
  points k q found := by
    obtain ⟨q', found', fades, written⟩ := h.points k q found
    exact ⟨q', found', fades, fun _ _ _ => written⟩
  own := by rw [h.line l]
  other o _ := h.line o
  identities := by rw [h.line l]
  entries e member := by
    rw [h.line l] at member
    exact .inl ⟨e, member, rfl, .inl rfl⟩
  loads _ r found := ⟨r, by rw [same]; exact found, fun _ => rfl⟩
  absent _ none_ := by rw [same]; exact none_

end RenewSide

/-! ## A load that is readmitted (R123) -/

section

variable {l : LineId} {k : Nat} {d : LoadDef} {r : LoadRec} {s : State}

/-- A change of the record of a load that is UNCONTROLLED. -/
theorem changeLoad_renews (found : slotGet s.loads k = some r) (lost : r.controlled = false)
    (f : LoadRec → LoadRec) : RenewSide l s (changeLoad k f s) where
  frame := rfl
  raises := .of_same rfl rfl
  points _ q found := ⟨q, found, .refl q, fun _ _ _ => rfl⟩
  own := by cases l <;> rfl
  other o _ := by cases o <;> rfl
  identities := by
    have same : getLine (changeLoad k f s) l = getLine s l := by cases l <;> rfl
    rw [same]
  entries e member := .inl ⟨e, by cases l <;> exact member, rfl, .inl rfl⟩
  loads j x at_ := by
    by_cases own : j = k
    · subst own
      obtain rfl : r = x := Option.some.inj (found.symm.trans at_)
      exact ⟨f r, slotGet_slotChange_same found, fun controlled => by rw [lost] at controlled; cases controlled⟩
    · exact ⟨x, (slotGet_slotChange_ne own).trans at_, fun _ => rfl⟩
  absent j none_ := by
    rw [changeLoad, slotGet_slotChange]
    split
    · rename_i own
      rw [← own, none_]
      rfl
    · exact none_

/-- A write that a load of line `l` queues as it is readmitted, told against the state `s` before its record changed. -/
theorem queueWrite_renews {t : State} (before : RenewSide l s t) (defined : slotGet s.config.loads k = some d)
    (found : slotGet s.loads k = some r) (lost : r.controlled = false) (bus : d.binding.bus = busOf l) (value : Nat) :
    RenewSide l s (queueWrite l d.binding.addr d.binding.point value .internal t) := by
  have binding : (⟨busOf l, d.binding.addr, d.binding.point⟩ : PointRef) = d.binding := by rw [← bus]
  have reached {p : PointRef} (key : pointKey d.binding = pointKey p) : ¬ spared s p := fun none_ => by
    rw [none_ k d r defined found key] at lost
    cases lost
  have line : getLine (queueWrite l d.binding.addr d.binding.point value .internal t) l = { getLine t l with
      queue := joinQueue d.binding.addr d.binding.point value .internal (getLine t l).queue } := by
    cases l <;> rfl
  refine ⟨?_, before.raises.trans (queueWrite_raises _ _ _ _ _ _), fun i q at_ => ?_, ?_, fun o apart => ?_, ?_,
    fun e member => ?_, ?_, ?_⟩
  · rw [queueWrite_eq, setLine_frame, before.frame]
  · obtain ⟨q', found', fades, kept⟩ := before.points i q at_
    rw [queueWrite_eq, setLine_frame, binding]
    by_cases own : i = pointKey d.binding
    · subst own
      refine ⟨{ q' with lastWrite := .queued }, slotGet_slotChange_same found', ?_, fun p key none_ => ?_⟩
      · refine fades.trans ⟨rfl, .inl rfl, id⟩
      · exact absurd none_ (reached key.symm)
    · exact ⟨q', (slotGet_slotChange_ne own).trans found', fades, kept⟩
  · rw [line, before.own]
  · have same : getLine (queueWrite l d.binding.addr d.binding.point value .internal t) o = getLine t o := by
      cases l <;> cases o <;> first | exact absurd rfl apart | rfl
    rw [same, before.other o apart]
  · rw [line]
    exact before.identities.trans (joinQueue_identities _ _ _ _ _)
  · rw [line] at member
    rcases joinQueue_mem member with ⟨e₁, member₁, same, tries⟩ | rfl
    · rcases before.entries e₁ member₁ with ⟨e₀, member₀, same₀, tries₀⟩ | ⟨internal, tries₀, reached⟩
      · refine .inl ⟨e₀, member₀, same.trans same₀, ?_⟩
        omega
      · refine .inr ⟨(identityOf_origin same).trans internal, by omega, ?_⟩
        rw [identityOf_pointOf same]
        exact reached
    · exact .inr ⟨rfl, rfl, reached (by rw [pointOf, binding])⟩
  · intro i x at_
    rw [queueWrite_loads]
    exact before.loads i x at_
  · intro i none_
    rw [queueWrite_loads]
    exact before.absent i none_

theorem loadTakesContact_renews (field : onLine s.config l k) :
    RenewSide l s (loadTakesContact .unconfirmed k s) := by
  cases defined : slotGet s.config.loads k with
  | none =>
    simp only [loadTakesContact, defined]
    exact .refl s
  | some d =>
    cases found : slotGet s.loads k with
    | none =>
      simp only [loadTakesContact, defined, found]
      exact .refl s
    | some r =>
      cases lost : r.controlled with
      | true =>
        rw [loadTakesContact_same defined found (by rw [lost]; rfl)]
        exact .refl s
      | false =>
        have changed := slotGet_slotChange_same (f := readmitLoad (readmittedFraction s d.kind)) found
        rw [loadTakesContact_readmits defined found lost rfl, checkCommand]
        split
        · rw [issueCommand_field (l := l) (by exact defined) (by exact changed) (field d defined)]
          refine queueWrite_renews ?_ defined found lost (field d defined) _
          have twice (x : LoadRec) : changeLoad k (commanded (changeLoad k
              (readmitLoad (readmittedFraction s d.kind)) s).now x.applied) (changeLoad k
              (readmitLoad (readmittedFraction s d.kind)) s) = changeLoad k (fun y => commanded s.now x.applied
                (readmitLoad (readmittedFraction s d.kind) y)) s := by
            simp only [changeLoad, slotChange_slotChange]
          rw [twice]
          exact changeLoad_renews found lost _
        · exact changeLoad_renews found lost _

/-- R123: a defined load that takes the report is CONTROLLED. -/
theorem loadTakesContact_controlled (defined : slotGet s.config.loads k = some d)
    (found : slotGet s.loads k = some r) :
    ∃ r', slotGet (loadTakesContact .unconfirmed k s).loads k = some r' ∧ r'.controlled = true := by
  cases controlled : r.controlled with
  | true =>
    rw [loadTakesContact_same defined found (by rw [controlled]; rfl)]
    exact ⟨r, found, controlled⟩
  | false =>
    rw [loadTakesContact_readmits defined found controlled rfl, checkCommand_changed defined found]
    refine ⟨_, rfl, ?_⟩
    unfold afterCheck
    split <;> rfl

end

/-- The load stands and is CONTROLLED. -/
def isControlled (k : Nat) (s : State) : Prop := ∃ r, slotGet s.loads k = some r ∧ r.controlled = true

theorem RenewSide.isControlled {l : LineId} {s t : State} (h : RenewSide l s t) {k : Nat} (before : isControlled k s) :
    isControlled k t := by
  obtain ⟨r, found, controlled⟩ := before
  obtain ⟨r', found', same⟩ := h.loads k r found
  exact ⟨r', found', by rw [same controlled]; exact controlled⟩

section

variable {l : LineId} {s : State} (ordered : slotWf s.config.loads = true)

include ordered

theorem loadContact_renews (addr : Nat) : RenewSide l s (loadContact (busOf l) addr .unconfirmed s) :=
  forEach_keeps (P := RenewSide l s) (fun k member _ h => h.trans (loadTakesContact_renews (by
    rw [h.config]
    exact nodeLoads_onLine ordered l addr k member))) (.refl s)

theorem loadContact_controlled {addr k : Nat} {d : LoadDef} {r : LoadRec} (defined : slotGet s.config.loads k = some d)
    (found : slotGet s.loads k = some r) (bound : d.binding.bus = busOf l ∧ d.binding.addr = addr) :
    isControlled k (loadContact (busOf l) addr .unconfirmed s) := by
  have member : k ∈ slotsWhere (fun d : LoadDef => d.binding.bus == busOf l && d.binding.addr == addr)
      s.config.loads := (mem_slotsWhere_iff ordered).mpr ⟨d, defined, by simp [bound.1, bound.2]⟩
  have step (j : Nat) (listed : j ∈ slotsWhere (fun d : LoadDef => d.binding.bus == busOf l && d.binding.addr == addr)
      s.config.loads) (t : State) (h : RenewSide l s t) : RenewSide l t (loadTakesContact .unconfirmed j t) := by
    refine loadTakesContact_renews ?_
    rw [h.config]
    exact nodeLoads_onLine ordered l addr j listed
  refine forEach_reaches (I := RenewSide l s) (fun j listed t h => h.trans (step j listed t h)) (fun t h => ?_)
    (fun j listed t h => (step j listed t h).isControlled) member (.refl s)
  obtain ⟨r', found', -⟩ := h.loads k r found
  exact loadTakesContact_controlled (by rw [h.config]; exact defined) found'

end

end Sys2Proof.Machine


/-! SUPPORT and PROOFS. Rest, listening, recovery and noise of a line (R28, R46, R47, R48). -/

namespace Sys2Proof.Machine

open Sys2Proof.Claims

/-! ## The nodes of a line that is renewed (R48, R49) -/

/-- Line `l` is OK in `s`, with the nodes that it had on `before` renewed. -/
def Renewed (l : LineId) (before : Line) (s : State) : Prop := (getLine s l).state = .ok ∧ ∃ f : NodeRec → NodeRec,
  (∀ n, (f n).state = if n.state = .service then .service else .unprobed)
    ∧ (getLine s l).nodes = slotMap (fun _ => f) before.nodes

theorem Renewed.kept {l : LineId} {before : Line} {s t : State} (h : Renewed l before s)
    (state : (getLine t l).state = (getLine s l).state) (nodes : (getLine t l).nodes = (getLine s l).nodes) :
    Renewed l before t := by
  unfold Renewed
  rw [state, nodes]
  exact h

section

variable {l : LineId} {before : Line} {s : State} (renewed : Renewed l before s)

include renewed

/-- R44: a node of a renewed line is UNCONFIRMED, but for one in SERVICE. -/
theorem Renewed.contact_of_node {addr : Nat} {n : NodeRec} (found : slotGet before.nodes addr = some n) :
    contactOf s (busOf l) addr = if n.state = .service then .inService else .unconfirmed := by
  obtain ⟨ok, f, state, nodes⟩ := renewed
  rw [contactOf_busOf, lineContact, nodes, slotGet_slotMap, found]
  simp only [Option.map_some, ok, state]
  split <;> rfl

theorem Renewed.contact (addr : Nat) : contactOf s (busOf l) addr = lineContact before addr
    ∨ contactOf s (busOf l) addr = .unconfirmed := by
  cases found : slotGet before.nodes addr with
  | none =>
    obtain ⟨ok, f, state, nodes⟩ := renewed
    rw [contactOf_busOf, lineContact, nodes, slotGet_slotMap, found, lineContact, found]
    exact .inl rfl
  | some n =>
    rw [renewed.contact_of_node found, lineContact, found]
    by_cases service : n.state = .service
    · rw [if_pos service]
      exact .inl (by simp only [service, contactFrom])
    · exact .inr (if_neg service)

theorem RenewSide.keepsRenewed {t : State} (h : RenewSide l s t) : Renewed l before t := renewed.kept h.state h.nodes

variable (ordered : slotWf s.config.loads = true)

include ordered

omit renewed in
/-- A report of a node that is newly UNCONFIRMED. -/
theorem unconfirmed_renews (addr : Nat) : RenewSide l s
    (loadContact (busOf l) addr .unconfirmed (reportedToDoors (busOf l) addr .unconfirmed s)) := by
  have doors : RenewSide l s (reportedToDoors (busOf l) addr .unconfirmed s) :=
    .of_fades (reportedToDoors_fades rfl _ _ s) (reportedToDoors_loads _ _ s)
  refine doors.trans (loadContact_renews ?_ addr)
  rw [doors.config]
  exact ordered

theorem renewReport_renews (addr : Nat) :
    RenewSide l s (reportContact (busOf l) addr (lineContact before addr) s) := by
  by_cases same : contactOf s (busOf l) addr = lineContact before addr
  · rw [reportContact_same same]
    exact .refl s
  · have reached := (renewed.contact addr).resolve_left same
    rw [reportContact_changed reached (by rw [← reached]; exact same)]
    exact unconfirmed_renews ordered addr

omit renewed ordered in
/-- The nodes of a renewed line are reported one after another. -/
theorem renewReport_step {t : State} (renewed : Renewed l before s) (ordered : slotWf s.config.loads = true)
    (h : RenewSide l s t) (addr : Nat) :
    RenewSide l t (reportContact (busOf l) addr (lineContact before addr) t) :=
  renewReport_renews (h.keepsRenewed renewed) (by rw [h.config]; exact ordered) addr

theorem reportLine_renews : RenewSide l s (reportLine l before s) :=
  forEach_keeps (P := RenewSide l s) (fun addr _ _ h => h.trans (renewReport_step renewed ordered h addr)) (.refl s)

/-- R123: the loads of a node that is newly UNCONFIRMED are CONTROLLED. -/
theorem reportLine_controlled {addr k : Nat} {n : NodeRec} {d : LoadDef} {r : LoadRec}
    (node : slotGet before.nodes addr = some n) (other : n.state ≠ .service)
    (new : lineContact before addr ≠ .unconfirmed) (defined : slotGet s.config.loads k = some d)
    (found : slotGet s.loads k = some r) (bound : d.binding.bus = busOf l ∧ d.binding.addr = addr) :
    isControlled k (reportLine l before s) := by
  refine forEach_reaches (I := RenewSide l s) (fun y _ t h => h.trans (renewReport_step renewed ordered h y))
    (fun t h => ?_) (fun y _ t h => (renewReport_step renewed ordered h y).isControlled)
    (mem_slotNumbers_of_found node) (.refl s)
  have reached : contactOf t (busOf l) addr = .unconfirmed := by
    rw [(h.keepsRenewed renewed).contact_of_node node, if_neg other]
  have doors : RenewSide l t (reportedToDoors (busOf l) addr .unconfirmed t) :=
    .of_fades (reportedToDoors_fades rfl _ _ t) (reportedToDoors_loads _ _ t)
  have here := h.trans doors
  obtain ⟨r', found', -⟩ := here.loads k r found
  rw [reportContact_changed reached new.symm]
  exact loadContact_controlled (by rw [here.config]; exact ordered) (by rw [here.config]; exact defined) found' bound

end

/-! ## What reports leave of the lines -/

/-- The lines stay but for their queues. -/
def LinesStand (s t : State) : Prop := ∀ l, getLine t l = { getLine s l with queue := (getLine t l).queue }

theorem LinesStand.of_lines {s t : State} (a : t.lineA = s.lineA) (b : t.lineB = s.lineB) : LinesStand s t :=
  fun l => by rw [getLine_congr a b]

theorem reportsClosed_lines : ReportsClosed LinesStand where
  refl _ _ := rfl
  trans h k l := (k l).trans (by rw [h l])
  hold z d seconds s := .of_lines (by rw [(holdEntry_pres z d seconds s).frame])
    (by rw [(holdEntry_pres z d seconds s).frame])
  release z d ms s := .of_lines (by rw [(releaseEntry_pres z d ms s).frame])
    (by rw [(releaseEntry_pres z d ms s).frame])
  doorNotice _ _ _ _ _ _ := .of_lines rfl rfl
  door _ _ _ := .of_lines rfl rfl
  point _ _ _ := .of_lines rfl rfl
  contact bus addr new s := .of_lines (by rw [(presenceContact_pres bus addr new s).frame])
    (by rw [(presenceContact_pres bus addr new s).frame])
  terminal _ _ _ := .of_lines rfl rfl
  queue l _ _ _ _ := fun other => by cases l <;> cases other <;> rfl
  command _ _ _ _ := .of_lines rfl rfl
  lose _ _ _ _ _ _ _ := .of_lines rfl rfl
  readmit _ _ _ _ _ _ _ := .of_lines rfl rfl

/-- R29: a grant leaves the state and the count of a line. -/
theorem grantLine_state (now : Nat) (cfg : LineCfg) (line : Line) :
    (grantLine now cfg line).state = line.state ∧ (grantLine now cfg line).errors = line.errors := by
  unfold grantLine
  split
  · exact ⟨rfl, rfl⟩
  · split
    · exact ⟨rfl, rfl⟩
    · rename_i node work _
      cases work with
      | probe => exact ⟨rfl, rfl⟩
      | readPoints first count oneOff => cases oneOff <;> exact ⟨rfl, rfl⟩
      | writePoint e => exact ⟨rfl, rfl⟩
      | fetchEvents => exact ⟨rfl, rfl⟩

/-! ## Recovery (R48) -/

/-- The state of a line at the moment of its recovery, before its nodes are reported. -/
def recoveryBase (l : LineId) (s : State) : State :=
  raise .lineOk (.line l) (some 0) none (changeLine l (fun line => { line with
    state := .ok
    errors := 0
    nodes := slotMap (fun _ n => renewNode s.now n) line.nodes
    scan := dueAtOnce s.now (fun addr => (slotGet (getLine s l).nodes addr).any fun n => n.state == .service)
      line.scan }) s)

theorem recoverLine_eq (l : LineId) (s : State) : recoverLine l s = reportLine l (getLine s l) (recoveryBase l s) := rfl

theorem renewNode_state (now : Nat) (n : NodeRec) :
    (renewNode now n).state = if n.state = .service then .service else .unprobed := by
  unfold renewNode
  split
  · assumption
  · rfl

section

variable {l : LineId} {s : State}

theorem recoveryBase_frame : recoveryBase l s = { s with
    lineA := (recoveryBase l s).lineA, lineB := (recoveryBase l s).lineB
    notices := (recoveryBase l s).notices, lost := (recoveryBase l s).lost } := by
  cases l <;> rfl

theorem recoveryBase_line : getLine (recoveryBase l s) l = { getLine s l with
    state := .ok
    errors := 0
    nodes := slotMap (fun _ n => renewNode s.now n) (getLine s l).nodes
    scan := dueAtOnce s.now (fun addr => (slotGet (getLine s l).nodes addr).any fun n => n.state == .service)
      (getLine s l).scan } := by
  cases l <;> rfl

theorem recoveryBase_other {other : LineId} (apart : other ≠ l) :
    getLine (recoveryBase l s) other = getLine s other := by
  cases l <;> cases other <;> first | exact absurd rfl apart | rfl

theorem recoveryBase_raises : Raises (fun _ => True) s (recoveryBase l s) :=
  (changeLine_raises _ _ _).trans (.raised trivial)

theorem recoveryBase_told : Told ⟨.lineOk, s.now, .line l, some 0, none⟩ s (recoveryBase l s) := by
  have told := told_raise .lineOk (.line l) (some 0) none (changeLine l (fun line => { line with
    state := .ok
    errors := 0
    nodes := slotMap (fun _ n => renewNode s.now n) line.nodes
    scan := dueAtOnce s.now (fun addr => (slotGet (getLine s l).nodes addr).any fun n => n.state == .service)
      line.scan }) s)
  cases l <;> exact told

theorem recoveryBase_renewed : Renewed l (getLine s l) (recoveryBase l s) := by
  unfold Renewed
  rw [recoveryBase_line]
  exact ⟨rfl, renewNode s.now, renewNode_state s.now, rfl⟩

theorem dueAtOnce_get (now : Nat) (p : Nat → Bool) (scan : Table ScanTime) {addr first : Nat} (small : first ≤ 15) :
    slotGet (dueAtOnce now p scan) (scanKey addr first) = (slotGet scan (scanKey addr first)).map fun t =>
      if p addr then { t with due := now } else t := by
  have node : scanKey addr first / 16 = addr := by
    unfold scanKey
    omega
  rw [dueAtOnce, slotGet_slotMap, node]

end

end Sys2Proof.Machine

namespace Sys2Proof.Claims

open Sys2Proof.Machine

/-- R48: the recovery of a line that is DOWN. -/
theorem lineRecovered_holds {l : LineId} {s : State} (down : isDown (getLine s l) = true)
    (ordered : slotWf s.config.loads = true) : lineRecovered l s (recoverLine l s) := by
  have loads : (recoveryBase l s).loads = s.loads := by rw [recoveryBase_frame]
  have config : (recoveryBase l s).config = s.config := by rw [recoveryBase_frame]
  have wf : slotWf (recoveryBase l s).config.loads = true := by rw [config]; exact ordered
  have reports := reportLine_renews recoveryBase_renewed wf
  rw [← recoverLine_eq] at reports
  have left : getLine (recoverLine l s) l = { getLine s l with
      state := .ok
      errors := 0
      nodes := slotMap (fun _ n => renewNode s.now n) (getLine s l).nodes
      scan := dueAtOnce s.now (fun addr => (slotGet (getLine s l).nodes addr).any fun n => n.state == .service)
        (getLine s l).scan
      queue := (getLine (recoverLine l s) l).queue } := by
    refine reports.own.trans ?_
    rw [recoveryBase_line]
  refine ⟨?_, ?_, fun addr n found => ?_, fun addr first x small found => ?_, ?_,
    fun k d r n defined found bus node other => ?_, fun other apart => ?_, ?_⟩
  · rw [left]
  · exact recoveryBase_told.after recoveryBase_raises reports.raises
  · rw [left]
    dsimp only
    rw [slotGet_slotMap, found]
    simp only [Option.map_some, renewNode]
    split <;> rfl
  · rw [left]
    dsimp only
    rw [dueAtOnce_get _ _ _ small, found]
    refine ⟨fun ⟨n, node, service⟩ => ?_, fun other => ?_⟩
    · simp [node, service]
    · have no : ((slotGet (getLine s l).nodes addr).any fun n => n.state == .service) = false := by
        cases node : slotGet (getLine s l).nodes addr with
        | none => rfl
        | some n => simpa using fun service => other ⟨n, node, service⟩
      simp [no]
  · have kept := reports.identities
    rw [recoveryBase_line] at kept
    exact kept
  · have new : lineContact (getLine s l) d.binding.addr ≠ .unconfirmed := by
      unfold isDown at down
      rw [lineContact, node]
      cases state : (getLine s l).state <;> simp_all [contactFrom]
    obtain ⟨r', found', controlled⟩ := reportLine_controlled recoveryBase_renewed wf node other new
      (by rw [config]; exact defined) (by rw [loads]; exact found) ⟨bus, rfl⟩
    obtain ⟨r₁, found₁, same⟩ := reports.loads k r (by rw [loads]; exact found)
    rw [← recoverLine_eq] at found'
    obtain rfl : r' = r₁ := Option.some.inj (found'.symm.trans found₁)
    exact ⟨r', found', controlled, same⟩
  · rw [reports.other other apart, recoveryBase_other apart]
  · refine reports.frame.trans ?_
    rw [recoveryBase_frame]

end Sys2Proof.Claims

namespace Sys2Proof.Proofs

open Sys2Proof.Machine Sys2Proof.Claims

section

variable {l : LineId} {s : State}

theorem setLine_setLine (a b : Line) : setLine (setLine s l a) l b = setLine s l b := by
  cases l <;> rfl

/-! ## The line states (R46) -/

theorem judgeLine_still (calm : (getLine s l).state = .ok ∧ (getLine s l).errors < 96
    ∨ (getLine s l).state = .warn ∧ 96 ≤ (getLine s l).errors) : judgeLine l s = s := by
  rcases calm with ⟨ok, few⟩ | ⟨warn, many⟩
  · simp only [judgeLine, ok]
    exact if_neg (Nat.not_le.mpr few)
  · simp only [judgeLine, warn]
    exact if_neg (Nat.not_lt.mpr many)

theorem judgeLine_warns (ok : (getLine s l).state = .ok) (many : 96 ≤ (getLine s l).errors)
    (fits : (getLine s l).errors ≤ 255) : judgeLine l s = raise .lineWarn (.line l) (some (getLine s l).errors) none
      (setLine s l { getLine s l with state := .warn }) := by
  simp only [judgeLine, ok]
  rw [if_pos (by exact many), quantity_of_le (by omega)]
  rfl

/-! ## Noise (R28) -/

theorem hearNoise_counted (running : isDown (getLine s l) = false)
    (still : (getLine s l).noiseCounted = true ∨ (getLine s l).inFlight ≠ none) : hearNoise l s = s := by
  have counted : ((getLine s l).inFlight.isSome || (getLine s l).noiseCounted) = true := by
    rcases still with counted | busy
    · simp [counted]
    · simp [Option.isSome_iff_ne_none.mpr busy]
  unfold isDown at running
  simp only [hearNoise]
  split <;> simp_all

theorem hearNoise_new (running : isDown (getLine s l) = false) (idle : (getLine s l).inFlight = none)
    (new : (getLine s l).noiseCounted = false) :
    hearNoise l s = lineFault l (changeLine l (fun x => { x with noiseCounted := true }) s) := by
  unfold isDown at running
  simp only [hearNoise]
  split <;> simp_all

/-- R46: a line fault that leaves the line up counts 8. -/
theorem noise_counts (running : isDown (getLine s l) = false) (fits : (getLine s l).errors + 8 ≤ 255) :
    lineFault l (changeLine l (fun x => { x with noiseCounted := true }) s)
      = judgeLine l (setLine s l { getLine s l with noiseCounted := true, errors := (getLine s l).errors + 8 }) := by
  have up : isDown { getLine s l with noiseCounted := true } = false := running
  have below : ¬ 255 < (getLine s l).errors + 8 := Nat.not_lt.mpr fits
  simp only [lineFault, changeLine, getLine_setLine, up, Bool.false_eq_true, if_false, if_neg below,
    setLine_setLine]

theorem noise_fells (running : isDown (getLine s l) = false) (many : 255 < (getLine s l).errors + 8) :
    lineFault l (changeLine l (fun x => { x with noiseCounted := true }) s)
      = enterLineDown l (changeLine l (fun x => { x with noiseCounted := true }) s) := by
  have up : isDown { getLine s l with noiseCounted := true } = false := running
  simp only [lineFault, getLine_changeLine, up, Bool.false_eq_true, if_false, if_pos many]

/-! ## Recovery (R48) -/

theorem recovered_line : ∃ left, getLine (grantLines (recoverLine l s)) l = left ∧ left.state = .ok
    ∧ left.errors = 0 := by
  have stands := reportsClosed_lines.reportLine l (getLine s l) (recoveryBase l s) l
  rw [← recoverLine_eq, recoveryBase_line] at stands
  have kept := grantLine_state (recoverLine l s).now (lineCfg (recoverLine l s).config l) (getLine (recoverLine l s) l)
  refine ⟨_, getLine_grantLines l _, ?_, ?_⟩
  · rw [kept.1, stands]
  · rw [kept.2, stands]

theorem recovered_node {addr : Nat} {n : NodeRec} (found : slotGet (getLine s l).nodes addr = some n) :
    ∃ n', slotGet (getLine (grantLines (recoverLine l s)) l).nodes addr = some n' ∧ n'.score = 0
      ∧ n'.state = if n.state = .service then .service else .unprobed := by
  have node : slotGet (getLine (recoverLine l s) l).nodes addr = some (renewNode s.now n) := by
    rw [recoverLine_eq, reportsClosed_nodes.reportLine _ _ _ l, recoveryBase_line]
    dsimp only
    rw [slotGet_slotMap, found]
    rfl
  obtain ⟨n', found', same⟩ := grantLines_node node
  refine ⟨n', found', ?_, ?_⟩
  · rw [same]
    dsimp only
    unfold renewNode
    split <;> rfl
  · rw [same]
    exact renewNode_state s.now n

theorem recovered_now : (grantLines (recoverLine l s)).now = s.now := by
  have granted_ : (grantLines (recoverLine l s)).now = (recoverLine l s).now := rfl
  rw [granted_, recoverLine_eq, (reportLine_side _ _ _).frame]
  dsimp only
  rw [recoveryBase_frame]

/-! ## The events -/

variable (on : s.powered = true)

include on

theorem exec_idleNoise : exec (.idleNoise l) s = .next (hearNoise l s) := powered_on on

theorem exec_lineRestEnd {ends : Nat} (rests : (getLine s l).state = .down (.resting ends)) (come : ends ≤ s.now) :
    exec (.lineRestEnd l) s
      = .next (setLine s l { getLine s l with state := .down (.listening (ends + 50) 0 false) }) := by
  refine (powered_on on).trans ?_
  simp only [rests]
  exact congrArg _ (whenDue_due come)

theorem exec_listenWindowEnd {ends quiet : Nat} {heard : Bool}
    (listens : (getLine s l).state = .down (.listening ends quiet heard)) (come : ends ≤ s.now) :
    exec (.listenWindowEnd l) s = .next (endWindow l ends quiet heard s) := by
  refine (powered_on on).trans ?_
  simp only [listens]
  exact congrArg _ (whenDue_due come)

end

/-- Settles O44: noise by `noise_counts` and `lineFallen_holds`, the windows by `endWindow` and
`lineRecovered_holds`. -/
theorem lineEventsMoveTheLine : Obligations.LineEventsMoveTheLine := by
  intro l s on
  refine ⟨fun ends rests come => exec_lineRestEnd on rests come, fun ends quiet listens come => ?heard,
    fun ends quiet listens few come => ?quiet, fun ends quiet listens enough come => ?recovers,
    fun ends quiet heard listens => ?marks, fun ends rests => ?rests, fun running idle new => ⟨fun few ok => ?counts,
      fun many fits ok => ?warns, fun many fits warn => ?stays, fun much => ?falls⟩,
    fun running still => ?counted, fun x flies => ?reply⟩
  case heard => exact exec_listenWindowEnd on listens come
  case quiet =>
    rw [exec_listenWindowEnd on listens come, endWindow, if_neg (by simp), if_neg (by exact Nat.not_le.mpr few)]
    rfl
  case recovers =>
    rw [exec_listenWindowEnd on listens come, endWindow, if_neg (by simp), if_pos (by exact enough)]
    obtain ⟨_, rfl, ok, none_⟩ := recovered_line (l := l) (s := s)
    have down : isDown (getLine s l) = true := by
      unfold isDown
      rw [listens]
    exact ⟨_, rfl, recovered_now, ok, none_, fun ordered => ⟨_, rfl, lineRecovered_holds down ordered⟩,
      fun addr n found => recovered_node found⟩
  case marks =>
    rw [exec_idleNoise on]
    simp only [hearNoise, listens]
    rfl
  case rests =>
    rw [exec_idleNoise on]
    simp only [hearNoise, rests]
  case counts =>
    rw [exec_idleNoise on, hearNoise_new running idle new, noise_counts running (by omega), judgeLine_still]
    rw [getLine_setLine]
    exact .inl ⟨ok, few⟩
  case warns =>
    rw [exec_idleNoise on, hearNoise_new running idle new, noise_counts running fits, judgeLine_warns]
    · rw [getLine_setLine, setLine_setLine]
    all_goals rw [getLine_setLine]
    · exact ok
    · exact many
    · exact fits
  case stays =>
    rw [exec_idleNoise on, hearNoise_new running idle new, noise_counts running fits, judgeLine_still]
    rw [getLine_setLine]
    exact .inr ⟨warn, many⟩
  case falls =>
    rw [exec_idleNoise on, hearNoise_new running idle new, noise_fells running much]
    exact ⟨_, rfl, lineFallen_holds idle⟩
  case counted => rw [exec_idleNoise on, hearNoise_counted running still]
  case reply =>
    refine (powered_on on).trans ?_
    simp only [flies]
    rfl

end Sys2Proof.Proofs


/-! SUPPORT. A line that is restarted (R49). -/

namespace Sys2Proof.Machine

open Sys2Proof.Claims

/-! ## Work that is given up -/

/-- A point that keeps its value, and whose status only fades. -/
structure Weakens (q q' : PointRec) : Prop where
  value : q'.value = q.value
  status : StatusFades q.status q'.status
  oneOff : q.oneOffWaiting = false → q'.oneOffWaiting = false

theorem Weakens.refl (q : PointRec) : Weakens q q := ⟨rfl, .inl rfl, id⟩

theorem Weakens.trans {a b c : PointRec} (h : Weakens a b) (k : Weakens b c) : Weakens a c :=
  ⟨k.value.trans h.value, h.status.trans k.status, k.oneOff ∘ h.oneOff⟩

theorem Fades.weakens {q q' : PointRec} (h : Fades q q') : Weakens q q' :=
  ⟨by rw [h.fields], h.status, h.oneOff⟩

/-- `t` follows `s` as work is given up: points weaken, and nothing else changes. -/
structure CancelSide (s t : State) : Prop where
  frame : t = { s with points := t.points }
  points : ∀ k q, slotGet s.points k = some q → ∃ q', slotGet t.points k = some q' ∧ Weakens q q'

namespace CancelSide

variable {s t v : State}

theorem refl (s : State) : CancelSide s s := ⟨rfl, fun _ q found => ⟨q, found, .refl q⟩⟩

theorem trans (h : CancelSide s t) (k : CancelSide t v) : CancelSide s v := by
  refine ⟨k.frame.trans (by rw [h.frame]), fun i q found => ?_⟩
  obtain ⟨q', found', weak⟩ := h.points i q found
  obtain ⟨q'', found'', weak'⟩ := k.points i q' found'
  exact ⟨q'', found'', weak.trans weak'⟩

theorem each {α : Type} {f : α → State → State} (h : ∀ x s, CancelSide s (f x s)) (items : List α) (s : State) :
    CancelSide s (forEach items f s) := forEach_related refl trans f h items s

theorem point {f : PointRec → PointRec} (weak : ∀ q, Weakens q (f q)) (p : PointRef) (s : State) :
    CancelSide s (changePoint p f s) := by
  refine ⟨rfl, fun k q found => ?_⟩
  by_cases own : k = pointKey p
  · subst own
    exact ⟨f q, slotGet_slotChange_same found, weak q⟩
  · exact ⟨q, (slotGet_slotChange_ne own).trans found, .refl q⟩

theorem line (h : CancelSide s t) (l : LineId) : getLine t l = getLine s l :=
  getLine_congr (by rw [h.frame]) (by rw [h.frame]) l

end CancelSide

theorem writeFailed_cancels (p : PointRef) (tries : Nat) (s : State) : CancelSide s (writeFailed p tries s) :=
  .point (f := fun r => { r with lastWrite := .failed, tries := tries }) (fun _ => ⟨rfl, .inl rfl, id⟩) p s

theorem oneOffEnded_cancels (p : PointRef) (s : State) : CancelSide s (oneOffEnded p s) :=
  .point (fun q => (oneOffDone_fades q).weakens) p s

theorem abandonedWork_cancels (l : LineId) (x : Txn) (s : State) : CancelSide s (abandonedWork l x s) := by
  unfold abandonedWork
  split
  · exact .refl s
  · split
    · exact writeFailed_cancels _ _ s
    · exact oneOffEnded_cancels _ s
    · exact .refl s

/-- R36: the writes of a list end as FAILED. -/
def failWrites (l : LineId) (queue : List QueueEntry) (s : State) : State :=
  forEach queue (fun e => writeFailed (pointOf l e) e.tries) s

theorem failWrites_cancels (l : LineId) (queue : List QueueEntry) (s : State) : CancelSide s (failWrites l queue s) :=
  .each (f := fun e => writeFailed (pointOf l e) e.tries) (fun e t => writeFailed_cancels _ e.tries t) queue s

/-- A point to which none of the writes goes stays as it is. -/
theorem failWrites_other {l : LineId} {queue : List QueueEntry} {k : Nat}
    (apart : ∀ e ∈ queue, pointKey (pointOf l e) ≠ k) (s : State) :
    slotGet (failWrites l queue s).points k = slotGet s.points k := by
  induction queue generalizing s with
  | nil => rfl
  | cons e rest ih =>
    refine (ih (fun x member => apart x (List.mem_cons_of_mem e member)) _).trans ?_
    exact slotGet_slotChange_ne (apart e List.mem_cons_self).symm

/-- The point of a write that ends as FAILED, with its attempts. -/
def failedWith (tries k : Nat) (s : State) : Prop :=
  ∃ q, slotGet s.points k = some q ∧ q.lastWrite = .failed ∧ q.tries = tries

theorem failWrites_failed {l : LineId} {before after : List QueueEntry} {e : QueueEntry} {q : PointRec} {s : State}
    (last : ∀ x ∈ after, pointKey (pointOf l x) ≠ pointKey (pointOf l e))
    (found : getPoint s (pointOf l e) = some q) :
    failedWith e.tries (pointKey (pointOf l e)) (failWrites l (before ++ e :: after) s) := by
  obtain ⟨q', found', -⟩ := (failWrites_cancels l before s).points _ q found
  have step : failWrites l (before ++ e :: after) s
      = failWrites l after (writeFailed (pointOf l e) e.tries (failWrites l before s)) := forEach_append _ _ _ _
  refine ⟨{ q' with lastWrite := .failed, tries := e.tries }, ?_, rfl, rfl⟩
  rw [step, failWrites_other last]
  exact slotGet_slotChange_same found'

/-! ## The steps of a restart -/

/-- The state once the transaction in flight has left line `l`, before the point table is told. -/
def cleared (l : LineId) (s : State) : State :=
  match (getLine s l).inFlight with
  | none => s
  | some _ => changeLine l (fun line => { line with inFlight := none, noiseCounted := false }) s

theorem abandon_eq (l : LineId) (s : State) : abandon l s = match (getLine s l).inFlight with
    | none => cleared l s
    | some x => abandonedWork l x (cleared l s) := by
  unfold abandon cleared
  cases (getLine s l).inFlight <;> rfl

theorem cleared_frame (l : LineId) (s : State) :
    cleared l s = { s with lineA := (cleared l s).lineA, lineB := (cleared l s).lineB } := by
  unfold cleared
  split
  · rfl
  · cases l <;> rfl

theorem cleared_line (l : LineId) (s : State) : getLine (cleared l s) l
    = { getLine s l with inFlight := none, noiseCounted := (getLine (cleared l s) l).noiseCounted } := by
  unfold cleared
  split
  · rename_i none_
    cases line : getLine s l
    simp_all
  · rw [getLine_changeLine]

theorem cleared_other {l other : LineId} (apart : other ≠ l) (s : State) :
    getLine (cleared l s) other = getLine s other := by
  unfold cleared
  split
  · rfl
  · exact getLine_changeLine_ne apart _ s

theorem abandon_cancels (l : LineId) (s : State) : CancelSide (cleared l s) (abandon l s) := by
  rw [abandon_eq]
  split
  · exact .refl _
  · exact abandonedWork_cancels _ _ _

/-- The restart of line `l` from `s` by its steps: the transaction abandoned, the queue failed, the lists emptied, the
line set up afresh, the points marked, the nodes reported. -/
structure Restarting (l : LineId) (s a f e c m r : State) : Prop where
  abandons : a = abandon l s
  fails : f = failWrites l (getLine a l).queue (changeLine l (fun line => { line with queue := [] }) a)
  empties : e = emptyLists l f
  renews : c = changeLine l (fun line => { line with
    state := .ok, errors := 0, nodes := slotMap (fun _ n => restartNode s.now n) line.nodes }) e
  marks : m = markLineStale l c
  reports : r = reportLine l (getLine s l) m

theorem restarting (l : LineId) (s : State) : ∃ a f e c m r, Restarting l s a f e c m r
    ∧ restartLine l s = if (getLine s l).state = .ok then r else raise .lineOk (.line l) (some 0) none r :=
  ⟨_, _, _, _, _, _, ⟨rfl, rfl, rfl, rfl, rfl, rfl⟩, rfl⟩

theorem changeLine_frame (l : LineId) (g : Line → Line) (t : State) :
    changeLine l g t = { t with lineA := (changeLine l g t).lineA, lineB := (changeLine l g t).lineB } :=
  setLine_frame t l _

/-- The lines and the points change alone. -/
def LinesAndPoints (s t : State) : Prop := t = { s with lineA := t.lineA, lineB := t.lineB, points := t.points }

theorem LinesAndPoints.trans {s t v : State} (h : LinesAndPoints s t) (k : LinesAndPoints t v) : LinesAndPoints s v :=
  Eq.trans k (by rw [h])

theorem changeLine_linesAndPoints (l : LineId) (g : Line → Line) (s : State) : LinesAndPoints s (changeLine l g s) := by
  cases l <;> rfl

theorem CancelSide.linesAndPoints {s t : State} (h : CancelSide s t) : LinesAndPoints s t :=
  h.frame.trans (by rw [h.frame])

/-- The lines, the field and what it tells change alone. -/
def FieldOnly (s t : State) : Prop := t = { s with
  lineA := t.lineA, lineB := t.lineB, points := t.points, doors := t.doors, presence := t.presence, loads := t.loads
  notices := t.notices, lost := t.lost }

theorem FieldOnly.trans {s t v : State} (h : FieldOnly s t) (k : FieldOnly t v) : FieldOnly s v :=
  Eq.trans k (by rw [h])

theorem LinesAndPoints.fieldOnly {s t : State} (h : LinesAndPoints s t) : FieldOnly s t := Eq.trans h (by rw [h])

theorem FadeSide.fieldOnly {u : UnknownCause} {s t : State} (h : FadeSide u s t) : FieldOnly s t :=
  h.frame.trans (by rw [h.frame])

theorem RenewSide.fieldOnly {l : LineId} {s t : State} (h : RenewSide l s t) : FieldOnly s t := h.frame

theorem spared_congr {s t : State} (config : t.config = s.config) (loads : t.loads = s.loads) {p : PointRef} :
    spared t p ↔ spared s p := by
  unfold spared
  rw [config, loads]

namespace Restarting

variable {l : LineId} {s a f e c m r : State} (h : Restarting l s a f e c m r)

include h

theorem a_points {k : Nat} {q : PointRec} (found : slotGet s.points k = some q) :
    ∃ q', slotGet a.points k = some q' ∧ Weakens q q' := by
  rw [h.abandons]
  exact (abandon_cancels l s).points k q (by rw [cleared_frame]; exact found)

theorem a_frame : LinesAndPoints s a := by
  have first : LinesAndPoints s (cleared l s) := by
    unfold cleared
    split
    · rfl
    · exact changeLine_linesAndPoints _ _ s
  rw [h.abandons]
  exact first.trans (abandon_cancels l s).linesAndPoints

theorem a_line : getLine a l = { getLine s l with inFlight := none, noiseCounted := (getLine a l).noiseCounted } := by
  rw [h.abandons, (abandon_cancels l s).line]
  exact cleared_line l s

theorem f_cancels : CancelSide (changeLine l (fun line => { line with queue := [] }) a) f := by
  rw [h.fails]
  exact failWrites_cancels _ _ _

theorem e_ends : FadeSide .unconfirmed (changeLine l (fun line => { line with fetch := [], oneOffs := [] }) f) e := by
  rw [h.empties, emptyLists_eq]
  exact oneOffsEnded_fades _ _ _

theorem m_fades : FadeSide .unconfirmed c m := by
  rw [h.marks]
  exact markLineStale_fades _ _

theorem c_line : getLine c l = { getLine s l with
    state := .ok, errors := 0, nodes := slotMap (fun _ n => restartNode s.now n) (getLine s l).nodes
    fetch := [], oneOffs := [], queue := [], inFlight := none, noiseCounted := (getLine c l).noiseCounted } := by
  rw [h.renews, getLine_changeLine, h.e_ends.line l, getLine_changeLine, h.f_cancels.line l, getLine_changeLine,
    h.a_line]

theorem c_other {other : LineId} (apart : other ≠ l) : getLine c other = getLine s other := by
  rw [h.renews, getLine_changeLine_ne apart, h.e_ends.line other, getLine_changeLine_ne apart, h.f_cancels.line other,
    getLine_changeLine_ne apart, h.abandons, (abandon_cancels l s).line, cleared_other apart]

theorem f_frame : LinesAndPoints s f :=
  (h.a_frame.trans (changeLine_linesAndPoints _ _ a)).trans h.f_cancels.linesAndPoints

theorem c_frame : FieldOnly s c := by
  rw [h.renews]
  exact ((h.f_frame.trans (changeLine_linesAndPoints _ _ f)).fieldOnly.trans h.e_ends.fieldOnly).trans
    (changeLine_linesAndPoints _ _ e).fieldOnly

theorem c_loads : c.loads = s.loads := by
  have loads : e.loads = f.loads := by
    rw [h.empties, emptyLists_eq, oneOffsEnded_loads, changeLine_frame]
  rw [h.renews, changeLine_frame]
  dsimp only
  rw [loads, h.f_frame]

theorem c_raises : Raises AboutDoor s c := by
  have base : Raises AboutDoor s (changeLine l (fun line => { line with fetch := [], oneOffs := [] }) f) := by
    refine .of_same ?_ ?_
    · rw [changeLine_frame, h.f_frame]
    · rw [changeLine_frame, h.f_frame]
  rw [h.renews]
  exact (base.trans h.e_ends.raises).trans (changeLine_raises _ _ _)

theorem m_loads : m.loads = s.loads := by
  rw [h.marks, markLineStale_loads, h.c_loads]

theorem m_config : m.config = s.config := by
  rw [h.m_fades.config, h.c_frame]

theorem m_renewed : Renewed l (getLine s l) m := by
  unfold Renewed
  rw [h.m_fades.line l, h.c_line]
  refine ⟨rfl, restartNode s.now, fun n => ?_, rfl⟩
  unfold restartNode
  split
  · rename_i service
    rw [renewNode_state, if_pos service]
  · rename_i other
    exact (renewNode_state s.now n).trans (if_neg other)

theorem spared_iff {p : PointRef} : spared m p ↔ spared s p := spared_congr h.m_config h.m_loads

theorem c_points {k : Nat} {q : PointRec} (found : slotGet f.points k = some q) :
    ∃ q', slotGet c.points k = some q' ∧ Fades q q' ∧ q'.lastWrite = q.lastWrite := by
  rw [h.renews, changeLine_frame]
  exact h.e_ends.points k q (by rw [changeLine_frame]; exact found)

variable (ordered : slotWf s.config.loads = true)

include ordered

theorem r_renews : RenewSide l m r := by
  rw [h.reports]
  refine reportLine_renews h.m_renewed ?_
  rw [h.m_config]
  exact ordered

/-- What the restart makes of a point once the queue has been failed. -/
theorem later_points {k : Nat} {q : PointRec} (found : slotGet f.points k = some q) :
    ∃ q', slotGet r.points k = some q' ∧ Fades q q'
      ∧ ∀ p, pointKey p = k → spared s p → q'.lastWrite = q.lastWrite := by
  obtain ⟨q₁, found₁, fades₁, kept₁⟩ := h.c_points found
  obtain ⟨q₂, found₂, fades₂, kept₂⟩ := h.m_fades.points k q₁ found₁
  obtain ⟨q₃, found₃, fades₃, kept₃⟩ := (h.r_renews ordered).points k q₂ found₂
  refine ⟨q₃, found₃, (fades₁.trans fades₂).trans fades₃, fun p key none_ => ?_⟩
  rw [kept₃ p key (h.spared_iff.mpr none_), kept₂, kept₁]

theorem fails_write {p : PointRef} {tries : Nat} (failed : failedWith tries (pointKey p) f) (none_ : spared s p) :
    failedWith tries (pointKey p) r := by
  obtain ⟨q, found, written, count⟩ := failed
  obtain ⟨q', found', fades, kept⟩ := h.later_points ordered found
  refine ⟨q', found', (kept p rfl none_).trans written, ?_⟩
  rw [fades.fields]
  exact count

omit ordered in
theorem queue_failed {before after : List QueueEntry} {x : QueueEntry} {q : PointRec}
    (queue : (getLine s l).queue = before ++ x :: after)
    (last : ∀ y ∈ after, pointKey (pointOf l y) ≠ pointKey (pointOf l x)) (found : getPoint s (pointOf l x) = some q) :
    failedWith x.tries (pointKey (pointOf l x)) f := by
  obtain ⟨q', found', -⟩ := h.a_points found
  rw [h.fails, h.a_line]
  dsimp only
  rw [queue]
  refine failWrites_failed last (q := q') ?_
  rw [getPoint, changeLine_frame]
  exact found'

omit ordered in
theorem flight_failed {t : Txn} {x : QueueEntry} {q : PointRec} (flies : (getLine s l).inFlight = some t)
    (valid : t.voided = false) (work : t.work = .writePoint x)
    (apart : ∀ y ∈ (getLine s l).queue, pointKey (pointOf l y) ≠ pointKey (pointOf l x))
    (found : getPoint s (pointOf l x) = some q) : failedWith (x.tries + 1) (pointKey (pointOf l x)) f := by
  have abandoned : a = writeFailed (pointOf l x) (x.tries + 1) (cleared l s) := by
    rw [h.abandons, abandon_eq, flies]
    simp only [abandonedWork, valid, work]
    rfl
  refine ⟨{ q with lastWrite := .failed, tries := x.tries + 1 }, ?_, rfl, rfl⟩
  rw [h.fails, failWrites_other, changeLine_frame]
  · rw [abandoned]
    refine slotGet_slotChange_same ?_
    rw [cleared_frame]
    exact found
  · rw [h.a_line]
    exact apart

omit ordered in
/-- R75: a one-off read that waits or flies has ended before the points are marked. -/
theorem read_ended {p : PointRef} {q : PointRec} (bus : p.bus = busOf l) (found : getPoint s p = some q)
    (waits : (⟨p.addr, p.point⟩ : NodePoint) ∈ (getLine s l).oneOffs ∨ ∃ x count, (getLine s l).inFlight = some x
      ∧ x.voided = false ∧ x.node = p.addr ∧ x.work = .readPoints p.point count true) :
    ∃ q', getPoint c p = some q' ∧ q'.oneOffWaiting = false ∧ q'.status ≠ .pending := by
  obtain ⟨q₁, found₁, -⟩ := h.a_points found
  rcases waits with listed | ⟨x, count, flies, valid, node, work⟩
  · have inF : ∃ q₂, getPoint f p = some q₂ := by
      obtain ⟨q₂, found₂, -⟩ := h.f_cancels.points _ q₁ (by rw [changeLine_frame]; exact found₁)
      exact ⟨q₂, found₂⟩
    obtain ⟨q₂, found₂⟩ := inF
    have line : (getLine f l).oneOffs = (getLine s l).oneOffs := by
      rw [h.f_cancels.line, getLine_changeLine, h.a_line]
    rw [getPoint, h.renews, changeLine_frame, h.empties, emptyLists_eq, line]
    refine oneOffsEnded_done bus listed (q := q₂) ?_
    rw [getPoint, changeLine_frame]
    exact found₂
  · have abandoned : a = oneOffEnded ⟨busOf l, p.addr, p.point⟩ (cleared l s) := by
      rw [h.abandons, abandon_eq, flies]
      simp only [abandonedWork, valid, work, node]
      rfl
    have done : slotGet a.points (pointKey p) = some (oneOffDone q) := by
      rw [abandoned, ← bus]
      refine slotGet_slotChange_same ?_
      rw [cleared_frame]
      exact found
    obtain ⟨q₂, found₂, weak⟩ := h.f_cancels.points _ _ (by rw [changeLine_frame]; exact done)
    obtain ⟨q₃, found₃, fades, -⟩ := h.c_points found₂
    have all := weak.trans fades.weakens
    exact ⟨q₃, found₃, all.oneOff rfl, all.status.not_pending (oneOffDone_not_pending q)⟩

theorem all_points {k : Nat} {q : PointRec} (found : slotGet s.points k = some q) :
    ∃ q', slotGet r.points k = some q' ∧ Weakens q q' := by
  obtain ⟨q₁, found₁, weak₁⟩ := h.a_points found
  obtain ⟨q₂, found₂, weak₂⟩ := h.f_cancels.points k q₁ (by rw [changeLine_frame]; exact found₁)
  obtain ⟨q₃, found₃, fades, -⟩ := h.later_points ordered found₂
  exact ⟨q₃, found₃, (weak₁.trans weak₂).trans fades.weakens⟩

/-- R70: a point of a node of the line is STALE where it held a value. -/
theorem point_staled {p : PointRef} {q : PointRec} (bus : p.bus = busOf l)
    (used : slotUsed (getLine s l).nodes p.addr = true) (defined : pointDefined s.config p = true)
    (found : getPoint s p = some q) :
    ∃ q', getPoint r p = some q' ∧ StatusFades (staleStatus q.status) q'.status := by
  obtain ⟨q₁, found₁, weak₁⟩ := h.a_points found
  obtain ⟨q₂, found₂, weak₂⟩ := h.f_cancels.points _ q₁ (by rw [changeLine_frame]; exact found₁)
  obtain ⟨q₃, found₃, fades₃, -⟩ := h.c_points found₂
  have stale : staledAt (pointKey p) c m := by
    rw [h.marks]
    refine markLineStale_staled bus ?_ ?_
    · obtain ⟨n, node⟩ := (slotUsed_iff _ _).mp used
      rw [h.c_line]
      refine (slotUsed_iff _ _).mpr ⟨restartNode s.now n, ?_⟩
      dsimp only
      rw [slotGet_slotMap, node]
      rfl
    · rw [h.c_frame]
      exact defined
  obtain ⟨q₄, found₄, stale⟩ := stale q₃ found₃
  obtain ⟨q₅, found₅, fades₅, -⟩ := (h.r_renews ordered).points _ q₄ found₄
  exact ⟨q₅, found₅, (((weak₁.trans weak₂).status.trans fades₃.status).staled stale).trans fades₅.status⟩

end Restarting

end Sys2Proof.Machine


/-! SUPPORT and PROOFS. SET_NODE_SERVICE and LINE_RESTART (R43, R49). -/

namespace Sys2Proof.Claims

open Sys2Proof.Machine

/-! ## LINE_RESTART -/

theorem restartNode_other {n : NodeRec} (now : Nat) (other : n.state ≠ .service) : restartNode now n
    = { n with
        state := .unprobed, score := 0, goodProbes := 0, waiting := 0, entered := some now, probeDue := some now } := by
  simp only [restartNode, renewNode, if_neg other]
  rfl

theorem restartNode_service {n : NodeRec} (now : Nat) (service : n.state = .service) :
    restartNode now n = { n with score := 0 } := by
  simp only [restartNode, renewNode, if_pos service]

/-- R49: the restart but for the notice of its end. -/
theorem lineRestarted_of {l : LineId} {s a f e c m r v : State} (h : Restarting l s a f e c m r)
    (ordered : slotWf s.config.loads = true) (ends : v = { r with notices := v.notices, lost := v.lost })
    (told : (getLine s l).state ≠ .ok → Told ⟨.lineOk, s.now, .line l, some 0, none⟩ s v)
    (quiet : (getLine s l).state = .ok → ∀ n ∈ v.notices, n.subject = .line l → n ∈ s.notices) :
    lineRestarted l s v := by
  have renews := h.r_renews ordered
  have points : v.points = r.points := by rw [ends]
  have lines (o : LineId) : getLine v o = getLine r o := getLine_congr (by rw [ends]) (by rw [ends]) o
  have left : getLine v l = { getLine s l with
      state := .ok, errors := 0, nodes := slotMap (fun _ n => restartNode s.now n) (getLine s l).nodes
      fetch := [], oneOffs := [], inFlight := none
      noiseCounted := (getLine c l).noiseCounted, queue := (getLine r l).queue } := by
    rw [lines, renews.own, h.m_fades.line l, h.c_line]
  have failed {p : PointRef} {tries : Nat} (spared_ : spared s p) (was : failedWith tries (pointKey p) f) :
      ∃ q', getPoint v p = some q' ∧ q'.lastWrite = .failed ∧ q'.tries = tries := by
    rw [getPoint, points]
    exact h.fails_write ordered was spared_
  refine ⟨?line, fun addr n found => ?node, fun x member => ?queued, fun before x after queue last q found spared_ =>
    failed spared_ (h.queue_failed queue last found), fun t x flies valid work apart q found spared_ =>
    failed spared_ (h.flight_failed flies valid work apart found), fun p q bus waits found => ?read,
    fun p q bus used defined found => ?stale, told, quiet, fun o apart => ?other, ?frame⟩
  case line => rw [left]
  case node =>
    rw [left]
    dsimp only
    rw [slotGet_slotMap, found, Option.map_some]
    by_cases service : n.state = .service
    · rw [if_pos service, restartNode_service _ service]
    · rw [if_neg service, restartNode_other _ service]
  case queued =>
    rw [lines] at member
    rcases renews.entries x member with ⟨x₀, stood, -⟩ | ⟨internal, tries, reached⟩
    · rw [h.m_fades.line l, h.c_line] at stood
      cases stood
    · exact ⟨internal, tries, fun none_ => reached (h.spared_iff.mpr none_)⟩
  case read =>
    obtain ⟨q₁, found₁, waiting, other⟩ := h.read_ended bus found waits
    obtain ⟨q₂, found₂, fades₂, -⟩ := h.m_fades.points _ q₁ found₁
    obtain ⟨q₃, found₃, fades₃, -⟩ := renews.points _ q₂ found₂
    have all := fades₂.trans fades₃
    exact ⟨q₃, by rw [getPoint, points]; exact found₃, all.oneOff waiting, all.status.not_pending other⟩
  case stale =>
    obtain ⟨q', found', stale⟩ := h.point_staled ordered bus used defined found
    obtain ⟨q₁, found₁, weak⟩ := h.all_points ordered found
    obtain rfl : q' = q₁ := Option.some.inj (found'.symm.trans found₁)
    exact ⟨q', by rw [getPoint, points]; exact found', weak.value, fun was => stale.of_stale was, weak.status.neverRead⟩
  case other => rw [lines, renews.other o apart, h.m_fades.line o, h.c_other apart]
  case frame =>
    have frame : FieldOnly s v := (h.c_frame.trans h.m_fades.fieldOnly).trans
      (renews.fieldOnly.trans (Eq.trans ends (by rw [ends])))
    exact Eq.trans frame (by rw [frame])

theorem lineRestarted_holds {l : LineId} {s : State} (ordered : slotWf s.config.loads = true) :
    lineRestarted l s (restartLine l s) := by
  obtain ⟨a, f, e, c, m, r, h, restarted⟩ := restarting l s
  have renews := h.r_renews ordered
  have raises : Raises AboutDoor s r := (h.c_raises.trans h.m_fades.raises).trans renews.raises
  have now : r.now = s.now := by rw [renews.now, h.m_fades.now, h.c_frame]
  rw [restarted]
  by_cases ok : (getLine s l).state = .ok
  · rw [if_pos ok]
    refine lineRestarted_of h ordered rfl (fun other => absurd ok other) fun _ n member subject => ?_
    rcases raises.origin member with stood | ⟨d, door⟩
    · exact stood
    · rw [subject] at door
      cases door
  · rw [if_neg ok]
    have told := told_raise .lineOk (.line l) (some 0) none r
    rw [now] at told
    exact lineRestarted_of h ordered rfl (fun _ => told.within raises (.raised (P := fun _ => True) trivial)
      (.refl (P := AboutDoor) _)) fun other => absurd other ok

/-! ## SET_NODE_SERVICE -/

/-- R29: a grant takes from the lists of a line alone. -/
theorem grantLine_lists (now : Nat) (cfg : LineCfg) (line : Line) :
    (∀ a ∈ (grantLine now cfg line).fetch, a ∈ line.fetch)
      ∧ ∀ q ∈ (grantLine now cfg line).oneOffs, q ∈ line.oneOffs := by
  unfold grantLine
  split
  · exact ⟨fun _ => id, fun _ => id⟩
  · split
    · exact ⟨fun _ => id, fun _ => id⟩
    · rename_i node work _
      cases work with
      | probe => exact ⟨fun _ => id, fun _ => id⟩
      | readPoints first count oneOff =>
        cases oneOff
        · exact ⟨fun _ => id, fun _ => id⟩
        · exact ⟨fun _ => id, fun _ => List.mem_of_mem_erase⟩
      | writePoint e => exact ⟨fun _ => id, fun _ => id⟩
      | fetchEvents => exact ⟨fun _ => List.mem_of_mem_erase, fun _ => id⟩

section

variable {l : LineId} {addr : Nat} {s : State}

theorem exec_setNodeService {n : NodeRec} {order : Nat} (ready : canTake s) (byte : addr ≤ 255) (small : order ≤ 1)
    (found : slotGet (getLine s l).nodes addr = some n) :
    exec (.setNodeService [byteOf l.ctorIdx, byteOf addr, byteOf order]) s = taken 0x36 .plain .ok []
      (grantLines (if order = 0 then serviceOn l addr n s else serviceOff l addr n s)) := by
  have line : l.ctorIdx < 256 := by cases l <;> decide
  refine (serve_plain_read (handle := handleService) (x := (l.ctorIdx, addr, order)) ready ?_ (by simp)).trans ?_
  · rw [takeService, reader_step (takeByte_byteOf _ _ line), reader_step (takeByte_byteOf _ _ (by omega)),
      reader_step (takeByte_single (by omega))]
    rfl
  · have fits : decide (order ≤ 1) = true := decide_eq_true small
    simp only [handleService, lineOfByte_ctorIdx, fits, found]
    rfl

/-- The change of the node's record, before it is reported. -/
def orderedOn (l : LineId) (addr : Nat) (s : State) : State :=
  changeLine l (fun line => { line with
    nodes := slotChange (fun x => { enterNode s.now .service x with probeDue := none }) line.nodes addr
    scan := dueAtOnce s.now (· == addr) line.scan }) s

theorem serviceOn_eq {n : NodeRec} (other : n.state ≠ .service) : serviceOn l addr n s
    = reportContact (busOf l) addr (contactOf s (busOf l) addr) (orderedOn l addr s) := if_neg other

/-- The node's record and the lists of its line, before it is reported. -/
def orderedOff (l : LineId) (addr : Nat) (s : State) : State :=
  leaveLists l addr (changeLine l (fun line => { line with
    nodes := slotChange (becomeUnprobed s.now) line.nodes addr }) s)

theorem serviceOff_eq {n : NodeRec} (service : n.state = .service) : serviceOff l addr n s
    = reportContact (busOf l) addr (contactOf s (busOf l) addr) (orderedOff l addr s) := if_neg (by simp [service])

theorem leaveLists_line (t : State) : getLine (leaveLists l addr t) l = { getLine t l with
    fetch := (getLine t l).fetch.filter fun a => a != addr
    oneOffs := (getLine t l).oneOffs.filter fun q => !(q.node == addr) } := by
  have lines (gone : List NodePoint) (v : State) : getLine (forEach gone
      (fun q => oneOffEnded ⟨busOf l, q.node, q.point⟩) v) l = getLine v l :=
    (oneOffsEnded_fades (u := .unreachable) l gone v).line l
  unfold leaveLists dropOneOffs
  dsimp only
  rw [lines, getLine_changeLine, getLine_changeLine]

theorem orderedOff_line : getLine (orderedOff l addr s) l = { getLine s l with
    nodes := slotChange (becomeUnprobed s.now) (getLine s l).nodes addr
    fetch := (getLine s l).fetch.filter fun a => a != addr
    oneOffs := (getLine s l).oneOffs.filter fun q => !(q.node == addr) } := by
  rw [orderedOff, leaveLists_line, getLine_changeLine]

/-- R44: a report leaves the lines but for their queues, the configuration and the store. -/
theorem reported_line {old : Contact} (t : State) : getLine (reportContact (busOf l) addr old t) l = { getLine t l with
    queue := (getLine (reportContact (busOf l) addr old t) l).queue } :=
  reportsClosed_lines.reportContact _ _ _ t l

theorem granted_contact {t : State} {n : NodeRec} (found : slotGet (getLine (grantLines t) l).nodes addr = some n)
    (service : n.state = .service) : contactOf (grantLines t) (busOf l) addr = .inService := by
  rw [contactOf_busOf, lineContact, found]
  simp only [contactFrom, service]

end

end Sys2Proof.Claims

namespace Sys2Proof.Proofs

open Sys2Proof.Machine Sys2Proof.Claims

theorem exec_lineRestart {l : LineId} {s : State} (ready : canTake s) :
    exec (.lineRestart [byteOf l.ctorIdx]) s = taken 0x37 .plain .ok [] (grantLines (restartLine l s)) := by
  have line : l.ctorIdx < 256 := by cases l <;> decide
  refine (serve_plain_read (handle := handleLineRestart) (x := l.ctorIdx) ready (takeByte_single line)
    (by simp)).trans ?_
  simp only [handleLineRestart, lineOfByte_ctorIdx]
  rfl

section

variable {l : LineId} {addr : Nat} {n : NodeRec} {s : State}

theorem serviceOn_takes (found : slotGet (getLine s l).nodes addr = some n) (other : n.state ≠ .service) :
    ∃ n', slotGet (getLine (grantLines (serviceOn l addr n s)) l).nodes addr = some n' ∧ n'.state = .service
      ∧ n'.score = n.score ∧ n'.entered = some s.now
      ∧ contactOf (grantLines (serviceOn l addr n s)) (busOf l) addr = .inService
      ∧ (grantLines (serviceOn l addr n s)).config = s.config
      ∧ (grantLines (serviceOn l addr n s)).store = s.store := by
  have frame : LoadSide (orderedOn l addr s) (grantLines (serviceOn l addr n s)) := by
    rw [serviceOn_eq other]
    exact (reportContact_side _ _ _ _).trans (grantLines_side _)
  have base : LinesAndPoints s (orderedOn l addr s) := changeLine_linesAndPoints _ _ s
  have node : slotGet (getLine (serviceOn l addr n s) l).nodes addr
      = some { enterNode s.now .service n with probeDue := none } := by
    rw [serviceOn_eq other, reported_line, orderedOn, getLine_changeLine]
    exact slotGet_slotChange_same found
  obtain ⟨n', found', same⟩ := grantLines_node node
  have state : n'.state = .service := by rw [same]; rfl
  refine ⟨n', found', state, by rw [same]; rfl, by rw [same]; rfl, granted_contact found' state, ?_, ?_⟩
  · rw [frame.frame, base]
  · rw [frame.frame, base]

theorem serviceOff_takes (found : slotGet (getLine s l).nodes addr = some n) (service : n.state = .service) :
    ∃ n', slotGet (getLine (grantLines (serviceOff l addr n s)) l).nodes addr = some n' ∧ n'.state = .unprobed
      ∧ n'.score = 0 ∧ n'.entered = some s.now
      ∧ addr ∉ (getLine (grantLines (serviceOff l addr n s)) l).fetch
      ∧ (∀ q ∈ (getLine (grantLines (serviceOff l addr n s)) l).oneOffs, q.node ≠ addr)
      ∧ (grantLines (serviceOff l addr n s)).config = s.config
      ∧ (grantLines (serviceOff l addr n s)).store = s.store := by
  have frame : LoadSide s (grantLines (serviceOff l addr n s)) := by
    rw [serviceOff_eq service]
    refine .trans ?_ ((leaveLists_side l addr _).trans ((reportContact_side _ _ _ _).trans (grantLines_side _)))
    exact changeLine_side l _ (fun _ => by exact ⟨id, slotNumbers_slotChange _ _ _⟩) s
  have line : getLine (serviceOff l addr n s) l = { getLine s l with
      nodes := slotChange (becomeUnprobed s.now) (getLine s l).nodes addr
      fetch := (getLine s l).fetch.filter fun a => a != addr
      oneOffs := (getLine s l).oneOffs.filter fun q => !(q.node == addr)
      queue := (getLine (serviceOff l addr n s) l).queue } := by
    rw [serviceOff_eq service]
    refine (reported_line _).trans ?_
    rw [orderedOff_line]
  have node : slotGet (getLine (serviceOff l addr n s) l).nodes addr = some (becomeUnprobed s.now n) := by
    rw [line]
    exact slotGet_slotChange_same found
  obtain ⟨n', found', same⟩ := grantLines_node node
  obtain ⟨fetch, oneOffs⟩ := grantLine_lists (serviceOff l addr n s).now (lineCfg (serviceOff l addr n s).config l)
    (getLine (serviceOff l addr n s) l)
  rw [← getLine_grantLines, line] at fetch oneOffs
  refine ⟨n', found', by rw [same]; rfl, by rw [same]; rfl, by rw [same]; rfl, fun member => ?_,
    fun q member here => ?_, by rw [frame.frame], by rw [frame.frame]⟩
  · simpa using fetch addr member
  · simpa [here] using oneOffs q member

end

/-- Settles O41: the orders by `serviceOn_takes` and `serviceOff_takes`, the restart by `lineRestarted_holds`. -/
theorem serviceAndRestartMoveNodes : Obligations.ServiceAndRestartMoveNodes := by
  refine ⟨fun l addr n s ready byte found => ⟨fun other => ?on, fun service => ?off, fun service => ?stillOn,
    fun other => ?stillOff⟩, fun l s ready ordered => ⟨_, exec_lineRestart ready, lineRestarted_holds ordered⟩⟩
  case on =>
    obtain ⟨n', taken_⟩ := serviceOn_takes found other
    exact ⟨_, n', exec_setNodeService ready byte (Nat.zero_le 1) found, taken_⟩
  case off =>
    obtain ⟨n', taken_⟩ := serviceOff_takes found service
    exact ⟨_, n', exec_setNodeService ready byte (Nat.le_refl 1) found, taken_⟩
  case stillOn =>
    refine (exec_setNodeService ready byte (Nat.zero_le 1) found).trans ?_
    rw [if_pos rfl, serviceOn, if_pos service]
  case stillOff =>
    refine (exec_setNodeService ready byte (Nat.le_refl 1) found).trans ?_
    rw [if_neg (by decide), serviceOff, if_pos other]

end Sys2Proof.Proofs


/-! SUPPORT. What the end of a transaction tells (R199): the doors and the zones raise notices of their own alone, and
a line or a node one as its state changes (R40, R46). -/

namespace Sys2Proof.Machine

/-! ## Doors and zones -/

/-- R199: a notice about a door or a zone. -/
def AboutField (n : Notice) : Prop := (∃ d, n.subject = .door d) ∨ ∃ z, n.subject = .zone z

theorem AboutDoor.aboutField {n : Notice} (h : AboutDoor n) : AboutField n := .inl h

theorem makeRoom_about (z : Nat) (s : State) : Raises AboutField s (makeRoom z s) := by
  unfold makeRoom
  split
  · exact .refl s
  · split
    · exact .refl s
    · dsimp only
      split
      · exact .of_same rfl rfl
      · refine .trans ?_ (.trans (.raised (.inr ⟨z, rfl⟩)) (.of_same rfl rfl))
        exact .of_same rfl rfl

theorem refreshEntry_about (z : Nat) (source : PresenceSource) (life : PresenceLife) (s : State) :
    Raises AboutField s (refreshEntry z source life s) := by
  unfold refreshEntry
  split
  · exact .of_same rfl rfl
  · exact (makeRoom_about z s).trans (.of_same rfl rfl)

theorem holdEntry_about (z door seconds : Nat) (s : State) : Raises AboutField s (holdEntry z door seconds s) := by
  unfold holdEntry
  split
  · exact refreshEntry_about _ _ _ s
  · exact .refl s

theorem reportsClosed_about : ReportsClosed (Raises AboutField) where
  refl := .refl
  trans := .trans
  hold := holdEntry_about
  release := releaseEntry_raises
  doorNotice _ d _ _ _ _ := .raised (.inl ⟨d, rfl⟩)
  door _ _ _ := .of_same rfl rfl
  point _ _ _ := .of_same rfl rfl
  contact := presenceContact_raises
  terminal _ _ _ := .of_same rfl rfl
  queue l _ _ _ s := queueWrite_raises l _ _ _ _ s
  command _ _ _ _ := .of_same rfl rfl
  lose _ _ _ _ _ _ _ := .of_same rfl rfl
  readmit _ _ _ _ _ _ _ := .of_same rfl rfl

/-! ## Events and values -/

theorem presenceEvent_about (z : Nat) (p : PointRef) (marked : Bool) (s : State) :
    Raises AboutField s (presenceEvent z p marked s) := by
  unfold presenceEvent
  split
  · exact .refl s
  · dsimp only
    split
    · exact (refreshEntry_about _ _ _ s).trans (.of_same rfl rfl)
    · exact refreshEntry_about _ _ _ s

theorem alertZone_about (p : PointRef) (z : Nat) (s : State) : Raises AboutField s (alertZone p z s) := by
  unfold alertZone
  dsimp only
  split
  · exact (presenceEvent_about _ _ _ s).trans (.raised (.inr ⟨z, rfl⟩))
  · exact presenceEvent_about _ _ _ s

theorem handAccepted_about (p : PointRef) (kind : EventKind) (s : State) :
    Raises AboutField s (handAccepted p kind s) := by
  unfold handAccepted
  split
  · exact .each reportsClosed_about.doorOpened _ s
  · exact .each reportsClosed_about.doorClosed _ s
  · exact .each (fun z t => presenceEvent_about z p false t) _ s

theorem takeEvent_about (bus : Bus) (addr : Nat) (e : FieldEvent) (s : State) :
    Raises AboutField s (takeEvent bus addr e s) := by
  unfold takeEvent
  dsimp only
  refine .trans (.of_same (s := s) rfl rfl) ?_
  unfold actOn
  split
  · exact handAccepted_about _ _ _
  · exact .each (alertZone_about _) _ _
  · exact .refl _

theorem deliverContent_about (l : LineId) (addr : Nat) (work : TxnWork) (content : ReplyContent) (s : State) :
    Raises AboutField s (deliverContent l addr work content s) := by
  unfold deliverContent
  split
  · exact reportsClosed_about.deliverValues _ _ _ _ s
  · exact .each (fun e t => takeEvent_about _ _ e t) _ s
  · exact .refl s

theorem writeResult_about (l : LineId) (e : QueueEntry) (outcome : TxnOutcome) (s : State) :
    Raises AboutField s (writeResult l e outcome s) := by
  unfold writeResult
  split
  · exact reportsClosed_about.writeOk _ _ _ s
  · split
    · exact .refl s
    · exact .of_same rfl rfl

theorem deliver_about (l : LineId) (x : Txn) (outcome : TxnOutcome) (reply : Option GoodReply) (s : State) :
    Raises AboutField s (deliver l x outcome reply s) := by
  have written : Raises AboutField s (match x.work with
      | .writePoint e => writeResult l e outcome s
      | _ => s) := by
    split
    · exact writeResult_about _ _ _ s
    · exact .refl s
  have delivered (t : State) : Raises AboutField t (match reply with
      | some g => deliverContent l x.node x.work g.content (changeLine l (fetchAfter x.node g.waiting) t)
      | none => t) := by
    split
    · exact (changeLine_raises _ _ t).trans (deliverContent_about _ _ _ _ _)
    · exact .refl t
  unfold deliver
  dsimp only
  split
  · exact (written.trans (delivered _)).trans (.of_same rfl rfl)
  · exact written.trans (delivered _)

/-! ## A node (R40, R41, R42) -/

/-- The kind of the notice of a node that has come to a state. -/
def nodeKind : NodeState → NoticeKind
  | .degraded => .nodeDegraded
  | .silent => .nodeSilent
  | _ => .nodeOnline

/-- The notice of a node that has gone from `n` to `new`. -/
def nodeNews (l : LineId) (addr now : Nat) (n new : NodeRec) : Notice :=
  ⟨nodeKind new.state, now, .node l addr, some (new.score : Int), some n.state.ctorIdx⟩

theorem nodeNotice_about (l : LineId) (addr : Nat) (n new : NodeRec) (s : State) :
    Raises (fun m => new.state ≠ n.state ∧ m = nodeNews l addr s.now n new) s (nodeNotice l addr n new s) := by
  unfold nodeNotice
  split
  · exact .refl s
  · rename_i changed
    have moved : new.state ≠ n.state := fun same => changed same.symm
    split
    · rename_i state
      exact .raised ⟨moved, by simp [nodeNews, nodeKind, state]⟩
    · rename_i state
      exact .raised ⟨moved, by simp [nodeNews, nodeKind, state]⟩
    · rename_i state
      exact .raised ⟨moved, by simp [nodeNews, nodeKind, state]⟩
    · exact .refl s

theorem nodeNotice_told (l : LineId) (addr : Nat) {n new : NodeRec} (s : State) (moved : new.state ≠ n.state)
    (worked : new.state = .degraded ∨ new.state = .silent ∨ new.state = .online) :
    Told (nodeNews l addr s.now n new) s (nodeNotice l addr n new s) := by
  have changed : n.state ≠ new.state := fun same => moved same.symm
  rw [nodeNotice, if_neg changed]
  rcases worked with state | state | state <;> simp only [state, nodeNews, nodeKind] <;> exact told_raise _ _ _ _ s

/-- R39 to R42: what a node can come to. -/
theorem nodeAfter_moved (now : Nat) (work : TxnWork) (outcome : TxnOutcome) (reply : Option GoodReply) (n : NodeRec) :
    (nodeAfter now work outcome reply n).state = n.state ∨ (nodeAfter now work outcome reply n).state = .degraded
      ∨ (nodeAfter now work outcome reply n).state = .silent
      ∨ (nodeAfter now work outcome reply n).state = .online := by
  have judged (m : NodeRec) : (judgeNode now m).state = m.state ∨ (judgeNode now m).state = .degraded
      ∨ (judgeNode now m).state = .silent ∨ (judgeNode now m).state = .online := by
    cases state : m.state with
    | online => rw [judgeNode_online state]; split_ifs <;> simp
    | degraded => rw [judgeNode_degraded state]; split_ifs <;> simp
    | unprobed => rw [judgeNode_unprobed state]; split_ifs <;> simp
    | silent => rw [judgeNode_still (.inl state), state]; exact .inl rfl
    | service => rw [judgeNode_still (.inr state), state]; exact .inl rfl
  have probed (m : NodeRec) : (probeNode now (outcome == .good) m).state = m.state
      ∨ (probeNode now (outcome == .good) m).state = .online := by
    unfold probeNode
    split
    · exact .inr rfl
    · exact .inl rfl
    · split
      · exact .inr rfl
      · exact .inl rfl
    · exact .inl rfl
    · exact .inl rfl
  unfold nodeAfter
  dsimp only
  split
  · have first := probed (scoreNode now outcome reply n)
    have second := judged (probeNode now (outcome == .good) (scoreNode now outcome reply n))
    have scored : (scoreNode now outcome reply n).state = n.state := rfl
    rw [scored] at first
    rcases second with same | moved
    · rw [same]
      exact first.imp_right fun h => .inr (.inr h)
    · exact .inr moved
  · exact judged (scoreNode now outcome reply n)

/-- R40: without a probe a node stays, changes between ONLINE and DEGRADED, or falls SILENT. -/
theorem nodeAfter_plain {now : Nat} {work : TxnWork} {outcome : TxnOutcome} {reply : Option GoodReply} {n : NodeRec}
    (plain : work ≠ .probe) : (nodeAfter now work outcome reply n).state = n.state
      ∨ (nodeAfter now work outcome reply n).state = .silent
      ∨ ((n.state = .online ∨ n.state = .degraded) ∧ ((nodeAfter now work outcome reply n).state = .online
        ∨ (nodeAfter now work outcome reply n).state = .degraded)) := by
  rw [nodeAfter_scored (.inl plain)]
  cases state : n.state with
  | online =>
    rw [judgeNode_online (n := scoreNode now outcome reply n) state]
    split_ifs <;> simp
  | degraded =>
    rw [judgeNode_degraded (n := scoreNode now outcome reply n) state]
    split_ifs <;> simp
  | unprobed =>
    rw [judgeNode_unprobed (n := scoreNode now outcome reply n) state]
    split_ifs <;> simp
  | silent =>
    rw [judgeNode_still (n := scoreNode now outcome reply n) (.inl state)]
    exact .inl state
  | service =>
    rw [judgeNode_still (n := scoreNode now outcome reply n) (.inr state)]
    exact .inl state

end Sys2Proof.Machine


/-! SUPPORT. What the outcome of a transaction does to the node that it addressed (R31, R34, R39 to R44). -/

namespace Sys2Proof.Machine

/-! ## Points that fade -/

/-- The points of `s` fade in `t`, and their last writes stay. -/
def PointsFade (s t : State) : Prop := ∀ k q, slotGet s.points k = some q →
  ∃ q', slotGet t.points k = some q' ∧ Fades q q' ∧ q'.lastWrite = q.lastWrite

theorem PointsFade.of_same {s t : State} (same : t.points = s.points) : PointsFade s t :=
  fun _ q found => ⟨q, by rw [same]; exact found, .refl q, rfl⟩

theorem PointsFade.trans {s t v : State} (h : PointsFade s t) (k : PointsFade t v) : PointsFade s v := by
  intro i q found
  obtain ⟨q', found', fades, kept⟩ := h i q found
  obtain ⟨q'', found'', fades', kept'⟩ := k i q' found'
  exact ⟨q'', found'', fades.trans fades', kept'.trans kept⟩

theorem FadeSide.pointsFade {u : UnknownCause} {s t : State} (h : FadeSide u s t) : PointsFade s t := h.points

/-- The lines and the notices change alone. -/
def LinesAndNotices (s t : State) : Prop :=
  t = { s with lineA := t.lineA, lineB := t.lineB, notices := t.notices, lost := t.lost }

theorem LinesAndNotices.refl (s : State) : LinesAndNotices s s := rfl

theorem LinesAndNotices.trans {s t v : State} (h : LinesAndNotices s t) (k : LinesAndNotices t v) :
    LinesAndNotices s v := Eq.trans k (by rw [h])

theorem LinesAndNotices.fieldOnly {s t : State} (h : LinesAndNotices s t) : FieldOnly s t := Eq.trans h (by rw [h])

theorem LinesAndNotices.pointsFade {s t : State} (h : LinesAndNotices s t) : PointsFade s t := .of_same (by rw [h])

theorem changeLine_linesAndNotices (l : LineId) (f : Line → Line) (s : State) :
    LinesAndNotices s (changeLine l f s) := by cases l <;> rfl

theorem raise_linesAndNotices (kind : NoticeKind) (subject : Subject) (a b : Option Int) (s : State) :
    LinesAndNotices s (raise kind subject a b s) := rfl

/-! ## The node's record, its notice and its lists -/

section

variable {l : LineId} {addr : Nat} {n new : NodeRec} {s : State}

/-- The node takes its new record, and the host is told. -/
def nodeNoted (l : LineId) (addr : Nat) (n new : NodeRec) (s : State) : State :=
  nodeNotice l addr n new
    (changeLine l (fun line => { line with nodes := slotChange (fun _ => new) line.nodes addr }) s)

/-- The node takes its new record, before it is reported. -/
def nodeListed (l : LineId) (addr : Nat) (n new : NodeRec) (s : State) : State :=
  nodeLists l addr n new (nodeNoted l addr n new s)

theorem applyToNode_found (found : slotGet (getLine s l).nodes addr = some n) (work : TxnWork) (outcome : TxnOutcome)
    (reply : Option GoodReply) : applyToNode l addr work outcome reply s
      = reportContact (busOf l) addr (contactOf s (busOf l) addr)
        (nodeListed l addr n (nodeAfter s.now work outcome reply n) s) := by
  simp only [applyToNode, found]
  rfl

theorem nodeNotice_frame (t : State) : nodeNotice l addr n new t
    = { t with notices := (nodeNotice l addr n new t).notices, lost := (nodeNotice l addr n new t).lost } := by
  unfold nodeNotice
  split
  · rfl
  · split <;> rfl

theorem nodeNotice_line (t : State) (o : LineId) : getLine (nodeNotice l addr n new t) o = getLine t o :=
  getLine_congr (by rw [nodeNotice_frame]) (by rw [nodeNotice_frame]) o

theorem nodeNoted_linesAndNotices : LinesAndNotices s (nodeNoted l addr n new s) := by
  have noticed (t : State) : LinesAndNotices t (nodeNotice l addr n new t) := by
    refine Eq.trans (nodeNotice_frame t) ?_
    rw [nodeNotice_frame]
  exact (changeLine_linesAndNotices l _ s).trans (noticed _)

theorem leaveLists_fades {u : UnknownCause} (t : State) : ∃ v, LinesAndPoints t v ∧ v.points = t.points
    ∧ v.notices = t.notices ∧ v.lost = t.lost ∧ FadeSide u v (leaveLists l addr t) := by
  unfold leaveLists dropOneOffs
  dsimp only
  refine ⟨_, (changeLine_linesAndPoints l _ t).trans (changeLine_linesAndPoints l _ _), ?_, ?_, ?_,
    oneOffsEnded_fades l _ _⟩
  · rw [changeLine_frame, changeLine_frame]
  · rw [changeLine_frame, changeLine_frame]
  · rw [changeLine_frame, changeLine_frame]

/-- The lists of the node are left only when it falls SILENT. -/
theorem nodeLists_other (t : State) (held : new.state ≠ .silent ∨ new.state = n.state) :
    LinesAndNotices t (nodeLists l addr n new t) := by
  unfold nodeLists
  split
  · exact .refl t
  · rename_i changed
    split
    · rename_i silent
      rcases held with h | h
      · exact absurd silent h
      · exact absurd h.symm changed
    · exact changeLine_linesAndNotices _ _ t
    · exact .refl t

theorem nodeLists_points (t : State) : PointsFade t (nodeLists l addr n new t) := by
  by_cases held : new.state ≠ .silent ∨ new.state = n.state
  · exact (nodeLists_other t held).pointsFade
  · push Not at held
    obtain ⟨silent, moved⟩ := held
    obtain ⟨v, -, points, -, -, fades⟩ := leaveLists_fades (l := l) (addr := addr) (u := .unreachable) t
    rw [nodeLists, if_neg (Ne.symm moved), silent]
    exact (PointsFade.of_same points).trans fades.pointsFade

theorem nodeLists_raises (t : State) : Raises AboutField t (nodeLists l addr n new t) := by
  unfold nodeLists
  split
  · exact .refl t
  · split
    · obtain ⟨v, -, -, notices, lost, fades⟩ := leaveLists_fades (l := l) (addr := addr) (u := .unreachable) t
      exact (Raises.of_same notices lost).trans (fades.raises.mono fun _ => AboutDoor.aboutField)
    · exact changeLine_raises _ _ t
    · exact .refl t

theorem nodeLists_line (t : State) : getLine (nodeLists l addr n new t) l = { getLine t l with
      scan := (getLine (nodeLists l addr n new t) l).scan
      fetch := (getLine (nodeLists l addr n new t) l).fetch
      oneOffs := (getLine (nodeLists l addr n new t) l).oneOffs }
    ∧ (isWorked new.state = true → (getLine (nodeLists l addr n new t) l).fetch = (getLine t l).fetch) := by
  unfold nodeLists
  split
  · exact ⟨rfl, fun _ => rfl⟩
  · split
    · rename_i silent
      rw [Claims.leaveLists_line]
      refine ⟨rfl, fun worked => ?_⟩
      rw [silent] at worked
      cases worked
    · rw [getLine_changeLine]
      exact ⟨rfl, fun _ => rfl⟩
    · exact ⟨rfl, fun _ => rfl⟩

theorem nodeListed_line : getLine (nodeListed l addr n new s) l = { getLine s l with
      nodes := slotChange (fun _ => new) (getLine s l).nodes addr
      scan := (getLine (nodeListed l addr n new s) l).scan
      fetch := (getLine (nodeListed l addr n new s) l).fetch
      oneOffs := (getLine (nodeListed l addr n new s) l).oneOffs }
    ∧ (isWorked new.state = true → (getLine (nodeListed l addr n new s) l).fetch = (getLine s l).fetch) := by
  obtain ⟨line, fetch⟩ := nodeLists_line (l := l) (addr := addr) (n := n) (new := new) (nodeNoted l addr n new s)
  rw [nodeNoted, nodeNotice_line, getLine_changeLine] at line fetch
  exact ⟨line, fetch⟩

theorem nodeListed_points : PointsFade s (nodeListed l addr n new s) :=
  nodeNoted_linesAndNotices.pointsFade.trans (nodeLists_points _)

theorem nodeListed_raises : Raises (fun m => (new.state ≠ n.state ∧ m = nodeNews l addr s.now n new) ∨ AboutField m) s
    (nodeListed l addr n new s) := by
  have now : (changeLine l (fun line => { line with nodes := slotChange (fun _ => new) line.nodes addr }) s).now
      = s.now := by rw [changeLine_frame]
  have news := nodeNotice_about l addr n new
    (changeLine l (fun line => { line with nodes := slotChange (fun _ => new) line.nodes addr }) s)
  rw [now] at news
  exact ((changeLine_raises _ _ s).trans (news.mono fun _ => .inl)).trans
    ((nodeLists_raises _).mono fun _ => .inr)

theorem nodeListed_told (moved : new.state ≠ n.state)
    (reached : new.state = .degraded ∨ new.state = .silent ∨ new.state = .online) :
    Told (nodeNews l addr s.now n new) s (nodeListed l addr n new s) := by
  have now : (changeLine l (fun line => { line with nodes := slotChange (fun _ => new) line.nodes addr }) s).now
      = s.now := by rw [changeLine_frame]
  have told := nodeNotice_told l addr
    (changeLine l (fun line => { line with nodes := slotChange (fun _ => new) line.nodes addr }) s) moved reached
  rw [now] at told
  exact told.within (P := AboutField) (changeLine_raises _ _ s) (nodeNotice_about _ _ _ _ _) (nodeLists_raises _)

theorem nodeListed_other (held : new.state ≠ .silent ∨ new.state = n.state) :
    LinesAndNotices s (nodeListed l addr n new s) :=
  nodeNoted_linesAndNotices.trans (nodeLists_other _ held)

theorem nodeListed_fieldOnly : FieldOnly s (nodeListed l addr n new s) := by
  have noted : LinesAndNotices s (nodeNoted l addr n new s) := nodeNoted_linesAndNotices
  refine noted.fieldOnly.trans ?_
  by_cases held : new.state ≠ .silent ∨ new.state = n.state
  · exact (nodeLists_other _ held).fieldOnly
  · push Not at held
    obtain ⟨silent, moved⟩ := held
    obtain ⟨v, lines, -, -, -, fades⟩ := leaveLists_fades (l := l) (addr := addr) (u := .unreachable)
      (nodeNoted l addr n new s)
    rw [nodeListed, nodeLists, if_neg (Ne.symm moved), silent]
    exact lines.fieldOnly.trans fades.fieldOnly

theorem nodeListed_contact (found : slotGet (getLine s l).nodes addr = some n) :
    contactOf (nodeListed l addr n new s) (busOf l) addr = contactFrom new.state (getLine s l).state := by
  rw [contactOf_busOf, lineContact, nodeListed_line.1]
  dsimp only
  rw [slotGet_slotChange_same found]

theorem contactOf_found (found : slotGet (getLine s l).nodes addr = some n) :
    contactOf s (busOf l) addr = contactFrom n.state (getLine s l).state := by
  rw [contactOf_busOf, lineContact, found]

end

/-! ## The outcome (R39 to R44) -/

/-- What the outcome of a transaction does to its node's line, from `s` to `t`. -/
structure NodeApplied (l : LineId) (addr : Nat) (n new : NodeRec) (s t : State) : Prop where
  node : slotGet (getLine t l).nodes addr = some new
  line : getLine t l = { getLine s l with
    nodes := (getLine t l).nodes, scan := (getLine t l).scan, fetch := (getLine t l).fetch
    oneOffs := (getLine t l).oneOffs, queue := (getLine t l).queue }
  fetch : isWorked new.state = true → (getLine t l).fetch = (getLine s l).fetch
  raises : Raises (fun m => (new.state ≠ n.state ∧ m = nodeNews l addr s.now n new) ∨ AboutField m) s t
  told : new.state ≠ n.state → Told (nodeNews l addr s.now n new) s t
  now : t.now = s.now
  config : t.config = s.config

/-- What the outcome of a transaction that is no probe does to its node's line. -/
structure PlainApplied (l : LineId) (addr : Nat) (s t : State) : Prop where
  queue : (getLine t l).queue = (getLine s l).queue
  points : PointsFade s t
  frame : FieldOnly s t
  still : contactOf s (busOf l) addr = contactOf t (busOf l) addr → LinesAndNotices s t

section

variable {l : LineId} {addr : Nat} {n : NodeRec} {s : State} {work : TxnWork} {outcome : TxnOutcome}
  {reply : Option GoodReply} (found : slotGet (getLine s l).nodes addr = some n)

include found

theorem applyToNode_applied : NodeApplied l addr n (nodeAfter s.now work outcome reply n) s
    (applyToNode l addr work outcome reply s) := by
  obtain ⟨line, fetch⟩ := nodeListed_line (l := l) (addr := addr) (n := n)
    (new := nodeAfter s.now work outcome reply n) (s := s)
  have reported := reportsClosed_lines.reportContact (busOf l) addr (contactOf s (busOf l) addr)
    (nodeListed l addr n (nodeAfter s.now work outcome reply n) s) l
  have about := reportsClosed_about.reportContact (busOf l) addr (contactOf s (busOf l) addr)
    (nodeListed l addr n (nodeAfter s.now work outcome reply n) s)
  have side := applyToNode_side l addr work outcome reply s
  rw [← applyToNode_found found] at reported about
  refine ⟨?_, ?_, fun worked => ?_, nodeListed_raises.trans (about.mono fun _ => .inr), fun moved => ?_,
    by rw [side.frame], by rw [side.frame]⟩
  · rw [reported, line]
    exact slotGet_slotChange_same found
  · rw [reported, line]
  · rw [reported]
    exact fetch worked
  · have reached := (nodeAfter_moved s.now work outcome reply n).resolve_left moved
    exact (nodeListed_told moved reached).after nodeListed_raises about

/-- R44: without a probe a node of a line that is up keeps its contact state or is lost. -/
theorem nodeAfter_contact (plain : work ≠ .probe) (up : isDown (getLine s l) = false) :
    contactOf (nodeListed l addr n (nodeAfter s.now work outcome reply n) s) (busOf l) addr = contactOf s (busOf l) addr
      ∧ ((nodeAfter s.now work outcome reply n).state ≠ .silent
        ∨ (nodeAfter s.now work outcome reply n).state = n.state)
    ∨ contactOf (nodeListed l addr n (nodeAfter s.now work outcome reply n) s) (busOf l) addr = .unreachable
      ∧ contactOf s (busOf l) addr ≠ .unreachable := by
  rw [nodeListed_contact found, contactOf_found found]
  unfold isDown at up
  rcases nodeAfter_plain (now := s.now) (outcome := outcome) (reply := reply) (n := n) plain with same | silent | moved
  · rw [same]
    exact .inl ⟨rfl, .inr rfl⟩
  · rw [silent]
    cases node : n.state <;> cases line : (getLine s l).state <;> simp_all [contactFrom]
  · refine .inl ⟨?_, .inl ?_⟩
    · obtain ⟨rfl' | rfl', h | h⟩ := moved <;> rw [rfl', h] <;> cases line : (getLine s l).state <;>
        simp_all [contactFrom]
    · obtain ⟨-, h | h⟩ := moved <;> rw [h] <;> simp

theorem applyToNode_plain (plain : work ≠ .probe) (up : isDown (getLine s l) = false) :
    PlainApplied l addr s (applyToNode l addr work outcome reply s) := by
  have line := (nodeListed_line (l := l) (addr := addr) (n := n) (new := nodeAfter s.now work outcome reply n)
    (s := s)).1
  have queue : (getLine (nodeListed l addr n (nodeAfter s.now work outcome reply n) s) l).queue
      = (getLine s l).queue := by rw [line]
  rw [applyToNode_found found]
  rcases nodeAfter_contact (outcome := outcome) (reply := reply) found plain up with ⟨same, held⟩ | ⟨lost, had⟩
  · rw [reportContact_same same]
    exact ⟨queue, nodeListed_points, nodeListed_fieldOnly, fun _ => nodeListed_other held⟩
  · rw [reportContact_changed lost had.symm]
    have falls := (reportedToDoors_falls (busOf l) addr
      (nodeListed l addr n (nodeAfter s.now work outcome reply n) s)).trans (loadContact_falls (busOf l) addr _)
    refine ⟨?_, nodeListed_points.trans falls.pointsFade, nodeListed_fieldOnly.trans falls.fieldOnly, fun same => ?_⟩
    · rw [falls.line l, queue]
    · rw [falls.contact, lost] at same
      exact absurd same had

end

end Sys2Proof.Machine


/-! SUPPORT. What the outcome of a transaction delivers (R27, R36, R68, R71, R75). -/

namespace Sys2Proof.Machine

open Sys2Proof.Claims

/-! ## What a delivery leaves of the lines -/

/-- Both lines stay, and so do the moment and the configuration. -/
structure LinesKept (s t : State) : Prop where
  lineA : t.lineA = s.lineA
  lineB : t.lineB = s.lineB
  now : t.now = s.now
  config : t.config = s.config

namespace LinesKept

variable {s t v : State}

theorem refl (s : State) : LinesKept s s := ⟨rfl, rfl, rfl, rfl⟩

theorem trans (h : LinesKept s t) (k : LinesKept t v) : LinesKept s v :=
  ⟨k.lineA.trans h.lineA, k.lineB.trans h.lineB, k.now.trans h.now, k.config.trans h.config⟩

theorem line (h : LinesKept s t) (l : LineId) : getLine t l = getLine s l := getLine_congr h.lineA h.lineB l

theorem contact (h : LinesKept s t) (bus : Bus) (addr : Nat) : contactOf t bus addr = contactOf s bus addr := by
  unfold contactOf
  rw [h.lineA, h.lineB]

end LinesKept

theorem PointSide.linesKept {s t : State} (h : PointSide s t) : LinesKept s t :=
  ⟨by rw [h.frame], by rw [h.frame], by rw [h.frame], by rw [h.frame]⟩

theorem takeEvent_linesKept (bus : Bus) (addr : Nat) (e : FieldEvent) (s : State) :
    LinesKept s (takeEvent bus addr e s) := by
  unfold takeEvent
  dsimp only
  refine .trans ?_ (actOn_side _ _ _ _).point.linesKept
  exact ⟨rfl, rfl, rfl, rfl⟩

theorem deliverContent_linesKept (l : LineId) (addr : Nat) (work : TxnWork) (content : ReplyContent) (s : State) :
    LinesKept s (deliverContent l addr work content s) := by
  unfold deliverContent
  split
  · exact (deliverValues_side _ _ _ _ s).linesKept
  · exact forEach_related .refl .trans _ (takeEvent_linesKept _ _) _ s
  · exact .refl s

theorem writeResult_linesKept (l : LineId) (e : QueueEntry) (outcome : TxnOutcome) (s : State) :
    LinesKept s (writeResult l e outcome s) := by
  unfold writeResult
  split
  · exact (writeOk_side _ _ _ s).linesKept
  · split
    · exact .refl s
    · exact (writeFailed_side _ _ s).linesKept

/-! ## A delivery by its parts -/

/-- R36: the result of a transaction that was a write. -/
def writeDone (l : LineId) (x : Txn) (outcome : TxnOutcome) (s : State) : State :=
  match x.work with
  | .writePoint e => writeResult l e outcome s
  | _ => s

/-- R27, R31: the content of a good reply, and the fetch list. -/
def contentDone (l : LineId) (x : Txn) (reply : Option GoodReply) (s : State) : State :=
  match reply with
  | some g => deliverContent l x.node x.work g.content (changeLine l (fetchAfter x.node g.waiting) s)
  | none => s

/-- R75: the end of a one-off read. -/
def readDone (l : LineId) (x : Txn) (s : State) : State :=
  match x.work with
  | .readPoints first _ true => oneOffEnded ⟨busOf l, x.node, first⟩ s
  | _ => s

theorem deliver_parts (l : LineId) (x : Txn) (outcome : TxnOutcome) (reply : Option GoodReply) (s : State) :
    deliver l x outcome reply s = readDone l x (contentDone l x reply (writeDone l x outcome s)) := by
  unfold deliver readDone contentDone writeDone
  cases x.work with
  | probe => cases reply <;> rfl
  | fetchEvents => cases reply <;> rfl
  | writePoint e => cases reply <;> rfl
  | readPoints first count oneOff => cases reply <;> cases oneOff <;> rfl

theorem writeDone_linesKept (l : LineId) (x : Txn) (outcome : TxnOutcome) (s : State) :
    LinesKept s (writeDone l x outcome s) := by
  unfold writeDone
  split
  · exact writeResult_linesKept _ _ _ s
  · exact .refl s

theorem readDone_linesKept (l : LineId) (x : Txn) (s : State) : LinesKept s (readDone l x s) := by
  unfold readDone
  split
  · exact ⟨rfl, rfl, rfl, rfl⟩
  · exact .refl s

/-- R31: the fetch list of a line after a reply. -/
def fetchOf (addr : Nat) (reply : Option GoodReply) (line : Line) : Line :=
  match reply with
  | some g => fetchAfter addr g.waiting line
  | none => line

theorem fetchAfter_line (addr waiting : Nat) (line : Line) :
    fetchAfter addr waiting line = { line with fetch := (fetchAfter addr waiting line).fetch } := by
  unfold fetchAfter
  split
  · rfl
  · split
    · rfl
    · split <;> rfl

theorem fetchOf_line (addr : Nat) (reply : Option GoodReply) (line : Line) :
    fetchOf addr reply line = { line with fetch := (fetchOf addr reply line).fetch } := by
  cases reply with
  | none => rfl
  | some g => exact fetchAfter_line addr g.waiting line

/-- R31: the fetch list after a good reply from a worked node. -/
theorem fetchAfter_worked {addr : Nat} {line : Line} (worked : nodeWorked line addr = true) (waiting : Nat) :
    (fetchAfter addr waiting line).fetch = if waiting = 0 then line.fetch.filter (fun a => a != addr)
      else if addr ∈ line.fetch then line.fetch else line.fetch ++ [addr] := by
  simp only [fetchAfter, worked, Bool.not_true, Bool.false_eq_true, if_false, List.contains_iff_mem]
  split
  · rfl
  · split <;> rfl

theorem contentDone_line (l : LineId) (x : Txn) (reply : Option GoodReply) (s : State) :
    getLine (contentDone l x reply s) l = fetchOf x.node reply (getLine s l) := by
  cases reply with
  | none => rfl
  | some g =>
    have kept := deliverContent_linesKept l x.node x.work g.content (changeLine l (fetchAfter x.node g.waiting) s)
    rw [contentDone, kept.line, getLine_changeLine]
    rfl

theorem contentDone_now (l : LineId) (x : Txn) (reply : Option GoodReply) (s : State) :
    (contentDone l x reply s).now = s.now ∧ (contentDone l x reply s).config = s.config := by
  cases reply with
  | none => exact ⟨rfl, rfl⟩
  | some g =>
    have kept := deliverContent_linesKept l x.node x.work g.content (changeLine l (fetchAfter x.node g.waiting) s)
    rw [contentDone, kept.now, kept.config, changeLine_frame]
    exact ⟨rfl, rfl⟩

theorem deliver_line (l : LineId) (x : Txn) (outcome : TxnOutcome) (reply : Option GoodReply) (s : State) :
    getLine (deliver l x outcome reply s) l = fetchOf x.node reply (getLine s l) := by
  rw [deliver_parts, (readDone_linesKept l x _).line, contentDone_line, (writeDone_linesKept l x outcome s).line]

theorem deliver_now (l : LineId) (x : Txn) (outcome : TxnOutcome) (reply : Option GoodReply) (s : State) :
    (deliver l x outcome reply s).now = s.now := by
  rw [deliver_parts, (readDone_linesKept l x _).now, (contentDone_now l x reply _).1,
    (writeDone_linesKept l x outcome s).now]

/-! ## Writes (R36, R71) -/

theorem takeValue_writes {p : PointRef} {q : PointRec} {s : State} (found : getPoint s p = some q) (v : Int) :
    ∃ q', getPoint (takeValue p v s) p = some q' ∧ q'.lastWrite = q.lastWrite ∧ q'.tries = q.tries := by
  refine ⟨{ q with value := some v, time := some s.now, status := deliveredStatus (contactOf s p.bus p.addr) }, ?_,
    rfl, rfl⟩
  rw [getPoint, takeValue, (handDoors_side _ _ _).points]
  exact slotGet_slotChange_same found

theorem writeOk_writes {p : PointRef} {q : PointRec} {s : State} (found : getPoint s p = some q) (v tries : Nat) :
    ∃ q', getPoint (writeOk p v tries s) p = some q' ∧ q'.lastWrite = .ok ∧ q'.tries = tries := by
  have changed : getPoint (changePoint p (fun r => { r with lastWrite := .ok, tries := tries }) s) p
      = some { q with lastWrite := .ok, tries := tries } := slotGet_slotChange_same found
  unfold writeOk
  dsimp only
  split
  · exact takeValue_writes changed v
  · exact ⟨_, changed, rfl, rfl⟩

section

variable {l : LineId} {x : Txn} {e : QueueEntry} (work : x.work = .writePoint e)

include work

/-- A write delivers its result alone. -/
theorem deliver_write (outcome : TxnOutcome) (reply : Option GoodReply) (s : State) :
    (deliver l x outcome reply s).points = (writeResult l e outcome s).points := by
  have read (t : State) : readDone l x t = t := by simp only [readDone, work]
  have written : writeDone l x outcome s = writeResult l e outcome s := by simp only [writeDone, work]
  rw [deliver_parts, read, written]
  cases reply with
  | none => rfl
  | some g =>
    simp only [contentDone, work, deliverContent]
    rw [changeLine_frame]

theorem deliver_written {q : PointRec} {s : State} (found : getPoint s (pointOf l e) = some q)
    {outcome : TxnOutcome} (good : outcome = .good) (reply : Option GoodReply) :
    ∃ q', getPoint (deliver l x outcome reply s) (pointOf l e) = some q' ∧ q'.lastWrite = .ok
      ∧ q'.tries = e.tries + 1 := by
  rw [getPoint, deliver_write work, writeResult, if_pos good]
  exact writeOk_writes found _ _

theorem deliver_failed {q : PointRec} {s : State} (found : getPoint s (pointOf l e) = some q)
    {outcome : TxnOutcome} (bad : outcome ≠ .good) (last : 2 ≤ e.tries) (reply : Option GoodReply) :
    ∃ q', getPoint (deliver l x outcome reply s) (pointOf l e) = some q' ∧ q'.lastWrite = .failed ∧ q'.tries = 3 := by
  rw [getPoint, deliver_write work, writeResult, if_neg bad, if_neg (Nat.not_lt.mpr last)]
  exact ⟨{ q with lastWrite := .failed, tries := 3 }, slotGet_slotChange_same found, rfl, rfl⟩

theorem deliver_again {s : State} {outcome : TxnOutcome} (bad : outcome ≠ .good) (again : e.tries < 2)
    (reply : Option GoodReply) : (deliver l x outcome reply s).points = s.points := by
  rw [deliver_write work, writeResult, if_neg bad, if_pos again]

end

/-! ## Reads (R68, R75) -/

/-- R68: the record of a field point that takes a value. -/
def deliveredRecord (s : State) (p : PointRef) (v : Nat) (q : PointRec) : PointRec :=
  if isOutput s.config p then { q with readback := some v }
  else { q with value := some (v : Int), time := some s.now, status := deliveredStatus (contactOf s p.bus p.addr) }

theorem deliverRead_own {p : PointRef} {q : PointRec} {s : State} (found : getPoint s p = some q) (v : Nat) :
    getPoint (deliverRead p (v : Int) s) p = some (deliveredRecord s p v q) := by
  unfold deliveredRecord
  cases output : isOutput s.config p with
  | true =>
    rw [Proofs.deliverRead_output found output, Proofs.changePoint_found found]
    rfl
  | false =>
    rw [Proofs.deliverRead_input found output, getPoint, (handDoors_side _ _ _).points]
    exact slotGet_slotChange_same found

theorem deliverRead_other {p : PointRef} {k : Nat} {s : State} (apart : k ≠ pointKey p) (v : Int) :
    slotGet (deliverRead p v s).points k = slotGet s.points k := by
  unfold deliverRead
  split
  · rfl
  · split
    · exact slotGet_slotChange_ne apart
    · rw [takeValue, (handDoors_side _ _ _).points]
      exact slotGet_slotChange_ne apart

section

variable {bus : Bus} {addr : Nat}

theorem deliverValues_other {first k : Nat} {vs : List Nat} {s : State}
    (apart : ∀ i, i < vs.length → k ≠ pointKey ⟨bus, addr, first + i⟩) :
    slotGet (deliverValues bus addr first vs s).points k = slotGet s.points k := by
  induction vs generalizing first s with
  | nil => rfl
  | cons v rest ih =>
    refine (ih fun i small => ?_).trans (deliverRead_other (apart 0 (Nat.succ_pos _)) _)
    have := apart (i + 1) (Nat.succ_lt_succ small)
    rw [Nat.add_assoc, Nat.add_comm 1 i]
    exact this

/-- R27, R68: each point of the reply takes its value. -/
theorem deliverValues_own {first i value : Nat} {vs : List Nat} {q : PointRec} {s : State} (at_ : vs[i]? = some value)
    (found : getPoint s ⟨bus, addr, first + i⟩ = some q) : getPoint (deliverValues bus addr first vs s)
      ⟨bus, addr, first + i⟩ = some (deliveredRecord s ⟨bus, addr, first + i⟩ value q) := by
  induction vs generalizing first i s with
  | nil => simp at at_
  | cons v rest ih =>
    cases i with
    | zero =>
      obtain rfl : v = value := by simpa using at_
      refine (deliverValues_other (first := first + 1) (s := deliverRead ⟨bus, addr, first⟩ (v : Int) s)
        fun i small => ?_).trans (deliverRead_own found v)
      simp only [pointKey]
      omega
    | succ j =>
      have later : getPoint (deliverRead ⟨bus, addr, first⟩ (v : Int) s) ⟨bus, addr, first + 1 + j⟩ = some q := by
        rw [getPoint, deliverRead_other]
        · rw [Nat.add_assoc, Nat.add_comm 1 j]
          exact found
        · simp only [pointKey]
          omega
      have step := ih (first := first + 1) (i := j) (by simpa using at_) later
      have side := (deliverRead_side ⟨bus, addr, first⟩ (v : Int) s).linesKept
      have same : deliveredRecord (deliverRead ⟨bus, addr, first⟩ (v : Int) s) ⟨bus, addr, first + 1 + j⟩ value q
          = deliveredRecord s ⟨bus, addr, first + 1 + j⟩ value q := by
        unfold deliveredRecord
        rw [side.config, side.now, side.contact]
      rw [same, Nat.add_assoc, Nat.add_comm 1 j] at step
      exact step

theorem deliverValues_forEach (first k : Nat) (vs : List Nat) (s : State) :
    deliverValues bus addr (first + k) vs s
      = forEach (vs.zipIdx k) (fun e => deliverRead ⟨bus, addr, first + e.2⟩ (e.1 : Nat)) s := by
  induction vs generalizing k s with
  | nil => rfl
  | cons v rest ih =>
    rw [List.zipIdx_cons, forEach_cons, ← ih (k + 1)]
    rfl

end

/-- The points of `s` stand in `t`. -/
def PointsStand (s t : State) : Prop := ∀ k q, slotGet s.points k = some q → ∃ q', slotGet t.points k = some q'

theorem PointsStand.of_same {s t : State} (same : t.points = s.points) : PointsStand s t :=
  fun _ q found => ⟨q, by rw [same]; exact found⟩

theorem doorsClosed_stand : DoorsClosed PointsStand where
  refl _ _ q found := ⟨q, found⟩
  trans h k i q found := by
    obtain ⟨q', found'⟩ := h i q found
    exact k i q' found'
  hold z d seconds s := .of_same (by rw [(holdEntry_pres z d seconds s).frame])
  release z d ms s := .of_same (by rw [(releaseEntry_pres z d ms s).frame])
  doorNotice _ _ _ _ _ _ := .of_same rfl
  door _ _ _ := .of_same rfl
  point p f s k q found := by
    by_cases own : k = pointKey p
    · subst own
      exact ⟨f q, slotGet_slotChange_same found⟩
    · exact ⟨q, (slotGet_slotChange_ne own).trans found⟩

/-- A one-off read that ends waits no longer, and a failed one has brought no value. -/
theorem deliver_oneOff {l : LineId} {x : Txn} {first count : Nat} (work : x.work = .readPoints first count true)
    {q : PointRec} {s : State} (found : getPoint s ⟨busOf l, x.node, first⟩ = some q) (outcome : TxnOutcome)
    (reply : Option GoodReply) :
    ∃ q', getPoint (deliver l x outcome reply s) ⟨busOf l, x.node, first⟩ = some q' ∧ q'.oneOffWaiting = false
      ∧ q'.status ≠ .pending ∧ (reply = none → q'.value = q.value) := by
  have written : writeDone l x outcome s = s := by simp only [writeDone, work]
  have read (t : State) : readDone l x t = oneOffEnded ⟨busOf l, x.node, first⟩ t := by simp only [readDone, work]
  have inContent : ∃ q₁, getPoint (contentDone l x reply s) ⟨busOf l, x.node, first⟩ = some q₁
      ∧ (reply = none → q₁ = q) := by
    cases reply with
    | none => exact ⟨q, found, fun _ => rfl⟩
    | some g =>
      have inLine : slotGet (changeLine l (fetchAfter x.node g.waiting) s).points
          (pointKey ⟨busOf l, x.node, first⟩) = some q := by
        rw [changeLine_frame]
        exact found
      have stands : PointsStand (changeLine l (fetchAfter x.node g.waiting) s) (contentDone l x (some g) s) := by
        simp only [contentDone, work, deliverContent]
        cases g.content with
        | values vs => exact doorsClosed_stand.deliverValues _ _ _ _ _
        | _ => exact doorsClosed_stand.refl _
      obtain ⟨q₁, found₁⟩ := stands _ q inLine
      exact ⟨q₁, found₁, fun none_ => by cases none_⟩
  obtain ⟨q₁, found₁, same⟩ := inContent
  refine ⟨oneOffDone q₁, ?_, rfl, oneOffDone_not_pending q₁, fun none_ => by rw [same none_]; rfl⟩
  rw [deliver_parts, written, read]
  exact slotGet_slotChange_same found₁

end Sys2Proof.Machine


/-! SUPPORT. What the outcome of a transaction does to the error count and the state of its line (R46, R47). -/

namespace Sys2Proof.Machine

/-- R46: the state of a line that is up, by its count. -/
def stateOf (errors : Nat) : LineState := if 96 ≤ errors then .warn else .ok

/-- R46: the notice of a line's change of state. -/
def lineNews (l : LineId) (now errors : Nat) : Notice :=
  ⟨if 96 ≤ errors then .lineWarn else .lineOk, now, .line l, some ((min errors 65535 : Nat) : Int), none⟩

/-- `t` follows `s`, in which line `l` is up, as the line takes the count `errors` and the state that it gives. -/
structure LineCounts (l : LineId) (errors : Nat) (s t : State) : Prop where
  frame : LinesAndNotices s t
  own : getLine t l = { getLine s l with errors := errors, state := stateOf errors }
  raises : Raises (fun m => m = lineNews l s.now errors ∧ stateOf errors ≠ (getLine s l).state) s t
  told : stateOf errors ≠ (getLine s l).state → Told (lineNews l s.now errors) s t

section

variable {l : LineId} {s : State}

/-- The line takes a count. -/
def countTaken (l : LineId) (errors : Nat) (s : State) : State :=
  changeLine l (fun line => { line with errors := errors }) s

theorem countTaken_stays {errors : Nat} (same : stateOf errors = (getLine s l).state) :
    LineCounts l errors s (countTaken l errors s) :=
  ⟨changeLine_linesAndNotices _ _ s, by rw [countTaken, getLine_changeLine, same], changeLine_raises _ _ s,
    fun moved => absurd same moved⟩

/-- The line takes a count and the state that it gives, and the host is told. -/
theorem countTaken_moves {errors : Nat} (moved : stateOf errors ≠ (getLine s l).state) : LineCounts l errors s
    (raise (if 96 ≤ errors then .lineWarn else .lineOk) (.line l) (quantity errors) none
      (changeLine l (fun x => { x with state := stateOf errors }) (countTaken l errors s))) := by
  have now : (changeLine l (fun x => { x with state := stateOf errors }) (countTaken l errors s)).now = s.now := by
    rw [countTaken, changeLine_frame, changeLine_frame]
  have quiet : Raises (fun m => m = lineNews l s.now errors ∧ stateOf errors ≠ (getLine s l).state) s
      (changeLine l (fun x => { x with state := stateOf errors }) (countTaken l errors s)) :=
    (changeLine_raises _ _ s).trans (changeLine_raises _ _ _)
  have told := told_raise (if 96 ≤ errors then .lineWarn else .lineOk) (.line l) (quantity errors) none
    (changeLine l (fun x => { x with state := stateOf errors }) (countTaken l errors s))
  rw [now] at told
  refine ⟨((changeLine_linesAndNotices l _ s).trans (changeLine_linesAndNotices _ _ _)).trans
    (raise_linesAndNotices _ _ _ _ _), ?_, quiet.trans (.raised ⟨by rw [now]; rfl, moved⟩),
    fun _ => told.within quiet (.raised (P := fun _ => True) trivial) (.refl (P := fun _ => True) _)⟩
  cases l <;> rfl

/-- The state follows the count that has just been set. -/
theorem judgeLine_counts (up : isDown (getLine s l) = false) (errors : Nat) :
    LineCounts l errors s (judgeLine l (countTaken l errors s)) := by
  have state : (getLine (countTaken l errors s) l).state = (getLine s l).state := by
    rw [countTaken, getLine_changeLine]
  have count : (getLine (countTaken l errors s) l).errors = errors := by rw [countTaken, getLine_changeLine]
  by_cases many : 96 ≤ errors
  · have is : stateOf errors = .warn := if_pos many
    have notFew : ¬ errors < warnCount := Nat.not_lt.mpr many
    have moves := countTaken_moves (l := l) (s := s) (errors := errors)
    have stays := countTaken_stays (l := l) (s := s) (errors := errors)
    rw [is, if_pos many] at moves
    rw [is] at stays
    unfold isDown at up
    cases line : (getLine s l).state with
    | ok =>
      simp only [judgeLine, state, count, line]
      rw [if_pos (by exact many)]
      exact moves (by rw [line]; simp)
    | warn =>
      simp only [judgeLine, state, count, line]
      rw [if_neg notFew]
      exact stays line.symm
    | down p => simp [line] at up
  · have is : stateOf errors = .ok := if_neg many
    have few : errors < warnCount := Nat.not_le.mp many
    have moves := countTaken_moves (l := l) (s := s) (errors := errors)
    have stays := countTaken_stays (l := l) (s := s) (errors := errors)
    rw [is, if_neg many] at moves
    rw [is] at stays
    unfold isDown at up
    cases line : (getLine s l).state with
    | ok =>
      simp only [judgeLine, state, count, line]
      rw [if_neg (by exact many)]
      exact stays line.symm
    | warn =>
      simp only [judgeLine, state, count, line]
      rw [if_pos few]
      exact moves (by rw [line]; simp)
    | down p => simp [line] at up

theorem lineCredit_counts (up : isDown (getLine s l) = false) :
    LineCounts l ((getLine s l).errors - 1) s (lineCredit l s) := by
  have shape : lineCredit l s = judgeLine l (countTaken l ((getLine s l).errors - 1) s) := by
    rw [lineCredit, if_neg (by simp [up])]
    rfl
  rw [shape]
  exact judgeLine_counts up _

theorem lineFault_counts (up : isDown (getLine s l) = false) (fits : ¬ 255 < (getLine s l).errors + 8) :
    LineCounts l ((getLine s l).errors + 8) s (lineFault l s) := by
  have shape : lineFault l s = judgeLine l (countTaken l ((getLine s l).errors + 8) s) := by
    rw [lineFault, if_neg (by simp [up]), if_neg fits]
    rfl
  rw [shape]
  exact judgeLine_counts up _

/-- R47: a fault that takes an idle line down. -/
theorem lineFault_falls (up : isDown (getLine s l) = false) (idle : (getLine s l).inFlight = none)
    (much : 255 < (getLine s l).errors + 8) : FallSide (fallBase l s) (lineFault l s) := by
  have shape : lineFault l s = enterLineDown l s := by rw [lineFault, if_neg (by simp [up]), if_pos much]
  have ends : FallSide (fallBase l s) (forEach (getLine s l).oneOffs
      (fun q => oneOffEnded ⟨busOf l, q.node, q.point⟩) (fallBase l s)) :=
    .of_loads (oneOffsEnded_fades _ _ _) (oneOffsEnded_loads _ _ _)
  have marks := ends.trans (.of_loads (markLineStale_fades l _) (markLineStale_loads l _))
  have down : DownWith l (getLine s l) (fallBase l s) := by
    unfold DownWith
    rw [fallBase_line]
    exact ⟨rfl, rfl⟩
  rw [shape, enterLineDown_eq idle]
  exact marks.trans (reportLine_falls (marks.downWith down))

end

/-! ## The outcome of a transaction -/

/-- What the outcome of a transaction does to its line, which was up and idle, from `s` to `t`. -/
structure Scored (l : LineId) (outcome : TxnOutcome) (s t : State) : Prop where
  up : isDown (getLine s l) = false
  line : getLine t l = { getLine s l with
    state := (getLine t l).state, errors := (getLine t l).errors, fetch := (getLine t l).fetch
    oneOffs := (getLine t l).oneOffs }
  quiet : outcome = .noReply → t = s
  credit : outcome = .good ∨ outcome = .badCheck ∨ outcome = .malformed →
    LineCounts l ((getLine s l).errors - 1) s t
  fault : outcome = .broken → ¬ 255 < (getLine s l).errors + 8 → LineCounts l ((getLine s l).errors + 8) s t
  falls : outcome = .broken → 255 < (getLine s l).errors + 8 → FallSide (fallBase l s) t

theorem LineCounts.line {l : LineId} {errors : Nat} {s t : State} (h : LineCounts l errors s t) :
    getLine t l = { getLine s l with
      state := (getLine t l).state, errors := (getLine t l).errors, fetch := (getLine t l).fetch
      oneOffs := (getLine t l).oneOffs } := by
  rw [h.own]

theorem scoreLine_scored {l : LineId} {s : State} (up : isDown (getLine s l) = false)
    (idle : (getLine s l).inFlight = none) (outcome : TxnOutcome) : Scored l outcome s (scoreLine l outcome s) := by
  have credited (h : scoreLine l outcome s = lineCredit l s) (other : outcome ≠ .broken ∧ outcome ≠ .noReply) :
      Scored l outcome s (scoreLine l outcome s) := by
    rw [h]
    have counts := lineCredit_counts up
    exact ⟨up, counts.line, fun is => absurd is other.2, fun _ => counts, fun is => absurd is other.1,
      fun is => absurd is other.1⟩
  cases outcome with
  | good => exact credited rfl ⟨by simp, by simp⟩
  | badCheck => exact credited rfl ⟨by simp, by simp⟩
  | malformed => exact credited rfl ⟨by simp, by simp⟩
  | noReply => exact ⟨up, rfl, fun _ => rfl, by simp, by simp, by simp⟩
  | broken =>
    have shape : scoreLine l .broken s = lineFault l s := rfl
    rw [shape]
    by_cases much : 255 < (getLine s l).errors + 8
    · have falls := lineFault_falls up idle much
      refine ⟨up, ?_, by simp, by simp, fun _ few => absurd much few, fun _ _ => falls⟩
      rw [falls.line l, fallBase_line]
    · have counts := lineFault_counts up much
      exact ⟨up, counts.line, by simp, by simp, fun _ _ => counts, fun _ h => absurd h much⟩

namespace Scored

variable {l : LineId} {outcome : TxnOutcome} {s t : State} (h : Scored l outcome s t)

include h

/-- The cases of R46. -/
theorem cases_ : (outcome = .noReply ∧ t = s)
    ∨ (∃ errors, outcome ≠ .noReply ∧ LineCounts l errors s t ∧ (outcome = .broken → ¬ 255 < (getLine s l).errors + 8
        ∧ errors = (getLine s l).errors + 8) ∧ (outcome ≠ .broken → errors = (getLine s l).errors - 1))
    ∨ (outcome = .broken ∧ 255 < (getLine s l).errors + 8 ∧ FallSide (fallBase l s) t) := by
  cases outcome with
  | noReply => exact .inl ⟨rfl, h.quiet rfl⟩
  | broken =>
    by_cases much : 255 < (getLine s l).errors + 8
    · exact .inr (.inr ⟨rfl, much, h.falls rfl much⟩)
    · exact .inr (.inl ⟨_, by simp, h.fault rfl much, fun _ => ⟨much, rfl⟩, by simp⟩)
  | good => exact .inr (.inl ⟨_, by simp, h.credit (by simp), by simp, fun _ => rfl⟩)
  | badCheck => exact .inr (.inl ⟨_, by simp, h.credit (by simp), by simp, fun _ => rfl⟩)
  | malformed => exact .inr (.inl ⟨_, by simp, h.credit (by simp), by simp, fun _ => rfl⟩)

theorem points : PointsFade s t := by
  rcases h.cases_ with ⟨-, rfl⟩ | ⟨_, -, counts, -⟩ | ⟨-, -, falls⟩
  · exact .of_same rfl
  · exact counts.frame.pointsFade
  · refine .trans (.of_same ?_) falls.pointsFade
    rw [fallBase_frame]

theorem now : t.now = s.now := by
  rcases h.cases_ with ⟨-, rfl⟩ | ⟨_, -, counts, -⟩ | ⟨-, -, falls⟩
  · rfl
  · rw [counts.frame]
  · rw [falls.now, fallBase_frame]

theorem config : t.config = s.config := by
  rcases h.cases_ with ⟨-, rfl⟩ | ⟨_, -, counts, -⟩ | ⟨-, -, falls⟩
  · rfl
  · rw [counts.frame]
  · rw [falls.config, fallBase_frame]

theorem errors_noReply (is : outcome = .noReply) : (getLine t l).errors = (getLine s l).errors := by
  rw [h.quiet is]

theorem errors_credit (is : outcome = .good ∨ outcome = .badCheck ∨ outcome = .malformed) :
    (getLine t l).errors = (getLine s l).errors - 1 := by
  rw [(h.credit is).own]

theorem errors_broken (is : outcome = .broken) : (getLine t l).errors = min ((getLine s l).errors + 8) 255 := by
  by_cases much : 255 < (getLine s l).errors + 8
  · rw [(h.falls is much).line l, fallBase_line]
    exact (Nat.min_eq_right (Nat.le_of_lt much)).symm
  · rw [(h.fault is much).own]
    exact (Nat.min_eq_left (Nat.not_lt.mp much)).symm

/-- R46: the state of the line once the count has been taken, but for a fall. -/
theorem state_counts (notFalls : ¬ (outcome = .broken ∧ 255 < (getLine s l).errors + 8))
    (counts : outcome ≠ .noReply) : ∃ errors, LineCounts l errors s t := by
  rcases h.cases_ with ⟨is, -⟩ | ⟨errors, -, counts, -⟩ | ⟨is, much, -⟩
  · exact absurd is counts
  · exact ⟨errors, counts⟩
  · exact absurd ⟨is, much⟩ notFalls

theorem state_falls (is : outcome = .broken) (much : 255 < (getLine s l).errors + 8) :
    (getLine t l).state = .down (.resting (s.now + 10000)) := by
  rw [(h.falls is much).line l, fallBase_line]

theorem told_falls (is : outcome = .broken) (much : 255 < (getLine s l).errors + 8) :
    Told ⟨.lineDown, s.now, .line l, some 255, none⟩ s t :=
  fallBase_told.after fallBase_raises (h.falls is much).raises

/-- R46, R47: what is told of the line. -/
theorem raises : Raises (fun m => AboutField m ∨ (getLine t l).state ≠ (getLine s l).state ∧ ∃ l', m.subject = .line l')
    s t := by
  rcases h.cases_ with ⟨-, rfl⟩ | ⟨_, -, counts, -⟩ | ⟨is, much, falls⟩
  · exact .refl _
  · refine counts.raises.mono fun m hm => .inr ⟨?_, l, by rw [hm.1]; rfl⟩
    rw [counts.own]
    exact hm.2
  · have moved : (getLine t l).state ≠ (getLine s l).state := by
      have up := h.up
      rw [h.state_falls is much]
      intro same
      rw [isDown, ← same] at up
      cases up
    have base : Raises (fun m => AboutField m ∨ (getLine t l).state ≠ (getLine s l).state
        ∧ ∃ l', m.subject = .line l') s (fallBase l s) := by
      have first : Raises (fun m => AboutField m ∨ (getLine t l).state ≠ (getLine s l).state
        ∧ ∃ l', m.subject = .line l') s (goneDown l s) :=
        (changeLine_raises _ _ s).trans (.raised (.inr ⟨moved, l, rfl⟩))
      exact first.trans (changeLine_raises _ _ _)
    exact base.trans (falls.raises.mono fun _ about => .inl about.aboutField)

end Scored

end Sys2Proof.Machine


/-! SUPPORT. A line that is free again (R29, R31, R36): the write that comes back, and what the grant takes. -/

namespace Sys2Proof.Machine

open Sys2Proof.Claims

/-! ## What a grant takes -/

/-- The queued write is the one in flight on the line. -/
def Flies (w : QueueEntry) (line : Line) : Prop := ∃ y, line.inFlight = some y ∧ y.work = .writePoint w

/-- R29: a grant leaves a line, or puts its next work in flight. -/
theorem grantLine_split (now : Nat) (cfg : LineCfg) (line : Line) : grantLine now cfg line = line
    ∨ ∃ node work, nextWork now cfg line = some (node, work)
      ∧ grantLine now cfg line = granted now cfg node work (takeWork now cfg node work line) := by
  unfold grantLine
  split
  · exact .inl rfl
  · split
    · exact .inl rfl
    · rename_i node work next
      exact .inr ⟨node, work, next, rfl⟩

section

variable {now : Nat} {cfg : LineCfg} {line : Line}

/-- R29: a queued write stays, or flies. -/
theorem grantLine_write_stays {w : QueueEntry} (member : w ∈ line.queue) :
    w ∈ (grantLine now cfg line).queue ∨ Flies w (grantLine now cfg line) := by
  rcases grantLine_split now cfg line with same | ⟨node, work, -, taken_⟩
  · rw [same]
    exact .inl member
  · rw [taken_]
    cases work with
    | probe => exact .inl member
    | fetchEvents => exact .inl member
    | readPoints first count oneOff => cases oneOff <;> exact .inl member
    | writePoint e =>
      by_cases same : w = e
      · exact .inr ⟨_, rfl, by rw [same]⟩
      · exact .inl ((List.mem_erase_of_ne same).mpr member)

/-- R31: the fetch list stays, or its head is fetched. -/
theorem grantLine_fetches : line.fetch = (grantLine now cfg line).fetch ∨ ∃ addr y,
    line.fetch = addr :: (grantLine now cfg line).fetch ∧ (grantLine now cfg line).inFlight = some y
      ∧ y.node = addr ∧ y.work = .fetchEvents := by
  rcases grantLine_split now cfg line with same | ⟨node, work, next, taken_⟩
  · rw [same]
    exact .inl rfl
  · rw [taken_]
    cases work with
    | probe => exact .inl rfl
    | writePoint e => exact .inl rfl
    | readPoints first count oneOff => cases oneOff <;> exact .inl rfl
    | fetchEvents =>
      have head : ∃ rest, line.fetch = node :: rest := by
        have fetched : fetchHead line = some node := by
          unfold nextWork at next
          split at next
          · cases next
          · split at next
            · cases next
              assumption
            · split at next
              · cases next
              · split at next
                · cases next
                · split at next <;> cases next
        unfold fetchHead at fetched
        split at fetched
        · cases fetched
        · rename_i addr rest list
          split at fetched
          · cases fetched
            exact ⟨rest, list⟩
          · cases fetched
      obtain ⟨rest, list⟩ := head
      refine .inr ⟨node, _, ?_, rfl, rfl, rfl⟩
      simp only [granted, takeWork, list, List.erase_cons_head]

/-- R42: a grant leaves the states of the nodes. -/
theorem grantLine_worked (addr : Nat) : nodeWorked (grantLine now cfg line) addr = nodeWorked line addr := by
  unfold nodeWorked
  rcases grantLine_nodes now cfg line with same | ⟨other, changed⟩
  · rw [same]
  · rw [changed, slotGet_slotChange]
    split
    · rename_i here
      rw [← here]
      cases slotGet line.nodes addr <;> rfl
    · rfl

theorem grantLine_isDown : isDown (grantLine now cfg line) = isDown line := by
  unfold isDown
  rw [(grantLine_state now cfg line).1]

theorem grantLine_hosts : hostEntries (grantLine now cfg line).queue ≤ hostEntries line.queue :=
  (grantLine_slims now cfg line).queue.countP_le

end

/-! ## The write that comes back (R36) -/

/-- R36: the write as it comes back. -/
def comeBack (e : QueueEntry) : QueueEntry := { e with tries := e.tries + 1 }

theorem hostEntries_comeBack (e : QueueEntry) (queue : List QueueEntry) :
    hostEntries (comeBack e :: queue) ≤ hostEntries queue + 1
      ∧ (e.origin = .internal → hostEntries (comeBack e :: queue) = hostEntries queue) := by
  simp only [hostEntries, List.countP_cons, comeBack]
  refine ⟨by split <;> omega, fun internal => by simp [internal]⟩

section

variable {l : LineId} {e : QueueEntry} {s : State}

/-- The line with the write at the head of its queue. -/
def backLine (e : QueueEntry) (line : Line) : Line := { line with queue := returnEntry e line.queue }

theorem returnWrite_split : (returnWrite l e s = changeLine l (backLine e) s ∧ (e.origin = .internal
      ∨ hostEntries (grantLine s.now (lineCfg s.config l) (backLine e (getLine s l))).queue ≤ 8))
    ∨ (returnWrite l e s = writeFailed (pointOf l e) (e.tries + 1) s ∧ e.origin ≠ .internal
      ∧ ¬ hostEntries (grantLine s.now (lineCfg s.config l) (backLine e (getLine s l))).queue ≤ 8) := by
  have line : getLine (grantLines (changeLine l (backLine e) s)) l
      = grantLine s.now (lineCfg s.config l) (backLine e (getLine s l)) := by
    rw [getLine_grantLines, getLine_changeLine, changeLine_frame]
  rw [← line]
  by_cases room : e.origin = .internal ∨ hostEntries (getLine (grantLines (changeLine l (backLine e) s)) l).queue ≤ 8
  · exact .inl ⟨if_pos room, room⟩
  · refine .inr ⟨if_neg room, ?_⟩
    exact not_or.mp room

/-- The line of a write that has failed, before the grant. -/
def returnedLine (l : LineId) (e : QueueEntry) (s : State) : Line := getLine (returnWrite l e s) l

theorem returnedLine_line : returnedLine l e s = { getLine s l with queue := (returnedLine l e s).queue } := by
  unfold returnedLine
  rcases returnWrite_split (l := l) (e := e) (s := s) with ⟨back, -⟩ | ⟨fails, -⟩
  · rw [back, getLine_changeLine]
    rfl
  · rw [fails, (writeFailed_cancels _ _ s).line l]

theorem returnWrite_frame : LinesAndPoints s (returnWrite l e s) := by
  rcases returnWrite_split (l := l) (e := e) (s := s) with ⟨back, -⟩ | ⟨fails, -⟩
  · rw [back]
    exact changeLine_linesAndPoints _ _ s
  · rw [fails]
    rfl

theorem granted_returned : getLine (grantLines (returnWrite l e s)) l
    = grantLine s.now (lineCfg s.config l) (returnedLine l e s) := by
  have now : (returnWrite l e s).now = s.now := by rw [returnWrite_frame (l := l) (e := e) (s := s)]
  have config : (returnWrite l e s).config = s.config := by rw [returnWrite_frame (l := l) (e := e) (s := s)]
  rw [getLine_grantLines, now, config, returnedLine]

/-- R36: a newer write for the point stands, or flies. -/
theorem returned_newer {q : QueueEntry} (member : q ∈ (getLine s l).queue) (node : q.node = e.node)
    (point : q.point = e.point) : q ∈ (getLine (grantLines (returnWrite l e s)) l).queue
      ∨ Flies q (getLine (grantLines (returnWrite l e s)) l) := by
  have newer : (getLine s l).queue.any (entryFor e.node e.point) = true :=
    List.any_eq_true.mpr ⟨q, member, (entryFor_true _ _ _).mpr ⟨node, point⟩⟩
  have queue : (returnedLine l e s).queue = (getLine s l).queue := by
    unfold returnedLine
    rcases returnWrite_split (l := l) (e := e) (s := s) with ⟨back, -⟩ | ⟨fails, -⟩
    · rw [back, getLine_changeLine]
      exact if_pos newer
    · rw [fails, (writeFailed_cancels _ _ s).line l]
  rw [granted_returned]
  exact grantLine_write_stays (by rw [queue]; exact member)

variable (absent : (getLine s l).queue.any (entryFor e.node e.point) = false)

include absent

theorem backLine_queue : (backLine e (getLine s l)).queue = comeBack e :: (getLine s l).queue :=
  if_neg (by simp [absent])

/-- R36: the write came back, unless it would have been a ninth HOST entry. -/
theorem returned_cases : (returnedLine l e s = { getLine s l with queue := comeBack e :: (getLine s l).queue }
      ∧ (returnWrite l e s).points = s.points ∧ (e.origin = .internal
        ∨ hostEntries (grantLine s.now (lineCfg s.config l) (returnedLine l e s)).queue ≤ 8))
    ∨ (returnedLine l e s = getLine s l ∧ returnWrite l e s = writeFailed (pointOf l e) (e.tries + 1) s
      ∧ e.origin ≠ .internal ∧ ¬ hostEntries (grantLine s.now (lineCfg s.config l)
        { getLine s l with queue := comeBack e :: (getLine s l).queue }).queue ≤ 8) := by
  have line : backLine e (getLine s l) = { getLine s l with queue := comeBack e :: (getLine s l).queue } := by
    rw [← backLine_queue absent]
    rfl
  unfold returnedLine
  rcases returnWrite_split (l := l) (e := e) (s := s) with ⟨back, room⟩ | ⟨fails, host, full⟩
  · refine .inl ?_
    rw [back, getLine_changeLine, line]
    rw [line] at room
    exact ⟨rfl, by rw [changeLine_frame], room⟩
  · refine .inr ?_
    rw [line] at full
    rw [fails, (writeFailed_cancels _ _ s).line l]
    exact ⟨rfl, rfl, host, full⟩

omit absent in
/-- R29, R36: the write flies at once when its node is worked on a line that is up. -/
theorem back_flies {now : Nat} {cfg : LineCfg} (up : isDown (getLine s l) = false)
    (free : (getLine s l).inFlight = none) (worked : nodeWorked (getLine s l) e.node = true) :
    grantLine now cfg { getLine s l with queue := comeBack e :: (getLine s l).queue }
      = granted now cfg e.node (.writePoint (comeBack e)) (getLine s l) := by
  exact grantLine_write (line := { getLine s l with queue := comeBack e :: (getLine s l).queue })
    (before := []) (by exact up) (by exact free) rfl (fun b member => by cases member) worked

/-- R36, log 36: what becomes of a write that has failed for the first or second time, on a line that is idle. -/
theorem returned_write (free : (getLine s l).inFlight = none) {r : PointRec}
    (found : getPoint s (pointOf l e) = some r) :
    ∃ r', getPoint (grantLines (returnWrite l e s)) (pointOf l e) = some r'
      ∧ ((e.origin = .internal ∨ hostEntries (getLine s l).queue < 8) →
        comeBack e ∈ (getLine (grantLines (returnWrite l e s)) l).queue
          ∨ Flies (comeBack e) (getLine (grantLines (returnWrite l e s)) l))
      ∧ (hostEntries (getLine s l).queue ≤ 8 → isDown (getLine (grantLines (returnWrite l e s)) l) = false →
        nodeWorked (getLine (grantLines (returnWrite l e s)) l) e.node = true →
        Flies (comeBack e) (getLine (grantLines (returnWrite l e s)) l))
      ∧ ((comeBack e ∈ (getLine (grantLines (returnWrite l e s)) l).queue
          ∨ Flies (comeBack e) (getLine (grantLines (returnWrite l e s)) l))
        ∨ (r'.lastWrite = .failed ∧ r'.tries = e.tries + 1))
      ∧ (hostEntries (getLine s l).queue ≤ 8 →
        hostEntries (getLine (grantLines (returnWrite l e s)) l).queue ≤ 8) := by
  have hosts := hostEntries_comeBack e (getLine s l).queue
  have points : (grantLines (returnWrite l e s)).points = (returnWrite l e s).points := rfl
  have stands : isDown (getLine (grantLines (returnWrite l e s)) l) = isDown (getLine s l)
      ∧ nodeWorked (getLine (grantLines (returnWrite l e s)) l) e.node = nodeWorked (getLine s l) e.node := by
    rw [granted_returned, grantLine_isDown, grantLine_worked, returnedLine_line]
    exact ⟨rfl, rfl⟩
  have slim := grantLine_hosts (now := s.now) (cfg := lineCfg s.config l)
    (line := { getLine s l with queue := comeBack e :: (getLine s l).queue })
  rw [stands.1, stands.2, granted_returned, getPoint, points]
  rcases returned_cases absent with ⟨line, kept, room⟩ | ⟨line, fails, host, full⟩
  · rw [line] at room ⊢
    have returns := grantLine_write_stays (now := s.now) (cfg := lineCfg s.config l) (w := comeBack e)
      (line := { getLine s l with queue := comeBack e :: (getLine s l).queue }) List.mem_cons_self
    refine ⟨r, by rw [kept]; exact found, fun _ => returns, fun _ up worked => ?_, .inl returns, fun few => ?_⟩
    · rw [back_flies up free worked]
      exact ⟨_, rfl, rfl⟩
    · rcases room with internal | few
      · have := hosts.2 internal
        exact slim.trans (by dsimp only; omega)
      · exact few
  · rw [line]
    refine ⟨{ r with lastWrite := .failed, tries := e.tries + 1 }, ?_, fun room => ?_, fun few up worked => ?_,
      .inr ⟨rfl, rfl⟩, fun few => grantLine_hosts.trans few⟩
    · rw [fails]
      exact slotGet_slotChange_same found
    · rcases room with internal | few
      · exact absurd internal host
      · exact absurd (slim.trans (by dsimp only; omega)) full
    · rw [back_flies up free worked] at full
      exact absurd few full

end

/-! ## The line is free (R29) -/

/-- What the line keeps as it is freed. -/
structure Freed (l : LineId) (s t : State) : Prop where
  frame : t = { s with lineA := t.lineA, lineB := t.lineB, points := t.points }
  state : (getLine t l).state = (getLine s l).state ∧ (getLine t l).errors = (getLine s l).errors
  node : ∀ addr n, slotGet (getLine s l).nodes addr = some n →
    ∃ n', slotGet (getLine t l).nodes addr = some n' ∧ n' = { n with probeDue := n'.probeDue }

theorem freeLine_freed (l : LineId) (returning : Option QueueEntry) (s : State) :
    Freed l s (freeLine l returning s) := by
  cases returning with
  | none =>
    have kept := grantLine_state s.now (lineCfg s.config l) (getLine s l)
    rw [← getLine_grantLines] at kept
    exact ⟨rfl, kept, fun _ _ found => grantLines_node found⟩
  | some e =>
    have line := returnedLine_line (l := l) (e := e) (s := s)
    have kept := grantLine_state s.now (lineCfg s.config l) (returnedLine l e s)
    rw [← granted_returned] at kept
    have frame : LinesAndPoints s (grantLines (returnWrite l e s)) :=
      returnWrite_frame.trans (v := grantLines (returnWrite l e s)) rfl
    refine ⟨frame, ⟨?_, ?_⟩, fun addr n found => grantLines_node ?_⟩
    · rw [line] at kept
      exact kept.1
    · rw [line] at kept
      exact kept.2
    · unfold returnedLine at line
      rw [line]
      exact found

theorem freeLine_stands (l : LineId) (returning : Option QueueEntry) (s : State) :
    PointsStand s (freeLine l returning s) := by
  cases returning with
  | none => exact .of_same rfl
  | some e =>
    rcases returnWrite_split (l := l) (e := e) (s := s) with ⟨back, -⟩ | ⟨fails, -⟩
    · refine .of_same ?_
      have points : (grantLines (changeLine l (backLine e) s)).points = (changeLine l (backLine e) s).points := rfl
      rw [freeLine, back, points, changeLine_frame]
    · rw [freeLine, fails]
      intro k q found
      obtain ⟨q', found', -⟩ := (writeFailed_cancels (pointOf l e) (e.tries + 1) s).points k q found
      exact ⟨q', found'⟩

theorem freeLine_none_points (l : LineId) (s : State) : (freeLine l none s).points = s.points := rfl

end Sys2Proof.Machine


/-! SUPPORT. A transaction that ends with its outcome (R26, R27, R36, R38, R46, R75), step by step. -/

namespace Sys2Proof.Machine

open Sys2Proof.Claims

/-- The end of a transaction `x` on line `l`, from `s` to `t` by its steps: the line idle, the node told, the content
delivered, the line told, the line free. -/
structure Ending (l : LineId) (x : Txn) (n : NodeRec) (outcome : TxnOutcome) (reply : Option GoodReply)
    (s a b c d t : State) : Prop where
  found : slotGet (getLine s l).nodes x.node = some n
  up : isDown (getLine s l) = false
  idles : a = changeLine l (fun line => { line with inFlight := none, noiseCounted := false }) s
  applies : b = applyToNode l x.node x.work outcome reply a
  delivers : c = deliver l x outcome reply b
  scores : d = scoreLine l outcome c
  frees : t = freeLine l (writeToReturn x.work outcome) d

theorem ending {l : LineId} {x : Txn} {n : NodeRec} {s : State} (found : slotGet (getLine s l).nodes x.node = some n)
    (up : isDown (getLine s l) = false) (valid : x.voided = false) (outcome : TxnOutcome) (reply : Option GoodReply) :
    ∃ a b c d, Ending l x n outcome reply s a b c d (endTransaction l x outcome reply s) := by
  refine ⟨_, _, _, _, found, up, rfl, rfl, rfl, rfl, ?_⟩
  simp only [endTransaction, valid, Bool.false_eq_true, if_false]

/-- The record of the node after the transaction. -/
def nodeThen (x : Txn) (outcome : TxnOutcome) (reply : Option GoodReply) (n : NodeRec) (s : State) : NodeRec :=
  nodeAfter s.now x.work outcome reply n

theorem contactFrom_up {node : NodeState} {p q : LineState} (one : ∀ d, p ≠ .down d) (two : ∀ d, q ≠ .down d) :
    contactFrom node p = contactFrom node q := by
  cases p with
  | down d => exact absurd rfl (one d)
  | _ => cases q with
    | down d => exact absurd rfl (two d)
    | _ => cases node <;> rfl

theorem state_up {line : Line} (up : isDown line = false) (d : DownPhase) : line.state ≠ .down d := by
  intro down
  rw [isDown, down] at up
  cases up

namespace Ending

variable {l : LineId} {x : Txn} {n : NodeRec} {outcome : TxnOutcome} {reply : Option GoodReply} {s a b c d t : State}
  (h : Ending l x n outcome reply s a b c d t)

include h

/-! ## The steps -/

theorem a_line : getLine a l = { getLine s l with inFlight := none, noiseCounted := false } := by
  rw [h.idles, getLine_changeLine]

theorem a_frame : LinesAndNotices s a := by
  rw [h.idles]
  exact changeLine_linesAndNotices _ _ s

theorem a_raises {P : Notice → Prop} : Raises P s a := by
  rw [h.idles]
  exact changeLine_raises _ _ s

theorem a_now : a.now = s.now := by rw [h.a_frame]

theorem a_contact : contactOf a (busOf l) x.node = contactOf s (busOf l) x.node := by
  rw [contactOf_busOf, contactOf_busOf, lineContact, lineContact, h.a_line]

theorem a_found : slotGet (getLine a l).nodes x.node = some n := by
  rw [h.a_line]
  exact h.found

theorem a_up : isDown (getLine a l) = false := by
  rw [h.a_line]
  exact h.up

theorem applied : NodeApplied l x.node n (nodeThen x outcome reply n s) a b := by
  have applied := applyToNode_applied (work := x.work) (outcome := outcome) (reply := reply) h.a_found
  rw [h.a_now, ← h.applies] at applied
  exact applied

theorem plain (notProbe : x.work ≠ .probe) : PlainApplied l x.node a b := by
  rw [h.applies]
  exact applyToNode_plain h.a_found notProbe h.a_up

theorem c_line : getLine c l = fetchOf x.node reply (getLine b l) := by
  rw [h.delivers, deliver_line]

theorem c_line_eq : getLine c l = { getLine s l with
    inFlight := none, noiseCounted := false, nodes := (getLine b l).nodes, scan := (getLine b l).scan
    oneOffs := (getLine b l).oneOffs, queue := (getLine b l).queue, fetch := (getLine c l).fetch } := by
  rw [h.c_line, fetchOf_line, h.applied.line, h.a_line]

theorem c_now : c.now = s.now := by
  rw [h.delivers, deliver_now, h.applied.now, h.a_now]

theorem scored : Scored l outcome c d := by
  rw [h.scores]
  refine scoreLine_scored ?_ ?_ outcome
  · rw [h.c_line_eq]
    exact h.up
  · rw [h.c_line_eq]

theorem freed : Freed l d t := by
  rw [h.frees]
  exact freeLine_freed _ _ _

theorem d_idle : (getLine d l).inFlight = none := by
  rw [h.scored.line, h.c_line_eq]

/-! ## The node and the count -/

theorem t_now : t.now = s.now := by
  rw [h.freed.frame]
  exact h.scored.now.trans h.c_now

theorem t_node : ∃ n', slotGet (getLine t l).nodes x.node = some n'
    ∧ n' = { nodeThen x outcome reply n s with probeDue := n'.probeDue } := by
  refine h.freed.node x.node _ ?_
  rw [h.scored.line, h.c_line_eq]
  exact h.applied.node

theorem c_errors : (getLine c l).errors = (getLine s l).errors := by rw [h.c_line_eq]

theorem c_state : (getLine c l).state = (getLine s l).state := by rw [h.c_line_eq]

theorem t_errors : (getLine t l).errors = (getLine d l).errors := h.freed.state.2

theorem t_state : (getLine t l).state = (getLine d l).state := h.freed.state.1

/-! ## The notices -/

theorem b_raises : Raises (fun m => ((nodeThen x outcome reply n s).state ≠ n.state
    ∧ m = nodeNews l x.node s.now n (nodeThen x outcome reply n s)) ∨ AboutField m) s b := by
  have raises := h.applied.raises
  rw [h.a_now] at raises
  exact h.a_raises.trans raises

theorem c_raises : Raises AboutField b c := by
  rw [h.delivers]
  exact deliver_about _ _ _ _ _

theorem d_raises : Raises (fun m => AboutField m
    ∨ (getLine t l).state ≠ (getLine s l).state ∧ ∃ l', m.subject = .line l') c d := by
  have raises := h.scored.raises
  rw [h.c_state, ← h.t_state] at raises
  exact raises

theorem t_notices {P : Notice → Prop} : Raises P d t :=
  .of_same (by rw [h.freed.frame]) (by rw [h.freed.frame])

/-- Where the notices of the end come from. -/
theorem origin {m : Notice} (member : m ∈ t.notices) : m ∈ s.notices
    ∨ ((nodeThen x outcome reply n s).state ≠ n.state ∧ m = nodeNews l x.node s.now n (nodeThen x outcome reply n s))
    ∨ AboutField m ∨ ((getLine t l).state ≠ (getLine s l).state ∧ ∃ l', m.subject = .line l') := by
  rcases (h.t_notices (P := AboutField)).origin member with member | about
  · rcases h.d_raises.origin member with member | about | moved
    · rcases h.c_raises.origin member with member | about
      · rcases h.b_raises.origin member with stood | news | about
        · exact .inl stood
        · exact .inr (.inl news)
        · exact .inr (.inr (.inl about))
      · exact .inr (.inr (.inl about))
    · exact .inr (.inr (.inl about))
    · exact .inr (.inr (.inr moved))
  · exact .inr (.inr (.inl about))

theorem node_told (moved : (nodeThen x outcome reply n s).state ≠ n.state) :
    Told (nodeNews l x.node s.now n (nodeThen x outcome reply n s)) s t := by
  have told := h.applied.told moved
  rw [h.a_now] at told
  exact told.within (h.a_raises (P := AboutField)) h.applied.raises
    ((h.c_raises.mono fun _ => .inl).trans (h.d_raises.trans h.t_notices))

theorem line_told {m : Notice} (told : Told m c d) : Told m s t :=
  told.within (h.b_raises.trans (h.c_raises.mono fun _ => .inr)) h.d_raises (h.t_notices (P := AboutField))

/-! ## The points -/

theorem d_points : PointsFade c d := h.scored.points

section

variable (notProbe : x.work ≠ .probe)

include notProbe

theorem b_points : PointsFade s b := h.a_frame.pointsFade.trans (h.plain notProbe).points

theorem d_queue : (getLine d l).queue = (getLine s l).queue := by
  rw [h.scored.line, h.c_line_eq]
  dsimp only
  rw [(h.plain notProbe).queue, h.a_line]

end

theorem t_points (none_ : writeToReturn x.work outcome = none) : t.points = d.points := by
  rw [h.frees, none_, freeLine_none_points]

section

variable {e : QueueEntry} {r : PointRec} (work : x.work = .writePoint e)
  (found : getPoint s (pointOf l e) = some r)

include work found

/-- R36: the point of a write that has succeeded. -/
theorem write_succeeds (good : outcome = .good) :
    ∃ r', getPoint t (pointOf l e) = some r' ∧ r'.lastWrite = .ok ∧ r'.tries = e.tries + 1 := by
  have notProbe : x.work ≠ .probe := by simp [work]
  have none_ : writeToReturn x.work outcome = none := by simp [writeToReturn, work, good]
  obtain ⟨r₁, found₁, -⟩ := h.b_points notProbe _ r found
  obtain ⟨r₂, found₂, ok, tries⟩ := deliver_written (reply := reply) work found₁ good
  rw [← h.delivers] at found₂
  obtain ⟨r₃, found₃, fades, kept⟩ := h.d_points _ r₂ found₂
  refine ⟨r₃, by rw [getPoint, h.t_points none_]; exact found₃, kept.trans ok, ?_⟩
  rw [fades.fields]
  exact tries

/-- R36: the point of a write that has failed for the third time. -/
theorem write_fails (bad : outcome ≠ .good) (last : 2 ≤ e.tries) :
    ∃ r', getPoint t (pointOf l e) = some r' ∧ r'.lastWrite = .failed ∧ r'.tries = 3 := by
  have notProbe : x.work ≠ .probe := by simp [work]
  have none_ : writeToReturn x.work outcome = none := by
    simp only [writeToReturn, work]
    exact if_neg fun again => absurd last (Nat.not_le.mpr again.2)
  obtain ⟨r₁, found₁, -⟩ := h.b_points notProbe _ r found
  obtain ⟨r₂, found₂, failed, tries⟩ := deliver_failed (reply := reply) work found₁ bad last
  rw [← h.delivers] at found₂
  obtain ⟨r₃, found₃, fades, kept⟩ := h.d_points _ r₂ found₂
  refine ⟨r₃, by rw [getPoint, h.t_points none_]; exact found₃, kept.trans failed, ?_⟩
  rw [fades.fields]
  exact tries

variable (bad : outcome ≠ .good) (again : e.tries < 2)

include bad again

omit found in
theorem write_returns : t = grantLines (returnWrite l e d) := by
  have some_ : writeToReturn x.work outcome = some e := by
    simp only [writeToReturn, work]
    exact if_pos ⟨bad, again⟩
  rw [h.frees, some_]
  rfl

theorem write_stands : ∃ r', getPoint d (pointOf l e) = some r' := by
  have notProbe : x.work ≠ .probe := by simp [work]
  obtain ⟨r₁, found₁, -⟩ := h.b_points notProbe _ r found
  obtain ⟨r₃, found₃, -⟩ := h.d_points (pointKey (pointOf l e)) r₁ (by
    rw [h.delivers, deliver_again work bad again]
    exact found₁)
  exact ⟨r₃, found₃⟩

end

/-- R75: the point of a one-off read. -/
theorem read_ends {first count : Nat} {r : PointRec} (work : x.work = .readPoints first count true)
    (found : getPoint s ⟨busOf l, x.node, first⟩ = some r) (silent : outcome ≠ .good → reply = none) :
    ∃ r', getPoint t ⟨busOf l, x.node, first⟩ = some r' ∧ r'.oneOffWaiting = false ∧ r'.status ≠ .pending
      ∧ (outcome ≠ .good → r'.value = r.value) := by
  have notProbe : x.work ≠ .probe := by simp [work]
  have none_ : writeToReturn x.work outcome = none := by simp [writeToReturn, work]
  obtain ⟨r₁, found₁, fades₁, -⟩ := h.b_points notProbe _ r found
  obtain ⟨r₂, found₂, waiting, other, value⟩ := deliver_oneOff work found₁ outcome reply
  rw [← h.delivers] at found₂
  obtain ⟨r₃, found₃, fades₃, -⟩ := h.d_points _ r₂ found₂
  refine ⟨r₃, by rw [getPoint, h.t_points none_]; exact found₃, fades₃.oneOff waiting,
    fades₃.status.not_pending other, fun bad => ?_⟩
  rw [fades₃.weakens.value, value (silent bad), fades₁.weakens.value]

/-! ## The content of a good reply -/

theorem t_contact (good : outcome = .good) : contactOf t (busOf l) x.node = contactOf b (busOf l) x.node := by
  obtain ⟨n', node, same⟩ := h.t_node
  have state : n'.state = (nodeThen x outcome reply n s).state := by rw [same]
  have counts := h.scored.credit (.inl good)
  have upB : isDown (getLine b l) = false := by
    rw [h.applied.line]
    exact h.a_up
  rw [contactOf_found node, contactOf_found h.applied.node, state]
  refine contactFrom_up (fun p => ?_) (state_up upB)
  rw [h.t_state, counts.own, stateOf]
  dsimp only
  split <;> simp

theorem t_frame (none_ : writeToReturn x.work outcome = none) (good : outcome = .good) :
    LinesAndNotices c t := by
  refine (h.scored.credit (.inl good)).frame.trans ?_
  rw [h.frees, none_]
  rfl

end Ending

end Sys2Proof.Machine


/-! SUPPORT and PROOFS. A transaction that ends with its outcome, in the words of its claims. -/

namespace Sys2Proof.Machine

open Sys2Proof.Claims

/-! ## Content (R27, R68) -/

theorem readDone_points {l : LineId} {x : Txn} {k : Nat} {q : PointRec} {s : State}
    (found : slotGet s.points k = some q) :
    slotGet (readDone l x s).points k = some q ∨ slotGet (readDone l x s).points k = some (oneOffDone q) := by
  unfold readDone
  split
  · rename_i first _ _
    by_cases own : k = pointKey ⟨busOf l, x.node, first⟩
    · subst own
      exact .inr (slotGet_slotChange_same found)
    · exact .inl ((slotGet_slotChange_ne own).trans found)
  · exact .inl found

theorem readDone_frame (l : LineId) (x : Txn) (s : State) :
    readDone l x s = { s with points := (readDone l x s).points } := by
  unfold readDone
  split <;> rfl

/-- A delivered value stays as the one-off read ends. -/
theorem oneOffDone_delivered {s : State} {p : PointRef} {v : Nat} {q : PointRec} :
    (oneOffDone (deliveredRecord s p v q)).readback = (deliveredRecord s p v q).readback
      ∧ (oneOffDone (deliveredRecord s p v q)).value = (deliveredRecord s p v q).value
      ∧ (oneOffDone (deliveredRecord s p v q)).time = (deliveredRecord s p v q).time
      ∧ (isOutput s.config p = false →
        (oneOffDone (deliveredRecord s p v q)).status = (deliveredRecord s p v q).status) := by
  refine ⟨rfl, rfl, rfl, fun input => ?_⟩
  have status : (deliveredRecord s p v q).status = deliveredStatus (contactOf s p.bus p.addr) := by
    simp only [deliveredRecord, input, Bool.false_eq_true, if_false]
  unfold oneOffDone
  refine if_neg ?_
  rw [status]
  cases contactOf s p.bus p.addr <;> simp [deliveredStatus]

theorem writeToReturn_good (work : TxnWork) : writeToReturn work .good = none := by
  cases work <;> simp [writeToReturn]

namespace Ending

variable {l : LineId} {x : Txn} {n : NodeRec} {g : GoodReply} {s a b c d t : State}
  (h : Ending l x n .good (some g) s a b c d t)

/-- The state that the delivery starts from. -/
def deliveryStart (l : LineId) (x : Txn) (g : GoodReply) (b : State) : State :=
  changeLine l (fetchAfter x.node g.waiting) b

include h

theorem start_contact : contactOf (deliveryStart l x g b) (busOf l) x.node = contactOf t (busOf l) x.node := by
  rw [h.t_contact rfl, contactOf_busOf, contactOf_busOf, deliveryStart, getLine_changeLine, fetchAfter_line,
    lineContact, lineContact]

section

variable (notProbe : x.work ≠ .probe)

include notProbe

theorem start_frame : FieldOnly s (deliveryStart l x g b) :=
  (h.a_frame.fieldOnly.trans (h.plain notProbe).frame).trans (changeLine_linesAndNotices _ _ b).fieldOnly

theorem start_still (same : contactOf s (busOf l) x.node = contactOf t (busOf l) x.node) :
    LinesAndNotices s (deliveryStart l x g b) := by
  refine (h.a_frame.trans ((h.plain notProbe).still ?_)).trans (changeLine_linesAndNotices _ _ b)
  rw [h.a_contact, same, h.t_contact rfl]

variable (notWrite : ∀ e, x.work ≠ .writePoint e)

include notWrite

omit notProbe in
/-- What is delivered, and then the end of a one-off read. -/
theorem c_eq : c = readDone l x (deliverContent l x.node x.work g.content (deliveryStart l x g b)) := by
  have written : writeDone l x .good b = b := by
    unfold writeDone
    split
    · rename_i e work
      exact absurd work (notWrite e)
    · rfl
  rw [h.delivers, deliver_parts, written]
  rfl

omit notProbe notWrite in
theorem t_points_good : t.points = c.points := by
  rw [h.t_frame (writeToReturn_good _) rfl]

end

/-- R27, R68: the values of a read. -/
theorem values_taken {first count : Nat} {oneOff : Bool} {vs : List Nat}
    (work : x.work = .readPoints first count oneOff) (content : g.content = .values vs)
    {i value : Nat} {r : PointRec} (at_ : vs[i]? = some value)
    (found : getPoint s ⟨busOf l, x.node, first + i⟩ = some r) :
    ∃ r', getPoint t ⟨busOf l, x.node, first + i⟩ = some r'
      ∧ (isOutput s.config ⟨busOf l, x.node, first + i⟩ = true → r'.readback = some value ∧ r'.value = r.value)
      ∧ (isOutput s.config ⟨busOf l, x.node, first + i⟩ = false → r'.value = some (value : Int) ∧ r'.time = some s.now
        ∧ r'.status = deliveredStatus (contactOf t (busOf l) x.node)) := by
  have notProbe : x.work ≠ .probe := by simp [work]
  have notWrite : ∀ e, x.work ≠ .writePoint e := by simp [work]
  obtain ⟨q, foundB, fades, -⟩ := h.b_points notProbe _ r found
  have start : getPoint (deliveryStart l x g b) ⟨busOf l, x.node, first + i⟩ = some q := by
    rw [getPoint, deliveryStart, changeLine_frame]
    exact foundB
  have frame := h.start_frame notProbe
  have config : (deliveryStart l x g b).config = s.config := by rw [frame]
  have now : (deliveryStart l x g b).now = s.now := by rw [frame]
  have taken_ := deliverValues_own at_ start
  have inC : slotGet c.points (pointKey ⟨busOf l, x.node, first + i⟩)
      = some (deliveredRecord (deliveryStart l x g b) ⟨busOf l, x.node, first + i⟩ value q)
      ∨ slotGet c.points (pointKey ⟨busOf l, x.node, first + i⟩)
        = some (oneOffDone (deliveredRecord (deliveryStart l x g b) ⟨busOf l, x.node, first + i⟩ value q)) := by
    rw [h.c_eq notWrite]
    refine readDone_points ?_
    simp only [deliverContent, work, content]
    exact taken_
  obtain ⟨readback, val, time, status⟩ := oneOffDone_delivered (s := deliveryStart l x g b)
    (p := ⟨busOf l, x.node, first + i⟩) (v := value) (q := q)
  have ends : ∃ r', getPoint t ⟨busOf l, x.node, first + i⟩ = some r'
      ∧ r'.readback = (deliveredRecord (deliveryStart l x g b) ⟨busOf l, x.node, first + i⟩ value q).readback
      ∧ r'.value = (deliveredRecord (deliveryStart l x g b) ⟨busOf l, x.node, first + i⟩ value q).value
      ∧ r'.time = (deliveredRecord (deliveryStart l x g b) ⟨busOf l, x.node, first + i⟩ value q).time
      ∧ (isOutput s.config ⟨busOf l, x.node, first + i⟩ = false → r'.status
        = (deliveredRecord (deliveryStart l x g b) ⟨busOf l, x.node, first + i⟩ value q).status) := by
    rw [getPoint, h.t_points_good]
    rw [config] at status
    rcases inC with found' | found'
    · exact ⟨_, found', rfl, rfl, rfl, fun _ => rfl⟩
    · exact ⟨_, found', readback, val, time, status⟩
  obtain ⟨r', found', readback, val, time, status⟩ := ends
  refine ⟨r', found', fun output => ?_, fun input => ?_⟩
  · rw [readback, val]
    simp only [deliveredRecord, config, output, if_true]
    exact ⟨trivial, fades.weakens.value⟩
  · rw [val, time, status input]
    simp only [deliveredRecord, config, input, Bool.false_eq_true, if_false, now, h.start_contact]
    exact ⟨trivial, trivial, trivial⟩

end Ending

end Sys2Proof.Machine

namespace Sys2Proof.Claims

open Sys2Proof.Machine

section

variable {l : LineId} {x : Txn} {n : NodeRec} {g : GoodReply} {s a b c d t : State}
  (h : Ending l x n .good (some g) s a b c d t)

include h

/-- A transaction that delivers no values and no events. -/
theorem contentTaken_nothing (noRead : ∀ first count oneOff, x.work ≠ .readPoints first count oneOff)
    (noFetch : x.work ≠ .fetchEvents) : contentTaken l x g s t := by
  refine ⟨{ s with lineA := t.lineA, lineB := t.lineB }, ?_, rfl, fun _ => rfl,
    fun first count oneOff _ work => absurd work (noRead first count oneOff), fun _ work => absurd work noFetch⟩
  cases l <;> rfl

theorem contentTaken_holds : contentTaken l x g s t := by
  by_cases probe : x.work = .probe
  · exact contentTaken_nothing h (by simp [probe]) (by simp [probe])
  by_cases write : ∃ e, x.work = .writePoint e
  · obtain ⟨e, work⟩ := write
    exact contentTaken_nothing h (by simp [work]) (by simp [work])
  have notWrite : ∀ e, x.work ≠ .writePoint e := fun e work => write ⟨e, work⟩
  have frame := h.t_frame (writeToReturn_good _) rfl
  have points := h.t_points_good
  have delivered := h.c_eq notWrite
  have start := h.start_frame probe
  refine ⟨Ending.deliveryStart l x g b, h.start_contact, Eq.trans start (by rw [start]), h.start_still probe,
    fun first count oneOff vs work content => ⟨?values, fun i value r at_ found => ?_⟩,
    fun es work content => ?events⟩
  case values =>
    have contents : deliverContent l x.node x.work g.content (Ending.deliveryStart l x g b)
        = forEach vs.zipIdx (fun e => deliverRead ⟨busOf l, x.node, first + e.2⟩ (e.1 : Nat))
          (Ending.deliveryStart l x g b) := by
      rw [← deliverValues_forEach first 0 vs]
      simp only [deliverContent, work, content, Nat.add_zero]
    rw [contents, readDone_frame] at delivered
    rw [delivered] at frame
    exact Eq.trans frame (by rw [points, delivered])
  case events =>
    have contents : deliverContent l x.node x.work g.content (Ending.deliveryStart l x g b)
        = forEach es (takeEvent (busOf l) x.node) (Ending.deliveryStart l x g b) := by
      simp only [deliverContent, work, content]
    have read (v : State) : readDone l x v = v := by simp only [readDone, work]
    rw [contents, read] at delivered
    rw [delivered] at frame
    exact frame
  · obtain ⟨r', found', output, input⟩ := h.values_taken work content at_ found
    refine ⟨r', found', output, fun is => ?_⟩
    obtain ⟨value_, time, status⟩ := input is
    refine ⟨value_, time, status.trans ?_⟩
    cases contactOf t (busOf l) x.node <;> rfl

theorem fetchListed_holds : fetchListed l x g s t := by
  intro worked
  have tLine : getLine t l = grantLine d.now (lineCfg d.config l) (getLine d l) := by
    rw [h.frees, writeToReturn_good]
    exact getLine_grantLines l d
  have counts := h.scored.credit (.inl rfl)
  have workedB : nodeWorked (getLine b l) x.node = true := by
    rw [tLine, grantLine_worked, counts.own] at worked
    have nodes : (getLine c l).nodes = (getLine b l).nodes := by rw [h.c_line_eq]
    unfold nodeWorked at worked ⊢
    dsimp only at worked
    rw [nodes] at worked
    exact worked
  have workedNode : isWorked (nodeThen x .good (some g) n s).state = true := by
    unfold nodeWorked at workedB
    rw [h.applied.node] at workedB
    exact workedB
  have fetchB : (getLine b l).fetch = (getLine s l).fetch := by
    rw [h.applied.fetch workedNode, h.a_line]
  have fetchD : (getLine d l).fetch = if g.waiting = 0 then (getLine s l).fetch.filter (fun a => a != x.node)
      else if x.node ∈ (getLine s l).fetch then (getLine s l).fetch else (getLine s l).fetch ++ [x.node] := by
    rw [counts.own]
    dsimp only
    rw [h.c_line]
    exact (fetchAfter_worked workedB g.waiting).trans (by rw [fetchB])
  have grant := grantLine_fetches (now := d.now) (cfg := lineCfg d.config l) (line := getLine d l)
  rw [← tLine, fetchD] at grant
  rcases grant with same | taken_
  · exact .inl same.symm
  · exact .inr taken_

end

end Sys2Proof.Claims

namespace Sys2Proof.Claims

open Sys2Proof.Machine

section

variable {l : LineId} {x : Txn} {n : NodeRec} {outcome : TxnOutcome} {reply : Option GoodReply}
  {s a b c d t : State} (h : Ending l x n outcome reply s a b c d t)

include h

theorem nodeNoticed_holds {n' : NodeRec} (same : n' = { nodeThen x outcome reply n s with probeDue := n'.probeDue }) :
    nodeNoticed l x.node n n' s t := by
  have state : n'.state = (nodeThen x outcome reply n s).state := by rw [same]
  have score : n'.score = (nodeThen x outcome reply n s).score := by rw [same]
  have notice : (⟨match n'.state with
      | .degraded => .nodeDegraded
      | .silent => .nodeSilent
      | _ => .nodeOnline, s.now, .node l x.node, some (n'.score : Int), some n.state.ctorIdx⟩ : Notice)
      = nodeNews l x.node s.now n (nodeThen x outcome reply n s) := by
    rw [nodeNews, state, score]
    cases (nodeThen x outcome reply n s).state <;> rfl
  refine ⟨fun moved => ?_, fun m member l' addr' subject => ?_⟩
  · rw [state] at moved
    have told := h.node_told moved
    rw [← notice] at told
    exact told
  · rcases h.origin member with stood | ⟨moved, news⟩ | (⟨e, about⟩ | ⟨z, about⟩) | ⟨-, o, about⟩
    · exact .inl stood
    · rw [← state] at moved
      exact .inr ⟨moved, news.trans notice.symm⟩
    · rw [subject] at about
      cases about
    · rw [subject] at about
      cases about
    · rw [subject] at about
      cases about

theorem lineNoticed_holds : lineNoticed l outcome s t := by
  have scored := h.scored
  refine ⟨fun ⟨broken, much⟩ => ?falls, fun quiet => ?quiet, fun notFalls counts => ?counts, 
    fun same m member o subject => ?none⟩
  case falls =>
    rw [← h.c_errors] at much
    have told := h.line_told (scored.told_falls broken much)
    rw [h.c_now] at told
    refine ⟨?_, told⟩
    rw [h.t_state, scored.state_falls broken much, h.c_now]
  case quiet => rw [h.t_state, scored.quiet quiet, h.c_state]
  case counts =>
    rw [← h.c_errors] at notFalls
    obtain ⟨errors, counted⟩ := scored.state_counts notFalls counts
    have tErrors : (getLine t l).errors = errors := by rw [h.t_errors, counted.own]
    have tState : (getLine t l).state = stateOf errors := by rw [h.t_state, counted.own]
    rw [tErrors, tState]
    refine ⟨rfl, fun moved => ?_⟩
    rw [← h.c_state] at moved
    have told := h.line_told (counted.told moved)
    rw [h.c_now] at told
    exact told
  case none =>
    rcases h.origin member with stood | ⟨-, news⟩ | (⟨e, about⟩ | ⟨z, about⟩) | ⟨moved, -⟩
    · exact stood
    · rw [news] at subject
      cases subject
    · rw [subject] at about
      cases about
    · rw [subject] at about
      cases about
    · exact absurd same moved

end

end Sys2Proof.Claims

namespace Sys2Proof.Proofs

open Sys2Proof.Machine Sys2Proof.Claims

theorem judgeReply_silent {d : NodeDef} {node : Nat} {work : TxnWork} {bytes : List Byte} {framing : Bool}
    (bad : (judgeReply d node work bytes framing).1 ≠ .good) : (judgeReply d node work bytes framing).2 = none := by
  unfold judgeReply at bad ⊢
  split
  · rfl
  · split
    · rfl
    · split
      · rfl
      · split
        · rfl
        · simp_all

section

variable {l : LineId} {x : Txn} {s : State} (on : s.powered = true) (flies : (getLine s l).inFlight = some x)

include on flies

theorem exec_replyCutoff : exec (.replyCutoff l) s = .next (endTransaction l x .broken none s) := by
  refine (powered_on on).trans ?_
  simp only [flies]

theorem exec_replyTimeout {expiry : Nat} (waits : x.phase = .waiting expiry) (come : expiry ≤ s.now) :
    exec (.replyTimeout l) s = .next (endTransaction l x .noReply none s) := by
  refine (powered_on on).trans ?_
  simp only [flies, waits]
  exact congrArg _ (whenDue_due come)

theorem exec_replySilence (bytes : List Byte) (framing : Bool) : exec (.replySilence l bytes framing) s
    = .next (endTransaction l x (judgeReply (replyDef s l x.node) x.node x.work bytes framing).1
      (judgeReply (replyDef s l x.node) x.node x.work bytes framing).2 s) := by
  refine (powered_on on).trans ?_
  simp only [flies]

end

/-- Settles O46: the steps of the end by `Ending`, the notices by `nodeNoticed_holds` and `lineNoticed_holds`, the
content by `contentTaken_holds` and `fetchListed_holds`. -/
theorem transactionsEndWithTheirOutcome : Obligations.TransactionsEndWithTheirOutcome := by
  intro l x s on flies
  refine ⟨fun voided => ?voided, ?ends, fun collects => ?collects⟩
  case voided =>
    have ends (outcome : TxnOutcome) (reply : Option GoodReply) : endTransaction l x outcome reply s = grantLines
        (setLine s l { getLine s l with inFlight := none, noiseCounted := false }) := by
      simp only [endTransaction, voided, if_true]
      rfl
    exact ⟨(exec_replyCutoff on flies).trans (by rw [ends]),
      fun bytes e => (exec_replySilence on flies bytes e).trans (by rw [ends]),
      fun expiry waits come => (exec_replyTimeout on flies waits come).trans (by rw [ends])⟩
  case ends =>
    intro n d valid up found defined ended
    have judged : replyDef s l x.node = d := by rw [replyDef, defined, Option.getD_some]
    have all (instr : Instr) (outcome : TxnOutcome) (reply : Option GoodReply)
        (runs : exec instr s = .next (endTransaction l x outcome reply s)) (silent : outcome ≠ .good → reply = none) :
        ended instr outcome reply := by
      obtain ⟨a, b, c, d, h⟩ := ending found up valid outcome reply
      obtain ⟨n', node, same⟩ := h.t_node
      refine ⟨_, n', runs, h.t_now, node, same, fun is => ?_, fun is => ?_, fun is => ?_, nodeNoticed_holds h same,
        lineNoticed_holds h, fun e r work at_ => ?_, fun first count r work at_ => h.read_ends work at_ silent⟩
      · rw [h.t_errors, h.scored.errors_noReply is, h.c_errors]
      · rw [h.t_errors, h.scored.errors_credit is, h.c_errors]
      · rw [h.t_errors, h.scored.errors_broken is, h.c_errors]
      · have notProbe : x.work ≠ .probe := by simp [work]
        have queue := h.d_queue notProbe
        by_cases good : outcome = .good
        · obtain ⟨r', at', ok, tries⟩ := h.write_succeeds work at_ good
          exact ⟨r', at', fun _ => ⟨ok, tries⟩, fun bad => absurd good bad, fun bad => absurd good bad,
            fun bad => absurd good bad⟩
        by_cases last : 2 ≤ e.tries
        · obtain ⟨r', at', failed, tries⟩ := h.write_fails work at_ good last
          exact ⟨r', at', fun is => absurd is good, fun _ _ => ⟨failed, tries⟩,
            fun _ again => absurd last (Nat.not_le.mpr again), fun _ again => absurd last (Nat.not_le.mpr again)⟩
        have again : e.tries < 2 := Nat.not_le.mp last
        obtain ⟨r₁, stands⟩ := h.write_stands work at_ good again
        rw [h.write_returns work good again]
        cases newer : (getLine s l).queue.any (entryFor e.node e.point) with
        | true =>
          obtain ⟨r', at'⟩ := freeLine_stands l (some e) d _ r₁ stands
          exact ⟨r', at', fun is => absurd is good, fun _ late => absurd late last, fun _ _ absent => (by cases absent),
            fun _ _ q member node point => returned_newer (by rw [queue]; exact member) node point⟩
        | false =>
          obtain ⟨r', at', returns, goes, either, hosts⟩ := returned_write (by rw [queue]; exact newer) h.d_idle stands
          rw [queue] at returns goes hosts
          refine ⟨r', at', fun is => absurd is good, fun _ late => absurd late last,
            fun _ _ _ => ⟨returns, goes, either, hosts⟩, ?_⟩
          intro _ _ q member node point
          exact returned_newer (by rw [queue]; exact member) node point
    refine ⟨all _ _ _ (exec_replyCutoff on flies) fun _ => rfl,
      fun expiry waits come => all _ _ _ (exec_replyTimeout on flies waits come) fun _ => rfl, fun bytes e => ⟨?_, ?_⟩⟩
    · have runs := exec_replySilence on flies bytes e
      rw [judged] at runs
      exact all _ _ _ runs judgeReply_silent
    · intro g good
      have runs := exec_replySilence on flies bytes e
      rw [judged, good] at runs
      obtain ⟨_, _, _, _, h⟩ := ending found up valid .good (some g)
      exact ⟨_, runs, contentTaken_holds h, fetchListed_holds h⟩
  case collects =>
    refine powered_still ?_
    simp only [flies, collects]

end Sys2Proof.Proofs


/-! SUPPORT. Load commands where no load shares its terminal with a sensor or a door (R64, R140): what a unit's step
leaves for the loads and the zones that follow. -/

namespace Sys2Proof.Machine

open Sys2Proof.Claims

/-! ## Commands -/

/-- The key is not that of a terminal that a load drives. -/
def sparedKey (c : RunningConfig) (k : Nat) : Prop :=
  ∀ e ∈ c.loads, e.2.binding.bus = .t → k ≠ pointKey (terminalPoint (e.2.binding.point + 1))

/-- `t` follows `s` as loads are commanded: nothing changes but the loads, the lines and what they drive. -/
structure DriveSide (s t : State) : Prop where
  frame : t = { s with
    lineA := t.lineA, lineB := t.lineB, terminals := t.terminals, points := t.points, loads := t.loads }
  points : ∀ k, sparedKey s.config k → (slotGet t.points k).map unwritten = (slotGet s.points k).map unwritten

namespace DriveSide

variable {s t v : State}

theorem config (h : DriveSide s t) : t.config = s.config := by rw [h.frame]

theorem now (h : DriveSide s t) : t.now = s.now := by rw [h.frame]

theorem refl (s : State) : DriveSide s s := ⟨rfl, fun _ _ => rfl⟩

theorem trans (h : DriveSide s t) (k : DriveSide t v) : DriveSide s v := by
  refine ⟨k.frame.trans (by rw [h.frame]), fun i spares => ?_⟩
  have later : sparedKey t.config i := by
    rw [h.config]
    exact spares
  exact (k.points i later).trans (h.points i spares)

theorem changeLoad (k : Nat) (f : LoadRec → LoadRec) (s : State) : DriveSide s (changeLoad k f s) :=
  ⟨rfl, fun _ _ => rfl⟩

theorem loadsApart (h : DriveSide s t) (apart : loadsApart s) : loadsApart t := by
  unfold Claims.loadsApart
  rw [h.config]
  exact apart

end DriveSide

theorem queueWrite_drives (l : LineId) (node point value : Nat) (origin : Origin) (s : State) :
    DriveSide s (queueWrite l node point value origin s) := by
  refine ⟨?_, fun k _ => (queueWrite_writes l node point value origin s).points k⟩
  rw [queueWrite_eq, setLine_frame]

theorem driven_drives {t : Nat} {s : State} (free : doorsAt s.config (terminalPoint t) = []) (v : Nat) :
    driven t v s = { s with points := (driven t v s).points }
      ∧ ∀ k, k ≠ pointKey (terminalPoint t) → slotGet (driven t v s).points k = slotGet s.points k := by
  rw [driven, deliverTerminal_none (by exact free)]
  refine ⟨rfl, fun k apart => ?_⟩
  exact (slotGet_slotChange_ne apart).trans (slotGet_slotChange_ne apart)

theorem driveTerminal_drives {t : Nat} {s : State} (free : doorsAt s.config (terminalPoint t) = []) (v : Nat) :
    driveTerminal t v s = { s with
        terminals := (driveTerminal t v s).terminals, points := (driveTerminal t v s).points }
      ∧ ∀ k, k ≠ pointKey (terminalPoint t) → slotGet (driveTerminal t v s).points k = slotGet s.points k := by
  have steps (f : TermRec → TermRec) (w : Nat) : driven t w (changeTerminal t f s) = { s with
      terminals := (driven t w (changeTerminal t f s)).terminals
      points := (driven t w (changeTerminal t f s)).points }
      ∧ ∀ k, k ≠ pointKey (terminalPoint t) →
        slotGet (driven t w (changeTerminal t f s)).points k = slotGet s.points k := by
    obtain ⟨frame, points⟩ := driven_drives (s := changeTerminal t f s) (by exact free) w
    refine ⟨?_, points⟩
    rw [frame]
    rfl
  unfold driveTerminal
  split
  · exact steps _ _
  · exact steps _ _
  · exact ⟨rfl, fun _ _ => rfl⟩

theorem bus_of_noLine {bus : Bus} (noLine : lineOf bus = none) : bus = .t := by
  cases bus with
  | t => rfl
  | a => cases noLine
  | b => cases noLine

theorem issueCommand_drives {s : State} (apart : loadsApart s) (k : Nat) : DriveSide s (issueCommand k s) := by
  unfold issueCommand
  split
  · rename_i d r defined found
    dsimp only
    have changed := DriveSide.changeLoad k (fun x => { x with
      lastCommand := some r.applied, refreshAt := s.now + Config.refreshMs }) s
    split
    · rename_i noLine
      have bus := bus_of_noLine noLine
      have member := slotGet_mem _ _ _ defined
      obtain ⟨frame, points⟩ := driveTerminal_drives (t := d.binding.point + 1) (s := changeLoad k (fun x => { x with
        lastCommand := some r.applied, refreshAt := s.now + Config.refreshMs }) s) (apart _ member bus).1 r.applied
      refine changed.trans ⟨Eq.trans frame (by rw [frame]), fun i spares => ?_⟩
      rw [points i (spares _ member bus)]
    · exact changed.trans (queueWrite_drives _ _ _ _ _ _)
  · exact .refl s

theorem checkCommand_drives {s : State} (apart : loadsApart s) (k : Nat) : DriveSide s (checkCommand k s) := by
  unfold checkCommand
  split
  · exact issueCommand_drives apart k
  · exact .refl s

/-- A load that takes a new record and is checked for a command. -/
theorem checkedChange_drives {s : State} (apart : loadsApart s) (k : Nat) (f : LoadRec → LoadRec) :
    DriveSide s (checkCommand k (changeLoad k f s)) :=
  (DriveSide.changeLoad k f s).trans (checkCommand_drives ((DriveSide.changeLoad k f s).loadsApart apart) k)

theorem checkedChange_other {k j : Nat} (apart : j ≠ k) (f : LoadRec → LoadRec) (s : State) :
    slotGet (checkCommand k (changeLoad k f s)).loads j = slotGet s.loads j :=
  (checkCommand_other apart _).trans (changeLoad_other apart f s)

/-- What a check for a command leaves. -/
theorem afterCheck_fields (now : Nat) (r : LoadRec) : afterCheck now r
    = { r with lastCommand := (afterCheck now r).lastCommand, refreshAt := (afterCheck now r).refreshAt } := by
  unfold afterCheck
  split <;> rfl

/-! ## What a sensor reads -/

/-- The value that a point holds FRESH. -/
def freshValue (s : State) (p : PointRef) : Option Int :=
  (getPoint s p).bind fun r => if r.status = .fresh then r.value else none

theorem DriveSide.freshValue {s t : State} (h : DriveSide s t) {p : PointRef}
    (spares : sparedKey s.config (pointKey p)) : freshValue t p = freshValue s p := by
  have same := congrArg (Option.bind · fun r => if r.status = .fresh then r.value else none)
    (h.points (pointKey p) spares)
  simp only [Option.bind_map] at same
  exact same

theorem DriveSide.getPoint {s t : State} (h : DriveSide s t) {p : PointRef}
    (spares : sparedKey s.config (pointKey p)) :
    (getPoint t p).map unwritten = (getPoint s p).map unwritten := h.points (pointKey p) spares

theorem sparedKey_daylight {s : State} (apart : loadsApart s) {k : Nat} {x : Daylight} {p : PointRef}
    (defined : slotGet s.config.daylight k = some x) (point : x.point = some p) : sparedKey s.config (pointKey p) :=
  fun e member bus => (apart e member bus).2.2 _ (slotGet_mem _ _ _ defined) p point

theorem sparedKey_temperature {s : State} (apart : loadsApart s) {z : Nat} {d : ZoneDef} {p : PointRef}
    (defined : slotGet s.config.zones z = some d) (point : d.temperature = some p) : sparedKey s.config (pointKey p) :=
  fun e member bus => ((apart e member bus).2.1 _ (slotGet_mem _ _ _ defined)).1 p point

theorem sparedKey_gas {s : State} (apart : loadsApart s) {z : Nat} {d : ZoneDef} {g : GasPoint}
    (defined : slotGet s.config.zones z = some d) (member : g ∈ d.gas) : sparedKey s.config (pointKey g.point) :=
  fun e listed bus => ((apart e listed bus).2.1 _ (slotGet_mem _ _ _ defined)).2 g member

/-! ## A loop that visits each load once -/

theorem slotsWhere_nodup {α : Type} {p : α → Bool} {table : Table α} (ordered : slotWf table = true) :
    (slotsWhere p table).Nodup :=
  (slotWf_nodup ordered).sublist ((List.filter_sublist).map _)

/-- What a loop makes of record `k`, each of whose steps changes the record of its own number alone: nothing, or what
its one step for `k` makes of it in a state that the steps before it have reached. -/
theorem forEach_once {β : Type} {table : State → Table β} {f : Nat → State → State} {I : State → Prop} {k : Nat}
    {items : List Nat} (nodup : items.Nodup) (keeps : ∀ j ∈ items, ∀ s, I s → I (f j s))
    (other : ∀ j ∈ items, ∀ s, I s → j ≠ k → slotGet (table (f j s)) k = slotGet (table s) k) {s : State}
    (holds : I s) :
    (k ∉ items → slotGet (table (forEach items f s)) k = slotGet (table s) k)
    ∧ (k ∈ items → ∃ u, I u ∧ slotGet (table u) k = slotGet (table s) k
      ∧ slotGet (table (forEach items f s)) k = slotGet (table (f k u)) k) := by
  induction items generalizing s with
  | nil => exact ⟨fun _ => rfl, fun member => by cases member⟩
  | cons j rest ih =>
    obtain ⟨once, nodup⟩ := List.nodup_cons.mp nodup
    have next := keeps j List.mem_cons_self s holds
    obtain ⟨absent, present⟩ := ih nodup (fun i member => keeps i (List.mem_cons_of_mem j member))
      (fun i member => other i (List.mem_cons_of_mem j member)) next
    rw [forEach_cons]
    by_cases here : j = k
    · subst here
      exact ⟨fun out => absurd List.mem_cons_self out, fun _ => ⟨s, holds, rfl, absent once⟩⟩
    · have kept := other j List.mem_cons_self s holds here
      refine ⟨fun out => (absent fun member => out (List.mem_cons_of_mem j member)).trans kept, fun member => ?_⟩
      obtain ⟨u, reached, same, made⟩ := present ((List.mem_cons.mp member).resolve_left (Ne.symm here))
      exact ⟨u, reached, same.trans kept, made⟩

end Sys2Proof.Machine


/-! SUPPORT and PROOFS. LIGHTING_STEP (R147 to R160). -/

namespace Sys2Proof.Machine

open Sys2Proof.Claims

/-! ## What a step reads -/

section

variable {s t : State}

theorem DriveSide.zoneView (h : DriveSide s t) (z : Nat) : zoneView t z = zoneView s z := by
  rw [h.frame]
  rfl

theorem DriveSide.decideLevel (h : DriveSide s t) (z : Nat) (d : ZoneDef) (r : ZoneRec) :
    decideLevel t z d r = decideLevel s z d r := by
  rw [h.frame]
  rfl

theorem freshDaylight_eq (s : State) (k : Nat) :
    freshDaylight s k = (daylightOf s.config k).point.bind (freshValue s) := rfl

theorem sparedKey_daylightOf {k : Nat} {p : PointRef} (apart : loadsApart s)
    (point : (daylightOf s.config k).point = some p) : sparedKey s.config (pointKey p) := by
  unfold daylightOf at point
  cases defined : slotGet s.config.daylight k with
  | none => simp [defined] at point
  | some x => exact sparedKey_daylight apart defined (by simpa [defined] using point)

theorem DriveSide.trimmedTarget (h : DriveSide s t) (apart : Claims.loadsApart s) (k target : Nat) (occupied : Bool) :
    trimmedTarget t k target occupied = trimmedTarget s k target occupied := by
  have fresh : freshDaylight t k = freshDaylight s k := by
    rw [freshDaylight_eq, freshDaylight_eq, h.config]
    cases point : (daylightOf s.config k).point with
    | none => rfl
    | some p => exact h.freshValue (sparedKey_daylightOf apart point)
  unfold Machine.trimmedTarget
  rw [fresh, h.config]

end

/-! ## One group -/

/-- R147, R154, R155: the record of a group that a step gives a source, a target and a trimmed target. -/
def steppedRecord (p : LightingParams) (d : LoadDef) (source : LightSource) (target trimmed : Nat) (r : LoadRec) :
    LoadRec :=
  let goal := dimGoal d.drive p.minDim (goalOf d.drive (isLimited r) trimmed r.grantFraction)
  { r with
    posted := trimmed, goal := goal, applied := stepLevel p d.drive goal r.applied
    light := some ⟨source, target, trimmed⟩ }

/-- R158: the record of a group in EMERGENCY. -/
def emergencyStepped (vent : EmergencyVent) (kind : LoadKind) (r : LoadRec) : LoadRec :=
  { r with
    posted := (emergencyLoad vent kind r).posted, goal := (emergencyLoad vent kind r).goal
    applied := (emergencyLoad vent kind r).applied, light := (emergencyLoad vent kind r).light }

section

variable {s : State} {k : Nat} {d : LoadDef} {r : LoadRec}

theorem groupStep_drives (apart : loadsApart s) (j : Nat) : DriveSide s (groupStep j s) := by
  unfold groupStep
  split
  · exact .refl s
  · split
    · exact checkedChange_drives apart j _
    · exact checkedChange_drives apart j _
    · unfold planStep
      split
      · exact .refl s
      · exact checkedChange_drives apart j _

theorem groupStep_other {j : Nat} (here : j ≠ k) : slotGet (groupStep j s).loads k = slotGet s.loads k := by
  unfold groupStep
  split
  · rfl
  · split
    · exact checkedChange_other here.symm _ s
    · exact checkedChange_other here.symm _ s
    · unfold planStep
      split
      · rfl
      · exact checkedChange_other here.symm _ s

variable (defined : slotGet s.config.loads k = some d) (found : slotGet s.loads k = some r)

include defined found

theorem groupStep_emergency (mode : s.mode = .emergency) : slotGet (groupStep k s).loads k
    = some (afterCheck s.now (emergencyStepped s.config.climate.vent d.kind r)) := by
  simp only [groupStep, defined, mode, emergencyStep]
  exact checkCommand_changed defined found _

theorem groupStep_hold (mode : s.mode = .hold) : slotGet (groupStep k s).loads k
    = some (afterCheck s.now (steppedRecord s.config.lighting d .hold d.hold d.hold r)) := by
  simp only [groupStep, defined, mode, writeStep]
  exact checkCommand_changed defined found _

theorem groupStep_plan (mode : s.mode ≠ .emergency ∧ s.mode ≠ .hold) {z : ZoneDef} {zr : ZoneRec}
    (view : zoneView s d.zone = some (z, zr)) : slotGet (groupStep k s).loads k
      = some (afterCheck s.now (steppedRecord s.config.lighting d (decideLevel s d.zone z zr).source
        (decideLevel s d.zone z zr).value
        (trimmedTarget s k (decideLevel s d.zone z zr).value (zr.state == .occupied)) r)) := by
  have step : groupStep k s = planStep k d s := by
    obtain ⟨notEmergency, notHold⟩ := mode
    cases mode : s.mode <;> simp_all [groupStep]
  simp only [step, planStep, view, writeStep]
  exact checkCommand_changed defined found _

theorem groupStep_keeps : ∃ r', slotGet (groupStep k s).loads k = some r' ∧ r'.grant = r.grant
    ∧ r'.grantFraction = r.grantFraction ∧ r'.controlled = r.controlled ∧ r'.exempt = r.exempt := by
  have kept (x : LoadRec) (same : x.grant = r.grant ∧ x.grantFraction = r.grantFraction
      ∧ x.controlled = r.controlled ∧ x.exempt = r.exempt) : (afterCheck s.now x).grant = r.grant
        ∧ (afterCheck s.now x).grantFraction = r.grantFraction ∧ (afterCheck s.now x).controlled = r.controlled
        ∧ (afterCheck s.now x).exempt = r.exempt := by
    rw [afterCheck_fields]
    exact same
  by_cases emergency : s.mode = .emergency
  · exact ⟨_, groupStep_emergency defined found emergency, kept _ ⟨rfl, rfl, rfl, rfl⟩⟩
  by_cases hold : s.mode = .hold
  · exact ⟨_, groupStep_hold defined found hold, kept _ ⟨rfl, rfl, rfl, rfl⟩⟩
  cases view : zoneView s d.zone with
  | none =>
    have step : groupStep k s = s := by
      cases mode : s.mode <;> simp_all [groupStep, planStep]
    exact ⟨r, by rw [step]; exact found, rfl, rfl, rfl, rfl⟩
  | some v => exact ⟨_, groupStep_plan defined found ⟨emergency, hold⟩ view, kept _ ⟨rfl, rfl, rfl, rfl⟩⟩

end

/-! ## The step -/

/-- The state once the next step has been set. -/
def stepSet (s : State) : State := { s with stepAt := s.now + Config.lightingStepMs }

/-- R147: the groups, one after another. -/
def groupsStepped (s : State) : State := forEach (slotsWhere isLight s.config.loads) groupStep (stepSet s)

section

variable {s : State} (ordered : slotWf s.config.loads = true) (apart : loadsApart s)

include ordered apart

omit ordered in
theorem groupsStepped_drives : DriveSide (stepSet s) (groupsStepped s) :=
  forEach_keeps (P := DriveSide (stepSet s)) (fun k _ u h =>
    h.trans (groupStep_drives (h.loadsApart (by exact apart)) k)) (.refl _)

theorem groupsStepped_once (k : Nat) :
    (k ∉ slotsWhere isLight s.config.loads → slotGet (groupsStepped s).loads k = slotGet s.loads k)
    ∧ (k ∈ slotsWhere isLight s.config.loads → ∃ u, DriveSide (stepSet s) u
      ∧ slotGet u.loads k = slotGet s.loads k
      ∧ slotGet (groupsStepped s).loads k = slotGet (groupStep k u).loads k) :=
  forEach_once (table := State.loads) (I := DriveSide (stepSet s)) (slotsWhere_nodup ordered)
    (fun j _ u h => h.trans (groupStep_drives (h.loadsApart (by exact apart)) j))
    (fun _ _ _ _ here => groupStep_other here) (.refl _)

/-- A group is stepped once, in a state that reads as the start of the step does. -/
theorem groupsStepped_light {k : Nat} {d : LoadDef} {r : LoadRec} (defined : slotGet s.config.loads k = some d)
    (light : d.kind = .light) (found : slotGet s.loads k = some r) : ∃ u, DriveSide (stepSet s) u
      ∧ slotGet u.config.loads k = some d ∧ slotGet u.loads k = some r
      ∧ slotGet (groupsStepped s).loads k = slotGet (groupStep k u).loads k := by
  have member : k ∈ slotsWhere isLight s.config.loads :=
    (mem_slotsWhere_iff ordered).mpr ⟨d, defined, by simp [isLight, light]⟩
  obtain ⟨u, drives, same, made⟩ := (groupsStepped_once ordered apart k).2 member
  exact ⟨u, drives, by rw [drives.config]; exact defined, same.trans found, made⟩

theorem groupsStepped_other {k : Nat} {d : LoadDef} (defined : slotGet s.config.loads k = some d)
    (other : d.kind ≠ .light) : slotGet (groupsStepped s).loads k = slotGet s.loads k := by
  refine (groupsStepped_once ordered apart k).1 fun member => ?_
  obtain ⟨e, found, light⟩ := (mem_slotsWhere_iff ordered).mp member
  obtain rfl : d = e := Option.some.inj (defined.symm.trans found)
  exact other (by simpa [isLight] using light)

end

end Sys2Proof.Machine

namespace Sys2Proof.Claims

open Sys2Proof.Machine

/-- R148, R149: the deciding source of a group. -/
theorem decideLevel_law (s : State) (z : Nat) (d : ZoneDef) (r : ZoneRec) :
    targetLaw s z d r (decideLevel s z d r).value (decideLevel s z d r).source := by
  have scene : (sceneSource s z d r).value = (match slotGet s.lightOverrides z with
      | some o => o.level
      | none => match r.state with
        | .occupied => (forKind (activeRecord s).levels d.kind).occupied
        | .vacant => (forKind (activeRecord s).levels d.kind).vacant
        | .dormant => (forKind (activeRecord s).levels d.kind).dormant
        | .closed => (forKind (activeRecord s).levels d.kind).closed)
      ∧ (sceneSource s z d r).source = if slotGet s.lightOverrides z = none then .scene else .override_ := by
    unfold sceneSource
    cases slotGet s.lightOverrides z with
    | some o => exact ⟨rfl, rfl⟩
    | none => cases r.state <;> exact ⟨rfl, rfl⟩
  unfold targetLaw
  intro levels sceneIs presence changeover
  obtain ⟨value, source⟩ := scene
  unfold decideLevel
  generalize sceneSource s z d r = a at value source
  have valueIs : a.value = sceneIs := value
  by_cases intruded : r.state = .closed ∧ r.intruded = true
  · have noChange : ¬ (d.kind = .staging ∧ s.plan.changeover = true ∧ r.state ≠ .closed) := fun h => h.2.2 intruded.1
    have presenceIs : presence = s.config.lighting.closedPresence := if_pos intruded
    have changeoverIs : changeover = 0 := if_neg noChange
    rw [withChangeover, if_neg noChange, withClosedPresence, if_pos intruded, higherSource, changeoverIs, ← valueIs,
      ← source, presenceIs, Nat.max_zero]
    by_cases below : s.config.lighting.closedPresence ≤ a.value
    · rw [if_pos below, if_pos ⟨below, Nat.zero_le _⟩]
      exact ⟨(Nat.max_eq_left below).symm, rfl⟩
    · rw [if_neg below, if_neg fun h => below h.1, if_pos (Nat.zero_le _)]
      exact ⟨(Nat.max_eq_right (Nat.le_of_not_le below)).symm, rfl⟩
  · have presenceIs : presence = 0 := if_neg intruded
    by_cases changes : d.kind = .staging ∧ s.plan.changeover = true ∧ r.state ≠ .closed
    · have changeoverIs : changeover = (activeRecord s).levels.staging.occupied := if_pos changes
      rw [withClosedPresence, if_neg intruded, withChangeover, if_pos changes, higherSource, presenceIs, ← valueIs,
        ← source, changeoverIs]
      rw [Nat.zero_max]
      by_cases below : (activeRecord s).levels.staging.occupied ≤ a.value
      · rw [if_pos below, if_pos ⟨Nat.zero_le _, below⟩]
        exact ⟨(Nat.max_eq_left below).symm, rfl⟩
      · have positive : ¬ (activeRecord s).levels.staging.occupied ≤ 0 := by omega
        rw [if_neg below, if_neg fun h => below h.2, if_neg positive]
        exact ⟨(Nat.max_eq_right (Nat.le_of_not_le below)).symm, rfl⟩
    · have changeoverIs : changeover = 0 := if_neg changes
      rw [withClosedPresence, if_neg intruded, withChangeover, if_neg changes, presenceIs, changeoverIs, ← valueIs,
        ← source]
      simp

/-- R154, R160: the goal of a group. -/
theorem dimGoal_goalOf (drive : Drive) (minDim : Nat) (limited : Bool) (demand fraction : Nat) :
    dimGoal drive minDim (goalOf drive limited demand fraction) = if drive = .step then
      (if 0 < demand ∧ (limited = true → fraction = 1000) then 1000 else 0)
      else if (if limited = true then min demand fraction else demand) < minDim then 0
        else if limited = true then min demand fraction else demand := by
  cases drive with
  | modulating => cases limited <;> rfl
  | step => cases limited <;> simp [dimGoal, goalOf]

/-- R155: the movement of a group. -/
theorem stepLevel_law (p : LightingParams) (drive : Drive) (goal applied : Nat) :
    stepLevel p drive goal applied = if drive = .step then goal
      else
        let a := if applied < goal then min goal (applied + ceilDiv p.ramp 4)
          else if goal < applied then max goal (applied - ceilDiv p.fade 4)
          else applied
        if 0 < a ∧ a < p.minDim then (if 0 < goal then p.minDim else 0) else a := by
  cases drive <;> rfl

/-! ## The trim (R152) -/

section

variable {s : State} {k target : Nat} {occupied : Bool}

theorem trimmedTarget_unassigned (point : (daylightOf s.config k).point = none) :
    trimmedTarget s k target occupied = target := by
  rw [trimmedTarget, freshDaylight, point]
  rfl

theorem trimmedTarget_stale {p : PointRef} (point : (daylightOf s.config k).point = some p)
    (stale : ∀ q v, getPoint s p = some q → q.value = some v → q.status ≠ .fresh) :
    trimmedTarget s k target occupied = target := by
  have none : freshDaylight s k = none := by
    rw [freshDaylight, point]
    cases found : getPoint s p with
    | none => simp [found]
    | some q =>
      cases value : q.value with
      | none => simp [found, value]
      | some v => simp [found, stale q v found value]
  rw [trimmedTarget, none]

theorem trimmedTarget_fresh {p : PointRef} {q : PointRec} {v : Int} {o : Occupancy}
    (point : (daylightOf s.config k).point = some p) (found : getPoint s p = some q) (fresh : q.status = .fresh)
    (value : q.value = some v) :
    let tl := (daylightOf s.config k).target
    let cut := min 1000 (target * (max 0 ((tl : Int) - v)).toNat / tl)
    trimmedTarget s k target (o == .occupied)
      = if o = .occupied ∧ 0 < target ∧ cut < s.config.lighting.minDim then s.config.lighting.minDim else cut := by
  intro tl cut
  have reads : freshDaylight s k = some v := by simp [freshDaylight, point, found, fresh, value]
  rw [trimmedTarget, reads]
  simp only [trimmedBy, Bool.and_eq_true, decide_eq_true_eq, beq_iff_eq, and_assoc]
  rfl

end

/-! ## A checked group (R140) -/

theorem afterCheck_of_eq {now : Nat} {x r : LoadRec} (made : r = afterCheck now x) : r.posted = x.posted
    ∧ r.goal = x.goal ∧ r.applied = x.applied ∧ r.light = x.light := by
  rw [made, afterCheck_fields]
  exact ⟨rfl, rfl, rfl, rfl⟩

theorem stepped_checked (p : LightingParams) (d : LoadDef) (source : LightSource) (target trimmed now : Nat)
    (r : LoadRec) : commandChecked now r (afterCheck now (steppedRecord p d source target trimmed r)) :=
  afterCheck_checked rfl rfl

/-- What a group takes whose target is trimmed. -/
theorem stepped_fields {p : LightingParams} {d : LoadDef} {source : LightSource} {target trimmed now : Nat}
    {r r' : LoadRec} (made : r' = afterCheck now (steppedRecord p d source target trimmed r)) :
    r'.posted = trimmed ∧ r'.goal = dimGoal d.drive p.minDim (goalOf d.drive (isLimited r) trimmed r.grantFraction)
      ∧ r'.applied = stepLevel p d.drive
        (dimGoal d.drive p.minDim (goalOf d.drive (isLimited r) trimmed r.grantFraction)) r.applied
      ∧ r'.light = some ⟨source, target, trimmed⟩ ∧ commandChecked now r r' := by
  obtain ⟨posted, goal, applied, light⟩ := afterCheck_of_eq made
  refine ⟨posted, goal, applied, light, ?_⟩
  rw [made]
  exact stepped_checked ..

end Sys2Proof.Claims

namespace Sys2Proof.Proofs

open Sys2Proof.Machine Sys2Proof.Claims

/-- Settles O58: each group is stepped once, in a state that reads as the start of the step does. -/
theorem lightingStepsFollowTheMode : Obligations.LightingStepsFollowTheMode := by
  unfold Obligations.LightingStepsFollowTheMode
  intro s on due ordered apart
  have drives := groupsStepped_drives apart
  have stepAt : (groupsStepped s).stepAt = (stepSet s).stepAt := by rw [drives.frame]
  have zones : (groupsStepped s).zones = s.zones := by rw [drives.frame]; rfl
  have climate : (groupsStepped s).climate = s.climate := by rw [drives.frame]; rfl
  refine ⟨grantLines (groupsStepped s), (powered_on on).trans (congrArg _ (whenDue_due due)), drives.now,
    stepAt.trans ?_, zones, climate, fun k d r defined other found =>
      (groupsStepped_other ordered apart defined other).trans found, ?_⟩
  · show s.now + 250 = (groupsStepped s).now + 250
    rw [drives.now]
    rfl
  intro k d r defined light found moved goalFor
  obtain ⟨u, reads, known, here, made⟩ := groupsStepped_light ordered apart defined light found
  have now : u.now = s.now := reads.now
  have config : u.config = s.config := reads.config
  have mode : u.mode = s.mode := by rw [reads.frame]; rfl
  have goalIs (demand : Nat) : dimGoal d.drive s.config.lighting.minDim
      (goalOf d.drive (isLimited r) demand r.grantFraction) = goalFor demand := dimGoal_goalOf ..
  have movedIs (goal : Nat) : stepLevel s.config.lighting d.drive goal r.applied = moved goal := stepLevel_law ..
  obtain ⟨r', result, grant, fraction, controlled, exempt⟩ := groupStep_keeps known here
  refine ⟨r', made.trans result, grant, fraction, controlled, exempt, fun emergency => ?_, fun hold => ?_,
    fun z zr running zone occupancy => ?_⟩
  · have stepped := groupStep_emergency known here (mode.trans emergency)
    rw [now, light] at stepped
    have same := Option.some.inj (result.symm.trans stepped)
    obtain ⟨posted, goal, applied, group⟩ := afterCheck_of_eq same
    refine ⟨posted.trans rfl, goal.trans rfl, applied.trans rfl, group.trans rfl, ?_⟩
    rw [same]
    exact afterCheck_checked rfl rfl
  · have stepped := groupStep_hold known here (mode.trans hold)
    rw [now, config] at stepped
    obtain ⟨posted, goal, applied, group, checked⟩ := stepped_fields (Option.some.inj (result.symm.trans stepped))
    rw [goalIs] at goal applied
    exact ⟨posted, goal, applied.trans (movedIs _), group, checked⟩
  · have normal : u.mode ≠ .emergency ∧ u.mode ≠ .hold := by
      rw [mode]
      rcases running with running | running <;> rw [running] <;> decide
    have view : zoneView u d.zone = some (z, zr) := by
      rw [reads.zoneView]
      show zoneView s d.zone = some (z, zr)
      simp [zoneView, zone, occupancy]
    have stepped := groupStep_plan known here normal view
    rw [now, config, reads.decideLevel, reads.trimmedTarget (by exact apart)] at stepped
    obtain ⟨posted, goal, applied, group, checked⟩ := stepped_fields (Option.some.inj (result.symm.trans stepped))
    rw [goalIs] at goal applied
    exact ⟨_, group, posted, goal, applied.trans (movedIs _), checked, decideLevel_law s d.zone z zr,
      trimmedTarget_unassigned, fun p q v point found fresh value => trimmedTarget_fresh point found fresh value,
      fun p point stale => trimmedTarget_stale point stale⟩

end Sys2Proof.Proofs


/-! SUPPORT. Evaluations zone by zone (R166, R172): a zone's own work, then its loads. What an evaluation leaves for the
zones that follow, and how what one zone takes is read off at the end. -/

namespace Sys2Proof.Machine

open Sys2Proof.Claims

/-! ## What an evaluation changes -/

/-- `t` follows `s` as zones are worked and their loads driven. -/
structure EvalSide (s t : State) : Prop where
  frame : t = { s with
    lineA := t.lineA, lineB := t.lineB, terminals := t.terminals, points := t.points, loads := t.loads
    climate := t.climate, notices := t.notices, lost := t.lost }
  points : ∀ k, sparedKey s.config k → (slotGet t.points k).map unwritten = (slotGet s.points k).map unwritten

namespace EvalSide

variable {s t v : State}

theorem config (h : EvalSide s t) : t.config = s.config := by rw [h.frame]

theorem now (h : EvalSide s t) : t.now = s.now := by rw [h.frame]

theorem mode (h : EvalSide s t) : t.mode = s.mode := by rw [h.frame]

theorem zones (h : EvalSide s t) : t.zones = s.zones := by rw [h.frame]

theorem refl (s : State) : EvalSide s s := ⟨rfl, fun _ _ => rfl⟩

theorem trans (h : EvalSide s t) (k : EvalSide t v) : EvalSide s v := by
  refine ⟨k.frame.trans (by rw [h.frame]), fun i spares => ?_⟩
  have later : sparedKey t.config i := by
    rw [h.config]
    exact spares
  exact (k.points i later).trans (h.points i spares)

theorem of_drives (h : DriveSide s t) : EvalSide s t :=
  ⟨h.frame.trans (by rw [h.frame]), h.points⟩

theorem loadsApart (h : EvalSide s t) (apart : loadsApart s) : loadsApart t := by
  unfold Claims.loadsApart
  rw [h.config]
  exact apart

theorem freshValue (h : EvalSide s t) {p : PointRef} (spares : sparedKey s.config (pointKey p)) :
    freshValue t p = freshValue s p := by
  have same := congrArg (Option.bind · fun r => if r.status = .fresh then r.value else none)
    (h.points (pointKey p) spares)
  simp only [Option.bind_map] at same
  exact same

end EvalSide

theorem DriveSide.loop {s : State} {f : Nat → State → State} {items : List Nat} (apart : Claims.loadsApart s)
    (drives : ∀ k s, Claims.loadsApart s → DriveSide s (f k s)) : DriveSide s (forEach items f s) :=
  forEach_keeps (P := DriveSide s) (fun k _ _ h => h.trans (drives k _ (h.loadsApart apart))) (.refl s)

theorem DriveSide.raises {P : Notice → Prop} {s t : State} (h : DriveSide s t) : Raises P s t :=
  .of_same (by rw [h.frame]) (by rw [h.frame])

theorem DriveSide.climate {s t : State} (h : DriveSide s t) : t.climate = s.climate := by rw [h.frame]

/-! ## What leaves a zone alone -/

/-- `t` follows `s` with nothing of zone `z` changed: its climate, its loads, and what the notices tell of it. -/
structure ZoneApart (z : Nat) (s t : State) : Prop where
  config : t.config = s.config
  climate : slotGet t.climate z = slotGet s.climate z
  loads : ∀ k d, slotGet s.config.loads k = some d → d.zone = z → slotGet t.loads k = slotGet s.loads k
  raises : Raises (fun n => n.subject ≠ .zone z) s t

theorem ZoneApart.refl (z : Nat) (s : State) : ZoneApart z s s := ⟨rfl, rfl, fun _ _ _ _ => rfl, .refl s⟩

theorem ZoneApart.trans {z : Nat} {s t v : State} (h : ZoneApart z s t) (k : ZoneApart z t v) : ZoneApart z s v where
  config := k.config.trans h.config
  climate := k.climate.trans h.climate
  loads j d defined here := (k.loads j d (by rw [h.config]; exact defined) here).trans (h.loads j d defined here)
  raises := h.raises.trans k.raises

/-- A loop that comes to `x` once: what its steps for the others leave alone stands before and after that step. -/
theorem forEach_split {f : Nat → State → State} {I : State → Prop} {R : State → State → Prop} {x : Nat}
    (refl : ∀ s, R s s) (trans : ∀ {a b c}, R a b → R b c → R a c) {items : List Nat} (nodup : items.Nodup)
    (keeps : ∀ y ∈ items, ∀ s, I s → I (f y s)) (other : ∀ y ∈ items, y ≠ x → ∀ s, I s → R s (f y s)) {s : State}
    (holds : I s) :
    (x ∉ items → R s (forEach items f s))
    ∧ (x ∈ items → ∃ u, I u ∧ R s u ∧ R (f x u) (forEach items f s)) := by
  induction items generalizing s with
  | nil => exact ⟨fun _ => refl s, fun member => by cases member⟩
  | cons y rest ih =>
    obtain ⟨once, nodup⟩ := List.nodup_cons.mp nodup
    have next := keeps y List.mem_cons_self s holds
    obtain ⟨absent, present⟩ := ih nodup (fun i member => keeps i (List.mem_cons_of_mem y member))
      (fun i member => other i (List.mem_cons_of_mem y member)) next
    rw [forEach_cons]
    by_cases here : y = x
    · subst here
      exact ⟨fun out => absurd List.mem_cons_self out, fun _ => ⟨s, holds, refl s, absent once⟩⟩
    · have kept := other y List.mem_cons_self here s holds
      refine ⟨fun out => trans kept (absent fun member => out (List.mem_cons_of_mem y member)), fun member => ?_⟩
      obtain ⟨u, reached, same, rest⟩ := present ((List.mem_cons.mp member).resolve_left (Ne.symm here))
      exact ⟨u, reached, trans kept same, rest⟩

/-! ## The step of one zone -/

/-- A zone's own work: it changes that zone's climate and raises notices about that zone, and nothing else. -/
structure WorkSide (z : Nat) (s t : State) : Prop where
  frame : t = { s with climate := t.climate, notices := t.notices, lost := t.lost }
  other : ∀ j, j ≠ z → slotGet t.climate j = slotGet s.climate j
  raises : Raises (fun n => n.subject = .zone z) s t

namespace WorkSide

variable {z : Nat} {s t v : State}

theorem config (h : WorkSide z s t) : t.config = s.config := by rw [h.frame]

theorem loads (h : WorkSide z s t) : t.loads = s.loads := by rw [h.frame]

theorem refl (z : Nat) (s : State) : WorkSide z s s := ⟨rfl, fun _ _ => rfl, .refl s⟩

theorem trans (h : WorkSide z s t) (k : WorkSide z t v) : WorkSide z s v where
  frame := k.frame.trans (by rw [h.frame])
  other j apart := (k.other j apart).trans (h.other j apart)
  raises := h.raises.trans k.raises

theorem changeClimate (z : Nat) (f : ClimateRec → ClimateRec) (s : State) : WorkSide z s (changeClimate z f s) :=
  ⟨rfl, fun _ apart => slotGet_slotChange_ne apart, .of_same rfl rfl⟩

theorem raised (kind : NoticeKind) (z : Nat) (a b : Option Int) (s : State) :
    WorkSide z s (raise kind (.zone z) a b s) :=
  ⟨rfl, fun _ _ => rfl, .raised rfl⟩

theorem evalSide (h : WorkSide z s t) : EvalSide s t :=
  ⟨h.frame.trans (by rw [h.frame]), fun _ _ => by rw [h.frame]⟩

end WorkSide

/-- The step of zone `z`: its work, then its loads of the kinds that `pick` picks. -/
def zoneStep (work : Nat → ZoneDef → State → State) (pick : LoadKind → Bool)
    (driver : Mode → Nat → Nat → State → State) (z : Nat) (s : State) : State :=
  match slotGet s.config.zones z with
  | none => s
  | some d => forEach (zoneLoads s.config pick z) (driver s.mode z) (work z d s)

/-- What is known of an evaluation: its work is a zone's own, and its driver drives the load that it is given. -/
structure ZoneWise (work : Nat → ZoneDef → State → State) (driver : Mode → Nat → Nat → State → State) : Prop where
  works : ∀ z d s, WorkSide z s (work z d s)
  drives : ∀ m z k s, loadsApart s → DriveSide s (driver m z k s)
  other : ∀ m z j k s, j ≠ k → slotGet (driver m z j s).loads k = slotGet s.loads k

theorem mem_zoneLoads {c : RunningConfig} {pick : LoadKind → Bool} {z k : Nat} (ordered : slotWf c.loads = true) :
    k ∈ zoneLoads c pick z ↔ ∃ d, slotGet c.loads k = some d ∧ d.zone = z ∧ pick d.kind = true := by
  rw [zoneLoads, mem_slotsWhere_iff ordered]
  simp

section

variable {work : Nat → ZoneDef → State → State} {pick : LoadKind → Bool}
  {driver : Mode → Nat → Nat → State → State} (wise : ZoneWise work driver) {s : State}

include wise

theorem zoneStep_evaluates (apart : loadsApart s) (z : Nat) : EvalSide s (zoneStep work pick driver z s) := by
  unfold zoneStep
  split
  · exact .refl s
  · rename_i d _
    have worked := (wise.works z d s).evalSide
    exact worked.trans (.of_drives (.loop (worked.loadsApart apart) (wise.drives s.mode z)))

theorem zoneStep_apart (ordered : slotWf s.config.loads = true) (apart : loadsApart s) {z other : Nat}
    (differs : other ≠ z) : ZoneApart z s (zoneStep work pick driver other s) := by
  have steps := zoneStep_evaluates (pick := pick) wise apart other
  refine ⟨steps.config, ?_, fun k d defined here => ?_, ?_⟩
  all_goals unfold zoneStep; split
  · rfl
  · rename_i e _
    have worked := wise.works other e s
    rw [(DriveSide.loop (worked.evalSide.loadsApart apart) (wise.drives s.mode other)).climate]
    exact worked.other z differs.symm
  · rfl
  · rename_i e _
    have untouched : k ∉ zoneLoads s.config pick other := by
      rw [mem_zoneLoads ordered]
      rintro ⟨x, found, inZone, _⟩
      obtain rfl : d = x := Option.some.inj (defined.symm.trans found)
      exact differs (inZone.symm.trans here)
    have drivenOnce := (forEach_once (table := State.loads) (I := fun _ => True) (k := k)
      (f := driver s.mode other) (slotsWhere_nodup ordered) (fun _ _ _ _ => trivial)
      (fun j _ s _ => wise.other _ other j k s) (s := work other e s) trivial).1 untouched
    exact drivenOnce.trans (by rw [(wise.works other e s).loads])
  · exact .refl s
  · rename_i e _
    have worked := wise.works other e s
    refine (worked.raises.mono fun n about => ?_).trans
      (DriveSide.loop (worked.evalSide.loadsApart apart) (wise.drives s.mode other)).raises
    rw [about]
    exact fun same => differs (Subject.zone.inj same)

end

/-! ## The evaluation of all zones -/

/-- The zones, one after another. -/
def zonesStepped (work : Nat → ZoneDef → State → State) (pick : LoadKind → Bool)
    (driver : Mode → Nat → Nat → State → State) (s : State) : State :=
  forEach (slotNumbers s.config.zones) (zoneStep work pick driver) s

/-- What the evaluation makes of one zone: `u` is the state in which its turn comes, `t` the state at the end. -/
structure ZoneTurn (work : Nat → ZoneDef → State → State) (pick : LoadKind → Bool)
    (driver : Mode → Nat → Nat → State → State) (z : Nat) (d : ZoneDef) (s u t : State) : Prop where
  reads : EvalSide s u
  before : ZoneApart z s u
  climate : slotGet t.climate z = slotGet (work z d u).climate z
  after : Raises (fun n => n.subject ≠ .zone z) (work z d u) t
  loads : ∀ k l r, slotGet s.config.loads k = some l → l.zone = z → pick l.kind = true → slotGet s.loads k = some r →
    ∃ v, DriveSide (work z d u) v ∧ slotGet v.config.loads k = some l ∧ slotGet v.loads k = some r
      ∧ slotGet t.loads k = slotGet (driver u.mode z k v).loads k

section

variable {work : Nat → ZoneDef → State → State} {pick : LoadKind → Bool}
  {driver : Mode → Nat → Nat → State → State} (wise : ZoneWise work driver) {s : State}
  (ordered : slotWf s.config.loads = true) (zones : slotWf s.config.zones = true) (apart : loadsApart s)

include wise apart

theorem zonesStepped_evaluates : EvalSide s (zonesStepped work pick driver s) :=
  forEach_keeps (P := EvalSide s)
    (fun z _ _ h => h.trans (zoneStep_evaluates wise (h.loadsApart apart) z)) (.refl s)

include ordered zones

theorem zoneTurn {z : Nat} {d : ZoneDef} (defined : slotGet s.config.zones z = some d) :
    ∃ u, ZoneTurn work pick driver z d s u (zonesStepped work pick driver s) := by
  obtain ⟨u, reads, before, after⟩ := (forEach_split (f := zoneStep work pick driver) (x := z) (ZoneApart.refl z)
    ZoneApart.trans (I := EvalSide s) (slotWf_nodup zones)
    (fun y _ u h => h.trans (zoneStep_evaluates wise (h.loadsApart apart) y))
    (fun y _ differs u h => zoneStep_apart wise (by rw [h.config]; exact ordered) (h.loadsApart apart) differs)
    (EvalSide.refl s)).2 (mem_slotNumbers_of_found defined)
  have known : slotGet u.config.zones z = some d := by rw [reads.config]; exact defined
  have step : zoneStep work pick driver z u
      = forEach (zoneLoads u.config pick z) (driver u.mode z) (work z d u) := by
    simp only [zoneStep, known]
  have worked := wise.works z d u
  have workedApart := worked.evalSide.loadsApart (reads.loadsApart apart)
  have drives : DriveSide (work z d u) (zoneStep work pick driver z u) := by
    rw [step]
    exact .loop workedApart (wise.drives u.mode z)
  have listed : slotWf u.config.loads = true := by rw [reads.config]; exact ordered
  refine ⟨u, reads, before, ?_, drives.raises.trans after.raises, fun k l r found inZone picked stands => ?_⟩
  · rw [zonesStepped, after.climate, drives.climate]
  · have foundU : slotGet u.config.loads k = some l := by rw [reads.config]; exact found
    have member : k ∈ zoneLoads u.config pick z := (mem_zoneLoads listed).mpr ⟨l, foundU, inZone, picked⟩
    obtain ⟨v, drives, same, made⟩ := (forEach_once (table := State.loads) (I := DriveSide (work z d u)) (k := k)
      (f := driver u.mode z) (slotsWhere_nodup listed)
      (fun j _ s h => h.trans (wise.drives _ z j s (h.loadsApart workedApart)))
      (fun j _ s _ => wise.other _ z j k s) (DriveSide.refl _)).2 member
    have config : v.config = u.config := drives.config.trans worked.config
    refine ⟨v, drives, by rw [config]; exact foundU, ?_, ?_⟩
    · rw [same, worked.loads, before.loads k l found inZone, stands]
    · have own := after.loads k l (by
        rw [(zoneStep_evaluates wise (reads.loadsApart apart) z).config]
        exact foundU) inZone
      rw [zonesStepped, own, step]
      exact made

end

end Sys2Proof.Machine


/-! SUPPORT. Loads that post a demand and are driven to their goal (R169, R178, R179). -/

namespace Sys2Proof.Machine

open Sys2Proof.Claims

/-! ## One load -/

section

variable {s : State} {k j : Nat}

theorem driveLoad_drives (apart : loadsApart s) (k demand : Nat) : DriveSide s (driveLoad k demand s) := by
  unfold driveLoad
  split
  · exact .refl s
  · exact checkedChange_drives apart k _

theorem driveLoad_other (differs : j ≠ k) (demand : Nat) :
    slotGet (driveLoad j demand s).loads k = slotGet s.loads k := by
  unfold driveLoad
  split
  · rfl
  · exact checkedChange_other differs.symm _ s

theorem postFixed_drives (apart : loadsApart s) (k : Nat) : DriveSide s (postFixed k s) := by
  unfold postFixed
  split
  · exact .refl s
  · split
    · exact checkedChange_drives apart k _
    · exact driveLoad_drives apart k _

theorem postFixed_other (differs : j ≠ k) : slotGet (postFixed j s).loads k = slotGet s.loads k := by
  unfold postFixed
  split
  · rfl
  · split
    · exact checkedChange_other differs.symm _ s
    · exact driveLoad_other differs _

end

/-- R169: the record of a load that posts a demand and is driven. -/
def drivenRecord (d : LoadDef) (demand : Nat) (r : LoadRec) : LoadRec :=
  let goal := goalOf d.drive (isLimited r) demand r.grantFraction
  { r with posted := demand, goal := goal, applied := goal }

theorem goalOf_law (d : LoadDef) (r : LoadRec) (demand : Nat) :
    goalOf d.drive (isLimited r) demand r.grantFraction = if d.drive = .step then
      (if 0 < demand ∧ (isLimited r = true → r.grantFraction = 1000) then 1000 else 0)
      else if isLimited r = true then min demand r.grantFraction else demand := by
  cases drive : d.drive with
  | modulating => cases isLimited r <;> rfl
  | step => cases isLimited r <;> simp [goalOf]

theorem afterCheck_drivenTo (now demand : Nat) (d : LoadDef) (r : LoadRec) :
    drivenTo d r (afterCheck now (drivenRecord d demand r)) demand := by
  rw [afterCheck_fields]
  exact ⟨rfl, goalOf_law d r demand, goalOf_law d r demand⟩

section

variable {s : State} {k : Nat} {d : LoadDef} {r : LoadRec} (defined : slotGet s.config.loads k = some d)
  (found : slotGet s.loads k = some r)

include defined found

theorem driveLoad_drivenTo (demand : Nat) :
    ∃ r', slotGet (driveLoad k demand s).loads k = some r' ∧ drivenTo d r r' demand := by
  refine ⟨afterCheck s.now (drivenRecord d demand r), ?_, afterCheck_drivenTo ..⟩
  simp only [driveLoad, defined]
  exact checkCommand_changed defined found _

theorem postFixed_hold (mode : s.mode = .hold) :
    ∃ r', slotGet (postFixed k s).loads k = some r' ∧ drivenTo d r r' d.hold := by
  have step : postFixed k s = driveLoad k d.hold s := by simp [postFixed, defined, mode]
  rw [step]
  exact driveLoad_drivenTo defined found _

theorem postFixed_emergency (mode : s.mode = .emergency) :
    ∃ r', slotGet (postFixed k s).loads k = some r' ∧ r'.posted = emergencyFraction s.config.climate.vent d.kind
      ∧ r'.goal = emergencyFraction s.config.climate.vent d.kind
      ∧ r'.applied = emergencyFraction s.config.climate.vent d.kind := by
  have step : postFixed k s = driveEmergency k d s := by simp [postFixed, defined, mode]
  refine ⟨_, by rw [step]; exact checkCommand_changed defined found _, ?_⟩
  rw [afterCheck_fields]
  exact ⟨rfl, rfl, rfl⟩

end

/-! ## The mode decides what drives the loads of a zone -/

/-- R178, R179: in HOLD and EMERGENCY a load posts its fixed value; in the other modes the evaluation drives it. -/
def modeDriver (own : Nat → Nat → State → State) (m : Mode) (z k : Nat) (s : State) : State :=
  match m with
  | .hold => postFixed k s
  | .emergency => postFixed k s
  | _ => own z k s

theorem modeDriver_plan {m : Mode} (hold : m ≠ .hold) (emergency : m ≠ .emergency)
    (own : Nat → Nat → State → State) (z k : Nat) (s : State) : modeDriver own m z k s = own z k s := by
  cases m with
  | hold => exact absurd rfl hold
  | emergency => exact absurd rfl emergency
  | _ => rfl

/-- An evaluation whose own way of driving a load changes that load alone is zone-wise. -/
theorem zoneWise_of {work : Nat → ZoneDef → State → State} {own : Nat → Nat → State → State}
    (works : ∀ z d s, WorkSide z s (work z d s)) (drives : ∀ z k s, loadsApart s → DriveSide s (own z k s))
    (other : ∀ z j k s, j ≠ k → slotGet (own z j s).loads k = slotGet s.loads k) :
    ZoneWise work (modeDriver own) where
  works := works
  drives m z k s apart := by
    unfold modeDriver
    split
    · exact postFixed_drives apart k
    · exact postFixed_drives apart k
    · exact drives z k s apart
  other m z j k s differs := by
    unfold modeDriver
    split
    · exact postFixed_other differs
    · exact postFixed_other differs
    · exact other z j k s differs

section

variable {work : Nat → ZoneDef → State → State} {pick : LoadKind → Bool} {own : Nat → Nat → State → State} {z : Nat}
  {d : ZoneDef} {s u t : State} (turn : ZoneTurn work pick (modeDriver own) z d s u t)
  (works : WorkSide z u (work z d u)) {k : Nat} {l : LoadDef} {r : LoadRec}
  (defined : slotGet s.config.loads k = some l) (inZone : l.zone = z) (picked : pick l.kind = true)
  (found : slotGet s.loads k = some r)

include turn works defined inZone picked found

/-- R178: what HOLD makes of the loads of a zone. -/
theorem ZoneTurn.hold (mode : s.mode = .hold) : ∃ r', slotGet t.loads k = some r' ∧ drivenTo l r r' l.hold := by
  obtain ⟨v, drives, known, stands, made⟩ := turn.loads k l r defined inZone picked found
  have stepMode : v.mode = s.mode := by rw [drives.frame, works.frame, turn.reads.frame]
  rw [turn.reads.mode, mode] at made
  rw [made]
  exact postFixed_hold known stands (stepMode.trans mode)

/-- R179: what EMERGENCY makes of the loads of a zone. -/
theorem ZoneTurn.emergency (mode : s.mode = .emergency) : ∃ r', slotGet t.loads k = some r'
    ∧ r'.posted = emergencyFraction s.config.climate.vent l.kind
    ∧ r'.goal = emergencyFraction s.config.climate.vent l.kind
    ∧ r'.applied = emergencyFraction s.config.climate.vent l.kind := by
  obtain ⟨v, drives, known, stands, made⟩ := turn.loads k l r defined inZone picked found
  have stepMode : v.mode = s.mode := by rw [drives.frame, works.frame, turn.reads.frame]
  have config : v.config = s.config := by rw [drives.frame, works.frame, turn.reads.frame]
  rw [turn.reads.mode, mode] at made
  rw [made, ← config]
  exact postFixed_emergency known stands (stepMode.trans mode)

omit works in
theorem ZoneTurn.plan (hold : s.mode ≠ .hold) (emergency : s.mode ≠ .emergency) : ∃ v, DriveSide (work z d u) v
    ∧ slotGet v.config.loads k = some l ∧ slotGet v.loads k = some r
    ∧ slotGet t.loads k = slotGet (own z k v).loads k := by
  obtain ⟨v, drives, known, stands, made⟩ := turn.loads k l r defined inZone picked found
  refine ⟨v, drives, known, stands, ?_⟩
  rw [made, turn.reads.mode, modeDriver_plan hold emergency]

end

end Sys2Proof.Machine


/-! SUPPORT. The setpoint and the heating demand of a zone (R163, R166, R167). -/

namespace Sys2Proof.Machine

open Sys2Proof.Claims

/-! ## What a zone reads -/

theorem freshTemperature_eq {s : State} {z : Nat} {d : ZoneDef} (defined : slotGet s.config.zones z = some d) :
    freshTemperature s z = d.temperature.bind fun p => (freshValue s p).map (temperatureOf p) := by
  rw [freshTemperature, defined, Option.bind_some]
  congr 1
  funext p
  unfold freshValue
  cases getPoint s p with
  | none => rfl
  | some q =>
    show (if q.status = .fresh then q.value.map (temperatureOf p) else none)
      = (if q.status = .fresh then q.value else none).map (temperatureOf p)
    split <;> rfl

theorem freshValue_none {s : State} {p : PointRef} : freshValue s p = none
    ↔ ∀ q v, getPoint s p = some q → q.value = some v → q.status ≠ .fresh := by
  unfold freshValue
  cases found : getPoint s p with
  | none => simp
  | some q =>
    show (if q.status = .fresh then q.value else none) = none ↔ _
    constructor
    · intro none q' v same value fresh
      cases same
      simp [fresh, value] at none
    · intro law
      split
      · rename_i fresh
        cases value : q.value with
        | none => rfl
        | some v => exact absurd fresh (law q v rfl value)
      · rfl

theorem freshValue_some {s : State} {p : PointRef} {q : PointRec} {v : Int} (found : getPoint s p = some q)
    (fresh : q.status = .fresh) (value : q.value = some v) : freshValue s p = some v := by
  simp [freshValue, found, fresh, value]

namespace EvalSide

variable {s t : State}

theorem temperature (h : EvalSide s t) (apart : Claims.loadsApart s) {z : Nat} {d : ZoneDef}
    (defined : slotGet s.config.zones z = some d) : freshTemperature t z = freshTemperature s z := by
  rw [freshTemperature_eq defined, freshTemperature_eq (by rw [h.config]; exact defined)]
  cases point : d.temperature with
  | none => rfl
  | some p => simp only [Option.bind_some, h.freshValue (sparedKey_temperature apart defined point)]

theorem setpoint (h : EvalSide s t) (z : Nat) (d : ZoneDef) (zr : ZoneRec) (c : ClimateRec) :
    setpointOf t z d zr c = setpointOf s z d zr c := by
  rw [h.frame]
  rfl

theorem boost (h : EvalSide s t) (z : Nat) : doorBoost t z = doorBoost s z := by
  rw [h.frame]
  rfl

end EvalSide

/-! ## A stale episode (R167) -/

/-- R167: the record of a zone whose temperature is stale. -/
def stale (now : Nat) (c : ClimateRec) : ClimateRec := { c with staleSince := some (c.staleSince.getD now) }

theorem noteStale_work (z : Nat) (s : State) : WorkSide z s (noteStale z s) := by
  unfold noteStale
  split
  · exact (WorkSide.changeClimate z _ s).trans (.raised _ z _ _ _)
  · exact .refl z s

section

variable {s : State} {z : Nat} {c : ClimateRec} (found : slotGet s.climate z = some c)

include found

theorem noteStale_climate : slotGet (noteStale z s).climate z = some (stale s.now c) := by
  unfold noteStale
  cases since : c.staleSince with
  | none =>
    rw [if_pos (by simp [found, since])]
    simpa [stale, since] using slotGet_slotChange_same (f := fun r : ClimateRec => { r with
      staleSince := some s.now }) found
  | some t =>
    rw [if_neg (by simp [found, since]), found, stale, since, Option.getD_some, ← since]

theorem noteStale_told (begins : c.staleSince = none) :
    Told ⟨.sensorStale, s.now, .zone z, some 0, some 1⟩ s (noteStale z s) := by
  unfold noteStale
  rw [if_pos (by simp [found, begins])]
  exact told_raise .sensorStale (.zone z) (some 0) (some 1) (changeClimate z _ s)

end

theorem noteStale_silent {s : State} {z : Nat} (running : ∀ c, slotGet s.climate z = some c → c.staleSince ≠ none) :
    Raises (fun _ => False) s (noteStale z s) := by
  have stands : ¬ (slotGet s.climate z).any (fun r => r.staleSince.isNone) = true := by
    cases found : slotGet s.climate z with
    | none => simp
    | some c => simpa [Option.ne_none_iff_isSome] using running c found
  unfold noteStale
  rw [if_neg stands]
  exact .refl s

/-! ## The work of a zone -/

theorem workHeat_work (z : Nat) (d : ZoneDef) (s : State) : WorkSide z s (workHeat z d s) := by
  unfold workHeat
  split
  · dsimp only
    split
    · exact (WorkSide.changeClimate z _ s).trans (.changeClimate z _ _)
    · exact (WorkSide.changeClimate z _ s).trans ((noteStale_work z _).trans (.changeClimate z _ _))
  · exact .changeClimate z _ s

theorem watchHeat_work (z : Nat) (d : ZoneDef) (source : SetpointSource) (s : State) :
    WorkSide z s (watchHeat z d source s) := by
  unfold watchHeat
  dsimp only
  split
  · exact (WorkSide.changeClimate z _ s).trans (noteStale_work z _)
  · exact .changeClimate z _ s

/-- R163: the record of a zone that has taken its setpoint. -/
def withSetpoint (sp : Setpoint) (c : ClimateRec) : ClimateRec := { c with tset := some sp.level, source := sp.source }

section

variable {s : State} {z : Nat} {d : ZoneDef} {zr : ZoneRec} {c : ClimateRec} {p : PointRef}
  (found : slotGet s.climate z = some c)

include found

theorem workHeat_blind (point : d.temperature = none) :
    slotGet (workHeat z d s).climate z = some { c with demand := none } := by
  simp only [workHeat, point]
  exact slotGet_slotChange_same found

variable (point : d.temperature = some p) (zone : slotGet s.zones z = some zr)

include point zone

theorem workHeat_fresh {x : Int} (fresh : freshTemperature s z = some x) :
    slotGet (workHeat z d s).climate z
      = some (freshHeat s z (setpointOf s z d zr c).level x (withSetpoint (setpointOf s z d zr c) c)) := by
  simp only [workHeat, point, zone, found, fresh]
  exact slotGet_slotChange_same (slotGet_slotChange_same found)

theorem workHeat_stale (none_ : freshTemperature s z = none) :
    slotGet (workHeat z d s).climate z = some (staleHeat s.now (s.config.climate.holdTime * 1000)
      (stale s.now (withSetpoint (setpointOf s z d zr c) c))) := by
  simp only [workHeat, point, zone, found, none_]
  exact slotGet_slotChange_same (noteStale_climate
    (s := changeClimate z (withSetpoint (setpointOf s z d zr c)) s) (slotGet_slotChange_same found))

theorem workHeat_told (none_ : freshTemperature s z = none) (begins : c.staleSince = none) :
    Told ⟨.sensorStale, s.now, .zone z, some 0, some 1⟩ s (workHeat z d s) := by
  simp only [workHeat, point, zone, found, none_]
  exact noteStale_told (s := changeClimate z (withSetpoint (setpointOf s z d zr c)) s)
    (slotGet_slotChange_same found) begins

end

section

variable {s : State} {z : Nat} {d : ZoneDef} {c : ClimateRec} {source : SetpointSource}
  (found : slotGet s.climate z = some c)

include found

theorem watchHeat_known (known : d.temperature = none ∨ freshTemperature s z ≠ none) :
    slotGet (watchHeat z d source s).climate z = some { c with source := source } := by
  have off : ¬ (d.temperature.isSome && (freshTemperature s z).isNone) = true := by
    rcases known with none_ | fresh
    · simp [none_]
    · simp [Option.isNone_iff_eq_none, fresh]
  simp only [watchHeat, off]
  exact slotGet_slotChange_same found

variable {p : PointRef} (point : d.temperature = some p) (none_ : freshTemperature s z = none)

include point none_

theorem watchHeat_stale : slotGet (watchHeat z d source s).climate z
    = some { c with source := source, staleSince := some (c.staleSince.getD s.now) } := by
  simp only [watchHeat, point, none_]
  exact noteStale_climate (s := changeClimate z (fun x => { x with source := source }) s)
    (slotGet_slotChange_same found)

theorem watchHeat_told (begins : c.staleSince = none) :
    Told ⟨.sensorStale, s.now, .zone z, some 0, some 1⟩ s (watchHeat z d source s) := by
  simp only [watchHeat, point, none_]
  exact noteStale_told (s := changeClimate z (fun x => { x with source := source }) s)
    (slotGet_slotChange_same found) begins

end

/-- No stale episode begins: the temperature is fresh, or there is none, or an episode runs already. -/
def NoneBegins (s : State) (z : Nat) (d : ZoneDef) : Prop :=
  d.temperature ≠ none → freshTemperature s z = none → ∀ c, slotGet s.climate z = some c → c.staleSince ≠ none

/-- What stands after a change of one record is that record changed. -/
theorem slotGet_slotChange_found {α : Type} {f : α → α} {table : Table α} {k : Nat} {v : α}
    (found : slotGet (slotChange f table k) k = some v) : ∃ old, slotGet table k = some old ∧ f old = v := by
  rw [slotGet_slotChange, if_pos rfl] at found
  exact Option.map_eq_some_iff.mp found

section

variable {s : State} {z : Nat} {d : ZoneDef} (quiet : NoneBegins s z d)

include quiet

theorem watchHeat_silent (source : SetpointSource) : Raises (fun _ => False) s (watchHeat z d source s) := by
  unfold watchHeat
  dsimp only
  split
  · rename_i is
    simp only [Bool.and_eq_true, Option.isNone_iff_eq_none, Option.isSome_iff_ne_none] at is
    refine Raises.trans (t := changeClimate z (fun x => { x with source := source }) s) (.of_same rfl rfl)
      (noteStale_silent fun c found => ?_)
    obtain ⟨old, there, rfl⟩ := slotGet_slotChange_found found
    exact quiet is.1 is.2 old there
  · exact .of_same rfl rfl

theorem workHeat_silent : Raises (fun _ => False) s (workHeat z d s) := by
  unfold workHeat
  split
  · rename_i p zr r point zone found
    dsimp only
    split
    · exact .of_same rfl rfl
    · rename_i none_
      refine Raises.trans (t := changeClimate z (withSetpoint (setpointOf s z d zr r)) s) (.of_same rfl rfl)
        (.trans (noteStale_silent fun c after => ?_) (.of_same rfl rfl))
      obtain ⟨old, there, rfl⟩ := slotGet_slotChange_found after
      exact quiet (by simp [point]) none_ old there
  · exact .of_same rfl rfl

end

end Sys2Proof.Machine


/-! SUPPORT and PROOFS. HEATING_EVALUATION and CURTAIN_STEP (R163 to R171). -/

namespace Sys2Proof.Machine

open Sys2Proof.Claims

/-! ## The evaluation of heating -/

/-- R166, R178, R179: the work of a zone in the mode that stands. -/
def heatWorked (z : Nat) (d : ZoneDef) (s : State) : State :=
  match s.mode with
  | .hold => watchHeat z d .hold s
  | .emergency => watchHeat z d .emergency s
  | _ => workHeat z d s

/-- What drives the heaters of a zone. -/
def heatDriver : Mode → Nat → Nat → State → State := modeDriver driveHeater

theorem heatZone_eq (z : Nat) (s : State) : heatZone z s = zoneStep heatWorked isHeater heatDriver z s := by
  unfold heatZone zoneStep
  cases slotGet s.config.zones z with
  | none => rfl
  | some d => cases mode : s.mode <;> simp only [heatWorked, mode] <;> rfl

theorem heatWorked_work (z : Nat) (d : ZoneDef) (s : State) : WorkSide z s (heatWorked z d s) := by
  unfold heatWorked
  split
  · exact watchHeat_work ..
  · exact watchHeat_work ..
  · exact workHeat_work ..

theorem heatWorked_silent {s : State} {z : Nat} {d : ZoneDef} (quiet : NoneBegins s z d) :
    Raises (fun _ => False) s (heatWorked z d s) := by
  unfold heatWorked
  split
  · exact watchHeat_silent quiet _
  · exact watchHeat_silent quiet _
  · exact workHeat_silent quiet

theorem heatWorked_plan {s : State} (plan : s.mode ≠ .hold ∧ s.mode ≠ .emergency) (z : Nat) (d : ZoneDef) :
    heatWorked z d s = workHeat z d s := by
  unfold heatWorked
  split
  · exact absurd ‹_› plan.1
  · exact absurd ‹_› plan.2
  · rfl

theorem driveHeater_drives {s : State} (apart : loadsApart s) (z k : Nat) : DriveSide s (driveHeater z k s) := by
  unfold driveHeater
  split
  · exact .refl s
  · exact driveLoad_drives apart k _

theorem driveHeater_other {j k : Nat} (differs : j ≠ k) (z : Nat) (s : State) :
    slotGet (driveHeater z j s).loads k = slotGet s.loads k := by
  unfold driveHeater
  split
  · rfl
  · exact driveLoad_other differs _

theorem heating_zoneWise : ZoneWise heatWorked heatDriver :=
  zoneWise_of heatWorked_work (fun z k _ apart => driveHeater_drives apart z k)
    (fun z _ _ s differs => driveHeater_other differs z s)

/-- The state once the next heating evaluation has been set. -/
def heatSet (s : State) : State := { s with heatAt := s.now + Config.heatingMs }

/-- R166: the heating evaluation, before the lines take up what it queued. -/
def heated (s : State) : State := zonesStepped heatWorked isHeater heatDriver (heatSet s)

theorem heated_eq (s : State) : forEach (slotNumbers s.config.zones) heatZone (heatSet s) = heated s :=
  congrArg (fun f => forEach (slotNumbers s.config.zones) f (heatSet s))
    (funext fun z => funext fun u => heatZone_eq z u)

/-! ## The curtains -/

/-- R171: what a curtain posts by its doors. -/
def driveCurtain (k : Nat) (s : State) : State := driveLoad k (curtainRequest s k) s

theorem stepCurtain_eq (k : Nat) (s : State) :
    stepCurtain k s = modeDriver (fun _ => driveCurtain) s.mode 0 k s := by
  unfold stepCurtain
  cases s.mode <;> rfl

theorem curtains_zoneWise : ZoneWise (fun _ _ s => s) (modeDriver fun _ => driveCurtain) :=
  zoneWise_of (fun z _ s => .refl z s) (fun _ k _ apart => driveLoad_drives apart k _)
    (fun _ _ _ _ differs => driveLoad_other differs _)

/-- The state once the next curtain step has been set. -/
def curtainSet (s : State) : State := { s with curtainAt := s.now + Config.curtainMs }

/-- R171: the curtains, one after another. -/
def curtainsStepped (s : State) : State :=
  forEach (slotsWhere (fun d => isCurtain d.kind) s.config.loads) stepCurtain (curtainSet s)

section

variable {s : State} (apart : loadsApart s)

include apart

theorem stepCurtain_drives (k : Nat) : DriveSide s (stepCurtain k s) := by
  rw [stepCurtain_eq]
  exact curtains_zoneWise.drives _ _ _ _ apart

theorem curtainsStepped_drives : DriveSide (curtainSet s) (curtainsStepped s) :=
  forEach_keeps (P := DriveSide (curtainSet s)) (fun k _ _ h =>
    h.trans (stepCurtain_drives (h.loadsApart (by exact apart)) k)) (.refl _)

/-- A curtain is stepped once, in a state that reads as the start of the step does. -/
theorem curtainsStepped_curtain (ordered : slotWf s.config.loads = true) {k : Nat} {d : LoadDef} {r : LoadRec}
    (defined : slotGet s.config.loads k = some d) (curtain : d.kind = .curtain) (found : slotGet s.loads k = some r) :
    ∃ u, DriveSide (curtainSet s) u ∧ slotGet u.config.loads k = some d ∧ slotGet u.loads k = some r
      ∧ slotGet (curtainsStepped s).loads k = slotGet (stepCurtain k u).loads k := by
  have member : k ∈ slotsWhere (fun d => isCurtain d.kind) s.config.loads :=
    (mem_slotsWhere_iff ordered).mpr ⟨d, defined, by simp [isCurtain, curtain]⟩
  obtain ⟨u, drives, same, made⟩ := (forEach_once (table := State.loads) (k := k) (I := DriveSide (curtainSet s))
    (slotsWhere_nodup ordered)
    (fun j _ u h => h.trans (stepCurtain_drives (h.loadsApart (by exact apart)) j))
    (fun j _ u _ differs => by
      rw [stepCurtain_eq]
      exact curtains_zoneWise.other _ _ j k u differs) (DriveSide.refl _)).2 member
  exact ⟨u, drives, by rw [drives.config]; exact defined, same.trans found, made⟩

end

theorem curtainRequest_one {s : State} {k n : Nat} {d : DoorRec} (found : slotGet s.doors n = some d)
    (doors : curtainDoors s.config k = [n]) : curtainRequest s k = d.request := by
  simp [curtainRequest, doors, found]

theorem curtainRequest_none {s : State} {k : Nat} (doors : curtainDoors s.config k = []) : curtainRequest s k = 0 := by
  simp [curtainRequest, doors]

end Sys2Proof.Machine

namespace Sys2Proof.Claims

open Sys2Proof.Machine

/-! ## The setpoint (R163) -/

theorem plan_of_mode {m : Mode} (mode : m = .run ∨ m = .standalone) : m ≠ .hold ∧ m ≠ .emergency := by
  rcases mode with rfl | rfl <;> decide

theorem preconditioned_iff {s : State} {z : Nat} : preconditioned s z = true
    ↔ s.plan.precondition = true ∧ ∃ n, nextRecord s = some n ∧ inZones n.openZones z = true := by
  unfold preconditioned
  cases nextRecord s <;> simp

theorem setpointOf_law (s : State) (z : Nat) (d : ZoneDef) (zr : ZoneRec) (c : ClimateRec) :
    setpointLaw s z d zr c (setpointOf s z d zr c).level (setpointOf s z d zr c).source := by
  unfold setpointLaw
  intro warmed
  have warmedIs : preconditioned s z = true ↔ warmed := preconditioned_iff
  refine ⟨fun o over_ => ?_, fun n none_ warm next => ?_, fun none_ cold => ?_⟩
  · simp [setpointOf, over_]
  · simp [setpointOf, none_, warmedIs.mpr warm, next]
  · have off : preconditioned s z = false := by
      rw [Bool.eq_false_iff]
      exact fun on => cold (warmedIs.mp on)
    have is : setpointOf s z d zr c = stateSetpoint (activeRecord s) d.kind zr.state := by
      simp [setpointOf, none_, off]
    rw [is]
    refine ⟨fun h => ?_, fun h => ?_, fun h => ?_, fun h => ?_⟩ <;> rw [h] <;> exact ⟨rfl, rfl⟩

/-! ## What heaters post (R168) -/

theorem heaterPost_law (l : LoadDef) (demand : Option HeatDemand) : heaterPost l demand
    = if l.drive = .modulating then (demand.map HeatDemand.q).getD l.fallback
      else if 500 ≤ (demand.map HeatDemand.q).getD l.fallback then 1000 else 0 := by
  unfold heaterPost
  cases l.drive <;> rfl

section

variable {s u t : State} {z : Nat} {d : ZoneDef} (turn : ZoneTurn heatWorked isHeater heatDriver z d s u t)
  (plan : s.mode ≠ .hold ∧ s.mode ≠ .emergency) {c : ClimateRec} (climate : slotGet t.climate z = some c)

include turn plan climate

/-- The heaters of a zone post its demand. -/
theorem heaters_post {k : Nat} {l : LoadDef} {r : LoadRec} (defined : slotGet s.config.loads k = some l)
    (inZone : l.zone = z) (heater : l.kind = .heater) (found : slotGet s.loads k = some r) :
    ∃ r', slotGet t.loads k = some r' ∧ drivenTo l r r' (heaterPost l c.demand) := by
  obtain ⟨v, drives, known, stands, made⟩ := ZoneTurn.plan turn defined inZone (by rw [heater]; rfl) found
    plan.1 plan.2
  have demandIs : (slotGet v.climate z).bind ClimateRec.demand = c.demand := by
    rw [drives.climate, ← turn.climate, climate]
    rfl
  rw [made]
  simp only [driveHeater, known, demandIs]
  exact driveLoad_drivenTo known stands _

end

end Sys2Proof.Claims


/-! SUPPORT and PROOFS. HEATING_EVALUATION and CURTAIN_STEP (R163 to R171): what a zone takes, and what is told. -/

namespace Sys2Proof.Claims

open Sys2Proof.Machine

/-- The temperature of a zone is stale: it has a temperature point, which holds no fresh value. -/
theorem stale_iff {s : State} {z : Nat} {d : ZoneDef} (defined : slotGet s.config.zones z = some d) :
    (∃ p, d.temperature = some p ∧ ∀ q v, getPoint s p = some q → q.value = some v → q.status ≠ .fresh)
      ↔ d.temperature ≠ none ∧ freshTemperature s z = none := by
  rw [freshTemperature_eq defined]
  cases d.temperature with
  | none => simp
  | some p => simp [← freshValue_none]

section

variable {s u t : State} {z : Nat} {d : ZoneDef} (turn : ZoneTurn heatWorked isHeater heatDriver z d s u t)
  (apart : loadsApart s) (defined : slotGet s.config.zones z = some d)

include turn

theorem heatTurn_told {n : Notice} (told : Told n u (heatWorked z d u)) : Told n s t :=
  told.within turn.before.raises (heatWorked_work z d u).raises turn.after

theorem heatTurn_silent (quiet : NoneBegins u z d) {n : Notice} (member : n ∈ t.notices)
    (subject : n.subject = .zone z) : n ∈ s.notices := by
  have worked := (turn.after.origin member).resolve_right fun other => other subject
  have before := ((heatWorked_silent quiet).origin worked).resolve_right id
  exact (turn.before.raises.origin before).resolve_right fun other => other subject

include apart defined

theorem heatTurn_temperature : freshTemperature u z = freshTemperature s z := turn.reads.temperature apart defined

theorem heatTurn_quiet (fresh : ¬ (d.temperature ≠ none ∧ freshTemperature s z = none)) : NoneBegins u z d := by
  intro point none_
  rw [heatTurn_temperature turn apart defined] at none_
  exact absurd ⟨point, none_⟩ fresh

variable {c : ClimateRec} (found : slotGet s.climate z = some c)

include found

omit apart defined in
theorem heatTurn_found : slotGet u.climate z = some c := turn.before.climate.trans found

omit apart defined in
theorem heatTurn_runs (running : c.staleSince ≠ none) : NoneBegins u z d := by
  intro _ _ x there
  obtain rfl : c = x := Option.some.inj ((heatTurn_found turn found).symm.trans there)
  exact running

/-! ## HOLD and EMERGENCY -/

section

variable {source : SetpointSource}
  (mode : (s.mode = .hold ∧ source = SetpointSource.hold) ∨ (s.mode = .emergency ∧ source = SetpointSource.emergency))

include mode

omit apart defined found in
theorem heatTurn_watches : heatWorked z d u = watchHeat z d source u := by
  have same := turn.reads.mode
  rcases mode with ⟨mode, rfl⟩ | ⟨mode, rfl⟩ <;> rw [mode] at same <;> simp only [heatWorked, same]

theorem heatTurn_fixed_known (known : d.temperature = none ∨ freshTemperature s z ≠ none) :
    slotGet t.climate z = some { c with source := source } := by
  have here := heatTurn_found turn found
  rw [turn.climate, heatTurn_watches turn mode]
  exact watchHeat_known here (by rw [heatTurn_temperature turn apart defined]; exact known)

theorem heatTurn_fixed_stale {p : PointRef} (point : d.temperature = some p) (none_ : freshTemperature s z = none) :
    slotGet t.climate z = some { c with source := source, staleSince := some (c.staleSince.getD s.now) } := by
  have here := heatTurn_found turn found
  rw [turn.climate, heatTurn_watches turn mode, ← turn.reads.now]
  exact watchHeat_stale here point (by rw [heatTurn_temperature turn apart defined]; exact none_)

theorem heatTurn_fixed_told {p : PointRef} (point : d.temperature = some p) (none_ : freshTemperature s z = none)
    (begins : c.staleSince = none) : Told ⟨.sensorStale, s.now, .zone z, some 0, some 1⟩ s t := by
  have here := heatTurn_found turn found
  refine heatTurn_told turn ?_
  rw [heatTurn_watches turn mode, ← turn.reads.now]
  exact watchHeat_told here point (by rw [heatTurn_temperature turn apart defined]; exact none_) begins

end

/-! ## RUN and STANDALONE -/

section

variable (plan : s.mode ≠ .hold ∧ s.mode ≠ .emergency)

include plan

omit apart defined found in
theorem heatTurn_works : heatWorked z d u = workHeat z d u :=
  heatWorked_plan (by rw [turn.reads.mode]; exact plan) z d

omit apart defined in
theorem heatTurn_blind (point : d.temperature = none) : slotGet t.climate z = some { c with demand := none } := by
  rw [turn.climate, heatTurn_works turn plan]
  exact workHeat_blind (heatTurn_found turn found) point

variable {zr : ZoneRec} {p : PointRef} (zone : slotGet s.zones z = some zr) (point : d.temperature = some p)

include zone point

theorem heatTurn_fresh {x : Int} (fresh : freshTemperature s z = some x) : slotGet t.climate z
    = some (freshHeat s z (setpointOf s z d zr c).level x (withSetpoint (setpointOf s z d zr c) c)) := by
  have worked := workHeat_fresh (heatTurn_found turn found) point
    (by rw [turn.reads.zones]; exact zone) ((heatTurn_temperature turn apart defined).trans fresh)
  rw [turn.climate, heatTurn_works turn plan, worked, turn.reads.setpoint]
  simp only [freshHeat, turn.reads.config, turn.reads.boost]

theorem heatTurn_stale (none_ : freshTemperature s z = none) : slotGet t.climate z
    = some (staleHeat s.now (s.config.climate.holdTime * 1000)
      (stale s.now (withSetpoint (setpointOf s z d zr c) c))) := by
  have worked := workHeat_stale (heatTurn_found turn found) point
    (by rw [turn.reads.zones]; exact zone) ((heatTurn_temperature turn apart defined).trans none_)
  rw [turn.climate, heatTurn_works turn plan, worked, turn.reads.setpoint, turn.reads.config,
    turn.reads.now]

theorem heatTurn_plan_told (none_ : freshTemperature s z = none) (begins : c.staleSince = none) :
    Told ⟨.sensorStale, s.now, .zone z, some 0, some 1⟩ s t := by
  refine heatTurn_told turn ?_
  rw [heatTurn_works turn plan, ← turn.reads.now]
  exact workHeat_told (heatTurn_found turn found) point (by rw [turn.reads.zones]; exact zone)
    ((heatTurn_temperature turn apart defined).trans none_) begins

end

end

/-! ## A stale temperature (R167) -/

section

variable {now holdMs : Nat} {c : ClimateRec}

theorem staleHeat_fields : (staleHeat now holdMs c).tset = c.tset ∧ (staleHeat now holdMs c).source = c.source
    ∧ (staleHeat now holdMs c).staleSince = c.staleSince ∧ (staleHeat now holdMs c).held = c.held := by
  unfold staleHeat
  split
  · split <;> exact ⟨rfl, rfl, rfl, rfl⟩
  · exact ⟨rfl, rfl, rfl, rfl⟩

theorem heldDemand_q (q : Nat) (c : ClimateRec) : (heldDemand q c).q = q := by
  unfold heldDemand
  split
  · split
    · assumption
    · rfl
  · rfl

theorem staleHeat_held {q : Nat} (held : c.held = some q)
    (early : now < c.staleSince.getD now + holdMs) :
    (staleHeat now holdMs (stale now c)).demand.map HeatDemand.q = some q := by
  simp only [staleHeat, stale, held, if_pos early]
  exact congrArg some (heldDemand_q q _)

theorem staleHeat_ended (ended : c.held = none ∨ c.staleSince.getD now + holdMs ≤ now) :
    (staleHeat now holdMs (stale now c)).demand = none := by
  cases held : c.held with
  | none => simp only [staleHeat, stale, held]
  | some q =>
    have late := ended.resolve_left (by simp [held])
    simp only [staleHeat, stale, held, if_neg (Nat.not_lt.mpr late)]

end

end Sys2Proof.Claims


/-! SUPPORT and PROOFS. HEATING_EVALUATION and CURTAIN_STEP (R163 to R171): the statement. -/

namespace Sys2Proof.Claims

open Sys2Proof.Machine

section

variable {s u t : State} {z : Nat} {d : ZoneDef} (turn : ZoneTurn heatWorked isHeater heatDriver z d s u t)

include turn

/-- The heaters of a zone post its demand, as the statement writes it. -/
theorem heaters_post_demand (plan : s.mode ≠ .hold ∧ s.mode ≠ .emergency) {c : ClimateRec} {q : Option Nat}
    (climate : slotGet t.climate z = some c) (demand : c.demand.map HeatDemand.q = q) (k : Nat) (l : LoadDef)
    (r : LoadRec) (defined : slotGet s.config.loads k = some l) (inZone : l.zone = z) (heater : l.kind = .heater)
    (found : slotGet s.loads k = some r) : ∃ r', slotGet t.loads k = some r' ∧ drivenTo l r r'
      (if l.drive = .modulating then q.getD l.fallback else if 500 ≤ q.getD l.fallback then 1000 else 0) := by
  rw [← demand, ← heaterPost_law]
  exact heaters_post turn plan climate defined inZone heater found

/-- What HOLD and EMERGENCY make of a heater. -/
theorem heaters_fixed {k : Nat} {l : LoadDef} {r : LoadRec} (defined : slotGet s.config.loads k = some l)
    (inZone : l.zone = z) (heater : l.kind = .heater) (found : slotGet s.loads k = some r) :
    ∃ r', slotGet t.loads k = some r' ∧ (s.mode = .hold → drivenTo l r r' l.hold)
      ∧ (s.mode = .emergency → r'.posted = 0 ∧ r'.goal = 0 ∧ r'.applied = 0) := by
  have works := heatWorked_work z d u
  have picked : isHeater l.kind = true := by rw [heater]; rfl
  have off : emergencyFraction s.config.climate.vent l.kind = 0 := by rw [heater]; rfl
  by_cases hold : s.mode = .hold
  · obtain ⟨r', result, driven⟩ := ZoneTurn.hold turn works defined inZone picked found hold
    exact ⟨r', result, fun _ => driven, fun emergency => by rw [hold] at emergency; cases emergency⟩
  by_cases emergency : s.mode = .emergency
  · obtain ⟨r', result, posted⟩ := ZoneTurn.emergency turn works defined inZone picked found emergency
    rw [off] at posted
    exact ⟨r', result, fun h => absurd h hold, fun _ => posted⟩
  · obtain ⟨v, _, known, stands, made⟩ := ZoneTurn.plan turn defined inZone picked found hold emergency
    obtain ⟨r', result, _⟩ := driveLoad_drivenTo known stands
      (heaterPost l ((slotGet v.climate z).bind ClimateRec.demand))
    refine ⟨r', ?_, fun h => absurd h hold, fun h => absurd h emergency⟩
    rw [made]
    simp only [driveHeater, known]
    exact result

end

/-- R171, R178, R179: what the step makes of a curtain. -/
theorem stepCurtain_law {s u : State} (reads : DriveSide s u) {k : Nat} {l : LoadDef} {r : LoadRec}
    (known : slotGet u.config.loads k = some l) (curtain : l.kind = .curtain) (stands : slotGet u.loads k = some r) :
    ∃ r', slotGet (stepCurtain k u).loads k = some r' ∧ (s.mode = .hold → drivenTo l r r' l.hold)
      ∧ (s.mode = .emergency → r'.posted = 0 ∧ r'.goal = 0 ∧ r'.applied = 0)
      ∧ (s.mode ≠ .hold → s.mode ≠ .emergency → drivenTo l r r' (curtainRequest s k)) := by
  have mode : u.mode = s.mode := by rw [reads.frame]
  have request : curtainRequest u k = curtainRequest s k := by rw [reads.frame]; rfl
  have off : emergencyFraction u.config.climate.vent l.kind = 0 := by rw [curtain]; rfl
  rw [stepCurtain_eq, mode]
  by_cases hold : s.mode = .hold
  · obtain ⟨r', result, driven⟩ := postFixed_hold known stands (mode.trans hold)
    exact ⟨r', by rw [hold]; exact result, fun _ => driven, (by rw [hold]; simp), fun h => absurd hold h⟩
  by_cases emergency : s.mode = .emergency
  · obtain ⟨r', result, posted⟩ := postFixed_emergency known stands (mode.trans emergency)
    rw [off] at posted
    exact ⟨r', by rw [emergency]; exact result, fun h => absurd h hold, fun _ => posted,
      fun _ h => absurd emergency h⟩
  · obtain ⟨r', result, driven⟩ := driveLoad_drivenTo known stands (curtainRequest u k)
    rw [request] at driven
    refine ⟨r', ?_, fun h => absurd h hold, fun h => absurd h emergency, fun _ _ => driven⟩
    rw [modeDriver_plan hold emergency]
    exact result

end Sys2Proof.Claims

namespace Sys2Proof.Proofs

open Sys2Proof.Machine Sys2Proof.Claims

/-- Settles O59: each zone is worked once, in a state that reads as the start of the evaluation does. -/
theorem heatersAndCurtainsAreDriven : Obligations.HeatersAndCurtainsAreDriven := by
  unfold Obligations.HeatersAndCurtainsAreDriven
  intro s on ordered zones apart heatersPost isStale
  have turns {z : Nat} {d : ZoneDef} (defined : slotGet s.config.zones z = some d) :
      ∃ u, ZoneTurn heatWorked isHeater heatDriver z d (heatSet s) u (heated s) :=
    zoneTurn heating_zoneWise (s := heatSet s) ordered zones (by exact apart) defined
  have same : EvalSide (heatSet s) (heated s) := zonesStepped_evaluates heating_zoneWise (by exact apart)
  have heatAt : (heated s).heatAt = (heatSet s).heatAt := by rw [same.frame]
  have now : (heated s).now = s.now := same.now
  refine ⟨fun due => ⟨grantLines (heated s), ?_, now, heatAt.trans ?_, ?_, ?_, ?_, ?_, ?_, ?_, ?_⟩,
    fun due => ⟨grantLines (curtainsStepped s), (powered_on on).trans (congrArg _ (whenDue_due due)),
      (curtainsStepped_drives apart).now, ?_, ?_⟩⟩
  · rw [← heated_eq]
    exact (powered_on on).trans (congrArg _ (whenDue_due due))
  · show s.now + 10000 = (heated s).now + 10000
    rw [now]
  case _ =>
    intro z d zr c p q v running defined zone found point holds fresh value
    obtain ⟨u, turn⟩ := turns defined
    have plan := plan_of_mode running
    have reads : freshTemperature s z = some (temperatureOf p v) := by
      rw [freshTemperature_eq defined, point, Option.bind_some, freshValue_some holds fresh value]
      rfl
    have result := heatTurn_fresh turn apart defined found plan zone point reads
    exact ⟨_, _, _, result, rfl, rfl, rfl, rfl, setpointOf_law s z d zr c, rfl, rfl, rfl, rfl,
      heaters_post_demand turn plan result rfl⟩
  case _ =>
    intro z d zr c running defined zone found is since
    obtain ⟨u, turn⟩ := turns defined
    have plan := plan_of_mode running
    have ⟨p, point, _⟩ := is
    obtain ⟨_, none_⟩ := (stale_iff defined).mp is
    have result := heatTurn_stale turn apart defined found plan zone point none_
    obtain ⟨tset, source, begun, held⟩ := staleHeat_fields (now := s.now)
      (holdMs := s.config.climate.holdTime * 1000) (c := stale s.now (withSetpoint (setpointOf s z d zr c) c))
    have law : setpointLaw s z d zr c (setpointOf s z d zr c).level (staleHeat s.now
        (s.config.climate.holdTime * 1000) (stale s.now (withSetpoint (setpointOf s z d zr c) c))).source := by
      rw [source]
      exact setpointOf_law s z d zr c
    refine ⟨_, _, result, tset, law, begun, held, fun q held early => ?_, fun ended => ?_,
      heaters_post_demand turn plan result rfl⟩
    · exact staleHeat_held (c := withSetpoint (setpointOf s z d zr c) c) held early
    · exact staleHeat_ended (c := withSetpoint (setpointOf s z d zr c) c) ended
  case _ =>
    intro z d c running defined point found
    obtain ⟨u, turn⟩ := turns defined
    have plan := plan_of_mode running
    have result := heatTurn_blind turn found plan point
    exact ⟨_, result, rfl, heaters_post_demand turn plan result rfl⟩
  case _ =>
    intro z d c defined found is modes
    obtain ⟨u, turn⟩ := turns defined
    have ⟨p, point, _⟩ := is
    obtain ⟨_, none_⟩ := (stale_iff defined).mp is
    have running (h : c.staleSince ≠ none) := heatTurn_runs turn found h
    by_cases fixed : s.mode = .hold ∨ s.mode = .emergency
    · have source : ∃ source, (s.mode = .hold ∧ source = SetpointSource.hold)
          ∨ (s.mode = .emergency ∧ source = SetpointSource.emergency) := by
        rcases fixed with mode | mode
        · exact ⟨_, .inl ⟨mode, rfl⟩⟩
        · exact ⟨_, .inr ⟨mode, rfl⟩⟩
      obtain ⟨source, mode⟩ := source
      exact ⟨⟨_, heatTurn_fixed_stale turn apart defined found mode point none_, rfl⟩,
        heatTurn_fixed_told turn apart defined found mode point none_,
        fun h n member _ subject => heatTurn_silent turn (running h) member subject⟩
    · obtain ⟨hold, emergency⟩ := not_or.mp fixed
      have used : slotUsed s.zones z = true := by simpa [hold, emergency] using modes
      obtain ⟨zr, zone⟩ := (slotUsed_iff _ _).mp used
      have result := heatTurn_stale turn apart defined found ⟨hold, emergency⟩ zone point none_
      exact ⟨⟨_, result, staleHeat_fields.2.2.1⟩,
        heatTurn_plan_told turn apart defined found ⟨hold, emergency⟩ zone point none_,
        fun h n member _ subject => heatTurn_silent turn (running h) member subject⟩
  case _ =>
    intro z d defined not n member _ subject
    obtain ⟨u, turn⟩ := turns defined
    exact heatTurn_silent turn (heatTurn_quiet turn apart defined (not ∘ (stale_iff defined).mpr)) member subject
  case _ =>
    intro z d c source defined found mode
    obtain ⟨u, turn⟩ := turns defined
    refine ⟨fun is => ?_, fun p q v point holds fresh value => ?_, fun point => ?_⟩
    · have ⟨p, point, _⟩ := is
      exact heatTurn_fixed_stale turn apart defined found mode point ((stale_iff defined).mp is).2
    · refine heatTurn_fixed_known turn apart defined found mode (.inr ?_)
      show freshTemperature s z ≠ none
      rw [freshTemperature_eq defined, point, Option.bind_some, freshValue_some holds fresh value]
      simp
    · exact heatTurn_fixed_known turn apart defined found mode (.inl point)
  case _ =>
    intro k l r known used heater found
    obtain ⟨d, defined⟩ := (slotUsed_iff _ _).mp used
    obtain ⟨u, turn⟩ := turns defined
    exact heaters_fixed turn known rfl heater found
  case _ =>
    show (curtainsStepped s).curtainAt = (curtainsStepped s).now + 1000
    rw [(curtainsStepped_drives apart).frame]
    rfl
  case _ =>
    intro k l r known curtain found
    obtain ⟨u, reads, knownU, stands, made⟩ := curtainsStepped_curtain apart ordered known curtain found
    obtain ⟨r', result, hold, emergency, plan⟩ := stepCurtain_law reads knownU curtain stands
    refine ⟨r', made.trans result, hold, emergency, fun n d running door doors => ?_, fun running doors => ?_⟩
    · have driven := plan (plan_of_mode running).1 (plan_of_mode running).2
      rwa [curtainRequest_one (s := curtainSet s) door doors] at driven
    · have driven := plan (plan_of_mode running).1 (plan_of_mode running).2
      rwa [curtainRequest_none (s := curtainSet s) doors] at driven

end Sys2Proof.Proofs


/-! SUPPORT. The gas index and the ventilation stage of a zone (R172 to R177). -/

namespace Sys2Proof.Machine

open Sys2Proof.Claims

/-! ## The work of a zone -/

/-- R172 to R176: the work of a zone at an evaluation. -/
def ventWorked (z : Nat) (d : ZoneDef) (s : State) : State :=
  if isStopped s then s else if d.gas.isEmpty then noGas z s else ventilate z d s

/-- What drives the fans of a zone. -/
def ventDriver : Mode → Nat → Nat → State → State := modeDriver driveFan

theorem ventZone_eq (z : Nat) (s : State) : ventZone z s = zoneStep ventWorked isFan ventDriver z s := by
  unfold ventZone zoneStep
  cases slotGet s.config.zones z with
  | none => rfl
  | some d => cases mode : s.mode <;> rfl

theorem notePurge_work (z now : Nat) (old new : ClimateRec) (s : State) : WorkSide z s (notePurge z now old new s) := by
  unfold notePurge
  split
  · exact .raised _ z _ _ s
  · split
    · exact .raised _ z _ _ s
    · exact .refl z s

theorem noteGasStale_work (z count : Nat) (old : ClimateRec) (s : State) :
    WorkSide z s (noteGasStale z count old s) := by
  unfold noteGasStale
  split
  · exact .refl z s
  · exact .raised _ z _ _ s

theorem ventilate_work (z : Nat) (d : ZoneDef) (s : State) : WorkSide z s (ventilate z d s) := by
  unfold ventilate
  split
  · exact .refl z s
  · dsimp only
    split
    · exact ((WorkSide.changeClimate z _ s).trans (notePurge_work ..)).trans
        ((WorkSide.changeClimate z _ _).trans (noteGasStale_work ..))
    · exact ((WorkSide.changeClimate z _ s).trans (notePurge_work ..)).trans (.changeClimate z _ _)

theorem ventWorked_work (z : Nat) (d : ZoneDef) (s : State) : WorkSide z s (ventWorked z d s) := by
  unfold ventWorked
  split
  · exact .refl z s
  · split
    · exact .changeClimate z _ s
    · exact ventilate_work z d s

theorem driveFan_drives {s : State} (apart : loadsApart s) (z k : Nat) : DriveSide s (driveFan z k s) := by
  unfold driveFan
  split
  · exact driveLoad_drives apart k _
  · exact .refl s

theorem driveFan_other {j k : Nat} (differs : j ≠ k) (z : Nat) (s : State) :
    slotGet (driveFan z j s).loads k = slotGet s.loads k := by
  unfold driveFan
  split
  · exact driveLoad_other differs _
  · rfl

theorem venting_zoneWise : ZoneWise ventWorked ventDriver :=
  zoneWise_of ventWorked_work (fun z k _ apart => driveFan_drives apart z k)
    (fun z _ _ s differs => driveFan_other differs z s)

/-- The state once the next ventilation evaluation has been set. -/
def ventSet (s : State) : State := { s with ventAt := s.now + Config.ventilationMs }

/-- R172: the ventilation evaluation, before the lines take up what it queued. -/
def vented (s : State) : State := zonesStepped ventWorked isFan ventDriver (ventSet s)

theorem vented_eq (s : State) : forEach (slotNumbers s.config.zones) ventZone (ventSet s) = vented s :=
  congrArg (fun f => forEach (slotNumbers s.config.zones) f (ventSet s))
    (funext fun z => funext fun u => ventZone_eq z u)

/-! ## The gas of a zone (R172) -/

theorem gasRatio_eq (s : State) (g : GasPoint) : gasRatio s g
    = (freshValue s g.point).map fun v => v.toNat * 1000 / gasReference s.config.climate g.gas := by
  unfold gasRatio freshValue
  cases getPoint s g.point with
  | none => rfl
  | some q =>
    show (if q.status = .fresh then q.value.map fun v => v.toNat * 1000 / gasReference s.config.climate g.gas
      else none) = (if q.status = .fresh then q.value else none).map _
    split <;> rfl

theorem EvalSide.gas {s t : State} (h : EvalSide s t) (apart : Claims.loadsApart s) {z : Nat} {d : ZoneDef}
    (defined : slotGet s.config.zones z = some d) (c : ClimateRec) : workGas t d c = workGas s d c := by
  have ratios : d.gas.filterMap (gasRatio t) = d.gas.filterMap (gasRatio s) :=
    List.filterMap_congr fun g member => by
      rw [gasRatio_eq, gasRatio_eq, h.freshValue (sparedKey_gas apart defined member), h.config]
  simp only [workGas, ratios]

theorem gasRatio_ratioAt (s : State) : gasRatio s = ratioAt s := by
  funext g
  unfold gasRatio ratioAt
  cases getPoint s g.point with
  | none => rfl
  | some q => cases g.gas <;> rfl

/-! ## The stage of a zone (R173, R174, R175) -/

theorem stageCalled_calledFor (g : Nat) : stageCalled g = calledFor g := by
  unfold stageCalled calledFor
  split_ifs <;> omega

theorem stageCalled_most (g : Nat) : stageCalled g ≤ 4 := by
  unfold stageCalled
  split_ifs <;> omega

theorem fallingThreshold_fallsBelow (stage : Nat) : fallingThreshold stage = fallsBelow stage := by
  match stage with
  | 0 => rfl
  | 1 => rfl
  | 2 => rfl
  | 3 => rfl
  | n + 4 => simp [fallingThreshold, fallsBelow]

theorem judgeStage_keeps (now : Nat) (floor : Bool) (a : ClimateRec) : judgeStage now floor a = { a with
    stage := (judgeStage now floor a).stage, stageAt := (judgeStage now floor a).stageAt
    dwell := (judgeStage now floor a).dwell, purgeClear := (judgeStage now floor a).purgeClear } := by
  unfold judgeStage
  split
  · rfl
  · split
    · unfold purgeStage
      split_ifs <;> rfl
    · unfold fallStage
      split
      · rfl
      · split
        · rfl
        · split
          · rfl
          · split <;> rfl

end Sys2Proof.Machine

namespace Sys2Proof.Claims

open Sys2Proof.Machine

section

variable {now : Nat} {floor : Bool} {a : ClimateRec}

/-- R174: a zone that falls or waits. -/
theorem judgeStage_falls (below : a.stage ≠ 4) (called : stageCalled a.gasIndex ≤ a.stage) :
    judgeStage now floor a = fallStage now floor a := by
  rw [judgeStage, if_neg (Nat.not_lt.mpr called), if_neg below]

/-- R175: a zone at stage 4. -/
theorem judgeStage_purge (purge : a.stage = 4) : judgeStage now floor a = purgeStage now a := by
  have called : ¬ a.stage < stageCalled a.gasIndex := by
    have := stageCalled_most a.gasIndex
    omega
  rw [judgeStage, if_neg called, if_pos purge]

theorem purgeEnds_iff : purgeEnds now a = true
    ↔ a.gasIndex < 900 ∧ ∃ since, a.purgeClear = some since ∧ since + 120000 ≤ now := by
  rw [purgeEnds, Bool.and_eq_true]
  refine and_congr decide_eq_true_iff ?_
  cases a.purgeClear with
  | none => simp
  | some since =>
    rw [Option.any_some, decide_eq_true_iff]
    exact ⟨fun late => ⟨since, rfl, late⟩, fun ⟨_, same, late⟩ => Option.some.inj same ▸ late⟩

theorem judgeStage_law {still : Prop} (floors : floor = true ↔ still) :
    stageLaw now still a.gasIndex a (judgeStage now floor a) := by
  obtain ⟨b, made⟩ : ∃ b, judgeStage now floor a = b := ⟨_, rfl⟩
  rw [made]
  unfold stageLaw
  intro enters stays
  refine ⟨fun rises => ?_, fun zero called => ?_, fun low high called => ?_, fun purge => ?_⟩
  · rw [← stageCalled_calledFor] at rises
    rw [judgeStage, if_pos rises] at made
    subst made
    exact ⟨stageCalled_calledFor _, rfl, rfl, rfl⟩
  · have stands : ¬ a.stage < stageCalled a.gasIndex := by
      rw [stageCalled_calledFor, called]
      exact Nat.not_lt_zero _
    rw [judgeStage, if_neg stands, if_neg (by omega), fallStage, if_pos zero] at made
    subst made
    exact ⟨rfl, rfl, rfl, rfl⟩
  · rw [judgeStage_falls (by omega) (by rw [stageCalled_calledFor]; exact called), fallStage,
      if_neg (Nat.ne_of_gt low)] at made
    rw [← fallingThreshold_fallsBelow]
    refine ⟨fun above => ?_, fun below fresh => ?_, fun since below waits => ?_⟩
    · rw [if_pos above] at made
      subst made
      exact ⟨rfl, rfl, rfl, rfl⟩
    · simp only [if_neg (Nat.not_le.mpr below), fresh] at made
      subst made
      exact ⟨rfl, rfl, rfl, rfl⟩
    · simp only [if_neg (Nat.not_le.mpr below), waits] at made
      have falls : (since + Config.dwellMs ≤ now && !(floor && decide (a.stage ≤ 2))) = true
          ↔ since + 60000 ≤ now ∧ ¬ (still ∧ a.stage ≤ 2) := by
        rw [Bool.and_eq_true, decide_eq_true_iff, ← floors]
        refine and_congr Iff.rfl ?_
        cases floor <;> simp
      refine ⟨fun early => ?_, fun late free => ?_⟩
      · rw [if_neg (by
          rw [falls]
          rintro ⟨late, free⟩
          rcases early with early | held
          · omega
          · exact free held)] at made
        subst made
        exact ⟨rfl, rfl, rfl, rfl⟩
      · rw [if_pos (falls.mpr ⟨late, free⟩)] at made
        rw [← fallingThreshold_fallsBelow]
        subst made
        exact ⟨rfl, rfl, rfl, rfl⟩
  · rw [judgeStage_purge purge, purgeStage] at made
    refine ⟨fun above => ?_, fun below fresh => ?_, fun since below waits => ⟨fun early => ?_, fun late => ?_⟩⟩
    · rw [if_neg (by rw [purgeEnds_iff]; omega), if_pos (by exact above)] at made
      subst made
      exact ⟨rfl, rfl, rfl, rfl⟩
    · rw [if_neg (by simp [purgeEnds_iff, fresh]), if_neg (by exact Nat.not_le.mpr below),
        if_pos (by simp [fresh])] at made
      subst made
      exact ⟨rfl, rfl, rfl, rfl⟩
    · have stands : ¬ purgeEnds now a = true := by
        rw [purgeEnds_iff]
        rintro ⟨_, _, same, late⟩
        obtain rfl := Option.some.inj (waits.symm.trans same)
        omega
      rw [if_neg stands, if_neg (by exact Nat.not_le.mpr below), if_neg (by simp [waits])] at made
      subst made
      exact ⟨rfl, rfl, rfl, rfl⟩
    · rw [if_pos (purgeEnds_iff.mpr ⟨below, since, waits, late⟩)] at made
      subst made
      exact ⟨rfl, rfl, rfl, rfl⟩

end

end Sys2Proof.Claims


/-! SUPPORT and PROOFS. VENTILATION_EVALUATION (R169, R172 to R179). -/

namespace Sys2Proof.Machine

open Sys2Proof.Claims

/-! ## A zone with gas points -/

/-- R176: the count of gas points that are not fresh. -/
def gasMissing (s : State) (d : ZoneDef) (c : ClimateRec) : Nat := d.gas.length - (workGas s d c).gasFresh

/-- R173, R174, R175: the record of a zone whose stage has been judged. -/
def gasJudged (s : State) (d : ZoneDef) (c : ClimateRec) : ClimateRec :=
  judgeStage s.now (decide (0 < gasMissing s d c)) (workGas s d c)

/-- The state in which a zone's stage has been judged, and its purge told of. -/
def purgeNoted (z : Nat) (d : ZoneDef) (c : ClimateRec) (s : State) : State :=
  notePurge z s.now (workGas s d c) (gasJudged s d c) (changeClimate z (fun _ => gasJudged s d c) s)

/-- What a zone's evaluation may tell. -/
def GasNotice (s : State) (d : ZoneDef) (c : ClimateRec) (n : Notice) : Prop :=
  (n.kind = .gasPurgeBegin ∧ c.stage ≠ 4 ∧ (gasJudged s d c).stage = 4)
  ∨ (n.kind = .gasPurgeEnd ∧ c.stage = 4 ∧ (gasJudged s d c).stage ≠ 4)
  ∨ (n.kind = .sensorStale ∧ 0 < gasMissing s d c ∧ c.gasStale = false)

theorem purgeNoted_climate (z : Nat) (d : ZoneDef) (c : ClimateRec) (s : State) : (purgeNoted z d c s).climate
    = slotChange (fun _ => gasJudged s d c) s.climate z := by
  unfold purgeNoted notePurge
  split
  · rfl
  · split <;> rfl

theorem quantity_of_most {n : Nat} (most : n ≤ 65535) : quantity n = some (n : Int) := by
  rw [quantity, Nat.min_eq_left most]

theorem workGas_index (s : State) (d : ZoneDef) (c : ClimateRec) : (workGas s d c).gasIndex ≤ 65535 :=
  Nat.min_le_right _ _

theorem gasJudged_index (s : State) (d : ZoneDef) (c : ClimateRec) :
    (gasJudged s d c).gasIndex = (workGas s d c).gasIndex := by
  rw [gasJudged, judgeStage_keeps]

theorem gasJudged_fresh (s : State) (d : ZoneDef) (c : ClimateRec) :
    (gasJudged s d c).gasFresh = (workGas s d c).gasFresh := by
  rw [gasJudged, judgeStage_keeps]

section

variable {s : State} {z : Nat} {d : ZoneDef} {c : ClimateRec}

theorem purgeNoted_begins (before : c.stage ≠ 4) (after : (gasJudged s d c).stage = 4) :
    Told ⟨.gasPurgeBegin, s.now, .zone z, some ((workGas s d c).gasIndex : Int), some (c.stage : Int)⟩ s
      (purgeNoted z d c s) := by
  unfold purgeNoted notePurge
  rw [if_pos ⟨before, after⟩, gasJudged_index, quantity_of_most (workGas_index s d c)]
  exact told_raise .gasPurgeBegin (.zone z) _ _ (changeClimate z (fun _ => gasJudged s d c) s)

theorem purgeNoted_ends (before : c.stage = 4) (after : (gasJudged s d c).stage ≠ 4) :
    Told ⟨.gasPurgeEnd, s.now, .zone z, some ((workGas s d c).gasIndex : Int),
      some ((min ((s.now - c.stageAt) / 1000) 65535 : Nat) : Int)⟩ s (purgeNoted z d c s) := by
  unfold purgeNoted notePurge
  rw [if_neg fun h => after h.2, if_pos ⟨before, after⟩, gasJudged_index, quantity_of_most (workGas_index s d c)]
  exact told_raise .gasPurgeEnd (.zone z) _ _ (changeClimate z (fun _ => gasJudged s d c) s)

theorem purgeNoted_raises : Raises (GasNotice s d c) s (purgeNoted z d c s) := by
  have judged : Raises (GasNotice s d c) s (changeClimate z (fun _ => gasJudged s d c) s) := .of_same rfl rfl
  unfold purgeNoted notePurge
  split
  · rename_i begins
    exact judged.trans (.raised (.inl ⟨rfl, begins⟩))
  · split
    · rename_i ends
      exact judged.trans (.raised (.inr (.inl ⟨rfl, ends⟩)))
    · exact judged

variable (found : slotGet s.climate z = some c)

include found

theorem ventilate_eq : ventilate z d s = if 0 < gasMissing s d c then
      noteGasStale z (gasMissing s d c) c
        (changeClimate z (fun _ => floorStage s.now (gasJudged s d c)) (purgeNoted z d c s))
    else changeClimate z (fun _ => { gasJudged s d c with gasStale := false }) (purgeNoted z d c s) := by
  simp only [ventilate, found]
  rfl

theorem purgeNoted_found : slotGet (purgeNoted z d c s).climate z = some (gasJudged s d c) := by
  rw [purgeNoted_climate]
  exact slotGet_slotChange_same found

theorem ventilate_missing (missing : 0 < gasMissing s d c) :
    slotGet (ventilate z d s).climate z = some (floorStage s.now (gasJudged s d c)) := by
  have changed := slotGet_slotChange_same (f := fun _ => floorStage s.now (gasJudged s d c))
    (purgeNoted_found (d := d) found)
  rw [ventilate_eq found, if_pos missing, noteGasStale]
  split <;> exact changed

theorem ventilate_whole (whole : ¬ 0 < gasMissing s d c) :
    slotGet (ventilate z d s).climate z = some { gasJudged s d c with gasStale := false } := by
  rw [ventilate_eq found, if_neg whole]
  exact slotGet_slotChange_same (purgeNoted_found found)

theorem ventilate_after : Raises (GasNotice s d c) (purgeNoted z d c s) (ventilate z d s) := by
  rw [ventilate_eq found]
  split
  · rename_i missing
    have floored : Raises (GasNotice s d c) (purgeNoted z d c s)
      (changeClimate z (fun _ => floorStage s.now (gasJudged s d c)) (purgeNoted z d c s)) := .of_same rfl rfl
    unfold noteGasStale
    split
    · exact floored
    · rename_i quiet
      exact floored.trans (.raised (.inr (.inr ⟨rfl, missing, Bool.eq_false_iff.mpr quiet⟩)))
  · exact .of_same rfl rfl

theorem ventilate_raises : Raises (GasNotice s d c) s (ventilate z d s) :=
  purgeNoted_raises.trans (ventilate_after found)

theorem ventilate_stale (missing : 0 < gasMissing s d c) (quiet : c.gasStale = false) :
    Told ⟨.sensorStale, s.now, .zone z, some 1, some (gasMissing s d c : Int)⟩ s (ventilate z d s) := by
  have now : (purgeNoted z d c s).now = s.now := by rw [purgeNoted, (notePurge_work ..).frame]; rfl
  have told : Told ⟨.sensorStale, s.now, .zone z, some 1, some (gasMissing s d c : Int)⟩ (purgeNoted z d c s)
      (ventilate z d s) := by
    rw [ventilate_eq found, if_pos missing, noteGasStale, if_neg (by simp [quiet]), ← now]
    exact told_raise .sensorStale (.zone z) (some 1) _ (changeClimate z _ (purgeNoted z d c s))
  exact told.within (purgeNoted_raises (z := z)) (ventilate_after found) (Raises.refl (P := fun _ => True) _)

theorem ventilate_told {n : Notice} (told : Told n s (purgeNoted z d c s)) : Told n s (ventilate z d s) :=
  told.after purgeNoted_raises (ventilate_after found)

end

/-! ## The stale floor (R176) -/

section

variable (now : Nat) {c : ClimateRec}

theorem floorStage_fields (c : ClimateRec) : (floorStage now c).gasFresh = c.gasFresh
    ∧ (floorStage now c).gasIndex = c.gasIndex ∧ (floorStage now c).gasStale = true
    ∧ (floorStage now c).purgeClear = c.purgeClear := by
  unfold floorStage
  dsimp only
  split <;> exact ⟨rfl, rfl, rfl, rfl⟩

theorem floorStage_high (high : 2 ≤ c.stage) : (floorStage now c).stage = c.stage
    ∧ (floorStage now c).stageAt = c.stageAt ∧ (floorStage now c).dwell = c.dwell := by
  rw [floorStage, if_neg (by exact Nat.not_lt.mpr high)]
  exact ⟨rfl, rfl, rfl⟩

theorem floorStage_low (low : c.stage < 2) : (floorStage now c).stage = 2 ∧ (floorStage now c).stageAt = now
    ∧ (floorStage now c).dwell = none := by
  rw [floorStage, if_pos (by exact low)]
  exact ⟨rfl, rfl, rfl⟩

end

end Sys2Proof.Machine


/-! SUPPORT and PROOFS. VENTILATION_EVALUATION (R169, R172 to R179): what a zone and its fans take. -/

namespace Sys2Proof.Claims

open Sys2Proof.Machine

/-! ## The record of a zone -/

section

variable {s u t : State} {z : Nat} {d : ZoneDef} (turn : ZoneTurn ventWorked isFan ventDriver z d s u t)

include turn

theorem ventTurn_stopped : isStopped u = isStopped s := by
  rw [turn.reads.frame]
  rfl

variable {c : ClimateRec} (found : slotGet s.climate z = some c)

include found

theorem ventTurn_found : slotGet u.climate z = some c := turn.before.climate.trans found

theorem ventTurn_keeps (stopped : isStopped s = true) : slotGet t.climate z = some c := by
  rw [turn.climate, ventWorked, if_pos ((ventTurn_stopped turn).trans stopped)]
  exact ventTurn_found turn found

variable (runs : isStopped s = false)

include runs

theorem ventTurn_noGas (gas : d.gas = []) : slotGet t.climate z = some { c with
    gasIndex := 0, gasFresh := 0, stage := 0
    stageAt := if c.stage = 0 then c.stageAt else s.now
    dwell := none, purgeClear := none, gasStale := false } := by
  have runsU : ¬ isStopped u = true := by rw [ventTurn_stopped turn, runs]; decide
  rw [turn.climate, ventWorked, if_neg runsU, if_pos (by simp [gas]), ← turn.reads.now]
  exact slotGet_slotChange_same (ventTurn_found turn found)

omit found in
theorem ventTurn_works (gas : d.gas ≠ []) : ventWorked z d u = ventilate z d u := by
  have runsU : ¬ isStopped u = true := by rw [ventTurn_stopped turn, runs]; decide
  rw [ventWorked, if_neg runsU, if_neg (by simp [gas])]

variable (gas : d.gas ≠ []) (apart : loadsApart s) (defined : slotGet s.config.zones z = some d)

include gas apart defined

omit gas runs found in
/-- The zone's turn finds the gas as the evaluation does at its start. -/
theorem ventTurn_reads : gasMissing u d c = gasMissing s d c ∧ gasJudged u d c = gasJudged s d c := by
  have same := turn.reads.gas apart defined c
  have missing : gasMissing u d c = gasMissing s d c := by rw [gasMissing, gasMissing, same]
  exact ⟨missing, by rw [gasJudged, gasJudged, missing, same, turn.reads.now]⟩

theorem ventTurn_missing (missing : 0 < gasMissing s d c) :
    slotGet t.climate z = some (floorStage s.now (gasJudged s d c)) := by
  obtain ⟨count, judged⟩ := ventTurn_reads (c := c) turn apart defined
  rw [turn.climate, ventTurn_works turn runs gas, ← judged, ← turn.reads.now]
  exact ventilate_missing (ventTurn_found turn found) (by rw [count]; exact missing)

theorem ventTurn_whole (whole : ¬ 0 < gasMissing s d c) :
    slotGet t.climate z = some { gasJudged s d c with gasStale := false } := by
  obtain ⟨count, judged⟩ := ventTurn_reads (c := c) turn apart defined
  rw [turn.climate, ventTurn_works turn runs gas, ← judged]
  exact ventilate_whole (ventTurn_found turn found) (by rw [count]; exact whole)

theorem ventTurn_record : ∃ c', slotGet t.climate z = some c' ∧ c'.gasFresh = (workGas s d c).gasFresh
    ∧ c'.gasIndex = (workGas s d c).gasIndex ∧ c'.gasStale = decide (0 < gasMissing s d c)
    ∧ c'.purgeClear = (gasJudged s d c).purgeClear
    ∧ (¬ 0 < gasMissing s d c ∨ 2 ≤ (gasJudged s d c).stage → c'.stage = (gasJudged s d c).stage
      ∧ c'.stageAt = (gasJudged s d c).stageAt ∧ c'.dwell = (gasJudged s d c).dwell)
    ∧ (0 < gasMissing s d c → (gasJudged s d c).stage < 2 → c'.stage = 2 ∧ c'.stageAt = s.now ∧ c'.dwell = none) := by
  by_cases missing : 0 < gasMissing s d c
  · have fields := floorStage_fields s.now (gasJudged s d c)
    obtain ⟨fresh, index, flag, clear⟩ := fields
    exact ⟨_, ventTurn_missing turn found runs gas apart defined missing,
      fresh.trans (gasJudged_fresh s d c), index.trans (gasJudged_index s d c),
      flag.trans (decide_eq_true missing).symm, clear,
      fun high => floorStage_high s.now (high.resolve_left (not_not_intro missing)),
      fun _ low => floorStage_low s.now low⟩
  · exact ⟨_, ventTurn_whole turn found runs gas apart defined missing, gasJudged_fresh s d c, gasJudged_index s d c,
      (decide_eq_false missing).symm, rfl, fun _ => ⟨rfl, rfl, rfl⟩, fun h => absurd h missing⟩

omit apart defined found in
theorem ventTurn_told {n : Notice} (told : Told n u (ventilate z d u)) : Told n s t := by
  rw [← ventTurn_works turn runs gas] at told
  exact told.within turn.before.raises (ventWorked_work z d u).raises turn.after

theorem ventTurn_begins (before : c.stage ≠ 4) (after : (gasJudged s d c).stage = 4) :
    Told ⟨.gasPurgeBegin, s.now, .zone z, some ((workGas s d c).gasIndex : Int), some (c.stage : Int)⟩ s t := by
  obtain ⟨_, judged⟩ := ventTurn_reads (c := c) turn apart defined
  refine ventTurn_told turn runs gas ?_
  rw [← turn.reads.now, ← turn.reads.gas apart defined]
  exact ventilate_told (ventTurn_found turn found) (purgeNoted_begins before (by rw [judged]; exact after))

theorem ventTurn_ends (before : c.stage = 4) (after : (gasJudged s d c).stage ≠ 4) :
    Told ⟨.gasPurgeEnd, s.now, .zone z, some ((workGas s d c).gasIndex : Int),
      some ((min ((s.now - c.stageAt) / 1000) 65535 : Nat) : Int)⟩ s t := by
  obtain ⟨_, judged⟩ := ventTurn_reads (c := c) turn apart defined
  refine ventTurn_told turn runs gas ?_
  rw [← turn.reads.now, ← turn.reads.gas apart defined]
  exact ventilate_told (ventTurn_found turn found) (purgeNoted_ends before (by rw [judged]; exact after))

theorem ventTurn_stale (missing : 0 < gasMissing s d c) (quiet : c.gasStale = false) :
    Told ⟨.sensorStale, s.now, .zone z, some 1, some (gasMissing s d c : Int)⟩ s t := by
  obtain ⟨count, _⟩ := ventTurn_reads (c := c) turn apart defined
  refine ventTurn_told turn runs gas ?_
  rw [← turn.reads.now, ← count]
  exact ventilate_stale (ventTurn_found turn found) (by rw [count]; exact missing) quiet

theorem ventTurn_origin {n : Notice} (member : n ∈ t.notices) (subject : n.subject = .zone z) :
    n ∈ s.notices ∨ GasNotice s d c n := by
  obtain ⟨count, judged⟩ := ventTurn_reads (c := c) turn apart defined
  have worked := (turn.after.origin member).resolve_right fun other => other subject
  rw [ventTurn_works turn runs gas] at worked
  rcases (ventilate_raises (ventTurn_found turn found)).origin worked with before | told
  · exact .inl ((turn.before.raises.origin before).resolve_right fun other => other subject)
  · unfold GasNotice at told ⊢
    rw [count, judged] at told
    exact .inr told

end

/-! ## The fans of a zone -/

theorem fanFraction (vent : EmergencyVent) {kind : LoadKind} (fan : isFan kind = true) :
    emergencyFraction vent kind = if kind = .exhaustFan ∧ vent = .extract then 1000 else 0 := by
  cases kind with
  | exhaustFan => simp [emergencyFraction]
  | supplyFan => simp [emergencyFraction]
  | light => cases fan
  | heater => cases fan
  | curtain => cases fan

theorem fanDemand_law (makeUp rate : Nat) {kind : LoadKind} :
    fanDemand makeUp rate kind = if kind = .exhaustFan then rate else rate * makeUp / 1000 := by
  cases kind <;> rfl

theorem exhaustRate_law (stage : Nat) (o : Occupancy) : exhaustRate stage (o == .occupied) = (match stage with
    | 0 => if o = .occupied then 150 else 100
    | 1 => 350
    | 2 => 600
    | 3 => 850
    | _ => 1000) := by
  unfold exhaustRate
  cases o <;> rfl

theorem ventTurn_fans {s u t : State} {z : Nat} {d : ZoneDef}
    (turn : ZoneTurn ventWorked isFan ventDriver z d s u t) {k : Nat} {l : LoadDef} {r : LoadRec}
    (known : slotGet s.config.loads k = some l) (inZone : l.zone = z) (fan : isFan l.kind = true)
    (found : slotGet s.loads k = some r) : ∃ r', slotGet t.loads k = some r'
      ∧ (s.mode = .hold → drivenTo l r r' l.hold)
      ∧ (s.mode = .emergency →
        r'.posted = (if l.kind = .exhaustFan ∧ s.config.climate.vent = .extract then 1000 else 0)
        ∧ r'.goal = r'.posted ∧ r'.applied = r'.posted)
      ∧ ∀ c zr, s.mode = .run ∨ s.mode = .standalone → slotGet t.climate z = some c → slotGet s.zones z = some zr →
        drivenTo l r r' (fanDemand s.config.climate.makeUp (exhaustRate c.stage (zr.state == .occupied)) l.kind) := by
  have works := ventWorked_work z d u
  by_cases hold : s.mode = .hold
  · obtain ⟨r', result, driven⟩ := ZoneTurn.hold turn works known inZone fan found hold
    exact ⟨r', result, fun _ => driven, fun h => by (rw [hold] at h; cases h),
      fun _ _ plan => absurd hold (plan_of_mode plan).1⟩
  by_cases emergency : s.mode = .emergency
  · obtain ⟨r', result, posted, goal, applied⟩ := ZoneTurn.emergency turn works known inZone fan found emergency
    exact ⟨r', result, fun h => absurd h hold,
      fun _ => ⟨posted.trans (fanFraction _ fan), goal.trans posted.symm, applied.trans posted.symm⟩,
      fun _ _ plan => absurd emergency (plan_of_mode plan).2⟩
  obtain ⟨v, drives, knownV, stands, made⟩ := ZoneTurn.plan turn known inZone fan found hold emergency
  have climate : v.climate = (ventWorked z d u).climate := drives.climate
  have zones : v.zones = s.zones := by rw [drives.frame, works.frame, turn.reads.frame]
  have config : v.config = s.config := by rw [drives.frame, works.frame, turn.reads.frame]
  have record : slotGet v.climate z = slotGet t.climate z := by rw [climate, turn.climate]
  by_cases whole : ∃ c zr, slotGet t.climate z = some c ∧ slotGet s.zones z = some zr
  · obtain ⟨c, zr, stage, zone⟩ := whole
    obtain ⟨r', result, driven⟩ := driveLoad_drivenTo knownV stands
      (fanDemand v.config.climate.makeUp (exhaustRate c.stage (zr.state == .occupied)) l.kind)
    refine ⟨r', ?_, fun h => absurd h hold, fun h => absurd h emergency, fun c' zr' _ stage' zone' => ?_⟩
    · rw [made]
      simp only [driveFan, knownV, record, stage, zones, zone]
      exact result
    · obtain rfl := Option.some.inj (stage.symm.trans stage')
      obtain rfl := Option.some.inj (zone.symm.trans zone')
      rw [config] at driven
      exact driven
  · refine ⟨r, ?_, fun h => absurd h hold, fun h => absurd h emergency,
      fun c zr _ stage zone => absurd ⟨c, zr, stage, zone⟩ whole⟩
    rw [made, ← stands]
    congr 2
    unfold driveFan
    split
    · rename_i stage zone
      rw [record] at stage
      rw [zones] at zone
      exact absurd ⟨_, _, stage, zone⟩ whole
    · rfl

end Sys2Proof.Claims

namespace Sys2Proof.Proofs

open Sys2Proof.Machine Sys2Proof.Claims

/-- Settles O60: each zone is worked once, in a state that reads as the start of the evaluation does. -/
theorem ventilationFollowsTheGas : Obligations.VentilationFollowsTheGas := by
  unfold Obligations.VentilationFollowsTheGas
  intro s on due ordered zones apart
  have turns {z : Nat} {d : ZoneDef} (defined : slotGet s.config.zones z = some d) :
      ∃ u, ZoneTurn ventWorked isFan ventDriver z d (ventSet s) u (vented s) :=
    zoneTurn venting_zoneWise (s := ventSet s) ordered zones (by exact apart) defined
  have same : EvalSide (ventSet s) (vented s) := zonesStepped_evaluates venting_zoneWise (by exact apart)
  have ventAt : (vented s).ventAt = (ventSet s).ventAt := by rw [same.frame]
  have now : (vented s).now = s.now := same.now
  refine ⟨grantLines (vented s), ?_, now, ventAt.trans ?_, fun z d c defined found => ?_,
    fun k l r known used fan found => ?_⟩
  · rw [← vented_eq]
    exact (powered_on on).trans (congrArg _ (whenDue_due due))
  · show s.now + 5000 = (vented s).now + 5000
    rw [now]
  · obtain ⟨u, turn⟩ := turns defined
    refine ⟨ventTurn_keeps turn found, fun runs gas => ⟨_, ventTurn_noGas turn found runs gas, rfl, rfl, rfl, rfl,
      rfl, rfl⟩, fun runs gas => ?_⟩
    intro fresh index told
    have freshIs : (workGas s d c).gasFresh = fresh := by rw [workGas, gasRatio_ratioAt]
    have indexIs : (workGas s d c).gasIndex = index := by rw [workGas, gasRatio_ratioAt]
    have most : fresh ≤ d.gas.length := List.length_filterMap_le ..
    have missingIs : gasMissing s d c = d.gas.length - fresh := by rw [gasMissing, freshIs]
    have law : stageLaw s.now (fresh < d.gas.length) index c (gasJudged s d c) := by
      rw [← indexIs]
      exact judgeStage_law (a := workGas s d c) (by rw [decide_eq_true_iff, missingIs]; omega)
    have missingIff : 0 < gasMissing s d c ↔ fresh < d.gas.length := by omega
    obtain ⟨c', result, count, gasIndex, flag, clear, same, floored⟩ :=
      ventTurn_record turn found runs gas (by exact apart) defined
    have begins := ventTurn_begins turn found runs gas (by exact apart) defined
    have ends := ventTurn_ends turn found runs gas (by exact apart) defined
    have stale := ventTurn_stale turn found runs gas (by exact apart) defined
    refine ⟨c', gasJudged s d c, result, law, count.trans freshIs, gasIndex.trans indexIs,
      flag.trans (decide_eq_decide.mpr missingIff), clear, fun high => same (high.imp_left fun whole => ?_),
      fun missing => floored (missingIff.mpr missing), fun missing => ?_, fun before after => ?_,
      fun before after => ?_, fun missing quiet => ?_, fun n member subject => ?_⟩
    · exact fun missing => absurd whole (Nat.ne_of_lt (missingIff.mp missing))
    · rcases Nat.lt_or_ge (gasJudged s d c).stage 2 with low | high
      · exact Nat.le_of_eq (floored (missingIff.mpr missing) low).1.symm
      · exact (same (.inr high)).1.symm ▸ high
    · rw [← indexIs]
      exact begins before after
    · rw [← indexIs]
      exact ends before after
    · rw [← missingIs]
      exact stale (missingIff.mpr missing) quiet
    · have origin := ventTurn_origin turn found runs gas (by exact apart) defined member subject
      unfold GasNotice at origin
      rw [← missingIff]
      exact origin
  · obtain ⟨d, defined⟩ := (slotUsed_iff _ _).mp used
    obtain ⟨u, turn⟩ := turns defined
    obtain ⟨r', result, hold, emergency, plan⟩ := ventTurn_fans turn known rfl fan found
    refine ⟨r', result, hold, emergency, fun c zr running stage zone => ?_⟩
    intro rate
    have driven := plan c zr running stage zone
    rw [fanDemand_law, exhaustRate_law] at driven
    exact driven

end Sys2Proof.Proofs


/-! SUPPORT. The tables of a start (R51, R83, R115): what a fold over a definition table leaves in the table that it
builds. -/

namespace Sys2Proof.Machine

open Sys2Proof.Claims

/-! ## A table built by a fold -/

/-- Every record of the table is `v`, under a number that satisfies `P`. -/
def Uniform {α : Type} (v : α) (P : Nat → Prop) (table : Table α) : Prop := ∀ x ∈ table, x.2 = v ∧ P x.1

theorem Uniform.mono {α : Type} {v : α} {P Q : Nat → Prop} {table : Table α} (h : Uniform v P table)
    (weaker : ∀ k, P k → Q k) : Uniform v Q table := fun x member => (h x member).imp_right (weaker x.1)

theorem Uniform.slotSet {α : Type} {v : α} {P : Nat → Prop} {table : Table α} (h : Uniform v P table) {k : Nat}
    (good : P k) : Uniform v P (slotSet table k v) := by
  induction table with
  | nil => simpa [Uniform, Machine.slotSet] using good
  | cons e rest ih =>
    obtain ⟨first, others⟩ := List.forall_mem_cons.mp h
    simp only [Machine.slotSet]
    split
    · exact List.forall_mem_cons.mpr ⟨⟨rfl, good⟩, h⟩
    · split
      · exact List.forall_mem_cons.mpr ⟨⟨rfl, good⟩, others⟩
      · exact List.forall_mem_cons.mpr ⟨first, ih others⟩

theorem foldl_uniform {α β : Type} {v : β} {P : Nat → Prop} {f : Table β → α → Table β} {items : List α}
    (step : ∀ e ∈ items, ∀ t, Uniform v P t → Uniform v P (f t e)) {table : Table β} (holds : Uniform v P table) :
    Uniform v P (items.foldl f table) := by
  induction items generalizing table with
  | nil => exact holds
  | cons e rest ih =>
    exact ih (fun x member => step x (List.mem_cons_of_mem e member)) (step e List.mem_cons_self table holds)

/-- A record that one item puts in place, and that every item leaves in place, stands at the end. -/
theorem foldl_stands {α β : Type} {f : Table β → α → Table β} {k : Nat} {v : β}
    (keeps : ∀ e t, slotGet t k = some v → slotGet (f t e) k = some v) {items : List α} {table : Table β}
    (brings : slotGet table k = some v ∨ ∃ e ∈ items, ∀ t, slotGet (f t e) k = some v) :
    slotGet (items.foldl f table) k = some v := by
  induction items generalizing table with
  | nil => exact brings.resolve_right (by simp)
  | cons e rest ih =>
    refine ih ?_
    rcases brings with there | ⟨x, member, puts⟩
    · exact .inl (keeps e table there)
    · rcases List.mem_cons.mp member with rfl | later
      · exact .inl (puts table)
      · exact .inr ⟨x, later, puts⟩

theorem slotSet_stands {α : Type} {table : Table α} {j k : Nat} {v : α} (there : slotGet table k = some v) :
    slotGet (slotSet table j v) k = some v := by
  rw [slotGet_slotSet]
  split
  · rfl
  · exact there

/-! ## The points (R83) -/

theorem createPoints_uniform {P : Nat → Prop} {bus : Bus} {addr count : Nat} {points : Table PointRec}
    (h : Uniform freshPoint P points) (good : ∀ i, i < count → P (pointKey ⟨bus, addr, i⟩)) :
    Uniform freshPoint P (createPoints bus addr count points) :=
  foldl_uniform (fun i member _ h => h.slotSet (good i (List.mem_range.mp member))) h

theorem createPoints_stands {bus : Bus} {addr count k : Nat} {points : Table PointRec}
    (there : slotGet points k = some freshPoint) :
    slotGet (createPoints bus addr count points) k = some freshPoint := by
  rw [createPoints_get]
  split
  · rfl
  · exact there

theorem createPoints_brings {bus : Bus} {addr count i : Nat} (small : i < count) (points : Table PointRec) :
    slotGet (createPoints bus addr count points) (pointKey ⟨bus, addr, i⟩) = some freshPoint := by
  rw [createPoints_get, if_pos ⟨i, small, rfl⟩]

section

variable {bus : Bus} {c : LineCfg} {points : Table PointRec}

theorem startLinePoints_stands {k : Nat} (there : slotGet points k = some freshPoint) :
    slotGet (startLinePoints bus c points) k = some freshPoint :=
  foldl_stands (fun _ _ there => createPoints_stands there) (.inl there)

theorem startLinePoints_brings {n : Nat × NodeDef} {i : Nat} (member : n ∈ c.nodes) (small : i < n.2.count) :
    slotGet (startLinePoints bus c points) (pointKey ⟨bus, n.1, i⟩) = some freshPoint :=
  foldl_stands (fun _ _ there => createPoints_stands there)
    (.inr ⟨n, member, fun t => createPoints_brings small t⟩)

theorem startLinePoints_uniform {P : Nat → Prop} (h : Uniform freshPoint P points)
    (good : ∀ n ∈ c.nodes, ∀ i, i < n.2.count → P (pointKey ⟨bus, n.1, i⟩)) :
    Uniform freshPoint P (startLinePoints bus c points) :=
  foldl_uniform (fun n member _ h => createPoints_uniform h (good n member)) h

end

end Sys2Proof.Machine

namespace Sys2Proof.Claims

open Sys2Proof.Machine

/-- R83: the point table of a start. -/
theorem startPoints_law (c : RunningConfig) : startedPoints c (startPoints c) := by
  unfold startedPoints
  intro new ofLine stands
  have none_ : Uniform freshPoint (fun k => ∃ p, stands p ∧ k = pointKey p) [] := fun x member => by cases member
  refine ⟨fun p here => ?_, ?_⟩
  · obtain ⟨bus, addr, point⟩ := p
    cases bus with
    | a =>
      obtain ⟨n, member, rfl, small⟩ := here
      exact createPoints_stands (startLinePoints_stands (startLinePoints_brings member small))
    | b =>
      obtain ⟨n, member, rfl, small⟩ := here
      exact createPoints_stands (startLinePoints_brings member small)
    | t =>
      obtain ⟨rfl, small⟩ := here
      exact createPoints_brings small _
  · refine createPoints_uniform (startLinePoints_uniform (startLinePoints_uniform none_ ?_) ?_) ?_
    · exact fun n member i small => ⟨⟨.a, n.1, i⟩, ⟨n, member, rfl, small⟩, rfl⟩
    · exact fun n member i small => ⟨⟨.b, n.1, i⟩, ⟨n, member, rfl, small⟩, rfl⟩
    · exact fun i small => ⟨⟨.t, 0, i⟩, ⟨rfl, small⟩, rfl⟩

/-- R51: a line at a start. -/
theorem startLine_law (c : LineCfg) : startedLine c (startLine c) := by
  refine ⟨rfl, fun e member => ?_, ?_⟩
  · exact foldl_stands (fun _ _ there => slotSet_stands there)
      (.inr ⟨e, member, fun t => slotGet_slotSet_same t _ _⟩)
  · have none_ : Uniform (⟨none, 0⟩ : ScanTime) (fun k => ∃ e ∈ c.scan, k = scanKey e.node e.first) [] :=
      fun x member => by cases member
    exact foldl_uniform (fun e member _ h => h.slotSet ⟨e, member, rfl⟩) none_

/-! ## The zones and their pins (R115) -/

theorem startPins_eq (c : RunningConfig) : startPins c
    = (((slotNumbers c.zones).filter c.pins.contains).zipIdx 1).map fun e => (e.2, ⟨e.1, .host, .pinned⟩) := by
  rw [startPins, List.zipIdx_succ, List.map_map]
  rfl

theorem startPins_zone {c : RunningConfig} {z : Nat} (zone : z ∈ slotNumbers c.zones) :
    (∃ e ∈ startPins c, e.2.zone = z) ↔ z ∈ c.pins := by
  have zones : (startPins c).map (fun e => e.2.zone) = (slotNumbers c.zones).filter c.pins.contains := by
    rw [startPins, List.map_map]
    exact List.zipIdx_map_fst ..
  have member : (∃ e ∈ startPins c, e.2.zone = z) ↔ z ∈ (startPins c).map fun e => e.2.zone := by
    simp [List.mem_map]
  rw [member, zones, List.mem_filter]
  simp [zone]

end Sys2Proof.Claims

namespace Sys2Proof.Machine

open Sys2Proof.Claims

/-- A judgement of what it left changes nothing. -/
theorem judgedZone_again (isOpen occupied : Bool) (now dormancy : Nat) (r : ZoneRec) (dynamic : Bool) :
    let after := judgedFlag dynamic r (judgedZone isOpen occupied now dormancy r)
    judgedZone isOpen occupied now dormancy after = after := by
  cases isOpen with
  | false => rfl
  | true =>
    cases occupied with
    | true => rfl
    | false =>
      obtain ⟨state, intruded, since, expiry⟩ := r
      cases state <;> rfl

theorem judgedFlag_again {dynamic : Bool} {r : ZoneRec} (flag : r.intruded = true → dynamic = true) :
    judgedFlag dynamic r r = r := by
  obtain ⟨state, intruded, since, expiry⟩ := r
  have same : (!(state == Occupancy.closed && state != Occupancy.closed)) = true := by cases state <;> rfl
  cases intruded with
  | false => rfl
  | true => simp only [judgedFlag, flag rfl, same, Bool.and_self]

theorem judged_judged (s : State) (z : Nat) (r : ZoneRec) : judged s z (judged s z r) = judged s z r := by
  have flag : (judged s z r).intruded = true → hasDynamic s z = true := fun h => by
    simp only [judged, judgedFlag, Bool.and_eq_true] at h
    exact h.1.2
  have again : judgedZone (inZones s.plan.openZones z) (hasEntry s z) s.now (dormancyMs s z) (judged s z r)
      = judged s z r := judgedZone_again ..
  rw [judged, again]
  exact judgedFlag_again flag

theorem judgeAllZones_numbers (s : State) : slotNumbers (judgeAllZones s).zones = slotNumbers s.zones :=
  forEach_related (R := fun s t => slotNumbers t.zones = slotNumbers s.zones) (fun _ => rfl) (fun h k => k.trans h)
    judgeZone (fun _ _ => slotNumbers_slotChange _ _ _) _ s

/-- R109: an evaluation judges each zone once for all. -/
theorem judgeAllZones_found {s : State} {z : Nat} {r : ZoneRec} (found : slotGet s.zones z = some r) :
    slotGet (judgeAllZones s).zones z = some (judged s z r) := by
  have once := forEach_table (table := State.zones) (f := judgeZone) (g := judged s)
    (I := fun u => u = { s with zones := u.zones }) (fun k u frame => by rw [judgeZone_frame, frame])
    (fun k u x frame there => by
      rw [slotGet_judgeZone there, frame]
      rfl)
    (fun k j u _ apart => slotGet_judgeZone_ne apart) (judged_judged s) (slotNumbers s.zones) rfl found
  rw [judgeAllZones, once, if_pos (mem_slotNumbers_of_found found)]

end Sys2Proof.Machine


/-! SUPPORT. The terminals of a start (R59, R66, R97): each function starts, and a meter delivers its 0 to doors that
are UNKNOWN, or CLOSED by an earlier delivery, which is why the deliveries may all follow the starts. -/

namespace Sys2Proof.Machine

open Sys2Proof.Claims

/-! ## Doors at a start -/

/-- No door has left UNKNOWN but to CLOSED. -/
def DoorsQuiet (doors : Table DoorRec) : Prop :=
  ∀ d r, slotGet doors d = some r → r.state = .unknown ∨ r.state = .closed

theorem DoorsQuiet.change {doors : Table DoorRec} (h : DoorsQuiet doors) (d : Nat) {r : DoorRec}
    (closed : r.state = .closed) : DoorsQuiet (slotChange (fun _ => r) doors d) := by
  intro k x found
  rw [slotGet_slotChange] at found
  split at found
  · obtain ⟨_, _, rfl⟩ := Option.map_eq_some_iff.mp found
    exact .inr closed
  · exact h k x found

/-- The state with these terminals, points and doors. -/
def withDoors (s : State) (terminals : Table TermRec) (points : Table PointRec) (doors : Table DoorRec) : State :=
  { s with terminals := terminals, points := points, doors := doors }

/-- R89, R97: a value of 0 closes a door that is UNKNOWN, whatever the terminals hold, and changes nothing else. -/
theorem doorValue_quiet (d : Nat) {s : State} {points : Table PointRec} {doors : Table DoorRec}
    (quiet : DoorsQuiet doors) : ∃ after, DoorsQuiet after ∧ ∀ terminals,
      doorValue d false (withDoors s terminals points doors) = withDoors s terminals points after := by
  cases found : slotGet doors d with
  | none =>
    refine ⟨doors, quiet, fun terminals => ?_⟩
    simp [doorValue, withDoors, found]
  | some r =>
    rcases quiet d r found with unknown | closed
    · cases defined : slotGet s.config.doors d with
      | none =>
        refine ⟨doors, quiet, fun terminals => ?_⟩
        simp [doorValue, withDoors, found, unknown, enterDoorState, defined]
      | some cfg =>
        let x : DoorRec := { r with level := some false, state := .closed, entered := s.now }
        refine ⟨slotChange (fun _ => x) doors d, quiet.change d rfl, fun terminals => ?_⟩
        simp [doorValue, withDoors, found, unknown, enterDoorState, defined, handPresence, holdsEntry, curtainAfter,
          isOpenState, x]
    · refine ⟨doors, quiet, fun terminals => ?_⟩
      simp [doorValue, withDoors, found, closed]

theorem doorValues_quiet (ds : List Nat) {s : State} {points : Table PointRec} {doors : Table DoorRec}
    (quiet : DoorsQuiet doors) : ∃ after, DoorsQuiet after ∧ ∀ terminals,
      forEach ds (fun d => doorValue d false) (withDoors s terminals points doors)
        = withDoors s terminals points after := by
  induction ds generalizing doors with
  | nil => exact ⟨doors, quiet, fun _ => rfl⟩
  | cons d rest ih =>
    obtain ⟨first, quiet, step⟩ := doorValue_quiet d (s := s) (points := points) quiet
    obtain ⟨after, quiet, steps⟩ := ih quiet
    exact ⟨after, quiet, fun terminals => by rw [forEach_cons, step, steps]⟩

/-- R59: a meter's 0, whatever the terminals hold. -/
theorem deliverZero_quiet (n : Nat) {s : State} {points : Table PointRec} {doors : Table DoorRec}
    (quiet : DoorsQuiet doors) : ∃ later after, DoorsQuiet after ∧ ∀ terminals,
      deliverTerminal n 0 (withDoors s terminals points doors) = withDoors s terminals later after := by
  let later := slotChange (freshAt s.now 0) points (pointKey (terminalPoint n))
  obtain ⟨after, quietAfter, steps⟩ := doorValues_quiet (doorsAt s.config (terminalPoint n)) (s := s)
    (points := later) quiet
  by_cases fresh : ((slotGet later (pointKey (terminalPoint n))).any fun r => r.status == .fresh) = true
  · exact ⟨later, after, quietAfter, fun terminals => (if_pos fresh).trans (steps terminals)⟩
  · exact ⟨later, doors, quiet, fun terminals => if_neg fresh⟩

/-! ## The functions of the terminals -/

/-- The function counts pulses. -/
def isMeterPulse (f : TermFunction) : Bool :=
  match f with
  | .meterPulse _ => true
  | _ => false

theorem functionStart_started (f : TermFunction) : functionStart 0 f = startedTerminal f := by
  cases f <;> rfl

/-- R66: a terminal with the state in which its function starts. -/
def startTerminal (c : RunningConfig) (terminals : Table TermRec) (n : Nat) : Table TermRec :=
  slotSet terminals n (startedTerminal (functionOf c n))

theorem startFunction_quiet {n : Nat} {s : State} (now : s.now = 0) (strain : s.strain = false) :
    startFunction n s = (if isMeterPulse (functionOf s.config n) = true then deliverTerminal n 0 else id)
      { s with terminals := startTerminal s.config s.terminals n } := by
  rw [startFunction, now, functionStart_started]
  cases is : functionOf s.config n with
  | strainOut => simp [firstDelivery, strain, isMeterPulse, startTerminal, is]
  | _ => simp [firstDelivery, isMeterPulse, startTerminal, is]

/-- R66, R59: the functions start one after another; the deliveries of the meters may all follow. -/
theorem startFunctions_quiet {s : State} (now : s.now = 0) (strain : s.strain = false) (ns : List Nat)
    {terminals : Table TermRec} {points : Table PointRec} {doors : Table DoorRec} (quiet : DoorsQuiet doors) :
    forEach ns startFunction (withDoors s terminals points doors)
      = forEach (ns.filter fun n => isMeterPulse (functionOf s.config n)) (fun n => deliverTerminal n 0)
        (withDoors s (ns.foldl (startTerminal s.config) terminals) points doors) := by
  induction ns generalizing terminals points doors with
  | nil => rfl
  | cons n rest ih =>
    have step : startFunction n (withDoors s terminals points doors)
        = (if isMeterPulse (functionOf s.config n) = true then deliverTerminal n 0 else id)
          (withDoors s (startTerminal s.config terminals n) points doors) :=
      startFunction_quiet (s := withDoors s terminals points doors) now strain
    rw [forEach_cons, step, List.foldl_cons]
    cases meter : isMeterPulse (functionOf s.config n) with
    | false =>
      rw [List.filter_cons_of_neg (p := fun n => isMeterPulse (functionOf s.config n)) (by simp [meter]),
        if_neg (by decide)]
      exact ih quiet
    | true =>
      obtain ⟨later, after, quietAfter, delivers⟩ := deliverZero_quiet n (s := s) (points := points) quiet
      rw [List.filter_cons_of_pos (p := fun n => isMeterPulse (functionOf s.config n)) meter, if_pos rfl,
        forEach_cons, delivers, delivers]
      exact ih quietAfter

theorem startTerminals_all (c : RunningConfig) :
    terminalNumbers.foldl (startTerminal c) (terminalNumbers.map fun n => (n, idleTerminal))
      = terminalNumbers.map fun n => (n, startedTerminal (functionOf c n)) := by
  simp [terminalNumbers, startTerminal, slotSet]

theorem slotMap_quiet {α : Type} (table : Table α) : DoorsQuiet (slotMap (fun _ _ => freshDoor 0) table) := by
  intro d r found
  rw [slotGet_slotMap] at found
  obtain ⟨_, _, rfl⟩ := Option.map_eq_some_iff.mp found
  exact .inl rfl

end Sys2Proof.Machine


/-! SUPPORT and PROOFS. Starts (R2, R184, R185). -/

namespace Sys2Proof.Machine

open Sys2Proof.Claims

theorem isMeterPulse_eq (f : TermFunction) : isMeterPulse f = (match f with
    | .meterPulse _ => true
    | _ => false) := by
  cases f <;> rfl

/-! ## The end of START, step by step -/

/-- The blocks in their start state, with the clock, the store and the last start of this start. -/
def blocksOf (c : RunningConfig) (clock : Clock) (store : Store) (last : LastStart) (s : State) : State :=
  { startBlocks c s with clock := clock, store := store, lastStart := last }

/-- The plan of a start. -/
def startPlan (c : RunningConfig) (clock : Clock) (s : State) : PlanState :=
  planAfter .start { s with config := c, clock := clock }

/-- The state that the start evaluation finds. -/
def modeTaken (mode : Mode) (cause : ModeCause) (report : Bool) (b : State) : State :=
  noteClock report (changeMode mode cause b)

/-- R2, R184, R185: the notices before the evaluation. -/
def modeNotices (mode : Mode) (cause : ModeCause) (report : Bool) : List Notice :=
  ⟨.modeChanged, 0, .mode mode, some 0, some cause.ctorIdx⟩
    :: if report = true then [⟨.clockUnset, 0, .none, none, none⟩] else []

theorem preconditionFlag_next {cause : EvaluationCause} {s : State} (flag : (planAfter cause s).precondition = true) :
    ∃ n, (planAfter cause s).next = some n := by
  cases next : nextCandidate s.config s.clock with
  | none =>
    simp only [planAfter, next] at flag
    cases flag
  | some x => exact ⟨nextOf s.clock x, by simp only [planAfter, next, Option.map_some]⟩

section

variable {mode : Mode} {cause : ModeCause} {report : Bool} {c : RunningConfig} {clock : Clock} {store : Store}
  {last : LastStart} {s : State}

omit mode cause report c clock store last in
theorem lost_zero (none_ : s.lost = 0) : s = { s with lost := 0 } :=
  congrArg (fun n => { s with lost := n }) none_

theorem modeTaken_eq : modeTaken mode cause report (blocksOf c clock store last s)
    = { blocksOf c clock store last s with
      mode := mode, notices := modeNotices mode cause report, lost := 0 } := by
  obtain ⟨b, is⟩ : ∃ b, blocksOf c clock store last s = b := ⟨_, rfl⟩
  have start : b.mode = .start := by rw [← is]; rfl
  have now : b.now = 0 := by rw [← is]; rfl
  have notices : b.notices = [] := by rw [← is]; rfl
  have lost : b.lost = 0 := by rw [← is]; rfl
  have queue : b.notices ++ [⟨.modeChanged, b.now, .mode mode, some b.mode.ctorIdx, some cause.ctorIdx⟩]
      = modeNotices mode cause false := by
    rw [start, now, notices]
    rfl
  have begun : changeMode mode cause b = { b with mode := mode, notices := modeNotices mode cause false } := by
    rw [changeMode, raise_of_room (by simp [notices])]
    exact congrArg (fun q => { b with mode := mode, notices := q }) queue
  have silent : modeTaken mode cause report b
      = { b with mode := mode, notices := modeNotices mode cause report } := by
    rw [modeTaken, begun]
    cases report with
    | false => rfl
    | true =>
      rw [noteClock, if_pos rfl, raise_of_room (by simp [modeNotices])]
      have told : modeNotices mode cause false ++ [⟨.clockUnset, b.now, .none, none, none⟩]
          = modeNotices mode cause true := by rw [now]; rfl
      exact congrArg (fun q => { b with mode := mode, notices := q }) told
  rw [is, silent]
  exact lost_zero (s := { b with mode := mode, notices := modeNotices mode cause report }) lost

/-- R14: the notices once the precondition flag has been told of. -/
theorem startNotices_eq {e : State} (now : e.now = 0) (notices : e.notices = modeNotices mode cause report)
    (lost : e.lost = 0) (p : PlanState) (next : p.precondition = true → ∃ n, p.next = some n) :
    (notePrecondition .start e.plan p e).notices = startNotices mode cause report p
      ∧ (notePrecondition .start e.plan p e).lost = 0 := by
  rw [notePrecondition_eq]
  cases flag : p.precondition with
  | false =>
    rw [if_neg (by simp), notices, lost]
    simp [startNotices, modeNotices, flag]
  | true =>
    obtain ⟨n, known⟩ := next flag
    rw [if_pos ⟨rfl, .inl rfl⟩]
    simp only [raise, notices, lost, now, startNotices, flag, known]
    cases report <;> exact ⟨rfl, rfl⟩

/-- The state in which the start evaluation judges the zones. -/
theorem published_start : published .start (modeTaken mode cause report (blocksOf c clock store last s))
    = { blocksOf c clock store last s with
      mode := mode, notices := startNotices mode cause report (startPlan c clock s), lost := 0
      plan := startPlan c clock s } := by
  rw [modeTaken_eq]
  obtain ⟨e, is⟩ : ∃ e, { blocksOf c clock store last s with
    mode := mode, notices := modeNotices mode cause report, lost := 0 } = e := ⟨_, rfl⟩
  have plan : planAfter .start e = startPlan c clock s := by rw [← is]; rfl
  have notices := startNotices_eq (e := e) (by rw [← is]; rfl) (by rw [← is]) (by rw [← is]) (planAfter .start e)
    preconditionFlag_next
  rw [is, published, noteShiftChange, if_neg (by simp), notePrecondition_frame, notices.1, notices.2, plan, ← is]

theorem endStart_eq {b : State} : endStart mode cause report b
    = grantLines (startFunctions (startWindow (evaluate .start (modeTaken mode cause report b)))) := rfl

end

end Sys2Proof.Machine

namespace Sys2Proof.Claims

open Sys2Proof.Machine

/-- R119, R143: the loads of a start. -/
theorem startLoads_eq (c : RunningConfig) :
    slotMap (fun _ d => freshLoad 0 (startContact c d.binding) c.budget.nodeHold d) c.loads
      = slotMap (fun _ d => newLoad 0 c.budget.nodeHold
        (decide (d.binding.bus = .t) || (nodeDef c d.binding.bus d.binding.addr).isSome) d) c.loads := by
  refine congrArg (slotMap · c.loads) (funext fun _ => funext fun d => ?_)
  rw [Proofs.freshLoad_new]
  congr 1
  unfold startContact
  cases bus : d.binding.bus with
  | t => rfl
  | a => cases nodeDef c .a d.binding.addr <;> rfl
  | b => cases nodeDef c .b d.binding.addr <;> rfl

section

variable {mode : Mode} {cause : ModeCause} {report : Bool} {c : RunningConfig} {clock : Clock} {store : Store}
  {last : LastStart} {s : State}

/-- R115: the zones that the start evaluation leaves. -/
theorem startZones_law : startedZones c (startPlan c clock s).openZones
    (evaluate .start (modeTaken mode cause report (blocksOf c clock store last s))).zones := by
  have judges : evaluate .start (modeTaken mode cause report (blocksOf c clock store last s))
      = judgeAllZones (published .start (modeTaken mode cause report (blocksOf c clock store last s))) := rfl
  rw [judges, published_start]
  refine ⟨(judgeAllZones_numbers _).trans (by exact slotNumbers_slotMap (fun _ _ => startZone) c.zones),
    fun z d defined => ?_⟩
  have begins : slotGet (slotMap (fun _ _ => startZone) c.zones) z = some startZone := by
    rw [slotGet_slotMap, defined]
    rfl
  refine (judgeAllZones_found (by exact begins)).trans (congrArg some ((judged_new (by exact defined)).trans ?_))
  refine if_congr Iff.rfl rfl (if_congr (startPins_zone (mem_slotNumbers_of_found defined)) rfl ?_)
  exact congrArg (fun n => (⟨.vacant, false, some 0, some n⟩ : ZoneRec)) (Nat.zero_add _)

/-- R130: the demand window of a start. -/
def startedWindow (c : RunningConfig) (clock : Clock) : Option DemandWindow :=
  let now := secondNumber clock.reading
  if clock.isSet = true then some ⟨now, nextBoundary c.budget.windowLength now, 0, true, false⟩ else none

omit mode cause report c clock store last in
theorem startWindow_eq (none_ : s.window = none) :
    startWindow s = { s with window := startedWindow s.config s.clock } := by
  unfold startWindow startedWindow
  cases s.clock.isSet with
  | false => exact congrArg (fun w => { s with window := w }) none_
  | true => rfl

/-- The state in which the functions of the terminals start. -/
def functionsBegin (mode : Mode) (cause : ModeCause) (report : Bool) (c : RunningConfig) (clock : Clock) (store : Store)
    (last : LastStart) (s : State) (zones : Table ZoneRec) : State :=
  { blocksOf c clock store last s with
    mode := mode, notices := startNotices mode cause report (startPlan c clock s), lost := 0
    plan := startPlan c clock s, zones := zones, window := startedWindow c clock }

theorem functionsBegin_eq {judged : Table ZoneRec}
    (are : (evaluate .start (modeTaken mode cause report (blocksOf c clock store last s))).zones = judged) :
    startWindow (evaluate .start (modeTaken mode cause report (blocksOf c clock store last s)))
      = functionsBegin mode cause report c clock store last s judged := by
  have judges := evaluate_eq .start (modeTaken mode cause report (blocksOf c clock store last s))
  rw [published_start, are] at judges
  obtain ⟨e, is⟩ : ∃ e, evaluate .start (modeTaken mode cause report (blocksOf c clock store last s)) = e := ⟨_, rfl⟩
  rw [is] at judges ⊢
  have none_ : e.window = none := by rw [judges]; rfl
  have opens : startedWindow e.config e.clock = startedWindow c clock := by rw [judges]; rfl
  rw [startWindow_eq none_, opens, judges, functionsBegin]

theorem functionsBegin_starts (judged : Table ZoneRec) :
    startFunctions (functionsBegin mode cause report c clock store last s judged)
      = forEach (terminalNumbers.filter fun n => isMeterPulse (functionOf c n)) (fun n => deliverTerminal n 0)
        { functionsBegin mode cause report c clock store last s judged with
          terminals := terminalNumbers.map fun n => (n, startedTerminal (functionOf c n)) } := by
  obtain ⟨x, is⟩ : ∃ x, functionsBegin mode cause report c clock store last s judged = x := ⟨_, rfl⟩
  have now : x.now = 0 := by rw [← is]; rfl
  have strain : x.strain = false := by rw [← is]; rfl
  have config : x.config = c := by rw [← is]; rfl
  have doors : DoorsQuiet x.doors := by rw [← is]; exact slotMap_quiet c.doors
  have terminals : x.terminals = terminalNumbers.map fun n => (n, idleTerminal) := by rw [← is]; rfl
  have starts := startFunctions_quiet now strain terminalNumbers (terminals := x.terminals) (points := x.points) doors
  rw [terminals, config, startTerminals_all, ← terminals] at starts
  rw [is]
  exact starts

theorem functionsBegin_tables (judged : Table ZoneRec) :
    (functionsBegin mode cause report c clock store last s judged).lineA = startLine c.lineA
    ∧ (functionsBegin mode cause report c clock store last s judged).lineB = startLine c.lineB
    ∧ (functionsBegin mode cause report c clock store last s judged).points = startPoints c
    ∧ (functionsBegin mode cause report c clock store last s judged).zones = judged := by
  simp only [functionsBegin, blocksOf, startBlocks, and_self]

/-- What a start leaves, whatever brought it about. -/
theorem endStart_started : startedAs mode cause report c clock store last s
    (endStart mode cause report (blocksOf c clock store last s)) := by
  have zones := startZones_law (mode := mode) (cause := cause) (report := report) (c := c) (clock := clock)
    (store := store) (last := last) (s := s)
  obtain ⟨judged, are⟩ : ∃ z,
      (evaluate .start (modeTaken mode cause report (blocksOf c clock store last s))).zones = z := ⟨_, rfl⟩
  rw [are] at zones
  rw [endStart_eq, functionsBegin_eq are, functionsBegin_starts]
  unfold startedAs
  intro p isMeter now
  have meters : (fun n => isMeterPulse (functionOf c n)) = isMeter := funext fun n => isMeterPulse_eq (functionOf c n)
  obtain ⟨lineA, lineB, points, judges⟩ := functionsBegin_tables (mode := mode) (cause := cause) (report := report)
    (c := c) (clock := clock) (store := store) (last := last) (s := s) judged
  obtain ⟨x, is⟩ : ∃ x, functionsBegin mode cause report c clock store last s judged = x := ⟨_, rfl⟩
  rw [is] at lineA lineB points judges ⊢
  rw [meters]
  refine ⟨{ x with terminals := terminalNumbers.map fun n => (n, startedTerminal (functionOf c n)) }, rfl, ?_,
    by rw [lineA]; exact startLine_law c.lineA, by rw [lineB]; exact startLine_law c.lineB,
    by rw [points]; exact startPoints_law c, by rw [judges]; exact zones⟩
  rw [← is]
  simp only [functionsBegin, blocksOf, startBlocks, startLoads_eq, startPins_eq, startedWindow, freshClimate_new]
  rfl

end

end Sys2Proof.Claims

namespace Sys2Proof.Proofs

open Sys2Proof.Machine Sys2Proof.Claims

/-! ## The commands -/

section

variable {cause : StartCause} {s : State}

/-- R184: a cold start, by whether the store has been judged VALID. -/
theorem coldStart_of {stored : Bool} (is : decide (judgedStore s.store.state = .valid) = stored) : coldStart cause s
    = endStart (if stored then .standalone else .hold) (if stored then .coldStored else .coldDefaults)
      (reportsClock cause s.clock) (blocksOf (if stored then s.store.copy else factoryConfig)
        (startClock cause s.clock)
        { s.store with state := judgedStore s.store.state, writingSince := none, changed := !stored }
        (coldLastStart cause stored) s) := by
  subst is
  rfl

theorem coldStart_stored (valid : s.store.state = .valid) : coldStart cause s
    = endStart .standalone .coldStored (reportsClock cause s.clock) (blocksOf s.store.copy (startClock cause s.clock)
      { s.store with writingSince := none, changed := false } (coldLastStart cause true) s) := by
  have judged : judgedStore s.store.state = s.store.state := by rw [valid]; rfl
  rw [coldStart_of (stored := true) (by rw [judged, valid]; rfl), if_pos rfl, if_pos rfl, if_pos rfl, judged,
    Bool.not_true]

theorem coldStart_defaults (invalid : s.store.state ≠ .valid) : coldStart cause s
    = endStart .hold .coldDefaults (reportsClock cause s.clock) (blocksOf factoryConfig (startClock cause s.clock)
      { s.store with
        state := if s.store.state = .writing then .invalid else s.store.state
        writingSince := none
        changed := true } (coldLastStart cause false) s) := by
  have judged : judgedStore s.store.state = if s.store.state = .writing then .invalid else s.store.state := by
    cases s.store.state <;> rfl
  have still : judgedStore s.store.state ≠ .valid := by
    rw [judged]
    split
    · decide
    · exact invalid
  rw [coldStart_of (stored := false) (decide_eq_false still), if_neg Bool.false_ne_true, if_neg Bool.false_ne_true,
    if_neg Bool.false_ne_true, judged, Bool.not_false]

theorem restartInputReady_iff : restartInputReady s = true ↔ s.powered = true ∧ s.restartRequested = true
    ∧ s.store.state ≠ .writing ∧ s.storePending = false := by
  simp [restartInputReady, isStoring, and_assoc]

theorem warmRestartReady_iff : warmRestartReady s = true ↔ s.restartPending = true ∧ s.answering = false
    ∧ s.store.state ≠ .writing ∧ s.storePending = false := by
  simp [warmRestartReady, isStoring, and_assoc]

end

/-- Settles O20: every start ends by `endStart`, and what that leaves is said once by `endStart_started`. -/
theorem startsLoadTheirConfiguration : Obligations.StartsLoadTheirConfiguration := by
  refine ⟨fun cause s ready => ?_, fun s => ⟨fun stands => ?_, fun ready => serve_waiting ready (Nat.zero_le _),
    fun on => ⟨fun stands => ?_, fun pending quiet store unset => ?_⟩⟩⟩
  · intro clock unset last
    have begins : exec (.coldStart cause) s = .next (coldStart cause s) := by
      cases cause with
      | powerOn held => rfl
      | restartInput =>
        exact congrArg Host.Outcome.next (if_pos (restartInputReady_iff.mpr (ready rfl)))
    have clockIs : startClock cause s.clock = clock := by
      cases cause with
      | restartInput => rfl
      | powerOn held => simp [startClock, clock, unsetReading]
    have unsetIs : reportsClock cause s.clock = unset := by
      cases cause with
      | restartInput => rfl
      | powerOn held =>
        simp only [unset, ← clockIs, reportsClock]
        cases (startClock (.powerOn held) s.clock).isSet <;> rfl
    have lastIs (stored : Bool) : coldLastStart cause stored = last stored := by cases cause <;> rfl
    refine ⟨_, begins, fun valid => ?_, fun invalid => ?_⟩
    · rw [coldStart_stored valid, unsetIs, clockIs, lastIs]
      exact endStart_started
    · rw [coldStart_defaults invalid, unsetIs, clockIs, lastIs]
      exact endStart_started
  · refine congrArg Host.Outcome.next (if_neg fun readied => ?_)
    obtain ⟨on, asked, writing, pending⟩ := restartInputReady_iff.mp readied
    rcases stands with off | off | off | off <;> simp_all
  · refine (powered_on on).trans (congrArg Host.Outcome.next (if_neg fun readied => ?_))
    obtain ⟨asked, quiet, writing, pending⟩ := warmRestartReady_iff.mp readied
    rcases stands with off | off | off | off <;> simp_all
  · refine ⟨warmRestart s, (powered_on on).trans (congrArg Host.Outcome.next
      (if_pos (warmRestartReady_iff.mpr ⟨pending, quiet, store, unset⟩))), ?_⟩
    exact endStart_started (clock := s.clock) (store := s.store)

end Sys2Proof.Proofs


/-! SUPPORT. The arithmetic of a settlement (R135, R136): the shares of the classes and the restoration, as lists. -/

namespace Sys2Proof.Machine

/-! ## Sums by class -/

/-- A sum over the loads in the apportionment is the sum over the four classes, where a load beyond them counts 0. -/
theorem sum_byClass {f : LoadWork → Nat} {ws : List LoadWork} (beyond : ∀ w ∈ ws, inClasses w = true → 3 < w.cls →
    f w = 0) : (ws.map fun w => if inClasses w then f w else 0).sum
      = ((ws.filter (inClass 0)).map f).sum + ((ws.filter (inClass 1)).map f).sum
        + ((ws.filter (inClass 2)).map f).sum + ((ws.filter (inClass 3)).map f).sum := by
  induction ws with
  | nil => rfl
  | cons w rest ih =>
    obtain ⟨first, others⟩ := List.forall_mem_cons.mp beyond
    rw [List.map_cons, List.sum_cons, ih others]
    simp only [List.filter_cons]
    cases takes : inClasses w with
    | false => simp [inClass, takes]
    | true =>
      have classes : w.cls = 0 ∨ w.cls = 1 ∨ w.cls = 2 ∨ w.cls = 3 ∨ 3 < w.cls := by omega
      rcases classes with is | is | is | is | over_
      · simp [inClass, takes, is]
        omega
      · simp [inClass, takes, is]
        omega
      · simp [inClass, takes, is]
        omega
      · simp [inClass, takes, is]
        omega
      · have out (k : Nat) (small : k ≤ 3) : inClass k w = false := by
          simp only [inClass, takes, Bool.true_and, beq_eq_false_iff_ne]
          omega
        simp [out, first takes over_]

/-! ## Shares (R135) -/

/-- `f` gives loads their share, and changes nothing else of them. -/
def SharesOnly (f : LoadWork → LoadWork) : Prop := ∀ w, f w = { w with share := (f w).share }

theorem SharesOnly.inClass {f : LoadWork → LoadWork} (h : SharesOnly f) (k : Nat) (w : LoadWork) :
    inClass k (f w) = inClass k w := by
  rw [h w]
  rfl

theorem SharesOnly.filter {f : LoadWork → LoadWork} (h : SharesOnly f) (k : Nat) (ws : List LoadWork) :
    (ws.map f).filter (Machine.inClass k) = (ws.filter (Machine.inClass k)).map f := by
  rw [List.filter_map]
  congr 2
  funext w
  exact h.inClass k w

theorem SharesOnly.classDemand {f : LoadWork → LoadWork} (h : SharesOnly f) (k : Nat) (ws : List LoadWork) :
    classDemand (ws.map f) k = classDemand ws k := by
  rw [Machine.classDemand, h.filter, List.map_map, Machine.classDemand]
  congr 2
  funext w
  show (f w).demand = w.demand
  rw [h w]

/-- A load of class `k` once the class has its shares. -/
def withShare (a : Apportion) (k demand : Nat) (w : LoadWork) : LoadWork :=
  if inClass k w then { w with share := shareOf a demand w } else w

theorem withShare_only (a : Apportion) (k demand : Nat) : SharesOnly (withShare a k demand) := by
  intro w
  unfold withShare
  split <;> rfl

theorem shareClass_eq (a : Apportion) (k : Nat) (ws : List LoadWork) :
    shareClass a k ws = ws.map (withShare a k (classDemand ws k)) := rfl

theorem SharesOnly.comp {f g : LoadWork → LoadWork} (h : SharesOnly f) (k : SharesOnly g) : SharesOnly (g ∘ f) := by
  intro w
  obtain ⟨n, is⟩ : ∃ n, f w = { w with share := n } := ⟨_, h w⟩
  show g (f w) = { w with share := (g (f w)).share }
  rw [is]
  exact k _

/-- R135: what the apportionment makes of a load. -/
def shareWork (remaining : Nat) (ws : List LoadWork) (w : LoadWork) : LoadWork :=
  if inClasses w && decide (w.cls ≤ 3) then
    { w with share := shareOf (classStart remaining ws w.cls) (classDemand ws w.cls) w }
  else w

theorem shareWork_only (remaining : Nat) (ws : List LoadWork) : SharesOnly (shareWork remaining ws) := by
  intro w
  unfold shareWork
  split <;> rfl

theorem shareClasses_map {start : Nat → Apportion} {ws : List LoadWork} (ks : List Nat) {f : LoadWork → LoadWork}
    (only : SharesOnly f) : ks.foldl (fun l k => shareClass (start k) k l) (ws.map f)
      = ws.map fun w => ks.foldl (fun w k => withShare (start k) k (classDemand ws k) w) (f w) := by
  induction ks generalizing f with
  | nil => rfl
  | cons k rest ih =>
    have step : shareClass (start k) k (ws.map f)
        = ws.map (withShare (start k) k (classDemand ws k) ∘ f) := by
      rw [shareClass_eq, only.classDemand, List.map_map]
    rw [List.foldl_cons, step, ih (only.comp (withShare_only _ _ _))]
    rfl

/-- A load takes the share of its own class, and that of no other. -/
theorem shareClasses_own {start : Nat → Apportion} {demand : Nat → Nat} (ks : List Nat) (nodup : ks.Nodup)
    (w : LoadWork) : ks.foldl (fun w k => withShare (start k) k (demand k) w) w
      = if inClasses w = true ∧ w.cls ∈ ks then { w with share := shareOf (start w.cls) (demand w.cls) w } else w := by
  induction ks generalizing w with
  | nil => simp
  | cons k rest ih =>
    obtain ⟨once, others⟩ := List.nodup_cons.mp nodup
    rw [List.foldl_cons]
    by_cases here : inClasses w = true ∧ w.cls = k
    · obtain ⟨takes, rfl⟩ := here
      have given : withShare (start w.cls) w.cls (demand w.cls) w
          = { w with share := shareOf (start w.cls) (demand w.cls) w } := if_pos (by simp [inClass, takes])
      rw [given, ih others, if_neg fun later => once later.2, if_pos ⟨takes, List.mem_cons_self⟩]
    · have left_ : withShare (start k) k (demand k) w = w := if_neg (by simpa [inClass] using here)
      rw [left_, ih others]
      refine if_congr ⟨fun ⟨takes, member⟩ => ⟨takes, List.mem_cons_of_mem k member⟩, fun ⟨takes, member⟩ => ?_⟩ rfl rfl
      exact ⟨takes, (List.mem_cons.mp member).resolve_left fun same => here ⟨takes, same⟩⟩

theorem shareAll_eq (remaining : Nat) (ws : List LoadWork) :
    shareAll remaining ws = ws.map (shareWork remaining ws) := by
  have mapped := shareClasses_map (start := classStart remaining ws) (ws := ws) [0, 1, 2, 3] (f := id) fun _ => rfl
  rw [List.map_id] at mapped
  refine mapped.trans (congrArg (List.map · ws) (funext fun w => ?_))
  refine (shareClasses_own [0, 1, 2, 3] (by decide) w).trans (if_congr ?_ rfl rfl)
  have small : w.cls ∈ [0, 1, 2, 3] ↔ w.cls ≤ 3 := by
    simp only [List.mem_cons, List.not_mem_nil, or_false]
    omega
  simp [small]

end Sys2Proof.Machine


/-! SUPPORT. The classes of a settlement (R135): what their shares come to. -/

namespace Sys2Proof.Machine

/-! ## The shares of a class -/

theorem mem_inClass {k : Nat} {w : LoadWork} : inClass k w = true ↔ inClasses w = true ∧ w.cls = k := by
  simp [inClass]

section

variable {ws : List LoadWork} {remaining k : Nat}

theorem shareWork_of_class (small : k ≤ 3) {w : LoadWork} (here : inClass k w = true) : shareWork remaining ws w
    = { w with share := shareOf (classStart remaining ws k) (classDemand ws k) w } := by
  obtain ⟨takes, rfl⟩ := mem_inClass.mp here
  exact if_pos (by simp [takes, small])

/-- R135: the loads of a class once they have their shares. -/
theorem shareAll_class (small : k ≤ 3) : (shareAll remaining ws).filter (inClass k)
    = (ws.filter (inClass k)).map fun w =>
      { w with share := shareOf (classStart remaining ws k) (classDemand ws k) w } := by
  rw [shareAll_eq, (shareWork_only remaining ws).filter]
  refine List.map_congr_left fun w member => ?_
  exact shareWork_of_class small (List.mem_filter.mp member).2

/-- What the shares of a class come to. -/
def shareSum (a : Apportion) (k : Nat) (ws : List LoadWork) : Nat :=
  ((ws.filter (inClass k)).map (shareOf a (classDemand ws k))).sum

theorem classShares_class (a : Apportion) : classShares (shareClass a k ws) k = shareSum a k ws := by
  rw [classShares, shareClass_eq, (withShare_only _ _ _).filter, List.map_map, shareSum]
  refine congrArg List.sum (List.map_congr_left fun w member => ?_)
  show (withShare a k (classDemand ws k) w).share = _
  rw [withShare, if_pos (List.mem_filter.mp member).2]

theorem afterClass_eq (a : Apportion) : afterClass a k ws = if a.short = true then a
    else ⟨a.remaining - shareSum a k ws, classState a (classDemand ws k) != .full⟩ := by
  rw [afterClass, classShares_class]

/-! ## What is left after a class -/

theorem sum_proRata {power total : Nat} (positive : 0 < total) (ds : List Nat) (most : ds.sum ≤ total) :
    (ds.map fun d => d * power / total).sum ≤ power := by
  have scaled : (ds.map fun d => d * power / total).sum * total ≤ ds.sum * power := by
    clear most
    induction ds with
    | nil => simp
    | cons d rest ih =>
      have first := Nat.div_mul_le_self (d * power) total
      simp only [List.map_cons, List.sum_cons, Nat.add_mul]
      omega
  have bounded : ds.sum * power ≤ power * total := by
    rw [Nat.mul_comm power]
    exact Nat.mul_le_mul_right power most
  exact Nat.le_of_mul_le_mul_right (scaled.trans bounded) positive

/-- R135: a class gives out no more than is left, and nothing where a class before it fell short. -/
theorem shareSum_le (a : Apportion) : shareSum a k ws ≤ a.remaining ∧ (a.short = true → shareSum a k ws = 0) := by
  have state : classState a (classDemand ws k) = if a.short = true then
      (if 0 < classDemand ws k then .zero else .full)
      else if classDemand ws k ≤ a.remaining then .full else .proRata := rfl
  have full (is : classState a (classDemand ws k) = .full) : shareSum a k ws = classDemand ws k := by
    show ((ws.filter (inClass k)).map (shareOf a (classDemand ws k))).sum
      = ((ws.filter (inClass k)).map LoadWork.demand).sum
    refine congrArg List.sum (List.map_congr_left fun w _ => ?_)
    simp only [shareOf, is]
  have zero (is : classState a (classDemand ws k) = .zero) : shareSum a k ws = 0 := by
    rw [shareSum]
    refine List.sum_eq_zero fun n member => ?_
    obtain ⟨w, _, rfl⟩ := List.mem_map.mp member
    simp only [shareOf, is]
  cases short : a.short with
  | true =>
    rw [short, if_pos rfl] at state
    have none_ : shareSum a k ws = 0 := by
      by_cases some_ : 0 < classDemand ws k
      · exact zero (state.trans (if_pos some_))
      · have := full (state.trans (if_neg some_))
        omega
    exact ⟨by omega, fun _ => none_⟩
  | false =>
    rw [short, if_neg Bool.false_ne_true] at state
    refine ⟨?_, fun h => by cases h⟩
    by_cases fits : classDemand ws k ≤ a.remaining
    · rw [full (state.trans (if_pos fits))]
      exact fits
    · have is := state.trans (if_neg fits)
      have shares : shareSum a k ws = (((ws.filter (inClass k)).map LoadWork.demand).map
          fun d => d * a.remaining / classDemand ws k).sum := by
        rw [shareSum, List.map_map]
        refine congrArg List.sum (List.map_congr_left fun w _ => ?_)
        simp only [shareOf, is, proRataShare, Function.comp_apply]
      rw [shares]
      exact sum_proRata (by omega) _ (Nat.le_of_eq rfl)

theorem classStart_next (remaining : Nat) (ws : List LoadWork) (k : Nat) :
    (classStart remaining ws (k + 1)).remaining
      = (classStart remaining ws k).remaining - shareSum (classStart remaining ws k) k ws
    ∧ (classStart remaining ws (k + 1)).short = ((classStart remaining ws k).short
      || classState (classStart remaining ws k) (classDemand ws k) != .full) := by
  have next : classStart remaining ws (k + 1) = afterClass (classStart remaining ws k) k ws := rfl
  obtain ⟨_, none_⟩ := shareSum_le (ws := ws) (k := k) (classStart remaining ws k)
  rw [next, afterClass_eq]
  cases short : (classStart remaining ws k).short with
  | true => rw [if_pos rfl, none_ short, short, Nat.sub_zero, Bool.true_or]; exact ⟨rfl, rfl⟩
  | false => exact ⟨rfl, rfl⟩

end

end Sys2Proof.Machine


/-! SUPPORT. The restoration of a settlement (R136): what the rising loads of each class take from the pool. -/

namespace Sys2Proof.Machine

/-! ## One class -/

/-- R136: by how much a rising load of class `k` rises. -/
def riseIn (k : Nat) (w : LoadWork) : Nat := if isRising w && w.cls == k then w.share - w.previous else 0

/-- R136: by how much the loads of class `k` rise. -/
def riseSum (k : Nat) (ws : List LoadWork) : Nat := (ws.map (riseIn k)).sum

/-- R136: the grant of a load when class `k` takes from a pool. -/
def stepGrant (k pool : Nat) (w : LoadWork) : Nat :=
  if isRising w && w.cls == k then w.previous + min (w.share - w.previous) pool else w.grant

theorem restoreClass_cons (k pool : Nat) (w : LoadWork) (rest : List LoadWork) : restoreClass k pool (w :: rest)
    = ((restoreClass k (pool - riseIn k w) rest).1,
      { w with grant := stepGrant k pool w } :: (restoreClass k (pool - riseIn k w) rest).2) := by
  rw [restoreClass, riseIn, stepGrant]
  split
  · have left_ : pool - min (w.share - w.previous) pool = pool - (w.share - w.previous) := by omega
    dsimp only
    rw [left_]
  · rfl

theorem riseIn_regrant (k n : Nat) (w : LoadWork) : riseIn k { w with grant := n } = riseIn k w := rfl

section

variable {k pool : Nat} {ws : List LoadWork}

theorem restoreClass_left : (restoreClass k pool ws).1 = pool - riseSum k ws := by
  induction ws generalizing pool with
  | nil => simp [restoreClass, riseSum]
  | cons w rest ih =>
    rw [restoreClass_cons, ih, riseSum, riseSum, List.map_cons, List.sum_cons]
    omega

/-- What holds of each load, whatever its grant, holds after. -/
theorem restoreClass_riseSum (j : Nat) : riseSum j (restoreClass k pool ws).2 = riseSum j ws := by
  induction ws generalizing pool with
  | nil => rfl
  | cons w rest ih =>
    have later := ih (pool := pool - riseIn k w)
    rw [restoreClass_cons]
    simp only [riseSum, List.map_cons, List.sum_cons, riseIn_regrant] at later ⊢
    rw [later]

theorem stepGrant_other {w : LoadWork} (other : inClass k w = false) :
    stepGrant k pool w = w.grant ∧ riseIn k w = 0 := by
  have out : (isRising w && w.cls == k) = false := by
    cases takes : inClasses w with
    | false => simp [isRising, takes]
    | true =>
      have differs : (w.cls == k) = false := by simpa [inClass, takes] using other
      rw [differs, Bool.and_false]
  simp only [stepGrant, riseIn, out, Bool.false_eq_true, if_false, and_self]

/-- The loads of the class take as they would alone. -/
theorem restoreClass_filter : (restoreClass k pool ws).2.filter (inClass k)
    = (restoreClass k pool (ws.filter (inClass k))).2 := by
  induction ws generalizing pool with
  | nil => rfl
  | cons w rest ih =>
    have later := ih (pool := pool - riseIn k w)
    have same : inClass k { w with grant := stepGrant k pool w } = inClass k w := rfl
    rw [restoreClass_cons]
    cases here : inClass k w with
    | true => rw [List.filter_cons_of_pos (same.trans here), List.filter_cons_of_pos here, restoreClass_cons, later]
    | false =>
      rw [List.filter_cons_of_neg (by rw [same, here]; decide), List.filter_cons_of_neg (by rw [here]; decide), later,
        (stepGrant_other (pool := pool) here).2, Nat.sub_zero]

/-- The loads of another class stay as they are. -/
theorem restoreClass_other {j : Nat} (other : j ≠ k) :
    (restoreClass k pool ws).2.filter (inClass j) = ws.filter (inClass j) := by
  induction ws generalizing pool with
  | nil => rfl
  | cons w rest ih =>
    have later := ih (pool := pool - riseIn k w)
    have same : inClass j { w with grant := stepGrant k pool w } = inClass j w := rfl
    rw [restoreClass_cons]
    cases here : inClass j w with
    | true =>
      have out : inClass k w = false := by
        obtain ⟨_, is⟩ := mem_inClass.mp here
        rw [Bool.eq_false_iff]
        exact fun h => other (is.symm.trans (mem_inClass.mp h).2)
      rw [List.filter_cons_of_pos (same.trans here), List.filter_cons_of_pos here, later,
        (stepGrant_other (pool := pool) out).1]
    | false => rw [List.filter_cons_of_neg (by rw [same, here]; decide), List.filter_cons_of_neg (by rw [here]; decide),
        later]

/-- Each load of the result is one of the list with the grant that it takes after those before it. -/
theorem restoreClass_split {before after : List LoadWork} {m : LoadWork}
    (is : (restoreClass k pool ws).2 = before ++ m :: after) : ∃ w ∈ ws,
      m = { w with grant := stepGrant k (pool - riseSum k before) w } := by
  induction ws generalizing pool before with
  | nil =>
    cases before <;> cases is
  | cons w rest ih =>
    rw [restoreClass_cons] at is
    cases before with
    | nil =>
      obtain ⟨first, _⟩ := List.cons.inj is
      exact ⟨w, List.mem_cons_self, first.symm⟩
    | cons b before =>
      obtain ⟨first, others⟩ := List.cons.inj is
      obtain ⟨x, member, same⟩ := ih others
      refine ⟨x, List.mem_cons_of_mem w member, same.trans ?_⟩
      have rises : riseSum k (b :: before) = riseIn k w + riseSum k before := by
        rw [riseSum, List.map_cons, List.sum_cons, ← first]
        rfl
      rw [rises, Nat.sub_sub]

/-- R136: what the loads of a class take together. -/
theorem restoreClass_taken (all : ∀ w ∈ ws, inClass k w = true) (low : ∀ w ∈ ws, w.grant = min w.share w.previous) :
    ((restoreClass k pool ws).2.map fun w => w.grant - w.previous).sum = min pool (riseSum k ws) := by
  induction ws generalizing pool with
  | nil => simp [restoreClass, riseSum]
  | cons w rest ih =>
    obtain ⟨here, others⟩ := List.forall_mem_cons.mp all
    obtain ⟨grant, lows⟩ := List.forall_mem_cons.mp low
    obtain ⟨takes, is⟩ := mem_inClass.mp here
    rw [restoreClass_cons, List.map_cons, List.sum_cons, ih others lows, riseSum, riseSum, List.map_cons,
      List.sum_cons]
    have own : stepGrant k pool w - w.previous = min pool (riseIn k w) := by
      simp only [stepGrant, riseIn, isRising, takes, is, grant, Bool.true_and, beq_self_eq_true, Bool.and_true,
        decide_eq_true_eq]
      split <;> omega
    rw [own]
    omega

end

end Sys2Proof.Machine


/-! SUPPORT. The restoration in order of class (R136), and what it leaves for each class and each load. -/

namespace Sys2Proof.Machine

/-! ## The classes one after another -/

/-- R136: these classes take from the pool, in this order. -/
def restoreAll (ks : List Nat) (acc : Nat × List LoadWork) : Nat × List LoadWork :=
  ks.foldl (fun acc k => restoreClass k acc.1 acc.2) acc

/-- What these classes rise by. -/
def riseTotal (ks : List Nat) (ws : List LoadWork) : Nat := (ks.map fun k => riseSum k ws).sum

theorem restoreAll_cons (k : Nat) (ks : List Nat) (acc : Nat × List LoadWork) :
    restoreAll (k :: ks) acc = restoreAll ks (restoreClass k acc.1 acc.2) := rfl

theorem riseTotal_restoreClass (ks : List Nat) (k pool : Nat) (ws : List LoadWork) :
    riseTotal ks (restoreClass k pool ws).2 = riseTotal ks ws := by
  simp only [riseTotal, restoreClass_riseSum]

theorem restoreAll_left (ks : List Nat) {pool : Nat} {ws : List LoadWork} :
    (restoreAll ks (pool, ws)).1 = pool - riseTotal ks ws := by
  induction ks generalizing pool ws with
  | nil => simp [restoreAll, riseTotal]
  | cons k rest ih =>
    have next := ih (pool := (restoreClass k pool ws).1) (ws := (restoreClass k pool ws).2)
    rw [restoreAll_cons]
    refine next.trans ?_
    rw [restoreClass_left, riseTotal_restoreClass, Nat.sub_sub]
    rfl

theorem restoreAll_other {c : Nat} (ks : List Nat) (out : c ∉ ks) {acc : Nat × List LoadWork} :
    (restoreAll ks acc).2.filter (inClass c) = acc.2.filter (inClass c) := by
  induction ks generalizing acc with
  | nil => rfl
  | cons k rest ih =>
    rw [restoreAll_cons, ih (List.not_mem_of_not_mem_cons out), restoreClass_other (List.ne_of_not_mem_cons out)]

/-- A class takes from what the classes before it have left, as it would alone. -/
theorem restoreAll_class {c : Nat} (before after : List Nat) (out : c ∉ before) (late : c ∉ after) {pool : Nat}
    {ws : List LoadWork} : (restoreAll (before ++ c :: after) (pool, ws)).2.filter (inClass c)
      = (restoreClass c (pool - riseTotal before ws) (ws.filter (inClass c))).2 := by
  have split : restoreAll (before ++ c :: after) (pool, ws)
      = restoreAll after (restoreClass c (restoreAll before (pool, ws)).1 (restoreAll before (pool, ws)).2) := by
    simp only [restoreAll, List.foldl_append, List.foldl_cons]
  rw [split, restoreAll_other after late, restoreClass_filter, restoreAll_left, restoreAll_other before out]

/-! ## What a load keeps -/

theorem restoreClass_map {α : Type} {f : LoadWork → α} (blind : ∀ w n, f { w with grant := n } = f w) (k pool : Nat)
    (ws : List LoadWork) : (restoreClass k pool ws).2.map f = ws.map f := by
  induction ws generalizing pool with
  | nil => rfl
  | cons w rest ih =>
    rw [restoreClass_cons, List.map_cons, List.map_cons, ih, blind]

theorem restoreClass_mem {k pool : Nat} {ws : List LoadWork} {m : LoadWork} (member : m ∈ (restoreClass k pool ws).2) :
    ∃ w ∈ ws, ∃ before, m = { w with grant := stepGrant k (pool - riseSum k before) w } := by
  obtain ⟨before, after, is⟩ := List.append_of_mem member
  obtain ⟨w, there, same⟩ := restoreClass_split is
  exact ⟨w, there, before, same⟩

/-- A load that has not been in a class keeps what it had; one that rises has its rise, or what was left. -/
def Regranted (w w' : LoadWork) : Prop :=
  w' = { w with grant := w'.grant } ∧ (isRising w = false ∨ 3 < w.cls → w'.grant = w.grant)

theorem restoreClass_regranted {k : Nat} (small : k ≤ 3) (pool : Nat) (ws : List LoadWork) :
    List.Forall₂ Regranted ws (restoreClass k pool ws).2 := by
  induction ws generalizing pool with
  | nil => exact .nil
  | cons w rest ih =>
    rw [restoreClass_cons]
    refine .cons ⟨rfl, fun still => ?_⟩ (ih _)
    have out : (isRising w && w.cls == k) = false := by
      rcases still with still | beyond
      · rw [still, Bool.false_and]
      · have differs : (w.cls == k) = false := by
          rw [beq_eq_false_iff_ne]
          omega
        rw [differs, Bool.and_false]
    simp only [stepGrant, out, Bool.false_eq_true, if_false]

theorem Regranted.trans {a b c : LoadWork} (h : Regranted a b) (k : Regranted b c) : Regranted a c := by
  obtain ⟨first, still⟩ := h
  obtain ⟨second, stays⟩ := k
  obtain ⟨n, is⟩ : ∃ n, b = { a with grant := n } := ⟨_, first⟩
  subst is
  exact ⟨second, fun h => (stays h).trans (still h)⟩

theorem forall₂_trans {α : Type} {R : α → α → Prop} (trans : ∀ {a b c}, R a b → R b c → R a c) {xs ys zs : List α}
    (h : List.Forall₂ R xs ys) (k : List.Forall₂ R ys zs) : List.Forall₂ R xs zs := by
  induction h generalizing zs with
  | nil => exact k
  | cons first _ ih =>
    cases k with
    | cons second others => exact .cons (trans first second) (ih others)

theorem restoreAll_regranted (ks : List Nat) (small : ∀ k ∈ ks, k ≤ 3) (acc : Nat × List LoadWork) :
    List.Forall₂ Regranted acc.2 (restoreAll ks acc).2 := by
  induction ks generalizing acc with
  | nil => exact List.forall₂_same.mpr fun w _ => ⟨rfl, fun _ => rfl⟩
  | cons k rest ih =>
    obtain ⟨first, others⟩ := List.forall_mem_cons.mp small
    exact forall₂_trans (R := Regranted) (fun h k => h.trans k) (restoreClass_regranted first acc.1 acc.2) (ih others _)

/-! ## What a settlement leaves for each load -/

/-- What the working of a settlement makes of a load: a share and a grant, by R134 and R136. -/
structure Worked (w w' : LoadWork) : Prop where
  same : w' = { w with share := w'.share, grant := w'.grant }
  uncontrolled : w.controlled = false → w'.grant = 0
  exempt : w.controlled = true → w.exempt = true → w'.grant = w.demand
  beyond : inClasses w = true → 3 < w.cls → w'.grant = 0

/-- The loads of a settlement, worked. -/
def workedLoads (pool remaining : Nat) (ws : List LoadWork) : List LoadWork :=
  (restore pool (shareAll remaining ws)).2

theorem restore_eq (pool : Nat) (ws : List LoadWork) :
    restore pool ws = restoreAll [0, 1, 2, 3] (pool, ws.map settledGrant) := rfl

theorem workedLoads_worked {pool remaining : Nat} {ws : List LoadWork} (fresh : ∀ w ∈ ws, w.share = 0) :
    List.Forall₂ Worked ws (workedLoads pool remaining ws) := by
  have mapped : workedLoads pool remaining ws = (restoreAll [0, 1, 2, 3] (pool,
      ws.map fun w => settledGrant (shareWork remaining ws w))).2 := by
    rw [workedLoads, restore_eq, shareAll_eq, List.map_map]
    rfl
  have regranted := restoreAll_regranted [0, 1, 2, 3] (by decide)
    (pool, ws.map fun w => settledGrant (shareWork remaining ws w))
  rw [← mapped] at regranted
  rw [List.forall₂_map_left_iff] at regranted
  refine List.Forall₂.imp ?_ ((List.forall₂_and_left (p := fun w => w ∈ ws) _ _).mpr
    ⟨fun w member => member, regranted⟩)
  rintro w w' ⟨member, only, still⟩
  obtain ⟨n, shares⟩ : ∃ n, shareWork remaining ws w = { w with share := n } := ⟨_, shareWork_only remaining ws w⟩
  rw [shares] at only still
  refine ⟨only.trans ?_, fun off => ?_, fun on exempt => ?_, fun takes beyond => ?_⟩
  · rw [only]
    rfl
  · rw [still (.inl (by simp [isRising, settledGrant, inClasses, off]))]
    simp [settledGrant, off]
  · rw [still (.inl (by simp [isRising, settledGrant, inClasses, exempt]))]
    simp [settledGrant, on, exempt]
  · have none_ : n = 0 := by
      have left_ : shareWork remaining ws w = w := if_neg (by
        rw [Bool.and_eq_true, decide_eq_true_iff]
        omega)
      rw [← fresh w member, ← left_, shares]
    obtain ⟨on, free⟩ : w.controlled = true ∧ w.exempt = false := by simpa [inClasses] using takes
    rw [still (.inr beyond)]
    simp [settledGrant, on, free, none_]

end Sys2Proof.Machine


/-! SUPPORT. What a settlement leaves for each class (R135, R136). -/

namespace Sys2Proof.Machine

/-! ## The outcome of a class -/

/-- R135, R136: the loads of class `c` once a settlement has worked them: the class began at `start`, with this demand
and what was then left of the pool. -/
structure ClassOutcome (start : Apportion) (demand pool c : Nat) (loads : List LoadWork) : Prop where
  members : ∀ w ∈ loads, inClass c w = true
  demands : (loads.map LoadWork.demand).sum = demand
  shares : ∀ w ∈ loads, w.share = shareOf start demand w
  grants : ∀ before m after, loads = before ++ m :: after → (m.share ≤ m.previous → m.grant = m.share)
    ∧ (m.previous < m.share → m.grant = m.previous + min (m.share - m.previous) (pool - riseSum c before))
  taken : (loads.map fun w => w.grant - w.previous).sum = min pool (riseSum c loads)

theorem riseTotal_restoreAll (ks js : List Nat) (acc : Nat × List LoadWork) :
    riseTotal ks (restoreAll js acc).2 = riseTotal ks acc.2 := by
  induction js generalizing acc with
  | nil => rfl
  | cons j rest ih => rw [restoreAll_cons, ih, riseTotal_restoreClass]

section

variable {pool remaining : Nat} {ws : List LoadWork} {c : Nat}

/-- A load of class `c` before the restoration. -/
def classReady (remaining : Nat) (ws : List LoadWork) (c : Nat) (w : LoadWork) : LoadWork :=
  settledGrant { w with share := shareOf (classStart remaining ws c) (classDemand ws c) w }

theorem readyLoads_class (small : c ≤ 3) : ((shareAll remaining ws).map settledGrant).filter (inClass c)
    = (ws.filter (inClass c)).map (classReady remaining ws c) := by
  have filters : ((shareAll remaining ws).map settledGrant).filter (inClass c)
      = ((shareAll remaining ws).filter (inClass c)).map settledGrant := by
    rw [List.filter_map]
    rfl
  rw [filters, shareAll_class small, List.map_map]
  rfl

/-- What a class finds in the pool. -/
def poolAt (pool c : Nat) (loads : List LoadWork) : Nat := pool - riseTotal (List.range c) loads

theorem workedLoads_filter (small : c ≤ 3) : (workedLoads pool remaining ws).filter (inClass c)
    = (restoreClass c (poolAt pool c (workedLoads pool remaining ws))
      ((ws.filter (inClass c)).map (classReady remaining ws c))).2 := by
  have order : ∃ after, [0, 1, 2, 3] = List.range c ++ c :: after ∧ c ∉ after := by
    have cases_ : c = 0 ∨ c = 1 ∨ c = 2 ∨ c = 3 := by omega
    rcases cases_ with rfl | rfl | rfl | rfl
    · exact ⟨[1, 2, 3], rfl, by decide⟩
    · exact ⟨[2, 3], rfl, by decide⟩
    · exact ⟨[3], rfl, by decide⟩
    · exact ⟨[], rfl, by decide⟩
  obtain ⟨after, is, late⟩ := order
  rw [poolAt, workedLoads, restore_eq, riseTotal_restoreAll, ← readyLoads_class small, is]
  exact restoreAll_class (List.range c) after (by simp) late

theorem workedLoads_class (small : c ≤ 3) : ClassOutcome (classStart remaining ws c) (classDemand ws c)
    (poolAt pool c (workedLoads pool remaining ws)) c ((workedLoads pool remaining ws).filter (inClass c)) := by
  have is := workedLoads_filter (pool := pool) (remaining := remaining) (ws := ws) small
  generalize poolAt pool c (workedLoads pool remaining ws) = left_ at is ⊢
  have ready : ∀ w ∈ (ws.filter (inClass c)).map (classReady remaining ws c), inClass c w = true
      ∧ w.share = shareOf (classStart remaining ws c) (classDemand ws c) w ∧ w.grant = min w.share w.previous := by
    intro w member
    obtain ⟨x, there, rfl⟩ := List.mem_map.mp member
    have here := (List.mem_filter.mp there).2
    obtain ⟨takes, _⟩ := mem_inClass.mp here
    obtain ⟨on, free⟩ : x.controlled = true ∧ x.exempt = false := by simpa [inClasses] using takes
    exact ⟨here, rfl, by simp [classReady, settledGrant, on, free]⟩
  rw [is]
  refine ⟨fun m member => ?_, ?_, fun m member => ?_, fun before m after split => ?_, ?_⟩
  · obtain ⟨w, there, before, rfl⟩ := restoreClass_mem member
    exact (ready w there).1
  · rw [restoreClass_map (fun _ _ => rfl), List.map_map]
    rfl
  · obtain ⟨w, there, before, rfl⟩ := restoreClass_mem member
    exact (ready w there).2.1
  · obtain ⟨w, there, rfl⟩ := restoreClass_split split
    obtain ⟨here, _, low⟩ := ready w there
    obtain ⟨takes, class_⟩ := mem_inClass.mp here
    show (w.share ≤ w.previous → stepGrant c (left_ - riseSum c before) w = w.share)
      ∧ (w.previous < w.share → stepGrant c (left_ - riseSum c before) w
        = w.previous + min (w.share - w.previous) (left_ - riseSum c before))
    simp only [stepGrant, isRising, takes, class_, Bool.true_and, beq_self_eq_true, Bool.and_true, decide_eq_true_eq]
    refine ⟨fun falls => ?_, fun rises => if_pos rises⟩
    rw [if_neg (Nat.not_lt.mpr falls), low]
    exact Nat.min_eq_left falls
  · have taken := restoreClass_taken (k := c) (pool := left_) (fun w there => (ready w there).1)
      (fun w there => (ready w there).2.2)
    rw [restoreClass_riseSum]
    exact taken

end

/-! ## What the outcome gives -/

section

variable {start : Apportion} {demand pool c : Nat} {loads : List LoadWork}

theorem ClassOutcome.grant_le (h : ClassOutcome start demand pool c loads) {m : LoadWork} (member : m ∈ loads) :
    m.grant ≤ m.share := by
  obtain ⟨before, after, is⟩ := List.append_of_mem member
  obtain ⟨falls, rises⟩ := h.grants before m after is
  by_cases low : m.share ≤ m.previous
  · exact Nat.le_of_eq (falls low)
  · rw [rises (by omega)]
    omega

theorem ClassOutcome.rise (h : ClassOutcome start demand pool c loads) {part : List LoadWork}
    (within : ∀ w ∈ part, w ∈ loads) : riseSum c part = (part.map fun w => w.share - w.previous).sum := by
  refine congrArg List.sum (List.map_congr_left fun w member => ?_)
  obtain ⟨takes, is⟩ := mem_inClass.mp (h.members w (within w member))
  simp only [riseIn, isRising, takes, is, Bool.true_and, beq_self_eq_true, Bool.and_true, decide_eq_true_eq]
  split
  · rfl
  · omega

theorem riseSum_filter (c : Nat) (loads : List LoadWork) : riseSum c (loads.filter (inClass c)) = riseSum c loads := by
  induction loads with
  | nil => rfl
  | cons w rest ih =>
    simp only [riseSum] at ih
    cases here : inClass c w with
    | true => rw [List.filter_cons_of_pos here]; simp only [riseSum, List.map_cons, List.sum_cons, ih]
    | false =>
      rw [List.filter_cons_of_neg (by rw [here]; decide)]
      simp only [riseSum, List.map_cons, List.sum_cons, (stepGrant_other (pool := 0) here).2, Nat.zero_add, ih]

end

end Sys2Proof.Machine


/-! SUPPORT. The loads of a settlement, and the lists that its laws speak of (R133 to R136). -/

namespace Sys2Proof.Machine

open Sys2Proof.Claims

/-! ## The loads of a settlement -/

/-- The loads that a settlement works: their number and definition, and their record. -/
def loadRows (s : State) : List ((Nat × LoadDef) × LoadRec) :=
  s.config.loads.filterMap fun e => (slotGet s.loads e.1).map fun r => (e, r)

theorem settlementLoads_eq (s : State) :
    settlementLoads s = (loadRows s).map fun x => workOf s x.1.1 x.1.2 x.2 := by
  rw [settlementLoads, loadRows, List.map_filterMap]
  refine congrArg (List.filterMap · s.config.loads) (funext fun e => ?_)
  cases slotGet s.loads e.1 <;> rfl

theorem settlementLoads_fresh (s : State) : ∀ w ∈ settlementLoads s, w.share = 0 := by
  intro w member
  rw [settlementLoads_eq] at member
  obtain ⟨x, _, rfl⟩ := List.mem_map.mp member
  rfl

theorem mem_loadRows {s : State} {x : (Nat × LoadDef) × LoadRec} : x ∈ loadRows s
    ↔ x.1 ∈ s.config.loads ∧ slotGet s.loads x.1.1 = some x.2 := by
  obtain ⟨e, r⟩ := x
  simp only [loadRows, List.mem_filterMap, Option.map_eq_some_iff, Prod.mk.injEq]
  constructor
  · rintro ⟨_, member, _, found, rfl, rfl⟩
    exact ⟨member, found⟩
  · rintro ⟨member, found⟩
    exact ⟨e, member, r, found, rfl, rfl⟩

/-- A list that a statement draws from the defined loads and their records, drawn from the rows. -/
theorem filterMap_rows {β : Type} {s : State} {f : Nat × LoadDef → Option β}
    {g : (Nat × LoadDef) × LoadRec → Option β} (none_ : ∀ e, slotGet s.loads e.1 = none → f e = none)
    (some_ : ∀ e r, slotGet s.loads e.1 = some r → f e = g (e, r)) :
    s.config.loads.filterMap f = (loadRows s).filterMap g := by
  rw [loadRows, List.filterMap_filterMap]
  refine congrArg (List.filterMap · s.config.loads) (funext fun e => ?_)
  cases found : slotGet s.loads e.1 with
  | none => exact none_ e found
  | some r => exact some_ e r found

theorem sum_rows {s : State} {f : Nat × LoadDef → Nat} {g : (Nat × LoadDef) × LoadRec → Nat}
    (none_ : ∀ e, slotGet s.loads e.1 = none → f e = 0)
    (some_ : ∀ e r, slotGet s.loads e.1 = some r → f e = g (e, r)) :
    (s.config.loads.map f).sum = ((loadRows s).map g).sum := by
  rw [loadRows]
  induction s.config.loads with
  | nil => rfl
  | cons e rest ih =>
    rw [List.map_cons, List.sum_cons, ih]
    cases found : slotGet s.loads e.1 with
    | none => rw [none_ e found, Nat.zero_add, List.filterMap_cons_none (by rw [found]; rfl)]
    | some r =>
      rw [some_ e r found, List.filterMap_cons_some (b := (e, r)) (by rw [found]; rfl), List.map_cons, List.sum_cons]

theorem filterMap_forall₂ {α β γ : Type} {R : α → β → Prop} {f : α → Option γ} {g : β → Option γ} {xs : List α}
    {ys : List β} (h : List.Forall₂ R xs ys) (same : ∀ x y, R x y → f x = g y) :
    xs.filterMap f = ys.filterMap g := by
  induction h with
  | nil => rfl
  | cons first _ ih => rw [List.filterMap_cons, List.filterMap_cons, same _ _ first, ih]

theorem map_forall₂ {α β γ : Type} {R : α → β → Prop} {f : α → γ} {g : β → γ} {xs : List α} {ys : List β}
    (h : List.Forall₂ R xs ys) (same : ∀ x y, R x y → f x = g y) : xs.map f = ys.map g := by
  induction h with
  | nil => rfl
  | cons first _ ih => rw [List.map_cons, List.map_cons, same _ _ first, ih]

theorem forall₂_left {α β : Type} {R : α → β → Prop} {xs : List α} {ys : List β} (h : List.Forall₂ R xs ys) {x : α}
    (member : x ∈ xs) : ∃ y ∈ ys, R x y := by
  induction h with
  | nil => cases member
  | cons first _ ih =>
    rcases List.mem_cons.mp member with rfl | later
    · exact ⟨_, List.mem_cons_self, first⟩
    · obtain ⟨y, there, related⟩ := ih later
      exact ⟨y, List.mem_cons_of_mem _ there, related⟩

theorem filter_map_filterMap {α β : Type} (p : α → Bool) (f : α → β) (xs : List α) :
    (xs.filter p).map f = xs.filterMap fun x => if p x = true then some (f x) else none := by
  induction xs with
  | nil => rfl
  | cons x rest ih =>
    rw [List.filterMap_cons]
    cases picks : p x with
    | true => simp [picks, ih]
    | false => simp [picks, ih]

/-! ## What the loads show -/

/-- A load shows what a settlement has worked for it. -/
structure Shows (s : State) (e : Nat × LoadDef) (r : LoadRec) (w : LoadWork) (r' : LoadRec) : Prop where
  worked : Worked (workOf s e.1 e.2 r) w
  reason : r'.reason = w.reason
  exempt : r'.exempt = w.exempt
  class_ : r'.effClass = w.cls
  grant : r'.grant = w.grant
  posted : r'.posted = r.posted
  controlled : r'.controlled = r.controlled

/-- The loads of `t` show what has been worked for those of `s`. -/
def Settles (s t : State) (ws : List LoadWork) : Prop :=
  List.Forall₂ (fun x w => ∃ r', slotGet t.loads x.1.1 = some r' ∧ Shows s x.1 x.2 w r') (loadRows s) ws

section

variable {s : State} {e : Nat × LoadDef} {r r' : LoadRec} {w : LoadWork}

theorem demandFor_eq (d : LoadDef) (posted : Nat) : demandFor d posted = demandOf d posted := by
  unfold demandFor demandOf
  cases d.drive <;> rfl

theorem Shows.fields (h : Shows s e r w r') : w.number = e.1 ∧ w.controlled = r.controlled
    ∧ w.previous = r.previousGrant ∧ (r.controlled = true → w.demand = demandFor e.2 r.posted)
    ∧ w.uncontrolled = (if r.controlled = true then 0 else ceilDiv (e.2.rating * r.assumed.getD 0) 1000)
    ∧ w.rating = e.2.rating ∧ w.reason = exemptReason s e.2 ∧ w.cls = effectiveClass s e.2
    ∧ w.exempt = (e.2.exempt || exemptReason s e.2 != .none) := by
  rw [h.worked.same]
  refine ⟨rfl, rfl, rfl, fun on => ?_, rfl, rfl, rfl, rfl, rfl⟩
  show (if r.controlled = true then demandOf e.2 r.posted else 0) = _
  rw [if_pos on, demandFor_eq]

theorem Shows.inClass (h : Shows s e r w r') (c : Nat) :
    inClass c w = true ↔ r.controlled = true ∧ r'.exempt = false ∧ r'.effClass = c := by
  obtain ⟨_, controlled, _⟩ := h.fields
  rw [mem_inClass, inClasses, h.exempt, h.class_, controlled]
  cases w.exempt <;> simp

theorem Shows.limited (h : Shows s e r w r') : isLimited r' = inClasses w := by
  obtain ⟨_, controlled, _⟩ := h.fields
  rw [isLimited, inClasses, h.exempt, h.controlled, controlled]

end

end Sys2Proof.Machine


/-! SUPPORT. The laws of a class (R135, R136), from the list of its loads. -/

namespace Sys2Proof.Claims

open Sys2Proof.Machine

/-! ## The figures of a class -/

section

variable {pool remaining c : Nat} {ws : List LoadWork}

/-- The figures that a settlement gives class `c`. -/
def classFigures (pool remaining : Nat) (ws : List LoadWork) (c : Nat) : ClassFigures :=
  figuresOf remaining ws (workedLoads pool remaining ws) c

/-- The loads of class `c`, worked. -/
def classLoads (pool remaining : Nat) (ws : List LoadWork) (c : Nat) : List LoadWork :=
  (workedLoads pool remaining ws).filter (inClass c)

theorem classLoads_outcome (small : c ≤ 3) : ClassOutcome (classStart remaining ws c) (classDemand ws c)
    (poolAt pool c (workedLoads pool remaining ws)) c (classLoads pool remaining ws c) := workedLoads_class small

theorem classFigures_demand (small : c ≤ 3) : (classFigures pool remaining ws c).demand = classDemand ws c :=
  (classLoads_outcome small).demands

theorem classFigures_state : (classFigures pool remaining ws c).state
    = classState (classStart remaining ws c) (classDemand ws c) := rfl

/-- The share of a load of the class, from the figures. -/
theorem shareIn_eq (small : c ≤ 3) {w : LoadWork} (member : w ∈ classLoads pool remaining ws c) :
    shareIn (classFigures pool remaining ws c) (classStart remaining ws c).remaining w.demand = w.share := by
  have share := (classLoads_outcome small).shares w member
  rw [share, shareIn, shareOf, classFigures_state, classFigures_demand small]
  cases classState (classStart remaining ws c) (classDemand ws c) <;> rfl

theorem classFigures_shares (small : c ≤ 3) : (classFigures pool remaining ws c).shares
    = shareSum (classStart remaining ws c) c ws := by
  have shares : (classFigures pool remaining ws c).shares
      = ((classLoads pool remaining ws c).map LoadWork.share).sum := rfl
  have worked := workedLoads_filter (pool := pool) (remaining := remaining) (ws := ws) small
  rw [shares, classLoads, worked, restoreClass_map (fun _ _ => rfl), List.map_map]
  rfl

theorem rise_eq (small : c ≤ 3) {part : List LoadWork} (within : ∀ w ∈ part, w ∈ classLoads pool remaining ws c) :
    riseSum c part = (part.map fun w => shareIn (classFigures pool remaining ws c)
      (classStart remaining ws c).remaining w.demand - w.previous).sum := by
  rw [(classLoads_outcome small).rise within]
  exact congrArg List.sum (List.map_congr_left fun w member => by rw [shareIn_eq small (within w member)])

end

/-! ## The class in the statement -/

/-- What the laws of a class read of a load: its demand, its grant before, and its grant. -/
def memberOf (m : LoadDef × LoadRec × LoadRec) : Nat × Nat × Nat :=
  (demandFor m.1 m.2.1.posted, m.2.1.previousGrant, m.2.2.grant)

/-- The same of a load as it has been worked. -/
def workMember (w : LoadWork) : Nat × Nat × Nat := (w.demand, w.previous, w.grant)

section

variable {s t : State} {pool remaining c : Nat}

theorem classMembers_works {ws : List LoadWork} (settles : Settles s t ws) :
    (classMembers s t c).map memberOf = (ws.filter (inClass c)).map workMember := by
  have drawn := filterMap_rows (s := s) (g := fun x => match slotGet t.loads x.1.1 with
      | some r' => if x.2.controlled = true ∧ r'.exempt = false ∧ r'.effClass = c then some (x.1.2, x.2, r') else none
      | none => none)
    (f := fun e => match slotGet s.loads e.1, slotGet t.loads e.1 with
      | some r, some r' => if r.controlled = true ∧ r'.exempt = false ∧ r'.effClass = c then some (e.2, r, r') else none
      | _, _ => none)
    (fun e none_ => by simp only [none_]) (fun e r found => by
      cases slotGet t.loads e.1 with
      | none => simp only [found]
      | some r' => simp only [found])
  have members : classMembers s t c = _ := drawn
  rw [members, List.map_filterMap, filter_map_filterMap]
  refine filterMap_forall₂ settles fun x w ⟨r', found, shows⟩ => ?_
  obtain ⟨_, controlled, previous, demand, _⟩ := shows.fields
  simp only [found]
  by_cases here : inClass c w = true
  · have is := (shows.inClass c).mp here
    rw [if_pos is, if_pos here, Option.map_some, memberOf, workMember, demand is.1, previous, ← shows.grant]
  · rw [if_neg fun is => here ((shows.inClass c).mpr is), if_neg here]
    rfl

variable {ws : List LoadWork} (settles : Settles s t (workedLoads pool remaining ws)) (small : c ≤ 3)

include settles

theorem members_classLoads : (classMembers s t c).map memberOf = (classLoads pool remaining ws c).map workMember :=
  classMembers_works settles

include small

/-- R136: what a class rises by. -/
theorem classRise_eq : classRise s t c (classFigures pool remaining ws c) (classStart remaining ws c).remaining
    = riseSum c (workedLoads pool remaining ws) := by
  have members := members_classLoads (c := c) settles
  have rises := rise_eq (pool := pool) (remaining := remaining) (ws := ws) small (fun w member => member)
  have sums := congrArg (fun l => (l.map fun p : Nat × Nat × Nat => shareIn (classFigures pool remaining ws c)
    (classStart remaining ws c).remaining p.1 - p.2.1).sum) members
  simp only [List.map_map] at sums
  rw [← riseSum_filter c]
  exact Eq.trans sums rises.symm

/-- R135, R136: the laws of a class. -/
theorem classLaw_of {short : Prop} (shorts : short ↔ (classStart remaining ws c).short = true) {left_ : Nat}
    (leaves : left_ = poolAt pool c (workedLoads pool remaining ws)) :
    classLaw s t c (classFigures pool remaining ws c) short (classStart remaining ws c).remaining left_ := by
  have members := members_classLoads (c := c) settles
  have outcome := classLoads_outcome (pool := pool) (remaining := remaining) (ws := ws) small
  have demand := classFigures_demand (pool := pool) (remaining := remaining) (ws := ws) small
  have sums (f : Nat × Nat × Nat → Nat) : ((classMembers s t c).map fun m => f (memberOf m)).sum
      = ((classLoads pool remaining ws c).map fun w => f (workMember w)).sum := by
    have mapped := congrArg (fun l => (l.map f).sum) members
    simp only [List.map_map] at mapped
    exact mapped
  unfold classLaw
  intro all
  refine ⟨?_, fun is => ?_, fun not => ?_, ?_, ?_, fun before m after split => ?_⟩
  · exact (sums fun p => p.1).symm
  · rw [demand, classFigures_state]
    exact if_pos (shorts.mp is)
  · rw [demand, classFigures_state]
    exact if_neg (not ∘ shorts.mpr)
  · refine Eq.trans ?_ (sums fun p => shareIn (classFigures pool remaining ws c)
      (classStart remaining ws c).remaining p.1).symm
    exact congrArg List.sum (List.map_congr_left fun w member => (shareIn_eq small member).symm)
  · exact (sums fun p => p.2.2).symm
  · intro share previous
    have rows : (classLoads pool remaining ws c).map workMember
        = before.map memberOf ++ memberOf m :: after.map memberOf := by
      rw [← members, ← List.map_cons, ← List.map_append]
      exact congrArg (List.map memberOf) split
    obtain ⟨first, rest, is, firsts, rests⟩ := List.map_eq_append_iff.mp rows
    obtain ⟨w, last, isRest, own, _⟩ := List.map_eq_cons_iff.mp rests
    subst isRest
    have member : w ∈ classLoads pool remaining ws c := by rw [is]; simp
    have within : ∀ x ∈ first, x ∈ classLoads pool remaining ws c := fun x there => by
      rw [is]
      exact List.mem_append_left _ there
    obtain ⟨falls, rises⟩ := outcome.grants first w last is
    have demandIs : demandFor m.1 m.2.1.posted = w.demand := congrArg Prod.fst own.symm
    have previousIs : previous = w.previous := congrArg (fun p => p.2.1) own.symm
    have grantIs : m.2.2.grant = w.grant := congrArg (fun p => p.2.2) own.symm
    have shareIs : share = w.share := by
      show shareIn _ _ (demandFor m.1 m.2.1.posted) = _
      rw [demandIs, shareIn_eq small member]
    have riseIs : risesOf (classFigures pool remaining ws c) (classStart remaining ws c).remaining before
        = riseSum c first := by
      have mapped := congrArg (fun l => (l.map fun p : Nat × Nat × Nat => shareIn (classFigures pool remaining ws c)
        (classStart remaining ws c).remaining p.1 - p.2.1).sum) firsts
      simp only [List.map_map] at mapped
      rw [rise_eq small within]
      exact mapped.symm
    rw [shareIs, previousIs, grantIs, riseIs, leaves]
    exact ⟨falls, rises⟩

end

end Sys2Proof.Claims


/-! SUPPORT. The totals of a settlement (R134 to R138). -/

namespace Sys2Proof.Machine

section

variable {pool remaining : Nat} {ws : List LoadWork}

theorem forall₂_right {α β : Type} {R : α → β → Prop} {xs : List α} {ys : List β} (h : List.Forall₂ R xs ys) {y : β}
    (member : y ∈ ys) : ∃ x ∈ xs, R x y := by
  induction h with
  | nil => cases member
  | cons first _ ih =>
    rcases List.mem_cons.mp member with rfl | later
    · exact ⟨_, List.mem_cons_self, first⟩
    · obtain ⟨x, there, related⟩ := ih later
      exact ⟨x, List.mem_cons_of_mem _ there, related⟩

/-- A load beyond the classes is granted nothing. -/
theorem workedLoads_beyond (fresh : ∀ w ∈ ws, w.share = 0) : ∀ w ∈ workedLoads pool remaining ws,
    inClasses w = true → 3 < w.cls → w.grant = 0 := by
  intro w member takes beyond
  obtain ⟨x, _, worked⟩ := forall₂_right (workedLoads_worked fresh) member
  rw [worked.same] at takes beyond
  exact worked.beyond takes beyond

/-- R135: the shares of all classes come to no more than is left for them. -/
theorem shareSums_le : shareSum (classStart remaining ws 0) 0 ws + shareSum (classStart remaining ws 1) 1 ws
    + shareSum (classStart remaining ws 2) 2 ws + shareSum (classStart remaining ws 3) 3 ws ≤ remaining := by
  have begins : (classStart remaining ws 0).remaining = remaining := rfl
  have next (k : Nat) := (classStart_next remaining ws k).1
  have fits (k : Nat) := (shareSum_le (ws := ws) (k := k) (classStart remaining ws k)).1
  have zero := fits 0
  have one := fits 1
  have two := fits 2
  have three := fits 3
  have first := next 0
  have second := next 1
  have third := next 2
  simp only [Nat.zero_add, Nat.reduceAdd] at first second third
  omega

/-- R135, R136: what the loads of the classes are granted. -/
theorem grants_le (fresh : ∀ w ∈ ws, w.share = 0) : ((workedLoads pool remaining ws).map fun w =>
    if inClasses w then w.grant else 0).sum ≤ remaining := by
  have each (c : Nat) (small : c ≤ 3) : (((workedLoads pool remaining ws).filter (inClass c)).map LoadWork.grant).sum
      ≤ shareSum (classStart remaining ws c) c ws := by
    have outcome := workedLoads_class (pool := pool) (remaining := remaining) (ws := ws) small
    have shares : (((workedLoads pool remaining ws).filter (inClass c)).map LoadWork.share).sum
        = shareSum (classStart remaining ws c) c ws := Claims.classFigures_shares (pool := pool) small
    rw [← shares]
    exact List.sum_le_sum fun w member => outcome.grant_le member
  have total := sum_byClass (f := LoadWork.grant) (workedLoads_beyond (pool := pool) (remaining := remaining) fresh)
  have most := shareSums_le (remaining := remaining) (ws := ws)
  have zero := each 0 (by decide)
  have one := each 1 (by decide)
  have two := each 2 (by decide)
  have three := each 3 (by decide)
  omega

/-- R136: what the classes find in the pool, each after the ones before it. -/
theorem poolAt_eq (loads : List LoadWork) : poolAt pool 0 loads = pool
    ∧ poolAt pool 1 loads = pool - riseSum 0 loads
    ∧ poolAt pool 2 loads = pool - (riseSum 0 loads + riseSum 1 loads)
    ∧ poolAt pool 3 loads = pool - (riseSum 0 loads + riseSum 1 loads + riseSum 2 loads) := by
  refine ⟨rfl, ?_, ?_, ?_⟩ <;> simp [poolAt, riseTotal, List.range_succ, Nat.add_assoc]

/-- R136: the grants rise by no more than the pool. -/
theorem rises_le (fresh : ∀ w ∈ ws, w.share = 0) : ((workedLoads pool remaining ws).map fun w =>
    if inClasses w then w.grant - w.previous else 0).sum ≤ pool := by
  have each (c : Nat) (small : c ≤ 3) :
      (((workedLoads pool remaining ws).filter (inClass c)).map fun w => w.grant - w.previous).sum
        = min (poolAt pool c (workedLoads pool remaining ws)) (riseSum c (workedLoads pool remaining ws)) := by
    rw [(workedLoads_class small).taken, riseSum_filter]
  have total := sum_byClass (f := fun w => w.grant - w.previous) fun w member takes beyond => by
    rw [workedLoads_beyond (pool := pool) (remaining := remaining) fresh w member takes beyond, Nat.zero_sub]
  rw [total, each 0 (by decide), each 1 (by decide), each 2 (by decide), each 3 (by decide)]
  obtain ⟨zero, one, two, three⟩ := poolAt_eq (pool := pool) (workedLoads pool remaining ws)
  omega

/-- R136: what is drawn from the pool. -/
theorem poolDrawn_eq : pool - (restore pool (shareAll remaining ws)).1
    = min pool (riseSum 0 (workedLoads pool remaining ws) + riseSum 1 (workedLoads pool remaining ws)
      + riseSum 2 (workedLoads pool remaining ws) + riseSum 3 (workedLoads pool remaining ws)) := by
  have left_ : (restore pool (shareAll remaining ws)).1
      = pool - riseTotal [0, 1, 2, 3] (workedLoads pool remaining ws) := by
    rw [workedLoads, restore_eq, restoreAll_left, riseTotal_restoreAll]
  have total : riseTotal [0, 1, 2, 3] (workedLoads pool remaining ws)
      = riseSum 0 (workedLoads pool remaining ws) + riseSum 1 (workedLoads pool remaining ws)
        + riseSum 2 (workedLoads pool remaining ws) + riseSum 3 (workedLoads pool remaining ws) := by
    simp only [riseTotal, List.map_cons, List.map_nil, List.sum_cons, List.sum_nil, Nat.add_zero, Nat.add_assoc]
  rw [left_, total]
  omega

/-- R138: the demand of the classes. -/
theorem demands_eq (small : ∀ w ∈ ws, w.cls ≤ 3) : ((ws.filter inClasses).map LoadWork.demand).sum
    = classDemand ws 0 + classDemand ws 1 + classDemand ws 2 + classDemand ws 3 := by
  have total := sum_byClass (f := LoadWork.demand) (ws := ws) fun w member _ beyond =>
    absurd beyond (Nat.not_lt.mpr (small w member))
  have filtered : ((ws.filter inClasses).map LoadWork.demand).sum
      = (ws.map fun w => if inClasses w then w.demand else 0).sum := by
    clear total small
    induction ws with
    | nil => rfl
    | cons w rest ih =>
      cases takes : inClasses w with
      | true => simp [takes, ih]
      | false => simp [takes, ih]
  exact filtered.trans total

end

end Sys2Proof.Machine

namespace Sys2Proof.Claims

open Sys2Proof.Machine

section

variable {s t : State} {pool remaining : Nat} {ws : List LoadWork} (fresh : ∀ w ∈ ws, w.share = 0)
  (settles : Settles s t (workedLoads pool remaining ws))

include fresh settles

theorem limitedGrants_le (config : t.config = s.config)
    (absent : ∀ k, slotGet s.loads k = none → slotGet t.loads k = none) : limitedGrants t ≤ remaining := by
  have drawn := filterMap_rows (s := s) (f := fun e => slotGet t.loads e.1) (g := fun x => slotGet t.loads x.1.1)
    (fun e none_ => absent e.1 none_) (fun _ _ _ => rfl)
  have sums : ((loadRows s).filterMap fun x => (slotGet t.loads x.1.1).map
      fun r => if isLimited r = true then r.grant else 0)
      = (workedLoads pool remaining ws).map fun w => if inClasses w then w.grant else 0 := by
    rw [← List.filterMap_eq_map]
    refine filterMap_forall₂ settles fun x w ⟨r', found, shows⟩ => ?_
    rw [found, Option.map_some, shows.limited, shows.grant]
    rfl
  rw [limitedGrants, config, drawn, List.map_filterMap, sums]
  exact grants_le fresh

theorem grantRises_le : grantRises s t ≤ pool := by
  have drawn := sum_rows (s := s) (f := fun e => match slotGet s.loads e.1, slotGet t.loads e.1 with
      | some a, some b => if a.exempt = false ∧ b.exempt = false then b.grant - a.previousGrant else 0
      | _, _ => 0)
    (g := fun x => match slotGet t.loads x.1.1 with
      | some b => if x.2.exempt = false ∧ b.exempt = false then b.grant - x.2.previousGrant else 0
      | none => 0)
    (fun e none_ => by simp only [none_]) (fun e r found => by
      cases slotGet t.loads e.1 with
      | none => simp only [found]
      | some r' => simp only [found])
  have rises : grantRises s t = _ := drawn
  refine Nat.le_trans (Nat.le_of_eq rises) (Nat.le_trans ?_ (rises_le (pool := pool) (remaining := remaining) fresh))
  refine List.Forall₂.sum_le_sum ?_
  rw [List.forall₂_map_left_iff, List.forall₂_map_right_iff]
  refine settles.imp fun x w ⟨r', found, shows⟩ => ?_
  obtain ⟨_, controlled, previous, _⟩ := shows.fields
  simp only [found]
  split
  · rename_i free
    cases on : x.2.controlled with
    | false =>
      rw [shows.grant, shows.worked.uncontrolled on, Nat.zero_sub]
      exact Nat.zero_le _
    | true =>
      have takes : inClasses w = true := by
        rw [inClasses, controlled, on, ← shows.exempt, free.2]
        rfl
      rw [if_pos takes, shows.grant, previous]
  · exact Nat.zero_le _

end

end Sys2Proof.Claims


/-! SUPPORT. The steps of a settlement (R132): what each tells, and what it leaves unchanged. -/

namespace Sys2Proof.Machine

open Sys2Proof.Claims

/-! ## The steps -/

/-- A settlement once it has told of frost, of the window and of an overrun. -/
def settledNoted (s : State) : State :=
  noteOverrun (settle s) (noteWindow (settle s) (forEach (settle s).loads noteFrost s))

/-- A settlement once the loads have their grants. -/
def settledPublished (s : State) : State := publishAll (settle s).loads (settledNoted s)

/-- A settlement once the loads have been cut. -/
def settledCut (s : State) : State := forEach ((settle s).loads.map LoadWork.number) cutLoad (settledPublished s)

/-- A settlement once the strain state has been judged. -/
def settledStrain (s : State) : State := noteStrain (settle s) (settledCut s)

theorem performSettlement_eq (s : State) : performSettlement s = { settledStrain s with
    record := recordOf s (settle s) (settledStrain s).overrun (settledStrain s).strain } := rfl

/-! ## Frost (R121) -/

/-- `t` follows `s` by notices alone. -/
def NoticesOnly (s t : State) : Prop := t = { s with notices := t.notices, lost := t.lost }

theorem NoticesOnly.trans {s t u : State} (h : NoticesOnly s t) (k : NoticesOnly t u) : NoticesOnly s u :=
  Eq.trans k (by rw [h])

theorem noteFrost_only (w : LoadWork) (s : State) : NoticesOnly s (noteFrost w s) := by
  unfold noteFrost
  split
  · split <;> rfl
  · rfl

theorem noteFrost_raises (w : LoadWork) (s : State) :
    Raises (fun n => n.kind = .frostProtection) s (noteFrost w s) := by
  unfold noteFrost
  split
  · split
    · exact .raised rfl
    · exact .refl s
  · exact .refl s

theorem noteFrost_told {w : LoadWork} {s : State} {d : LoadDef} {r : LoadRec}
    (defined : slotGet s.config.loads w.number = some d) (found : slotGet s.loads w.number = some r)
    (frost : w.reason = .frost) (begins : r.reason ≠ .frost) :
    Told ⟨.frostProtection, s.now, .load w.number, some (d.zone : Int), freshTemperature s d.zone⟩ s
      (noteFrost w s) := by
  simp only [noteFrost, defined, found]
  rw [if_pos ⟨frost, begins⟩]
  exact told_raise _ _ _ _ s

/-- A notice that one item tells of is told of by the loop. -/
theorem forEach_told {α : Type} {f : α → State → State} {P : Notice → Prop} {I : State → Prop} {n : Notice} {x : α}
    {items : List α} (member : x ∈ items) (keeps : ∀ y s, I s → I (f y s)) (raises : ∀ y s, Raises P s (f y s))
    (tells : ∀ s, I s → Told n s (f x s)) {s : State} (holds : I s) : Told n s (forEach items f s) := by
  obtain ⟨before, after, rfl⟩ := List.append_of_mem member
  rw [forEach_append, forEach_cons]
  exact (tells _ (forEach_keeps (fun y _ u => keeps y u) holds)).within (.each raises before s) (raises x _)
    (.each raises after _)

theorem noteFrosts_only (ws : List LoadWork) (s : State) : NoticesOnly s (forEach ws noteFrost s) :=
  forEach_related (R := NoticesOnly) (fun _ => rfl) (fun h k => h.trans k) noteFrost noteFrost_only ws s

/-! ## The window (R129) -/

section

variable (x : Settled) (s : State)

theorem noteWindow_frame : noteWindow x s = { s with
    window := (noteWindow x s).window, notices := (noteWindow x s).notices, lost := (noteWindow x s).lost } := by
  unfold noteWindow
  split
  · rfl
  · split <;> rfl

theorem noteWindow_raises : Raises (fun n => n.kind = .windowLimited) s (noteWindow x s) := by
  unfold noteWindow
  split
  · exact .refl s
  · rename_i w _
    split
    · exact Raises.trans (t := { s with window := some { w with limitedReported := true } }) (.of_same rfl rfl)
        (.raised rfl)
    · exact .refl s

theorem noteWindow_begins {w : DemandWindow} (open_ : s.window = some w)
    (begins : capSource x.caps = .window ∧ w.limitedReported = false) :
    (noteWindow x s).window = some { w with limitedReported := true }
    ∧ Told ⟨.windowLimited, s.now, .none, x.caps.window.map fun c => (c : Int),
      quantity (secondsRemaining s w)⟩ s (noteWindow x s) := by
  have step : noteWindow x s = raise .windowLimited .none (x.caps.window.map fun c => (c : Int))
      (quantity (secondsRemaining s w)) { s with window := some { w with limitedReported := true } } := by
    simp only [noteWindow, open_]
    rw [if_pos begins]
  rw [step]
  exact ⟨rfl, told_raise .windowLimited .none _ _ { s with window := some { w with limitedReported := true } }⟩

theorem noteWindow_still (still : ∀ w, s.window = some w → ¬ (capSource x.caps = .window ∧ w.limitedReported = false)) :
    noteWindow x s = s := by
  unfold noteWindow
  split
  · rfl
  · rename_i w open_
    rw [if_neg (still w open_)]

/-! ## The overrun (R134) -/

theorem noteOverrun_frame : noteOverrun x s = { s with
    overrun := decide (x.available < x.exemptTotal)
    notices := (noteOverrun x s).notices, lost := (noteOverrun x s).lost } := by
  unfold noteOverrun
  dsimp only
  split <;> rfl

theorem noteOverrun_raises : Raises (fun n => n.kind = .supplyOverrun) s (noteOverrun x s) := by
  unfold noteOverrun
  dsimp only
  split
  · exact Raises.trans (t := { s with overrun := decide (x.available < x.exemptTotal) }) (.of_same rfl rfl)
      (.raised rfl)
  · exact .of_same rfl rfl

theorem noteOverrun_begins (over_ : x.available < x.exemptTotal) (was : s.overrun = false) :
    Told ⟨.supplyOverrun, s.now, .none, quantity x.exemptTotal, quantity x.available⟩ s (noteOverrun x s) := by
  unfold noteOverrun
  dsimp only
  rw [if_pos (by simp [over_, was])]
  exact told_raise .supplyOverrun .none _ _ { s with overrun := decide (x.available < x.exemptTotal) }

theorem noteOverrun_still (still : ¬ x.available < x.exemptTotal ∨ s.overrun = true) :
    Raises (fun _ => False) s (noteOverrun x s) := by
  unfold noteOverrun
  dsimp only
  rw [if_neg (by rcases still with fits | was <;> simp [*])]
  exact .of_same rfl rfl

end

/-! ## The publication and the cuts (R137, R156, R170) -/

theorem publishAll_frame (ws : List LoadWork) (s : State) :
    publishAll ws s = { s with loads := (publishAll ws s).loads } :=
  forEach_related (R := fun s t => t = { s with loads := t.loads }) (fun _ => rfl) (fun h k => k.trans (by rw [h]))
    _ (fun _ _ => rfl) ws s

theorem publishAll_other {ws : List LoadWork} {k : Nat} (out : k ∉ ws.map LoadWork.number) (s : State) :
    slotGet (publishAll ws s).loads k = slotGet s.loads k := by
  induction ws generalizing s with
  | nil => rfl
  | cons w rest ih =>
    rw [List.map_cons] at out
    exact (ih (List.not_mem_of_not_mem_cons out) _).trans (changeLoad_other (List.ne_of_not_mem_cons out) _ s)

theorem publishAll_found {ws : List LoadWork} (nodup : (ws.map LoadWork.number).Nodup) {w : LoadWork}
    (member : w ∈ ws) {s : State} {r : LoadRec} (found : slotGet s.loads w.number = some r) :
    slotGet (publishAll ws s).loads w.number = some (publishLoad w r) := by
  induction ws generalizing s with
  | nil => cases member
  | cons x rest ih =>
    obtain ⟨once, others⟩ := List.nodup_cons.mp nodup
    rcases List.mem_cons.mp member with rfl | later
    · exact (publishAll_other once _).trans (slotGet_slotChange_same found)
    · have differs : w.number ≠ x.number := fun same => once (same ▸ List.mem_map_of_mem later)
      exact ih others later ((changeLoad_other differs _ s).trans found)

/-- R156, R170: the record of a load that takes a publication. -/
def cutRecord (now minDim : Nat) (d : LoadDef) (r : LoadRec) : LoadRec :=
  if isLimited r = true ∧ r.grantFraction < r.applied then
    afterCheck now { r with
      applied := cutFraction minDim d r.grantFraction, goal := cutFraction minDim d r.grantFraction }
  else r

theorem cutLoad_own {s : State} {k : Nat} {d : LoadDef} {r : LoadRec} (defined : slotGet s.config.loads k = some d)
    (found : slotGet s.loads k = some r) :
    slotGet (cutLoad k s).loads k = some (cutRecord s.now s.config.lighting.minDim d r) := by
  simp only [cutLoad, defined, found, Bool.and_eq_true, decide_eq_true_eq]
  unfold cutRecord
  split
  · exact checkCommand_changed defined found _
  · exact found

theorem cutLoad_other {s : State} {j k : Nat} (differs : j ≠ k) :
    slotGet (cutLoad j s).loads k = slotGet s.loads k := by
  unfold cutLoad
  split
  · dsimp only
    split
    · exact checkedChange_other differs.symm _ s
    · rfl
  · rfl

theorem cutLoad_raises (k : Nat) (s : State) : Raises FieldNotice s (cutLoad k s) := by
  unfold cutLoad
  split
  · dsimp only
    split
    · exact Raises.trans (t := changeLoad k _ s) (.of_same rfl rfl)
        ((reportsClosed_raises fun _ h => h).checkCommand k _)
    · exact .refl s
  · exact .refl s

/-! ## The strain state (R138) -/

section

variable (x : Settled) (s : State)

theorem switchStrain_loads (on : Bool) : (switchStrain on s).loads = s.loads :=
  forEach_related (R := fun s t => t.loads = s.loads) (fun _ => rfl) (fun h k => k.trans h) (switchStrainOut on)
    (fun t s => by
      have := driven_side t (if on then 1 else 0) (changeTerminal t (fun r => { r with relayClosed := on }) s)
      rw [switchStrainOut, this.frame]
      rfl) _ s

theorem noteStrain_same (same : strainAfter s.config.budget s.strain x.demand x.remaining = s.strain) :
    noteStrain x s = s := by
  unfold noteStrain
  dsimp only
  rw [if_pos same]

theorem noteStrain_changes (changes : strainAfter s.config.budget s.strain x.demand x.remaining ≠ s.strain) :
    noteStrain x s = switchStrain (strainAfter s.config.budget s.strain x.demand x.remaining)
      (raise (if strainAfter s.config.budget s.strain x.demand x.remaining then .strainBegin else .strainEnd) .none
        (quantity x.demand) (quantity x.remaining)
        { s with strain := strainAfter s.config.budget s.strain x.demand x.remaining }) := by
  unfold noteStrain
  dsimp only
  rw [if_neg changes]

theorem noteStrain_loads : (noteStrain x s).loads = s.loads := by
  by_cases same : strainAfter s.config.budget s.strain x.demand x.remaining = s.strain
  · rw [noteStrain_same x s same]
  · rw [noteStrain_changes x s same, switchStrain_loads]
    rfl

theorem noteStrain_strain : (noteStrain x s).strain = strainAfter s.config.budget s.strain x.demand x.remaining := by
  by_cases same : strainAfter s.config.budget s.strain x.demand x.remaining = s.strain
  · rw [noteStrain_same x s same, same]
  · rw [noteStrain_changes x s same, (switchStrain_side _ _).frame]
    rfl

theorem noteStrain_told (changes : strainAfter s.config.budget s.strain x.demand x.remaining ≠ s.strain) :
    Told ⟨if strainAfter s.config.budget s.strain x.demand x.remaining then .strainBegin else .strainEnd, s.now, .none,
      quantity x.demand, quantity x.remaining⟩ s (noteStrain x s) := by
  rw [noteStrain_changes x s changes]
  have told := told_raise (if strainAfter s.config.budget s.strain x.demand x.remaining then .strainBegin
    else .strainEnd) .none (quantity x.demand) (quantity x.remaining)
    { s with strain := strainAfter s.config.budget s.strain x.demand x.remaining }
  exact Told.after (P := fun _ => True) (Q := FieldNotice) told (.raised trivial)
    ((reportsClosed_raises fun _ h => h).switchStrain _ _)

theorem noteStrain_raises : Raises (fun n => FieldNotice n ∨ n.kind = .strainBegin ∨ n.kind = .strainEnd) s
    (noteStrain x s) := by
  by_cases same : strainAfter s.config.budget s.strain x.demand x.remaining = s.strain
  · rw [noteStrain_same x s same]
    exact .refl s
  · rw [noteStrain_changes x s same]
    have begun : Raises (fun n => FieldNotice n ∨ n.kind = .strainBegin ∨ n.kind = .strainEnd) s
        (raise (if strainAfter s.config.budget s.strain x.demand x.remaining then .strainBegin else .strainEnd) .none
          (quantity x.demand) (quantity x.remaining)
          { s with strain := strainAfter s.config.budget s.strain x.demand x.remaining }) := by
      refine Raises.trans (t := { s with strain := strainAfter s.config.budget s.strain x.demand x.remaining })
        (.of_same rfl rfl) (.raised (.inr ?_))
      cases strainAfter s.config.budget s.strain x.demand x.remaining
      · exact .inr rfl
      · exact .inl rfl
    exact begun.trans ((reportsClosed_raises (P := fun n => FieldNotice n ∨ n.kind = .strainBegin
      ∨ n.kind = .strainEnd) fun _ h => .inl h).switchStrain _ _)

end

end Sys2Proof.Machine


/-! SUPPORT. What a settlement leaves of the state, and what it makes of each load (R132, R137, R156, R170). -/

namespace Sys2Proof.Machine

open Sys2Proof.Claims

/-! ## The state after a settlement -/

/-- R132: the state that a settlement reaches. -/
def settled (s : State) : State :=
  grantLines { performSettlement s with settleAt := s.now + s.config.settlementPeriod * 1000 }

section

variable (s : State)

theorem settledNoted_frame : settledNoted s = { s with
    window := (settledNoted s).window, overrun := (settledNoted s).overrun
    notices := (settledNoted s).notices, lost := (settledNoted s).lost } := by
  rw [settledNoted, noteOverrun_frame, noteWindow_frame, noteFrosts_only]

theorem settledPublished_frame : settledPublished s = { s with
    window := (settledNoted s).window, overrun := (settledNoted s).overrun
    notices := (settledNoted s).notices, lost := (settledNoted s).lost
    loads := (settledPublished s).loads } := by
  rw [settledPublished, publishAll_frame, settledNoted_frame]

theorem settledCut_side : LoadSide (settledPublished s) (settledCut s) :=
  forEach_related .refl .trans _ cutLoad_side _ _

theorem settledCut_config : (settledCut s).config = s.config := by
  rw [(settledCut_side s).config, settledPublished_frame]

theorem noteStrain_frame (x : Settled) (s : State) : noteStrain x s = { s with
    strain := (noteStrain x s).strain
    presence := (noteStrain x s).presence, zones := (noteStrain x s).zones
    fullReported := (noteStrain x s).fullReported, evictedDoors := (noteStrain x s).evictedDoors
    notices := (noteStrain x s).notices, lost := (noteStrain x s).lost
    doors := (noteStrain x s).doors, points := (noteStrain x s).points, terminals := (noteStrain x s).terminals
    loads := (noteStrain x s).loads, lineA := (noteStrain x s).lineA, lineB := (noteStrain x s).lineB } := by
  by_cases same : strainAfter s.config.budget s.strain x.demand x.remaining = s.strain
  · rw [noteStrain_same x s same]
  · rw [noteStrain_changes x s same, (switchStrain_side _ _).frame]
    rfl

theorem settledCut_frame : settledCut s = { s with
    window := (settledNoted s).window, overrun := (settledNoted s).overrun
    notices := (settledCut s).notices, lost := (settledCut s).lost, loads := (settledCut s).loads
    lineA := (settledCut s).lineA, lineB := (settledCut s).lineB, terminals := (settledCut s).terminals
    points := (settledCut s).points, doors := (settledCut s).doors, zones := (settledCut s).zones
    presence := (settledCut s).presence, fullReported := (settledCut s).fullReported
    evictedDoors := (settledCut s).evictedDoors } :=
  (settledCut_side s).frame.trans (by rw [settledPublished_frame])

theorem settledStrain_frame : settledStrain s = { s with
    window := (settledNoted s).window, overrun := (settledNoted s).overrun, strain := (settledStrain s).strain
    notices := (settledStrain s).notices, lost := (settledStrain s).lost, loads := (settledStrain s).loads
    lineA := (settledStrain s).lineA, lineB := (settledStrain s).lineB, terminals := (settledStrain s).terminals
    points := (settledStrain s).points, doors := (settledStrain s).doors, zones := (settledStrain s).zones
    presence := (settledStrain s).presence, fullReported := (settledStrain s).fullReported
    evictedDoors := (settledStrain s).evictedDoors } := by
  have frame := noteStrain_frame (settle s) (settledCut s)
  rw [← settledStrain] at frame
  exact frame.trans (by rw [settledCut_frame])

theorem settled_eq : settled s = { settledStrain s with
    settleAt := s.now + s.config.settlementPeriod * 1000
    record := recordOf s (settle s) (settledStrain s).overrun (settledStrain s).strain
    lineA := (settled s).lineA, lineB := (settled s).lineB } := by
  rw [settled, performSettlement_eq]
  generalize settledStrain s = v
  rfl

theorem settled_frame : settled s = { s with
    settleAt := s.now + s.config.settlementPeriod * 1000
    record := recordOf s (settle s) (settledNoted s).overrun (settledStrain s).strain
    loads := (settledCut s).loads, window := (settledNoted s).window
    overrun := (settledNoted s).overrun, strain := (settledStrain s).strain
    notices := (settledStrain s).notices, lost := (settledStrain s).lost
    lineA := (settled s).lineA, lineB := (settled s).lineB
    terminals := (settledStrain s).terminals, points := (settledStrain s).points, doors := (settledStrain s).doors
    zones := (settledStrain s).zones, presence := (settledStrain s).presence
    fullReported := (settledStrain s).fullReported, evictedDoors := (settledStrain s).evictedDoors } := by
  have loads : (settledStrain s).loads = (settledCut s).loads := noteStrain_loads (settle s) (settledCut s)
  have overrun : (settledStrain s).overrun = (settledNoted s).overrun := by rw [settledStrain_frame]
  refine (settled_eq s).trans ?_
  rw [← loads, ← overrun]
  have frame := settledStrain_frame s
  generalize settledStrain s = v at frame ⊢
  exact frame ▸ rfl

theorem settled_loads : (settled s).loads = (settledCut s).loads := by rw [settled_frame]

/-! ## The loads -/

/-- The loads as the settlement works them. -/
def settledWorks : List LoadWork := workedLoads s.config.budget.restore (settle s).remaining (settlementLoads s)

theorem settle_loads : (settle s).loads = settledWorks s := rfl

theorem settledWorks_worked : List.Forall₂ (fun x w => Worked (workOf s x.1.1 x.1.2 x.2) w) (loadRows s)
    (settledWorks s) := by
  have worked := workedLoads_worked (pool := s.config.budget.restore) (remaining := (settle s).remaining)
    (settlementLoads_fresh s)
  rw [← settledWorks, settlementLoads_eq, List.forall₂_map_left_iff] at worked
  exact worked

theorem settledWorks_numbers : (settledWorks s).map LoadWork.number = (loadRows s).map fun x => x.1.1 :=
  (map_forall₂ (settledWorks_worked s) fun x w worked => by rw [worked.same]; rfl).symm

theorem loadRows_sublist : ((loadRows s).map fun x => x.1).Sublist s.config.loads := by
  unfold loadRows
  induction s.config.loads with
  | nil => exact .slnil
  | cons e rest ih =>
    cases found : slotGet s.loads e.1 with
    | none =>
      rw [List.filterMap_cons_none (by rw [found]; rfl)]
      exact ih.cons e
    | some r =>
      rw [List.filterMap_cons_some (b := (e, r)) (by rw [found]; rfl)]
      exact ih.cons_cons e

theorem settledWorks_nodup (ordered : slotWf s.config.loads = true) :
    ((settledWorks s).map LoadWork.number).Nodup := by
  have numbers : (settledWorks s).map LoadWork.number = ((loadRows s).map fun x => x.1).map Prod.fst := by
    rw [settledWorks_numbers, List.map_map]
    rfl
  rw [numbers]
  exact (slotWf_nodup ordered).sublist ((loadRows_sublist s).map Prod.fst)

end

section

variable {s : State} (ordered : slotWf s.config.loads = true)

include ordered

/-- R137, R156, R170: the record of a load after a settlement. -/
theorem settled_load {x : (Nat × LoadDef) × LoadRec} (row : x ∈ loadRows s) {w : LoadWork}
    (member : w ∈ settledWorks s) (worked : Worked (workOf s x.1.1 x.1.2 x.2) w) :
    slotGet (settled s).loads x.1.1
      = some (cutRecord s.now s.config.lighting.minDim x.1.2 (publishLoad w x.2)) := by
  obtain ⟨listed, found⟩ := mem_loadRows.mp row
  have number : w.number = x.1.1 := by rw [worked.same]; rfl
  have defined : slotGet s.config.loads x.1.1 = some x.1.2 := slotGet_of_mem ordered listed
  have published : slotGet (settledPublished s).loads x.1.1 = some (publishLoad w x.2) := by
    rw [← number]
    refine publishAll_found (settledWorks_nodup s ordered) member ?_
    rw [settledNoted_frame, number]
    exact found
  obtain ⟨u, reads, same, made⟩ := (forEach_once (table := State.loads) (I := LoadSide (settledPublished s))
    (k := x.1.1) (settledWorks_nodup s ordered) (fun j _ v h => h.trans (cutLoad_side j v))
    (fun j _ v _ differs => cutLoad_other differs) (.refl _)).2
    (number ▸ List.mem_map_of_mem member)
  have now : u.now = s.now := by rw [reads.now, settledPublished_frame]
  have config : u.config = s.config := by rw [reads.config, settledPublished_frame]
  rw [settled_loads, settledCut, settle_loads, made,
    cutLoad_own (config ▸ defined) (same.trans published), now, config]

end

end Sys2Proof.Machine


/-! SUPPORT. What a settlement makes of each load: its record shows what has been worked for it (R120, R121, R133 to
R137). -/

namespace Sys2Proof.Machine

open Sys2Proof.Claims

/-! ## The publication and the cut of a record -/

theorem cutRecord_fields (now minDim : Nat) (d : LoadDef) (r : LoadRec) : cutRecord now minDim d r = { r with
    applied := (cutRecord now minDim d r).applied, goal := (cutRecord now minDim d r).goal
    lastCommand := (cutRecord now minDim d r).lastCommand, refreshAt := (cutRecord now minDim d r).refreshAt } := by
  unfold cutRecord
  split
  · rw [afterCheck_fields]
  · rfl

theorem cutFraction_eq (minDim : Nat) (d : LoadDef) (fraction : Nat) : cutFraction minDim d fraction
    = if d.drive = .step then (if fraction = 1000 then 1000 else 0)
      else if d.kind = .light ∧ fraction < minDim then 0 else fraction := by
  unfold cutFraction
  cases d.drive <;> rfl

theorem cutRecord_published (now minDim : Nat) {d : LoadDef} {w : LoadWork} (rating : w.rating = d.rating)
    (r : LoadRec) : publishedLoad now minDim d r (cutRecord now minDim d (publishLoad w r)) := by
  have only := cutRecord_fields now minDim d (publishLoad w r)
  have fraction : grantFractionOf w = w.grant * 1000 / d.rating := by rw [grantFractionOf, rating]
  have cuts (h : isLimited (publishLoad w r) = true ∧ (publishLoad w r).grantFraction < r.applied) :
      cutRecord now minDim d (publishLoad w r) = afterCheck now { publishLoad w r with
        applied := cutFraction minDim d (grantFractionOf w), goal := cutFraction minDim d (grantFractionOf w) } :=
    if_pos h
  have stays (h : ¬ (isLimited (publishLoad w r) = true ∧ (publishLoad w r).grantFraction < r.applied)) :
      cutRecord now minDim d (publishLoad w r) = publishLoad w r := if_neg h
  generalize cutRecord now minDim d (publishLoad w r) = r' at only cuts stays ⊢
  have limited : isLimited r' = isLimited (publishLoad w r) := by rw [only]; rfl
  have grants : r'.grantFraction = grantFractionOf w := by rw [only]; rfl
  unfold publishedLoad
  intro cut
  have cutIs : cut ↔ isLimited (publishLoad w r) = true ∧ (publishLoad w r).grantFraction < r.applied := by
    show isLimited r' = true ∧ r'.grantFraction < r.applied ↔ _
    rw [limited, grants]
    rfl
  refine ⟨by rw [only]; rfl, ?_, fun not => ?_, fun is => ?_, by rw [only]; rfl⟩
  · rw [grants, fraction, only]
    rfl
  · rw [stays (not ∘ cutIs.mpr)]
    exact ⟨rfl, rfl, rfl, rfl⟩
  · have made := cuts (cutIs.mp is)
    have applied : r'.applied = cutFraction minDim d (grantFractionOf w) := by rw [made, afterCheck_fields]
    have goal : r'.goal = cutFraction minDim d (grantFractionOf w) := by rw [made, afterCheck_fields]
    refine ⟨?_, goal.trans applied.symm, ?_⟩
    · rw [applied, grants, cutFraction_eq]
    · rw [made]
      exact afterCheck_checked rfl rfl

/-! ## The loads show what has been worked -/

theorem forall₂_members {α β : Type} {R : α → β → Prop} {xs : List α} {ys : List β} (h : List.Forall₂ R xs ys) :
    List.Forall₂ (fun x y => x ∈ xs ∧ y ∈ ys ∧ R x y) xs ys := by
  induction h with
  | nil => exact .nil
  | cons first _ ih =>
    exact .cons ⟨List.mem_cons_self, List.mem_cons_self, first⟩ (ih.imp fun x y ⟨there, other, related⟩ =>
      ⟨List.mem_cons_of_mem _ there, List.mem_cons_of_mem _ other, related⟩)

theorem cutRecord_shows {s : State} {x : (Nat × LoadDef) × LoadRec} {w : LoadWork}
    (worked : Worked (workOf s x.1.1 x.1.2 x.2) w) (now minDim : Nat) :
    Shows s x.1 x.2 w (cutRecord now minDim x.1.2 (publishLoad w x.2)) := by
  have only := cutRecord_fields now minDim x.1.2 (publishLoad w x.2)
  generalize cutRecord now minDim x.1.2 (publishLoad w x.2) = r' at only ⊢
  rw [only]
  exact ⟨worked, rfl, rfl, rfl, rfl, rfl, rfl⟩

section

variable {s : State} (ordered : slotWf s.config.loads = true)

include ordered

theorem settled_settles : Settles s (settled s) (settledWorks s) :=
  (forall₂_members (settledWorks_worked s)).imp fun _ _ ⟨row, member, worked⟩ =>
    ⟨_, settled_load ordered row member worked, cutRecord_shows worked _ _⟩

/-- What a settlement makes of one load. -/
theorem settled_found {k : Nat} {d : LoadDef} {r : LoadRec} (defined : slotGet s.config.loads k = some d)
    (found : slotGet s.loads k = some r) : ∃ w ∈ settledWorks s, ∃ r', slotGet (settled s).loads k = some r'
      ∧ Shows s (k, d) r w r' ∧ publishedLoad s.now s.config.lighting.minDim d r r' := by
  have row : ((k, d), r) ∈ loadRows s := mem_loadRows.mpr ⟨slotGet_mem _ _ _ defined, found⟩
  obtain ⟨w, member, worked⟩ := forall₂_left (settledWorks_worked s) row
  have shows_ := cutRecord_shows worked s.now s.config.lighting.minDim
  exact ⟨w, member, _, settled_load ordered row member worked, shows_,
    cutRecord_published _ _ shows_.fields.2.2.2.2.2.1 r⟩

end

theorem settled_absent {s : State} {k : Nat} (absent : slotGet s.loads k = none) :
    slotGet (settled s).loads k = none := by
  have numbers : slotNumbers (settled s).loads = slotNumbers s.loads := by
    rw [settled_loads, (settledCut_side s).loadNumbers, settledPublished, (publishAll_side _ _).loadNumbers,
      settledNoted_frame]
  rw [slotGet_none_iff] at absent ⊢
  intro e member same
  have listed : k ∈ slotNumbers s.loads := numbers ▸ same ▸ List.mem_map_of_mem member
  obtain ⟨x, there, is⟩ := List.mem_map.mp listed
  exact absent x there is

end Sys2Proof.Machine

namespace Sys2Proof.Claims

open Sys2Proof.Machine

/-! ## Class and exemption (R120, R121) -/

section

variable (s : State) (d : LoadDef)

theorem effectiveClass_law : classAt s d (effectiveClass s d) := by
  unfold classAt
  intro closed warmed
  have warm : preconditioned s d.zone = true ↔ warmed := preconditioned_iff
  have shut : ((slotGet s.zones d.zone).any fun r => r.state == .closed) = true ↔ closed := by
    show _ ↔ ∃ zr, slotGet s.zones d.zone = some zr ∧ zr.state = .closed
    cases slotGet s.zones d.zone <;> simp
  have demoted : isDemoted s d.zone = true ↔ closed ∧ ¬ warmed := by
    rw [isDemoted, Bool.and_eq_true, shut, ← warm, Bool.not_eq_true', Bool.not_eq_true]
  refine ⟨fun is cold => if_pos (demoted.mpr ⟨is, cold⟩), fun out => if_neg fun is => ?_⟩
  obtain ⟨is, cold⟩ := demoted.mp is
  rcases out with open_ | warm
  · exact open_ is
  · exact cold warm

theorem freshTemperature_iff {s : State} {z : Nat} {v : Int} :
    freshTemperature s z = some v ↔ zoneTemperature s z v := by
  unfold freshTemperature zoneTemperature
  simp only [Option.bind_eq_some_iff, Option.ite_none_right_eq_some, Option.map_eq_some_iff]
  constructor
  · rintro ⟨p, ⟨zd, zone, point⟩, q, found, fresh, raw, value, rfl⟩
    exact ⟨zd, p, q, raw, zone, point, found, fresh, value, rfl⟩
  · rintro ⟨zd, p, q, raw, zone, point, found, fresh, value, rfl⟩
    exact ⟨p, ⟨zd, zone, point⟩, q, found, fresh, raw, value, rfl⟩

theorem isFrosty_iff {s : State} {z : Nat} : isFrosty s z = true ↔ ∃ v, zoneTemperature s z v ∧ v < 50 := by
  simp only [← freshTemperature_iff, isFrosty, Option.any_eq_true]
  exact exists_congr fun v => and_congr_right fun _ => decide_eq_true_iff

theorem exemptReason_law : exemptionLaw s d (exemptReason s d) := by
  unfold exemptionLaw
  intro vent emergency purge frost
  have emergencyIs : (s.mode == .emergency && emergencyExempt s.config.climate.vent d.kind) = true ↔ emergency := by
    rw [Bool.and_eq_true, beq_iff_eq]
    show _ ↔ s.mode = .emergency ∧ (d.kind = .light ∨ (d.kind = .exhaustFan ∧ s.config.climate.vent = .extract))
    cases d.kind <;> simp [emergencyExempt]
  have purgeIs : (isFan d.kind && inPurge s d.zone && !(s.mode == .emergency && s.config.climate.vent == .stop)) = true
      ↔ purge := by
    show _ ↔ (d.kind = .exhaustFan ∨ d.kind = .supplyFan)
      ∧ (∃ c, slotGet s.climate d.zone = some c ∧ c.stage = 4) ∧ ¬ (s.mode = .emergency ∧ s.config.climate.vent = .stop)
    have fan : isFan d.kind = true ↔ d.kind = .exhaustFan ∨ d.kind = .supplyFan := by cases d.kind <;> simp [isFan]
    have stage : inPurge s d.zone = true ↔ ∃ c, slotGet s.climate d.zone = some c ∧ c.stage = 4 := by
      unfold inPurge
      cases slotGet s.climate d.zone <;> simp
    rw [Bool.and_eq_true, Bool.and_eq_true, fan, stage, and_assoc, Bool.not_eq_true', ← Bool.not_eq_true,
      Bool.and_eq_true, beq_iff_eq, beq_iff_eq]
  have frostIs : (d.kind == .heater && isFrosty s d.zone) = true ↔ frost := by
    rw [Bool.and_eq_true, beq_iff_eq, isFrosty_iff]
  refine ⟨fun is => if_pos (emergencyIs.mpr is), fun calm is => ?_, fun calm off is => ?_, fun calm off mild => ?_⟩
  · exact (if_neg (calm ∘ emergencyIs.mp)).trans (if_pos (purgeIs.mpr is))
  · exact (if_neg (calm ∘ emergencyIs.mp)).trans ((if_neg (off ∘ purgeIs.mp)).trans (if_pos (frostIs.mpr is)))
  · exact (if_neg (calm ∘ emergencyIs.mp)).trans ((if_neg (off ∘ purgeIs.mp)).trans (if_neg (mild ∘ frostIs.mp)))

/-- Where the reason is FROST, the zone has a FRESH temperature. -/
theorem exemptReason_frost {s : State} {d : LoadDef} (frost : exemptReason s d = .frost) :
    ∃ v, freshTemperature s d.zone = some v := by
  unfold exemptReason at frost
  dsimp only at frost
  split at frost
  · cases frost
  split at frost
  · cases frost
  split at frost
  · rename_i _ _ cold
    obtain ⟨v, fresh, _⟩ := isFrosty_iff.mp (Bool.and_eq_true_iff.mp cold).2
    exact ⟨v, freshTemperature_iff.mpr fresh⟩
  · cases frost

end

end Sys2Proof.Claims


/-! SUPPORT. The terminals and the notices of a settlement (R65, R121, R129, R134, R138). -/

namespace Sys2Proof.Machine

open Sys2Proof.Claims

/-! ## The terminals (R64, R65) -/

theorem functionOf_listed {c : RunningConfig} {n : Nat} {f : TermFunction} (is : functionOf c n = f)
    (used : f ≠ .unused) : (n, f) ∈ c.functions := by
  unfold functionOf at is
  cases found : slotGet c.functions n with
  | none => exact absurd (by simpa [found] using is.symm) used
  | some g =>
    rw [found, Option.getD_some] at is
    exact slotGet_mem _ _ _ (is ▸ found)

theorem switchStrainOut_terminals (on : Bool) (t : Nat) (s : State) : (switchStrainOut on t s).terminals
    = slotChange (fun r => { r with relayClosed := on }) s.terminals t := by
  rw [switchStrainOut, driven, deliverTerminal_terminals]
  rfl

theorem switchStrain_own {s : State} {n : Nat} {x : TermRec} (on : Bool) (strain : functionOf s.config n = .strainOut)
    (found : slotGet s.terminals n = some x) :
    slotGet (switchStrain on s).terminals n = some { x with relayClosed := on } := by
  have listed : n ∈ terminalsOf s.config isStrainOut :=
    (mem_slotsWhere _ _ _).mpr ⟨_, functionOf_listed strain (by decide), rfl⟩
  have loop := forEach_table (table := State.terminals) (I := fun _ => True) (f := switchStrainOut on)
    (g := fun _ r => { r with relayClosed := on }) (fun _ _ _ => trivial)
    (fun k u r _ there => by rw [switchStrainOut_terminals, slotGet_slotChange_same there])
    (fun k j u _ apart => by rw [switchStrainOut_terminals, slotGet_slotChange_ne apart]) (fun _ _ => rfl)
    (terminalsOf s.config isStrainOut) trivial found
  rwa [if_pos listed] at loop

theorem switchStrain_other {s : State} {n : Nat} (on : Bool)
    (out : ∀ e ∈ s.config.functions, e.1 = n → e.2 ≠ .strainOut) :
    slotGet (switchStrain on s).terminals n = slotGet s.terminals n := by
  refine forEach_keeps (P := fun u => slotGet u.terminals n = slotGet s.terminals n) (fun t member u same => ?_) rfl
  obtain ⟨f, listed, strain⟩ := (mem_slotsWhere _ _ _).mp member
  have apart : n ≠ t := fun is => by
    cases f <;> cases strain
    exact out _ listed is.symm rfl
  rw [switchStrainOut_terminals, slotGet_slotChange_ne apart, same]

section

variable {c : RunningConfig} {n : Nat} (relay : functionOf c n ≠ .relayOut) (dim : functionOf c n ≠ .dimOut)

include relay dim

theorem cutLoad_terminal (k : Nat) {s : State} (config : s.config = c) :
    slotGet (cutLoad k s).terminals n = slotGet s.terminals n := by
  unfold cutLoad
  split
  · dsimp only
    split
    · unfold checkCommand
      split
      · exact issueCommand_terminal_kept relay dim k (by exact config)
      · rfl
    · rfl
  · rfl

end

section

variable {s : State} {n : Nat}

/-- R156, R170: the cuts change no terminal of another function than the two of R64. -/
theorem settledCut_terminal (relay : functionOf s.config n ≠ .relayOut) (dim : functionOf s.config n ≠ .dimOut) :
    slotGet (settledCut s).terminals n = slotGet s.terminals n := by
  have start : (settledPublished s).terminals = s.terminals ∧ (settledPublished s).config = s.config := by
    rw [settledPublished_frame]
    exact ⟨rfl, rfl⟩
  have kept := forEach_keeps (f := cutLoad) (P := fun u => u.config = s.config
      ∧ slotGet u.terminals n = slotGet s.terminals n) (items := (settle s).loads.map LoadWork.number)
    (fun k _ u ⟨config, same⟩ => ⟨(cutLoad_side k u).config.trans config,
      (cutLoad_terminal relay dim k config).trans same⟩) ⟨start.2, by rw [start.1]⟩
  exact kept.2

theorem settledCut_strain : (settledCut s).strain = s.strain := by rw [settledCut_frame]

theorem settledStrain_strain : (settledStrain s).strain
    = strainAfter s.config.budget s.strain (settle s).demand (settle s).remaining := by
  rw [settledStrain, noteStrain_strain, settledCut_config, settledCut_strain]

end

/-! ## The strain outputs (R138) -/

section

variable (x : Settled) {s : State} {n : Nat}

theorem noteStrain_own {r : TermRec} (strain : functionOf s.config n = .strainOut)
    (found : slotGet s.terminals n = some r) : slotGet (noteStrain x s).terminals n = some { r with
      relayClosed := if (noteStrain x s).strain = s.strain then r.relayClosed else (noteStrain x s).strain } := by
  rw [noteStrain_strain]
  by_cases same : strainAfter s.config.budget s.strain x.demand x.remaining = s.strain
  · rw [noteStrain_same x s same, if_pos same, found]
  · rw [noteStrain_changes x s same, if_neg same]
    exact switchStrain_own _ (by exact strain) (by exact found)

theorem noteStrain_other (out : ∀ e ∈ s.config.functions, e.1 = n → e.2 ≠ .strainOut) :
    slotGet (noteStrain x s).terminals n = slotGet s.terminals n := by
  by_cases same : strainAfter s.config.budget s.strain x.demand x.remaining = s.strain
  · rw [noteStrain_same x s same]
  · rw [noteStrain_changes x s same, switchStrain_other _ (by exact out)]
    rfl

end

section

variable {s : State} {n : Nat}

theorem settled_strainOut {x : TermRec} (strain : functionOf s.config n = .strainOut)
    (found : slotGet s.terminals n = some x) : slotGet (settled s).terminals n = some { x with
      relayClosed := if (settled s).strain = s.strain then x.relayClosed else (settled s).strain } := by
  have cut := settledCut_terminal (s := s) (n := n) (by rw [strain]; decide) (by rw [strain]; decide)
  have own := noteStrain_own (settle s) (s := settledCut s) (by rw [settledCut_config]; exact strain)
    (cut.trans found)
  rw [settledCut_strain] at own
  rw [settled_frame]
  exact own

theorem settled_terminal (out : ∀ e ∈ s.config.functions, e.1 = n →
    e.2 ≠ .relayOut ∧ e.2 ≠ .dimOut ∧ e.2 ≠ .strainOut) :
    slotGet (settled s).terminals n = slotGet s.terminals n := by
  have relay : functionOf s.config n ≠ .relayOut := fun is =>
    (out _ (functionOf_listed is (by decide)) rfl).1 rfl
  have dim : functionOf s.config n ≠ .dimOut := fun is => (out _ (functionOf_listed is (by decide)) rfl).2.1 rfl
  have other := noteStrain_other (settle s) (s := settledCut s) (n := n) (by
    rw [settledCut_config]
    exact fun e listed is => (out e listed is).2.2)
  rw [settled_frame]
  exact other.trans (settledCut_terminal relay dim)

end

/-! ## What is told (R121, R129, R134, R138) -/

/-- A settlement once it has told of frost. -/
def settledFrost (s : State) : State := forEach (settle s).loads noteFrost s

/-- A settlement once it has told of frost and of the window. -/
def settledWindow (s : State) : State := noteWindow (settle s) (settledFrost s)

theorem settledNoted_eq (s : State) : settledNoted s = noteOverrun (settle s) (settledWindow s) := rfl

theorem Raises.silent {P : Notice → Prop} {s t : State} (h : Raises P s t) {kind : NoticeKind}
    (others : ∀ n, P n → n.kind ≠ kind) : ∀ n ∈ t.notices, n.kind = kind → n ∈ s.notices :=
  fun n member is => (h.origin member).resolve_right fun raised => others n raised is

theorem FieldNotice.kind_ne {n : Notice} (h : FieldNotice n) : n.kind ≠ .supplyOverrun ∧ n.kind ≠ .windowLimited
    ∧ n.kind ≠ .strainBegin ∧ n.kind ≠ .strainEnd ∧ n.kind ≠ .frostProtection := by
  rcases h with is | is | is | is <;> rw [is] <;> decide

section

variable (s : State)

theorem settledFrost_only : NoticesOnly s (settledFrost s) := noteFrosts_only _ s

theorem settledFrost_raises : Raises (fun n => n.kind = .frostProtection) s (settledFrost s) :=
  .each noteFrost_raises _ s

theorem settledWindow_raises : Raises (fun n => n.kind = .windowLimited) (settledFrost s) (settledWindow s) :=
  noteWindow_raises _ _

theorem settledNoted_raises : Raises (fun n => n.kind = .supplyOverrun) (settledWindow s) (settledNoted s) :=
  noteOverrun_raises _ _

theorem settledCut_raises : Raises FieldNotice (settledNoted s) (settledCut s) := by
  have published : Raises FieldNotice (settledNoted s) (settledPublished s) := by
    rw [settledPublished, publishAll_frame]
    exact .of_same rfl rfl
  exact published.trans (.each cutLoad_raises _ _)

theorem settledStrain_raises : Raises (fun n => FieldNotice n ∨ n.kind = .strainBegin ∨ n.kind = .strainEnd)
    (settledCut s) (settledStrain s) := noteStrain_raises _ _

theorem settled_raises : Raises (fun _ => False) (settledStrain s) (settled s) := by
  rw [settled_frame]
  exact .of_same rfl rfl

/-- Notices have been raised, whatever they are. -/
theorem Raises.free {P : Notice → Prop} {s t : State} (h : Raises P s t) : Raises (fun _ => True) s t :=
  h.mono fun _ _ => trivial

/-- What a settlement raises, with what its three judgements raise. -/
theorem settled_raised {W O S : Notice → Prop} (window : Raises W (settledFrost s) (settledWindow s))
    (overrun : Raises O (settledWindow s) (settledNoted s)) (strain : Raises S (settledCut s) (settledStrain s)) :
    Raises (fun n => n.kind = .frostProtection ∨ W n ∨ O n ∨ FieldNotice n ∨ S n) s (settled s) :=
  ((settledFrost_raises s).mono fun _ => .inl).trans <| (window.mono fun _ h => .inr (.inl h)).trans <|
    (overrun.mono fun _ h => .inr (.inr (.inl h))).trans <|
    ((settledCut_raises s).mono fun _ h => .inr (.inr (.inr (.inl h)))).trans <|
    (strain.mono fun _ h => .inr (.inr (.inr (.inr h)))).trans ((settled_raises s).mono fun _ h => h.elim)

theorem settledNoted_after : Raises (fun _ => True) (settledNoted s) (settled s) :=
  (settledCut_raises s).free.trans ((settledStrain_raises s).free.trans (settled_raises s).free)

theorem settledWindow_after : Raises (fun _ => True) (settledWindow s) (settled s) :=
  (settledNoted_raises s).free.trans (settledNoted_after s)

theorem settledFrost_after : Raises (fun _ => True) (settledFrost s) (settled s) :=
  (settledWindow_raises s).free.trans (settledWindow_after s)

theorem settledWindow_before : Raises (fun _ => True) s (settledWindow s) :=
  (settledFrost_raises s).free.trans (settledWindow_raises s).free

theorem settledCut_before : Raises (fun _ => True) s (settledCut s) :=
  (settledWindow_before s).trans ((settledNoted_raises s).free.trans (settledCut_raises s).free)

end

end Sys2Proof.Machine


/-! SUPPORT. The notices that a settlement owes, and the silence where it owes none (R121, R129, R134, R138). -/

namespace Sys2Proof.Machine

open Sys2Proof.Claims

section

variable {s : State}

/-! ## Frost (R121) -/

theorem NoticesOnly.temperature {t : State} (h : NoticesOnly s t) (z : Nat) :
    freshTemperature t z = freshTemperature s z := by
  rw [h]
  rfl

theorem settled_frost_told {k : Nat} {d : LoadDef} {r : LoadRec} {w : LoadWork} (member : w ∈ settledWorks s)
    (number : w.number = k) (defined : slotGet s.config.loads k = some d) (found : slotGet s.loads k = some r)
    (frost : w.reason = .frost) (begins : r.reason ≠ .frost) :
    Told ⟨.frostProtection, s.now, .load k, some (d.zone : Int), freshTemperature s d.zone⟩ s (settled s) := by
  subst number
  have told : Told ⟨.frostProtection, s.now, .load w.number, some (d.zone : Int), freshTemperature s d.zone⟩ s
      (settledFrost s) := by
    refine forEach_told (I := NoticesOnly s) (P := fun n => n.kind = .frostProtection) (x := w) member
      (fun y u h => h.trans (noteFrost_only y u)) noteFrost_raises (fun u h => ?_) rfl
    have made := noteFrost_told (w := w) (s := u) (d := d) (r := r) (by rw [h]; exact defined)
      (by rw [h]; exact found) frost begins
    rw [h.temperature] at made
    have now : u.now = s.now := by rw [h]
    rwa [now] at made
  exact told.after (settledFrost_raises s) (settledFrost_after s)

/-! ## The window (R129) -/

theorem settled_window : (settled s).window = (settledWindow s).window := by
  rw [settled_frame, settledNoted_eq, noteOverrun_frame]

theorem settled_window_begins {w : DemandWindow} (stands : s.window = some w)
    (begins : capSource (capsOf s) = .window ∧ w.limitedReported = false) :
    (settled s).window = some { w with limitedReported := true }
    ∧ Told ⟨.windowLimited, s.now, .none, (windowCap s).map fun c => (c : Int), quantity (secondsRemaining s w)⟩ s
      (settled s) := by
  have only := settledFrost_only s
  have found : (settledFrost s).window = some w := by rw [only]; exact stands
  have now : (settledFrost s).now = s.now := by rw [only]
  have seconds : secondsRemaining (settledFrost s) w = secondsRemaining s w := by rw [only]; rfl
  obtain ⟨window, told⟩ := noteWindow_begins (settle s) (settledFrost s) found begins
  rw [now, seconds] at told
  exact ⟨settled_window.trans window, told.within (settledFrost_raises s) (settledWindow_raises s)
    (settledWindow_after s)⟩

theorem settled_window_still (still : ∀ w, s.window = some w →
    ¬ (capSource (capsOf s) = .window ∧ w.limitedReported = false)) :
    (settled s).window = s.window ∧ ∀ n ∈ (settled s).notices, n.kind = .windowLimited → n ∈ s.notices := by
  have only := settledFrost_only s
  have same : settledWindow s = settledFrost s := noteWindow_still (settle s) _ (by rw [only]; exact still)
  refine ⟨?_, (settled_raised s (W := fun _ => False) ?_ (settledNoted_raises s) (settledStrain_raises s)).silent ?_⟩
  · rw [settled_window, same, only]
  · rw [same]
    exact .refl _
  · rintro n (is | none_ | is | field | field | is | is)
    · rw [is]; decide
    · exact none_.elim
    · rw [is]; decide
    · exact field.kind_ne.2.1
    · exact field.kind_ne.2.1
    · rw [is]; decide
    · rw [is]; decide

/-! ## The overrun (R134) -/

theorem settled_overrun : (settled s).overrun = decide ((settle s).available < (settle s).exemptTotal) := by
  rw [settled_frame, settledNoted_eq, noteOverrun_frame]

theorem settledWindow_kept : (settledWindow s).overrun = s.overrun ∧ (settledWindow s).now = s.now := by
  rw [settledWindow, noteWindow_frame, settledFrost_only s]
  exact ⟨rfl, rfl⟩

theorem settled_overrun_told (short : (settle s).available < (settle s).exemptTotal) (was : s.overrun = false) :
    Told ⟨.supplyOverrun, s.now, .none, quantity (settle s).exemptTotal, quantity (settle s).available⟩ s
      (settled s) := by
  obtain ⟨overrun, now⟩ := settledWindow_kept (s := s)
  have told := noteOverrun_begins (settle s) (settledWindow s) short (overrun.trans was)
  rw [now] at told
  exact told.within (settledWindow_before s) (settledNoted_raises s) (settledNoted_after s)

theorem settled_overrun_still (still : ¬ (settle s).available < (settle s).exemptTotal ∨ s.overrun = true) :
    ∀ n ∈ (settled s).notices, n.kind = .supplyOverrun → n ∈ s.notices := by
  have quiet := noteOverrun_still (settle s) (settledWindow s)
    (still.imp_right fun was => settledWindow_kept.1.trans was)
  refine (settled_raised s (settledWindow_raises s) quiet (settledStrain_raises s)).silent ?_
  rintro n (is | is | none_ | field | field | is | is)
  · rw [is]; decide
  · rw [is]; decide
  · exact none_.elim
  · exact field.kind_ne.1
  · exact field.kind_ne.1
  · rw [is]; decide
  · rw [is]; decide

/-! ## The strain state (R138) -/

theorem settled_strain : (settled s).strain
    = strainAfter s.config.budget s.strain (settle s).demand (settle s).remaining := by
  rw [settled_frame]
  exact settledStrain_strain

theorem settled_strain_told (changes : (settled s).strain ≠ s.strain) :
    Told ⟨if (settled s).strain then .strainBegin else .strainEnd, s.now, .none, quantity (settle s).demand,
      quantity (settle s).remaining⟩ s (settled s) := by
  rw [settled_strain] at changes ⊢
  have told := noteStrain_told (settle s) (settledCut s) (by
    rw [settledCut_config, settledCut_strain]
    exact changes)
  have now : (settledCut s).now = s.now := by rw [settledCut_frame]
  rw [settledCut_config, settledCut_strain, now] at told
  exact told.within (settledCut_before s) (settledStrain_raises s) (settled_raises s)

theorem settled_strain_still (same : (settled s).strain = s.strain) :
    ∀ n ∈ (settled s).notices, n.kind = .strainBegin ∨ n.kind = .strainEnd → n ∈ s.notices := by
  have stands : settledStrain s = settledCut s := noteStrain_same (settle s) (settledCut s) (by
    rw [settledCut_config, settledCut_strain, ← settled_strain]
    exact same)
  have raised := settled_raised s (settledWindow_raises s) (settledNoted_raises s) (S := fun _ => False) (by
    rw [stands]
    exact .refl _)
  have others : ∀ n : Notice, n.kind = .strainBegin ∨ n.kind = .strainEnd → ¬ (n.kind = .frostProtection
      ∨ n.kind = .windowLimited ∨ n.kind = .supplyOverrun ∨ FieldNotice n ∨ False) := by
    rintro n kind (is | is | is | field | none_)
    · rw [is] at kind; revert kind; decide
    · rw [is] at kind; revert kind; decide
    · rw [is] at kind; revert kind; decide
    · exact kind.elim field.kind_ne.2.2.1 field.kind_ne.2.2.2.1
    · exact none_
  exact fun n member kind => (raised.origin member).resolve_right (others n kind)

end

end Sys2Proof.Machine


/-! SUPPORT. The caps, the figures and the classes of a settlement (R124, R126, R129, R133 to R139), in the words of the
statement. -/

namespace Sys2Proof.Claims

open Sys2Proof.Machine

/-! ## The caps (R124, R129) -/

theorem effectiveCap_le (c : Caps) : effectiveCap c ≤ c.shift ∧ (∀ x, c.host = some x → effectiveCap c ≤ x)
    ∧ (∀ x, c.terminal = some x → effectiveCap c ≤ x) ∧ ∀ x, c.window = some x → effectiveCap c ≤ x := by
  have low (a : Nat) (b : Option Nat) : capMin a b ≤ a ∧ ∀ x, b = some x → capMin a b ≤ x := by
    cases b <;> simp [capMin]
  obtain ⟨shift, host⟩ := low c.shift c.host
  obtain ⟨under, terminal⟩ := low (capMin c.shift c.host) c.terminal
  obtain ⟨last, window⟩ := low (capMin (capMin c.shift c.host) c.terminal) c.window
  have lower : effectiveCap c ≤ capMin c.shift c.host := last.trans under
  exact ⟨lower.trans shift, fun x is => lower.trans (host x is), fun x is => last.trans (terminal x is), window⟩

theorem effectiveCap_given (c : Caps) : effectiveCap c = c.shift ∨ some (effectiveCap c) = c.host
    ∨ some (effectiveCap c) = c.terminal ∨ some (effectiveCap c) = c.window := by
  have given (a : Nat) (b : Option Nat) : capMin a b = a ∨ some (capMin a b) = b := by
    cases b with
    | none => exact .inl (Nat.min_self a)
    | some x =>
      rcases min_choice a x with is | is
      · exact .inl is
      · exact .inr (congrArg some is)
  have last := given (capMin (capMin c.shift c.host) c.terminal) c.window
  have second := given (capMin c.shift c.host) c.terminal
  have first := given c.shift c.host
  unfold effectiveCap
  rcases last with is | is
  · rw [is]
    rcases second with is | is
    · rw [is]
      exact first.imp_right .inl
    · exact .inr (.inr (.inl is))
  · exact .inr (.inr (.inr is))

theorem capSource_law (c : Caps) : capSource c = if effectiveCap c = c.shift then .shift
    else if some (effectiveCap c) = c.host then .curtailHost
    else if some (effectiveCap c) = c.terminal then .curtailTerminal
    else .window := by
  simp only [capSource, eq_comm (a := c.shift), eq_comm (a := c.host), eq_comm (a := c.terminal)]

theorem hasMeter_iff (c : RunningConfig) : hasMeter c = true ↔ ∃ e ∈ c.functions, ∃ w, e.2 = .meterPulse w := by
  rw [hasMeter, List.any_eq_true]
  refine exists_congr fun e => and_congr_right fun _ => ?_
  cases e.2 <;> simp

theorem windowCap_law (s : State) : windowCapLaw s (windowCap s) := by
  unfold windowCapLaw
  intro limit active
  have is : (limit != 0 && s.clock.isSet && hasMeter s.config) = true ↔ active := by
    rw [Bool.and_eq_true, Bool.and_eq_true, hasMeter_iff, bne_iff_ne, and_assoc]
  refine ⟨fun off => if_neg (off ∘ is.mp), fun w on stands => ?_⟩
  intro left_
  have given : windowCap s = s.window.map fun w => windowCapOf limit w (secondsRemaining s w) := if_pos (is.mpr on)
  rw [given, stands]
  rfl

/-! ## The loads in the record (R133, R134) -/

/-- The definition of each load, and its record before and after a settlement. -/
def loadMembers (s t : State) : List (LoadDef × LoadRec × LoadRec) :=
  s.config.loads.filterMap fun e => match slotGet s.loads e.1, slotGet t.loads e.1 with
    | some a, some b => some (e.2, a, b)
    | _, _ => none

section

variable {s t : State} {works : List LoadWork} (settles : Settles s t works)

include settles

theorem loadMembers_map {β : Type} {f : LoadDef × LoadRec × LoadRec → β} {g : LoadWork → β}
    (same : ∀ e r w r', Shows s e r w r' → f (e.2, r, r') = g (workOf s e.1 e.2 r)) :
    (loadMembers s t).map f = (settlementLoads s).map g := by
  have drawn := filterMap_rows (s := s) (g := fun x => match slotGet t.loads x.1.1 with
      | some b => some (x.1.2, x.2, b)
      | none => none)
    (f := fun e => match slotGet s.loads e.1, slotGet t.loads e.1 with
      | some a, some b => some (e.2, a, b)
      | _, _ => none)
    (fun e none_ => by simp only [none_]) (fun e r found => by
      cases slotGet t.loads e.1 with
      | none => simp only [found]
      | some r' => simp only [found])
  have members : loadMembers s t = _ := drawn
  rw [members, List.map_filterMap, settlementLoads_eq, List.map_map, ← List.filterMap_eq_map]
  refine List.filterMap_congr fun x member => ?_
  obtain ⟨w, _, r', found, shows_⟩ := forall₂_left settles member
  rw [found]
  exact congrArg some (same x.1 x.2 w r' shows_)

theorem uncontrolled_law : uncontrolledPower (settlementLoads s) = ((loadMembers s t).map fun m =>
    if m.2.1.controlled = true then 0 else ceilDiv (m.1.rating * m.2.1.assumed.getD 0) 1000).sum := by
  rw [loadMembers_map settles (g := LoadWork.uncontrolled) fun _ _ _ _ _ => rfl]
  rfl

theorem exemptDemand_law : exemptDemand (settlementLoads s) = ((loadMembers s t).map fun m =>
    if m.2.1.controlled = true ∧ m.2.2.exempt = true then demandFor m.1 m.2.1.posted else 0).sum := by
  rw [loadMembers_map settles (g := fun w => if (w.controlled && w.exempt) = true then w.demand else 0)
    fun e r w r' shows_ => ?_, exemptDemand]
  · induction settlementLoads s with
    | nil => rfl
    | cons w rest ih =>
      by_cases picks : (w.controlled && w.exempt) = true
      · rw [List.filter_cons_of_pos (by exact picks), List.map_cons, List.map_cons, List.sum_cons, List.sum_cons, ih,
          if_pos picks]
      · rw [List.filter_cons_of_neg (by exact picks), List.map_cons, List.sum_cons, ih, if_neg picks, Nat.zero_add]
  · have exempt : r'.exempt = (workOf s e.1 e.2 r).exempt := by rw [shows_.exempt, shows_.worked.same]
    show (if r.controlled = true ∧ r'.exempt = true then demandFor e.2 r.posted else 0)
      = if (r.controlled && (workOf s e.1 e.2 r).exempt) = true then
        (if r.controlled = true then demandOf e.2 r.posted else 0) else 0
    rw [exempt, demandFor_eq]
    cases r.controlled <;> simp

end

/-! ## The classes (R135, R136) -/

section

variable {s t : State} {pool remaining : Nat} {ws : List LoadWork}
  (settles : Settles s t (workedLoads pool remaining ws))

/-- What is left of the power before class `c`. -/
theorem classPower_next (c : Nat) (small : c ≤ 3) : (classStart remaining ws (c + 1)).remaining
    = (classStart remaining ws c).remaining - (classFigures pool remaining ws c).shares := by
  rw [(classStart_next remaining ws c).1, classFigures_shares small]

theorem classShort_next (c : Nat) : (classStart remaining ws (c + 1)).short = true
    ↔ (classStart remaining ws c).short = true ∨ (classFigures pool remaining ws c).state ≠ .full := by
  rw [(classStart_next remaining ws c).2, Bool.or_eq_true, bne_iff_ne]
  rfl

include settles

/-- R135, R136: the laws of the four classes. -/
theorem classes_law {f0 f1 f2 f3 : ClassFigures} (zero : f0 = classFigures pool remaining ws 0)
    (one : f1 = classFigures pool remaining ws 1) (two : f2 = classFigures pool remaining ws 2)
    (three : f3 = classFigures pool remaining ws 3) :
    let power1 := remaining - f0.shares
    let power2 := power1 - f1.shares
    let power3 := power2 - f2.shares
    let rise0 := classRise s t 0 f0 remaining
    let rise1 := classRise s t 1 f1 power1
    let rise2 := classRise s t 2 f2 power2
    let rise3 := classRise s t 3 f3 power3
    classLaw s t 0 f0 False remaining pool
    ∧ classLaw s t 1 f1 (f0.state ≠ .full) power1 (pool - rise0)
    ∧ classLaw s t 2 f2 (f0.state ≠ .full ∨ f1.state ≠ .full) power2 (pool - (rise0 + rise1))
    ∧ classLaw s t 3 f3 (f0.state ≠ .full ∨ f1.state ≠ .full ∨ f2.state ≠ .full) power3
      (pool - (rise0 + rise1 + rise2))
    ∧ pool - (restore pool (shareAll remaining ws)).1 = min pool (rise0 + rise1 + rise2 + rise3) := by
  subst zero one two three
  intro power1 power2 power3 rise0 rise1 rise2 rise3
  have next (c : Nat) (small : c ≤ 3) := classPower_next (pool := pool) (remaining := remaining) (ws := ws) c small
  have short (c : Nat) := classShort_next (pool := pool) (remaining := remaining) (ws := ws) c
  have is1 : power1 = (classStart remaining ws 1).remaining := (next 0 (by decide)).symm
  have is2 : power2 = (classStart remaining ws 2).remaining := by rw [next 1 (by decide), ← is1]
  have is3 : power3 = (classStart remaining ws 3).remaining := by rw [next 2 (by decide), ← is2]
  have begins : ¬ (classStart remaining ws 0).short = true := by
    show ¬ false = true
    decide
  have short1 : (classFigures pool remaining ws 0).state ≠ .full ↔ (classStart remaining ws 1).short = true := by
    rw [short 0, or_iff_right begins]
  have short2 : (classFigures pool remaining ws 0).state ≠ .full ∨ (classFigures pool remaining ws 1).state ≠ .full
      ↔ (classStart remaining ws 2).short = true := by rw [short 1, ← short1]
  have short3 : (classFigures pool remaining ws 0).state ≠ .full ∨ (classFigures pool remaining ws 1).state ≠ .full
      ∨ (classFigures pool remaining ws 2).state ≠ .full ↔ (classStart remaining ws 3).short = true := by
    rw [short 2, ← short2, or_assoc]
  have rises0 : rise0 = riseSum 0 (workedLoads pool remaining ws) := classRise_eq settles (by decide)
  have rises1 : rise1 = riseSum 1 (workedLoads pool remaining ws) := by
    rw [← classRise_eq settles (by decide), ← is1]
  have rises2 : rise2 = riseSum 2 (workedLoads pool remaining ws) := by
    rw [← classRise_eq settles (by decide), ← is2]
  have rises3 : rise3 = riseSum 3 (workedLoads pool remaining ws) := by
    rw [← classRise_eq settles (by decide), ← is3]
  obtain ⟨pool0, pool1, pool2, pool3⟩ := poolAt_eq (pool := pool) (workedLoads pool remaining ws)
  rw [← rises0] at pool1 pool2 pool3
  rw [← rises1] at pool2 pool3
  rw [← rises2] at pool3
  refine ⟨classLaw_of settles (by decide) ⟨False.elim, begins⟩ pool0.symm, ?_, ?_, ?_, ?_⟩
  · rw [is1]
    exact classLaw_of settles (by decide) short1 pool1.symm
  · rw [is2]
    exact classLaw_of settles (by decide) short2 pool2.symm
  · rw [is3]
    exact classLaw_of settles (by decide) short3 pool3.symm
  · rw [poolDrawn_eq, rises0, rises1, rises2, rises3]

end

end Sys2Proof.Claims


/-! SUPPORT and PROOFS. SETTLEMENT (R120 to R140): the record, the strain state, and the statement. -/

namespace Sys2Proof.Claims

open Sys2Proof.Machine

section

variable (s : State)

theorem settled_record : (settled s).record = recordOf s (settle s) (settled s).overrun (settled s).strain := by
  rw [settled_frame]

theorem settle_uncontrolled : (settle s).uncontrolled = uncontrolledPower (settlementLoads s) := rfl

theorem settle_exemptTotal : (settle s).exemptTotal = exemptDemand (settlementLoads s) := rfl

/-! ## The strain state (R138) -/

theorem settle_demand (classes : ∀ e ∈ s.config.loads, e.2.cls ≤ 3) : (settle s).demand
    = (settle s).class0.demand + (settle s).class1.demand + (settle s).class2.demand + (settle s).class3.demand := by
  have small : ∀ w ∈ settlementLoads s, w.cls ≤ 3 := by
    intro w member
    rw [settlementLoads_eq] at member
    obtain ⟨x, row, rfl⟩ := List.mem_map.mp member
    show effectiveClass s x.1.2 ≤ 3
    unfold effectiveClass
    split
    · exact Nat.le_refl 3
    · exact classes _ (mem_loadRows.mp row).1
  have figures (c : Nat) (fits : c ≤ 3) := classFigures_demand (pool := s.config.budget.restore)
    (remaining := (settle s).remaining) (ws := settlementLoads s) fits
  refine (demands_eq small).trans ?_
  rw [← figures 0 (by decide), ← figures 1 (by decide), ← figures 2 (by decide), ← figures 3 (by decide)]
  rfl

theorem strainAfter_begins (b : BudgetParams) (demand remaining : Nat) : strainAfter b false demand remaining = true
    ↔ 0 < demand ∧ remaining * b.strainBegin ≤ demand * 100 := by
  simp [strainAfter]

theorem strainAfter_ends (b : BudgetParams) (demand remaining : Nat) : strainAfter b true demand remaining = false
    ↔ demand * 100 ≤ remaining * b.strainEnd := by
  simp [strainAfter]

/-! ## The record (R124, R126, R129, R133, R134, R139) -/

theorem holdQuanta_law : holdQuanta s = match s.hostOrder with
    | some order => ceilDiv (order.expiry - s.now) 15000
    | none => 0 := by
  unfold holdQuanta
  cases s.hostOrder <;> rfl

/-- The figures of the record, from those of the work. -/
theorem recordOf_fields (x : Settled) (overrun strain : Bool) : (recordOf s x overrun strain).uncontrolled
      = x.uncontrolled ∧ (recordOf s x overrun strain).exemptDemand = x.exemptTotal
    ∧ (recordOf s x overrun strain).overrun = overrun ∧ (recordOf s x overrun strain).strain = strain
    ∧ (recordOf s x overrun strain).available = x.available := ⟨rfl, rfl, rfl, rfl, rfl⟩

theorem settled_recordLaw (ordered : slotWf s.config.loads = true) : recordLaw s (settled s) := by
  have settles := settled_settles ordered
  have record := settled_record s
  have overrun := settled_overrun (s := s)
  have short : (settled s).overrun = true ↔ (settle s).available < (settle s).exemptTotal := by
    rw [overrun, decide_eq_true_iff]
  have begins : capSource (capsOf s) = (settled s).record.source := by rw [record]; rfl
  obtain ⟨uncontrolled, exempt, over_, strain, available⟩ := recordOf_fields s (settle s) (settled s).overrun
    (settled s).strain
  rw [← record] at uncontrolled exempt over_ strain available
  unfold recordLaw
  intro r members told silent starts
  refine ⟨?_, ?_, ?_, ?_, ?_, over_, strain, ?_, fun now was => ?_, fun still => ?_, fun w stands first => ?_,
    fun still => ?_, fun n x strain found => settled_strainOut strain found, fun n out => settled_terminal out⟩
  · exact (congrArg SettlementRec.clock record).trans rfl
  · exact (congrArg SettlementRec.hostHold record).trans (holdQuanta_law s)
  · rw [← begins, show r.cap = effectiveCap (capsOf s) from congrArg SettlementRec.cap record,
      show r.shiftCap = (capsOf s).shift from congrArg SettlementRec.shiftCap record,
      show r.hostCap = (capsOf s).host from congrArg SettlementRec.hostCap record,
      show r.termCap = (capsOf s).terminal from congrArg SettlementRec.termCap record]
    exact capSource_law (capsOf s)
  · exact uncontrolled.trans (Eq.trans (settle_uncontrolled s) (uncontrolled_law settles))
  · exact exempt.trans (Eq.trans (settle_exemptTotal s) (exemptDemand_law settles))
  · rw [show r.available = _ from available, show r.exemptDemand = _ from exempt]
    exact short
  · have made := settled_overrun_told (short.mp now) was
    rw [← exempt, ← available] at made
    exact made
  · refine settled_overrun_still (still.imp_left fun fits => ?_)
    rw [← short, fits]
    decide
  · have made := settled_window_begins stands ⟨begins.trans first.1, first.2⟩
    rw [show windowCap s = r.windowCap from (congrArg SettlementRec.windowCap record).symm] at made
    exact made
  · refine settled_window_still fun w stands ⟨source, fresh⟩ => still w stands ⟨?_, fresh⟩
    exact begins.symm.trans source

/-- R138: the strain state, from the figures of the classes. -/
theorem settled_strainLaw {r : SettlementRec} (is : r = (settled s).record)
    (classes : ∀ e ∈ s.config.loads, e.2.cls ≤ 3) :
    let demand := r.class0.demand + r.class1.demand + r.class2.demand + r.class3.demand
    (s.strain = false → ((settled s).strain = true
      ↔ 0 < demand ∧ r.remaining * s.config.budget.strainBegin ≤ demand * 100))
    ∧ (s.strain = true → ((settled s).strain = false ↔ demand * 100 ≤ r.remaining * s.config.budget.strainEnd))
    ∧ ((settled s).strain ≠ s.strain → Told ⟨if (settled s).strain = true then .strainBegin else .strainEnd, s.now,
      .none, quantity demand, quantity r.remaining⟩ s (settled s))
    ∧ ((settled s).strain = s.strain → ∀ n ∈ (settled s).notices,
      n.kind = .strainBegin ∨ n.kind = .strainEnd → n ∈ s.notices) := by
  intro demand
  have total : (settle s).demand = demand := by
    rw [settle_demand s classes]
    show _ = r.class0.demand + r.class1.demand + r.class2.demand + r.class3.demand
    rw [is, settled_record]
    rfl
  have left_ : (settle s).remaining = r.remaining := by
    rw [is, settled_record]
    rfl
  have strain := settled_strain (s := s)
  have told := settled_strain_told (s := s)
  rw [total, left_] at strain told
  refine ⟨fun calm => ?_, fun strained => ?_, told, settled_strain_still⟩
  · rw [strain, calm]
    exact strainAfter_begins ..
  · rw [strain, strained]
    exact strainAfter_ends ..

/-! ## The caps and the totals of the record -/

/-- R124, R133, R134: what the record shows of the caps, of the base and of what remains. -/
theorem recordOf_caps (overrun strain : Bool) {r : SettlementRec} (is : r = recordOf s (settle s) overrun strain) :
    r.isEmpty = false ∧ r.time = s.now ∧ r.count = (s.record.count + 1) % 65536
    ∧ r.shiftCap = (activeRecord s).cap ∧ r.hostCap = s.hostOrder.map CurtailOrder.cap ∧ r.termCap = s.termOrder
    ∧ r.cap ≤ r.shiftCap ∧ (∀ c, r.hostCap = some c → r.cap ≤ c) ∧ (∀ c, r.termCap = some c → r.cap ≤ c)
    ∧ (∀ c, r.windowCap = some c → r.cap ≤ c)
    ∧ (r.cap = r.shiftCap ∨ some r.cap = r.hostCap ∨ some r.cap = r.termCap ∨ some r.cap = r.windowCap)
    ∧ r.base = (activeRecord s).base ∧ r.available = r.cap - r.base - r.uncontrolled
    ∧ r.remaining = r.available - r.exemptDemand ∧ r.remaining = (settle s).remaining
    ∧ r.windowCap = windowCap s := by
  obtain ⟨shift, host, terminal, window⟩ := effectiveCap_le (capsOf s)
  subst is
  exact ⟨rfl, rfl, rfl, rfl, rfl, rfl, shift, host, terminal, window, effectiveCap_given (capsOf s), rfl, rfl, rfl,
    rfl, rfl⟩

/-- R135, R136: the figures of the classes in the record. -/
theorem recordOf_classes (overrun strain : Bool) {r : SettlementRec} (is : r = recordOf s (settle s) overrun strain) :
    let figures := classFigures s.config.budget.restore (settle s).remaining (settlementLoads s)
    r.class0 = figures 0 ∧ r.class1 = figures 1 ∧ r.class2 = figures 2 ∧ r.class3 = figures 3
    ∧ r.poolDrawn = s.config.budget.restore
      - (restore s.config.budget.restore (shareAll (settle s).remaining (settlementLoads s))).1 := by
  subst is
  exact ⟨rfl, rfl, rfl, rfl, rfl⟩

/-! ## The loads -/

/-- R120, R121, R133, R134, R137: what a settlement makes of one load, and the notice it owes. -/
theorem settled_loadLaw {s : State} (ordered : slotWf s.config.loads = true) {k : Nat} {d : LoadDef} {r : LoadRec}
    (defined : slotGet s.config.loads k = some d) (found : slotGet s.loads k = some r) :
    ∃ r', slotGet (settled s).loads k = some r' ∧ r'.posted = r.posted ∧ r'.controlled = r.controlled
      ∧ classAt s d r'.effClass ∧ exemptionLaw s d r'.reason
      ∧ (r'.reason = .frost → r.reason ≠ .frost → ∃ v, zoneTemperature s d.zone v
        ∧ Told ⟨.frostProtection, s.now, .load k, some (d.zone : Int), some v⟩ s (settled s))
      ∧ (r'.exempt = true ↔ d.exempt = true ∨ r'.reason ≠ .none)
      ∧ publishedLoad s.now s.config.lighting.minDim d r r'
      ∧ (r.controlled = false → r'.grant = 0)
      ∧ (r.controlled = true → r'.exempt = true → r'.grant = demandFor d r.posted) := by
  obtain ⟨w, member, r', result, shows_, published⟩ := settled_found ordered defined found
  have shown := shows_.fields
  obtain ⟨number, controlled, _, demand, _, _, reason, class_, exempt⟩ := shown
  have isReason : r'.reason = exemptReason s d := shows_.reason.trans reason
  refine ⟨r', result, shows_.posted, shows_.controlled, ?_, ?_, fun frost begins => ?_, ?_, published, fun off => ?_,
    fun on free => ?_⟩
  · rw [shows_.class_, class_]
    exact effectiveClass_law s d
  · rw [isReason]
    exact exemptReason_law s d
  · obtain ⟨v, fresh⟩ := exemptReason_frost (isReason.symm.trans frost)
    have told := settled_frost_told member number defined found (shows_.reason.symm.trans frost) begins
    rw [fresh] at told
    exact ⟨v, freshTemperature_iff.mp fresh, told⟩
  · rw [shows_.exempt, exempt, isReason, Bool.or_eq_true, bne_iff_ne]
  · rw [shows_.grant]
    exact shows_.worked.uncontrolled off
  · rw [shows_.grant, ← demand on, shows_.worked.exempt on (by rw [← free, shows_.exempt, exempt]; rfl)]
    rw [shows_.worked.same]

/-! ## The step -/

theorem execSettlement_eq (on : s.powered = true) (due : s.settleAt ≤ s.now) :
    exec .settlement s = .next (settled s) :=
  (powered_on on).trans (congrArg _ (whenDue_due due))

end

end Sys2Proof.Claims

namespace Sys2Proof.Proofs

open Sys2Proof.Machine Sys2Proof.Claims

/-- Settles O57: the loads of the final state show what the settlement has worked for them, and the laws of the classes
are those of the work. -/
theorem settlementsKeepTheirLaws : Obligations.SettlementsKeepTheirLaws := by
  unfold Obligations.SettlementsKeepTheirLaws
  intro s on due ordered _
  have frame := settled_frame s
  have record := settled_record s
  have settles := settled_settles ordered
  have fresh := settlementLoads_fresh s
  have now : (settled s).now = s.now := by rw [frame]
  have config : (settled s).config = s.config := by rw [frame]
  have settleAt : (settled s).settleAt = s.now + s.config.settlementPeriod * 1000 := by rw [frame]
  have limited : limitedGrants (settled s) ≤ (settle s).remaining :=
    limitedGrants_le fresh settles config fun _ => settled_absent
  have rises : grantRises s (settled s) ≤ s.config.budget.restore := grantRises_le fresh settles
  obtain ⟨filled, time, count, shift, host, terminal, underShift, underHost, underTerminal, underWindow, given, base,
    available, remaining, isRemaining, window⟩ := recordOf_caps s _ _ record
  refine ⟨settled s, execSettlement_eq s on due, now, by rw [settleAt, now], filled, time.trans now.symm, count, shift,
    host, terminal, underShift, underHost, underTerminal, underWindow, given, base, available, remaining,
    isRemaining ▸ limited, rises, window ▸ windowCap_law s, settled_recordLaw s ordered, ?_, ?_,
    fun k d r defined found => settled_loadLaw ordered defined found⟩
  · rw [frame]
  · intro r power1 power2 power3 demand rise0 rise1 rise2 rise3 pool
    obtain ⟨figures0, figures1, figures2, figures3, drawn⟩ := recordOf_classes s _ _ record
    obtain ⟨zero, one, two, three, total⟩ := classes_law settles figures0 figures1 figures2 figures3
    rw [← isRemaining] at zero one two three total
    exact ⟨zero, one, two, three, drawn.trans total, fun classes => settled_strainLaw s rfl classes⟩

end Sys2Proof.Proofs
